-- ==== Sys2Proof/Word.lean ====
section
/-! DEFINITION. Bytes and their plainest arithmetic: the byte type, lists of bytes, and Nat and Int as
fixed-width bit patterns. -/

namespace Sys2Proof

/-- One byte. -/
abbrev Byte := BitVec 8

/-- A run of bytes, the first at offset 0. -/
abbrev Bytes := List Byte

/-- The byte of a number, its value modulo 256. -/
def byte (n : Nat) : Byte := BitVec.ofNat 8 n

/-- The pattern of `w` bits that stores the integer `x` (two's complement when negative). -/
def pattern (w : Nat) (x : Int) : Nat := (x % ((2 ^ w : Nat) : Int)).toNat

/-- The signed value of a pattern of `w` bits. -/
def signed (w : Nat) (n : Nat) : Int :=
  if n % 2 ^ w < 2 ^ (w - 1) then ((n % 2 ^ w : Nat) : Int)
  else ((n % 2 ^ w : Nat) : Int) - ((2 ^ w : Nat) : Int)

/-- The bits `[lsb + w - 1 : lsb]` of a number. -/
def bits (n lsb w : Nat) : Nat := n / 2 ^ lsb % 2 ^ w

/-- A Bool as the value of a one-bit field. -/
def bit (b : Bool) : Nat := if b then 1 else 0

/-- Bit `k` of a number. -/
def testBit (n k : Nat) : Bool := n / 2 ^ k % 2 == 1

end Sys2Proof
end

