-- ==== Sys2Proof/Syntax.lean ====
section
/-! DEFINITION. The commands and events of the block: one constructor of `Instr` per row of spec/opcode_table.json, with
the types of their operands. A host command carries the header and the payload of its packet (R278); an event carries what
the world outside the module presents with it: a measurement, a frame, an input level. -/

namespace Sys2Proof

/-- The two command ports (R277), coded 0 SPI and 1 UART. -/
inductive HostPort where
  | spi | uart
  deriving DecidableEq, Repr

/-- The worlds of a command (R278), coded 0 HOST to 3 SAFETY. -/
inductive World where
  | host | service | legal | safety
  deriving DecidableEq, Repr

/-- The header of a received, unfragmented packet that has passed framing and trailer (R278, R281 steps 1 and 2). -/
structure Hdr where
  /-- The port the packet arrived on. -/
  port    : HostPort
  /-- VERSION as received. -/
  version : Nat := 1
  /-- WORLD as received, 0 to 255. -/
  world   : Nat := 0
  /-- The flag bits DUP, NTF and the reserved bits [31:27], as one number that is 0 in a correct packet. -/
  flags   : Nat := 0
  /-- TAG as received. -/
  tag     : Nat
  deriving DecidableEq, Repr

/-- The residual trip tiers of R216. -/
inductive Tier where
  | dc1 | dc2 | ac2
  deriving DecidableEq, Repr

/-- What a loss of reference was found by (R23, R43, R454). -/
inductive LossCause where
  | voltage | frequency | phaseError | streamFault
  deriving DecidableEq, Repr

/-- The two safety cores. -/
inductive SafetyCore where
  | sc1 | sc2
  deriving DecidableEq, Repr

/-- CAUSE of R270, coded in this order from 0. -/
inductive TakeoverCause where
  | lockstep | ecc | watchdog | supply | selfTest | planned
  deriving DecidableEq, Repr

/-- A core has failed, or the two decided differently (R243): the core named has decided to stop a bay with a function of R293, the other
has not; then the self-tests of SC-1 and SC-2. -/
inductive CoreFault where
  | failed (cause : TakeoverCause)
  | differs (bay function : Nat) (pass1 pass2 : Bool)
  deriving DecidableEq, Repr

/-- The SRAM banks of R268 and R441 that a fault can name. -/
inductive SramBank where
  | checkpoint | sampleBuffer | metrologyOther | context | journal | controlOther | safety1 | safety2 | link
  deriving DecidableEq, Repr

/-- The block faults of R100 and R368, coded in this order from 0. -/
inductive BlockFault where
  | program | erase | sixCorrected | uncorrectable
  deriving DecidableEq, Repr

/-- The units that re-couple (R272). -/
inductive CoupledUnit where
  | me | ce | cluster (k : Nat)
  deriving DecidableEq, Repr

/-- The image kinds of R349, coded in this order from 0. -/
inductive ImageKind where
  | app | link | safe | rdr | disp
  deriving DecidableEq, Repr

/-- Stage 1 samples of UA and UO around a switching of a contactor (R145, R147): the oscillator instant of the first sample in µs,
corrected for the delay of the stage, and the decimated values, one per 256 modulator clocks. -/
structure EdgeWindow where
  start : Nat
  ua    : List Int
  uo    : List Int
  deriving DecidableEq, Repr

/-- Stage 1 samples of IRES as one engine pair's gale path has them (R217, R218), the latest first. -/
structure GaleSamples where
  engineB : Bool
  samples : List Int
  deriving DecidableEq, Repr

/-- What the modulators bring to a sample strobe (R41, R44, R45): for each of the 260 streams the data bits around the instant
the strobe stands for, the oldest at bit 0; the place of that instant after the middle decimated value, in 2^-32 of a
decimation period; and the decimation periods that have ended since the strobe before. -/
structure StrobeInput where
  bits  : List Nat
  frac  : Nat
  fresh : Nat
  deriving DecidableEq, Repr

/-- One certificate of a contract chain (R194): its DER bytes and the parts of them that the checks use. -/
structure PncCert where
  der       : Bytes
  signedPart : Bytes
  signature : Bytes
  publicKey : Bytes
  notBefore : Nat
  notAfter  : Nat
  deriving DecidableEq, Repr

/-- A contract certificate chain, the leaf first, with the EMAID of the leaf as the vehicle wrote it. -/
structure PncChain where
  emaid : Bytes
  certs : List PncCert
  deriving DecidableEq, Repr

/-- The curves that a vehicle offers for its TLS session (R162, R164). -/
inductive TlsCurve where
  | p256
  | p384
  | p521
  | ed448
  deriving DecidableEq, Repr

/-- What an ISO 15118 message of the vehicle asks for (R160, R162, R163, R165, R182, R192, R201). -/
inductive V2gMessage where
  /-- CM_SLAC_MATCH.REQ of ISO 15118-3: the vehicle matches with the bay. -/
  | slacMatch
  /-- The TLS handshake, with the curves that the vehicle offers and its session can use. -/
  | tlsHandshake (curves : List TlsCurve)
  /-- supportedAppProtocol: which parts the vehicle offers. -/
  | appProtocol (iso2 iso20 : Bool)
  /-- Session set-up with a SessionID; all 0 asks for a new session. -/
  | sessionSetup (sessionId : Bytes)
  /-- The vehicle asks for an unsupported service (R160). -/
  | unsupported
  /-- Authorisation by external identification means, with an identifier already normalised, or with none yet. -/
  | authoriseEim (ident : Option Bytes)
  /-- The vehicle's requested maximum current and power, and whether it chose a bidirectional service. -/
  | chargeParameters (maxMa maxMw : Nat) (bpt : Bool)
  /-- DC only: isolation check at a voltage. -/
  | cableCheck (mv : Nat)
  /-- DC only: pre-charge to a target voltage. -/
  | preCharge (mv : Nat)
  /-- DC only: energy transfer at a voltage limit and a current, negative for export. -/
  | currentDemand (mv : Nat) (ma : Int)
  /-- The vehicle pauses the session. -/
  | pause
  /-- The vehicle ends the session. -/
  | stop
  deriving DecidableEq, Repr

/-- A mains beacon heard by PLCM: sending station, and its angle against the own clock, averaged (R178). -/
structure HeardBeacon where
  station : Nat
  cco     : Bool
  offsetAu : Int
  deriving DecidableEq, Repr

/-- The result of a sounding (R174, R175): the transmit map that the neighbour has derived and sent, four angle slots of bits per
carrier, the SNR that the module has measured per slot and carrier, in 0.1 dB, and the beacon period that the acknowledgement names. -/
structure Sounding where
  txMap  : List (List Nat)
  snr    : List (List Int)
  period : Nat
  deriving DecidableEq, Repr

/-- The station that a Green PHY frame comes from, with its selective acknowledgement: for each frame sent to it since, whether that
frame was in error (R169, R175). A vehicle's frame names no station. -/
structure FrameSource where
  serial : Nat := 0
  acks   : List Bool := []
  deriving DecidableEq, Repr

/-- The limits of R199: site power in mW, currents of L1 to L3 and of feeder groups 0 to 3 in mA. All ones: no limit. -/
structure Limits where
  siteP : Nat
  phase : List Nat
  feed  : List Nat
  deriving DecidableEq, Repr

/-- A coordinator frame (R330). The manual gives its content and no byte layout: sender, site, limits, end of validity,
and the authentication under the site-link key as the sender formed it. -/
structure CoordFrame where
  sender     : Nat
  siteId     : Nat
  limits     : Limits
  validUntil : Nat
  mac        : Bytes
  deriving DecidableEq, Repr

/-- The limit sources that lapse (R199). -/
inductive LimitSource where
  | hostBudget | curtailment (origin : Nat)
  deriving DecidableEq, Repr

/-- Card types, coded 1 to 3 in NTF_RDR (R417). -/
inductive CardKind where
  | iso14443A | iso14443B | iso15693
  deriving DecidableEq, Repr

/-- How far the write steps of R424 had come when the field or the supply went (R427). -/
inductive CutPhase where
  | beforeShadow | afterShadow | duringCopyA | duringCopyB | afterCopyB
  deriving DecidableEq, Repr

/-- A 1 µs sample of a load channel: current in mA and Vds in mV (R388). -/
structure ShortSample where
  ch  : Nat
  ma  : Nat
  vds : Nat
  deriving DecidableEq, Repr

/-- The charge of a load channel over the last second, in mA µs (R388). -/
structure SecondCharge where
  ch     : Nat
  charge : Nat
  deriving DecidableEq, Repr

/-- The values of a load channel over 100 ms (R388): with it on its currents in mA, with it off its output voltages in mV, and VLOAD in
mV. -/
structure LoadWindow where
  values : List Nat
  vload  : Nat
  deriving DecidableEq, Repr

/-- VLOADg of a load group in mV: its value nearest to the threshold over the last `us` (R383). -/
structure LoadSupply where
  group : Nat
  mv    : Nat
  us    : Nat
  deriving DecidableEq, Repr

/-- A supply input in mV: its value nearest to the threshold over the last `us` (R429). -/
structure InputLevel where
  mv : Nat
  us : Nat
  deriving DecidableEq, Repr

/-- A field write cut short by the loss of the field: its file, offset and data, and the phase reached. -/
structure CutWrite where
  file   : Nat
  offset : Nat
  data   : Bytes
  phase  : CutPhase
  deriving DecidableEq, Repr

/-- What a start finds (R357, R358, R429, R431, R271): whether the validity mark of the backup registers held, whether each
processor pair passed its start self-test, whether each bank's image of each kind (APP, LINK, SAFE, RDR, DISP) verifies:
first the active image, then the previous one. -/
structure StartConditions where
  /-- Module time as the real-time clock shows it (R98). -/
  rtc : Nat := 0
  meAOk : Bool := true
  meBOk : Bool := true
  ceAOk : Bool := true
  ceBOk : Bool := true
  sc1Ok : Bool := true
  sc2Ok : Bool := true
  /-- DSP clusters 0 to 9. -/
  dspOk : List Bool := List.replicate 10 true
  activeOk   : List Bool := [true, true, true, true, true]
  previousOk : List Bool := [true, true, true, true, true]
  deriving DecidableEq, Repr

/-- What arrives on the debug port (R110, R346). -/
inductive DebugAccess where
  | openRequest
  | answer (mac : Bytes)
  | read
  | writeLegal (address : Nat)
  | writeNand (partition : Nat)
  | writeOther
  deriving DecidableEq, Repr

/-- The commands and events of the block, one constructor per row of spec/opcode_table.json, in the table's order
but that the rows without operands come last. -/
inductive Instr where
  /-- PING (R309): Host command that returns the cycle count, angle and phase clock state. -/
  | ping (h : Hdr) (pl : Bytes)
  /-- GET_IDENTITY (R309): Host command that returns the serial, hardware step, life-cycle state, rom_id and the image releases. -/
  | getIdentity (h : Hdr) (pl : Bytes)
  /-- GET_STATUS (R309): Host command that returns the power state, life-cycle state, open world, flags, outstanding tags and notification counts. -/
  | getStatus (h : Hdr) (pl : Bytes)
  /-- RESET (R310): Host command that causes a warm reset within 10 ms after its reply; mode 0 is refused while any bay is energised. -/
  | reset (h : Hdr) (pl : Bytes)
  /-- SET_POWER_STATE (R434): Host command that requests ACTIVE, QUIET or STANDBY with wake sources, refused while the conditions of R434 hold. -/
  | setPowerState (h : Hdr) (pl : Bytes)
  /-- GET_PARAM (R333): Host command that reads the active or staged copy of a parameter object. -/
  | getParam (h : Hdr) (pl : Bytes)
  /-- SET_PARAM (R331): Host command that writes bytes of a parameter object into the port's staging set after the checks of R331; it is the row for writes to every parameter object without a row of its own. -/
  | setParam (h : Hdr) (pl : Bytes)
  /-- COMMIT_PARAMS (R332): Host command that checks every staged object and commits all of them to both copies, or discards the staging set. -/
  | commitParams (h : Hdr) (pl : Bytes)
  /-- OPEN_WORLD (R301): Host command that opens SERVICE, LEGAL or SAFETY in two phases by challenge and HMAC answer. -/
  | openWorld (h : Hdr) (pl : Bytes)
  /-- CLOSE_WORLD (R302): Host command that closes the world open on its port. -/
  | closeWorld (h : Hdr) (pl : Bytes)
  /-- GET_TIME (R309): Host command that returns module time, its validity, the slew still to absorb and a new nonce. -/
  | getTime (h : Hdr) (pl : Bytes)
  /-- SET_TIME (R93): Host command that slews module time or checks and accepts a clock step. -/
  | setTime (h : Hdr) (pl : Bytes)
  /-- ADJUST_TIME (R92): Host command that slews module time at 500 ppm by an offset of at most 9 s. -/
  | adjustTime (h : Hdr) (pl : Bytes)
  /-- GET_HEALTH (R309): Host command that returns continuity status, storage levels, temperature and supply voltages. -/
  | getHealth (h : Hdr) (pl : Bytes)
  /-- BAY_CONFIGURE (R133): Host command that stages BAY_CONFIG of a bay. -/
  | bayConfigure (h : Hdr) (pl : Bytes)
  /-- BAY_GET_STATE (R134): Host command that returns the status of the named bays. -/
  | bayGetState (h : Hdr) (pl : Bytes)
  /-- BAY_ENABLE (R312): Host command that moves a bay from DISABLED or FAULT to IDLE. -/
  | bayEnable (h : Hdr) (pl : Bytes)
  /-- BAY_DISABLE (R312): Host command that opens a bay as a normal open and disables it, ending its context with end cause 1. -/
  | bayDisable (h : Hdr) (pl : Bytes)
  /-- BAY_SET_LIMIT (R313): Host command that sets a current cap of a bay. -/
  | baySetLimit (h : Hdr) (pl : Bytes)
  /-- BAY_UNLOCK (R143): Host command that releases a bay's lock when the release conditions hold. -/
  | bayUnlock (h : Hdr) (pl : Bytes)
  /-- BAY_TEST_RESIDUAL (R219): Host command that runs the residual sensor self-test on an AC bay whose coil channel is off. -/
  | bayTestResidual (h : Hdr) (pl : Bytes)
  /-- CONVERTER_CONFIGURE (R150): Host command that assigns a DC bay's converter and sends CONFIG to request CAPABILITY. -/
  | converterConfigure (h : Hdr) (pl : Bytes)
  /-- CTX_OPEN (R189): Host command that opens the lowest-numbered FREE context in RESERVED. -/
  | ctxOpen (h : Hdr) (pl : Bytes)
  /-- CTX_AUTHORISE (R193): Host command that allows or denies a context with a class and limits. -/
  | ctxAuthorise (h : Hdr) (pl : Bytes)
  /-- CTX_BIND (R188): Host command that binds an unbound RESERVED or AUTHORISED context to a bay. -/
  | ctxBind (h : Hdr) (pl : Bytes)
  /-- CTX_START (R144): Host command that schedules the contactor close of a BOUND context, with or without an execution point. -/
  | ctxStart (h : Hdr) (pl : Bytes)
  /-- CTX_SUSPEND (R188): Host command that moves a context to SUSPENDED_EVSE with a normal open. -/
  | ctxSuspend (h : Hdr) (pl : Bytes)
  /-- CTX_RESUME (R188): Host command that returns a SUSPENDED_EVSE context to BOUND once its bay is READY. -/
  | ctxResume (h : Hdr) (pl : Bytes)
  /-- CTX_STOP (R182): Host command that moves a running context to FINISHING, or frees an unstarted one. -/
  | ctxStop (h : Hdr) (pl : Bytes)
  /-- CTX_SET_QUOTA (R206): Host command that changes a context's energy quota, ending it when the quota is at or below use. -/
  | ctxSetQuota (h : Hdr) (pl : Bytes)
  /-- CTX_SET_PROFILE (R186): Host command that writes the charging profile periods of a context. -/
  | ctxSetProfile (h : Hdr) (pl : Bytes)
  /-- CTX_GET (R185): Host command that returns bytes 0 to 767 of a context. -/
  | ctxGet (h : Hdr) (pl : Bytes)
  /-- CTX_LIST (R314): Host command that lists the contexts in the selected states. -/
  | ctxList (h : Hdr) (pl : Bytes)
  /-- CTX_ACK_RECORD (R184): Host command that acknowledges a CLOSED context's record and frees the context. -/
  | ctxAckRecord (h : Hdr) (pl : Bytes)
  /-- CTX_RELEASE (R188): Host command that frees a RESERVED, AUTHORISED or BOUND context. -/
  | ctxRelease (h : Hdr) (pl : Bytes)
  /-- SITE_SET_BUDGET (R199): Host command that sets host site limits valid until a given time. -/
  | siteSetBudget (h : Hdr) (pl : Bytes)
  /-- SITE_GET_ALLOCATION (R200): Host command that returns the last allocator result. -/
  | siteGetAllocation (h : Hdr) (pl : Bytes)
  /-- CTX_SET_PRIORITY (R314): Host command that changes a context's priority class. -/
  | ctxSetPriority (h : Hdr) (pl : Bytes)
  /-- METER_READ_INSTANT (R317): Host command that returns the quantities of the last committed cycle of a bay or of the site. -/
  | meterReadInstant (h : Hdr) (pl : Bytes)
  /-- METER_READ_REGISTERS (R316): Host command that returns a register set. -/
  | meterReadRegisters (h : Hdr) (pl : Bytes)
  /-- METER_READ_HARMONICS (R55): Host command that returns the last completed harmonic block of a stream. -/
  | meterReadHarmonics (h : Hdr) (pl : Bytes)
  /-- PULSE_ASSIGN (R65): Host command that stages the assignment of a pulse output. -/
  | pulseAssign (h : Hdr) (pl : Bytes)
  /-- LEGAL_PARAM_READ (R316): Host command that reads a legal parameter object. -/
  | legalParamRead (h : Hdr) (pl : Bytes)
  /-- LEGAL_PARAM_WRITE (R114): LEGAL-world command that writes 1 to 32 bytes of a legal parameter together with a logbook entry. -/
  | legalParamWrite (h : Hdr) (pl : Bytes)
  /-- METER_SELFTEST (R61): Command that runs the test injector self-test on the named bays. -/
  | meterSelftest (h : Hdr) (pl : Bytes)
  /-- TARIFF_LOAD_CALENDAR (R85): Host command that places a calendar image in a pending slot. -/
  | tariffLoadCalendar (h : Hdr) (pl : Bytes)
  /-- TARIFF_GET (R318): Host command that returns the calendar image of a slot. -/
  | tariffGet (h : Hdr) (pl : Bytes)
  /-- TARIFF_CANCEL_PENDING (R86): Host command that withdraws a pending calendar at least one cycle before its activation. -/
  | tariffCancelPending (h : Hdr) (pl : Bytes)
  /-- PROFILE_READ (R107): Host command that returns a profile header and up to 53 entries as they stood at acceptance. -/
  | profileRead (h : Hdr) (pl : Bytes)
  /-- PROFILE_CONFIGURE (R108): Host command that writes and commits PROFILE_NOTIFY at once. -/
  | profileConfigure (h : Hdr) (pl : Bytes)
  /-- DEMAND_READ (R318): Host command that returns the open interval's energy and the last evaluated demand. -/
  | demandRead (h : Hdr) (pl : Bytes)
  /-- LOGBOOK_READ (R119): Host command that returns up to 31 logbook entries. -/
  | logbookRead (h : Hdr) (pl : Bytes)
  /-- RECORD_READ (R127): Host command that returns the stored COSE or OCMF rendering of a record. -/
  | recordRead (h : Hdr) (pl : Bytes)
  /-- CRED_LOOKUP (R319): Host command that returns the credential entry for a normalised identifier. -/
  | credLookup (h : Hdr) (pl : Bytes)
  /-- CRED_UPDATE_BEGIN (R198): Host command that opens a credential batch of N changes against an expected live version. -/
  | credUpdateBegin (h : Hdr) (pl : Bytes)
  /-- CRED_UPDATE_DATA (R198): Host command that stages up to 203 credential changes into shadow pages. -/
  | credUpdateData (h : Hdr) (pl : Bytes)
  /-- CRED_UPDATE_COMMIT (R198): Host command that switches the live credential version to the staged one. -/
  | credUpdateCommit (h : Hdr) (pl : Bytes)
  /-- CRED_STATS (R198): Host command that returns credential store statistics. -/
  | credStats (h : Hdr) (pl : Bytes)
  /-- PNC_VERIFY (R194): Host command that supplies OCSP responses for a waiting Plug & Charge chain verification. -/
  | pncVerify (h : Hdr) (pl : Bytes)
  /-- SAFETY_GET_STATE (R248): Host command that returns the safety state. -/
  | safetyGetState (h : Hdr) (pl : Bytes)
  /-- SAFETY_LOAD_PARAMS (R232): SAFETY-world command that replaces safety parameter objects in one atomic step. -/
  | safetyLoadParams (h : Hdr) (pl : Bytes)
  /-- SAFETY_GET_CHECK (R235): Host command that returns both cores' safety check values and CONFIRMED. -/
  | safetyGetCheck (h : Hdr) (pl : Bytes)
  /-- SAFETY_CONFIRM (R236): SAFETY-world command that sets CONFIRMED when the carried value equals both cores' values. -/
  | safetyConfirm (h : Hdr) (pl : Bytes)
  /-- SAFETY_RESET_FAULT (R249): Command that clears a named safety latch once its condition has gone. -/
  | safetyResetFault (h : Hdr) (pl : Bytes)
  /-- SITE_SAFETY_CONFIGURE (R237): SAFETY-world command that writes SITE_SAFETY_NET. -/
  | siteSafetyConfigure (h : Hdr) (pl : Bytes)
  /-- KEY_LIST (R334): Host command that returns slot records. -/
  | keyList (h : Hdr) (pl : Bytes)
  /-- KEY_GENERATE (R338): Command that fills an EMPTY slot with key material from the random number generator. -/
  | keyGenerate (h : Hdr) (pl : Bytes)
  /-- KEY_IMPORT (R339): SERVICE-world command that unwraps and stores a key, or stores a public point. -/
  | keyImport (h : Hdr) (pl : Bytes)
  /-- KEY_DERIVE (R336): SERVICE-world command that derives an AES or HMAC key from a parent and a label. -/
  | keyDerive (h : Hdr) (pl : Bytes)
  /-- KEY_INVALIDATE (R343): Command that erases a slot and orphans its descendants. -/
  | keyInvalidate (h : Hdr) (pl : Bytes)
  /-- KEY_GET_PUBLIC (R342): Host command that returns the public point of an ECC slot. -/
  | keyGetPublic (h : Hdr) (pl : Bytes)
  /-- ATTEST (R348): Host command that returns an HMAC over the attestation input under the attestation key. -/
  | attest (h : Hdr) (pl : Bytes)
  /-- SET_LIFECYCLE (R324): Command that moves the life-cycle state forward after writing a logbook entry. -/
  | setLifecycle (h : Hdr) (pl : Bytes)
  /-- UPDATE_BEGIN (R353): SERVICE-world command that opens an image transfer. -/
  | updateBegin (h : Hdr) (pl : Bytes)
  /-- UPDATE_DATA (R353): SERVICE-world command that carries image bytes at the next offset. -/
  | updateData (h : Hdr) (pl : Bytes)
  /-- UPDATE_END (R354): SERVICE-world command that starts verification of the received image. -/
  | updateEnd (h : Hdr) (pl : Bytes)
  /-- UPDATE_ACTIVATE (R359): SERVICE-world command that activates the staged or previous image of a kind. -/
  | updateActivate (h : Hdr) (pl : Bytes)
  /-- UPDATE_STATUS (R355): Host command that returns the status of every image kind. -/
  | updateStatus (h : Hdr) (pl : Bytes)
  /-- UPDATE_ABORT (R363): SERVICE-world command that falls back from a trial or discards a transfer or staged image. -/
  | updateAbort (h : Hdr) (pl : Bytes)
  /-- CONSIST_CONFIGURE (R364): SERVICE-world command that stores the update consist list. -/
  | consistConfigure (h : Hdr) (pl : Bytes)
  /-- UPDATE_FORWARD (R364): SERVICE-world command that sends the staged image to the next module in the consist. -/
  | updateForward (h : Hdr) (pl : Bytes)
  /-- EVENTS_READ (R374): Host command that returns event records from a snapshot. -/
  | eventsRead (h : Hdr) (pl : Bytes)
  /-- EVENTS_INFO (R325): Host command that returns the event log extent and repeat window. -/
  | eventsInfo (h : Hdr) (pl : Bytes)
  /-- EVENTS_FILTER (R371): SERVICE-world command that sets the event class mask, minimum severity and repeat window. -/
  | eventsFilter (h : Hdr) (pl : Bytes)
  /-- PERF_CONFIGURE (R375): SERVICE-world command that configures and clears a performance counter. -/
  | perfConfigure (h : Hdr) (pl : Bytes)
  /-- PERF_READ (R378): Command that returns performance counter values. -/
  | perfRead (h : Hdr) (pl : Bytes)
  /-- PERF_ACCESS (R380): SERVICE-world command that permits or forbids HOST-world counter reads. -/
  | perfAccess (h : Hdr) (pl : Bytes)
  /-- LSW_CONFIGURE (R384): Host command that stages the configuration of a load channel. -/
  | lswConfigure (h : Hdr) (pl : Bytes)
  /-- LSW_SET (R396): Host command that switches an unheld load channel at once or at an execution point. -/
  | lswSet (h : Hdr) (pl : Bytes)
  /-- LSW_GET (R397): Host command that returns load channel status. -/
  | lswGet (h : Hdr) (pl : Bytes)
  /-- LSW_UNLOCK (R393): Host command that clears CLAMP_LOCK and LOCKED_OUT and refills retries. -/
  | lswUnlock (h : Hdr) (pl : Bytes)
  /-- DISP_CONFIGURE (R402): Host command that stages the display configuration. -/
  | dispConfigure (h : Hdr) (pl : Bytes)
  /-- DISP_WRITE (R403): Host command that writes a pixel rectangle outside the legal region. -/
  | dispWrite (h : Hdr) (pl : Bytes)
  /-- DISP_BLINK (R408): Host command that sets up to 8 hardware blink rectangles. -/
  | dispBlink (h : Hdr) (pl : Bytes)
  /-- DISP_GET_CHECK (R407): Host command that returns the frame checksums and pass count. -/
  | dispGetCheck (h : Hdr) (pl : Bytes)
  /-- RDR_CONFIGURE (R410): Host command that stages a reader port's configuration. -/
  | rdrConfigure (h : Hdr) (pl : Bytes)
  /-- RDR_POLL (R415): Host command that runs one poll on a reader port. -/
  | rdrPoll (h : Hdr) (pl : Bytes)
  /-- RDR_TRANSCEIVE (R415): Host command that exchanges one frame with the selected card. -/
  | rdrTransceive (h : Hdr) (pl : Bytes)
  /-- TAG_READ (R426): Host command that reads committed tag memory blocks. -/
  | tagRead (h : Hdr) (pl : Bytes)
  /-- TAG_WRITE (R426): Host command that writes bytes within one tag block by shadow write and pointer update. -/
  | tagWrite (h : Hdr) (pl : Bytes)
  /-- TAG_CONFIGURE (R422): Host command that stages the tag configuration. -/
  | tagConfigure (h : Hdr) (pl : Bytes)
  /-- PLC_CONFIGURE (R170): Host command that stages PLC_CONFIG of the mains instance. -/
  | plcConfigure (h : Hdr) (pl : Bytes)
  /-- PLC_GET_LINK (R179): Host command that returns link status records of the named instances. -/
  | plcGetLink (h : Hdr) (pl : Bytes)
  /-- PLC_TONEMAP_INFO (R180): Host command that returns tone-map entries of PLCM neighbours. -/
  | plcTonemapInfo (h : Hdr) (pl : Bytes)
  /-- V2G_CONFIGURE (R164): Host command that stages V2G_CONFIG. -/
  | v2gConfigure (h : Hdr) (pl : Bytes)
  /-- SITE_CONFIGURE (R330): SERVICE-world command that stages SITE_CONFIG. -/
  | siteConfigure (h : Hdr) (pl : Bytes)
  /-- SITE_GET_PEERS (R326): Host command that returns the site peers and their link state. -/
  | siteGetPeers (h : Hdr) (pl : Bytes)
  /-- HOST_PACKET_DISCARDED (R281): A received host packet fails framing or its trailer and is discarded or answered ERR_CRC. -/
  | hostPacketDiscarded (p : HostPort) (crcOnly : Bool) (world op tag : Nat)
  /-- FRAGMENT (R286): A command fragment with MF set is received and added to the port's reassembly. -/
  | fragment (h : Hdr) (op frag : Nat) (mf : Bool) (pl : Bytes)
  /-- REASSEMBLY_TIMEOUT (R286): No next fragment within 1 000 ms; the reassembly is discarded with ERR_LENGTH. -/
  | reassemblyTimeout (p : HostPort)
  /-- SPI_TRANSACTION (R296): One SPI transaction exchanges lengths and packets between host and module. -/
  | spiTransaction (hostLen : Nat) (aborted : Bool)
  /-- NOTIFICATION_SEND (R289): A queued notification is sent on a port once the port can take it. -/
  | notificationSend (p : HostPort)
  /-- WORLD_IDLE_TIMEOUT (R302): 900 s without a packet in an open world close it. -/
  | worldIdleTimeout (p : HostPort)
  /-- OPEN_WORLD_LOCKOUT_END (R301): The 60 s refusal of OPEN_WORLD after three failures ends. -/
  | openWorldLockoutEnd (p : HostPort) (w : World)
  /-- SAMPLE_STROBE (R45): Every 32 au the resampled values of all streams are latched. -/
  | sampleStrobe (x : StrobeInput)
  /-- PULSE_END (R68): A pulse output returns low after 2 ms or half the interval. -/
  | pulseEnd (out : Nat)
  /-- CYCLE_BOUNDARY (R74): At angle 0 the previous cycle is committed indivisibly, stamped and checkpointed, and the new cycle opens. -/
  | cycleBoundary (freqMhz : Nat) (phaseErr : Int)
  /-- STREAM_FAULT (R43): A used stream's data bit has not changed for 256 modulator clocks. -/
  | streamFault (stream : Nat)
  /-- STREAM_FAULT_CLEAR (R43): A stream fault clears after 8 consecutive cycles without the condition. -/
  | streamFaultClear (stream : Nat)
  /-- LOSS_OF_REFERENCE (R23): A loss condition on REF_SD_UA holds for 2 cycles and the phase clock leaves its state. -/
  | lossOfReference (cause : LossCause)
  /-- RESIDUAL_TIER_TRIP (R216): A DC1, DC2 or AC2 residual timer reaches its delay and asserts the trip line. -/
  | residualTierTrip (bay : Nat) (tier : Tier)
  /-- GALE_TRIP (R217): The gale path window crosses its threshold and the coil channel is off within 50 µs. -/
  | galeTrip (bay : Nat) (engineB : Bool) (earlier : List Int) (sample : Int)
  /-- GALE_TRIP_RELEASE (R218): Both window values stay below 50 % for n_win samples and the trip line is released. -/
  | galeTripRelease (bay : Nat) (w : GaleSamples)
  /-- CP_STATE_CHANGE (R137): A CP state read without interruption for 3 ms becomes the filtered state and the module reacts. -/
  | cpStateChange (bay : Nat) (plateauMv negMv : Int)
  /-- PP_CHANGE (R139): A PP resistance class held for 30 ms is reported. -/
  | ppChange (bay : Nat) (ohms : Nat)
  /-- GUARD_CHANGE (R140): A guard channel reads a new level for 5 ms. -/
  | guardChange (bay : Nat) (chB closed : Bool)
  /-- GUARD_DISCREPANCY (R141): The guard channels differ for more than 50 ms and GST_OK is cleared. -/
  | guardDiscrepancy (bay : Nat)
  /-- LOCK_CONFIRMED (R142): LKF shows the locked level for 20 ms within LOCK_TIMEOUT. -/
  | lockConfirmed (bay : Nat)
  /-- LOCK_TIMEOUT (R142): The lock is not confirmed within LOCK_TIMEOUT; the drive is retried or the bay enters FAULT. -/
  | lockTimeout (bay : Nat)
  /-- CLOSURE_DETECTED (R145): UO follows UA for 1 ms; closure is confirmed and the operate time learned. -/
  | closureDetected (bay : Nat) (w : EdgeWindow)
  /-- RELEASE_DETECTED (R147): UO departs from UA for 1 ms; the release time is learned. -/
  | releaseDetected (bay : Nat) (w : EdgeWindow)
  /-- WELD_CHECK (R149): Within 200 ms of the open UO falls below 30 V, or the bay enters WELDED. -/
  | weldCheck (bay : Nat) (uoMv : Nat)
  /-- WELD_OPEN_DETECT (R227): UO stays at or above 30 V for 200 ms on an open bay, which enters WELDED. -/
  | weldOpenDetect (bay : Nat)
  /-- DC_CLOSURE_TIMEOUT (R155): UO does not follow UA within 50 ms of 50 V and the DC bay enters FAULT. -/
  | dcClosureTimeout (bay : Nat)
  /-- DC_OPEN_CURRENT_LOW (R155): |i_dc| falls below 5 A, or 1 s passes, and the DC coil is switched off. -/
  | dcOpenCurrentLow (bay : Nat) (iDcMa : Int)
  /-- SUSPEND_OPEN_TIMEOUT (R203): 6 s after a zero grant took effect the contactor is opened. -/
  | suspendOpenTimeout (bay : Nat)
  /-- HEARTBEAT (R152): The CAN controller transmits HEARTBEAT and SETPOINT every 20 ms. -/
  | heartbeat (can : Nat)
  /-- CONVERTER_STATUS (R154): A valid STATUS frame from a converter is received. -/
  | converterStatus (can node : Nat) (data : Bytes)
  /-- CONVERTER_STATUS_TIMEOUT (R154): No valid STATUS for 60 ms; the bay enters FAULT. -/
  | converterStatusTimeout (bay : Nat)
  /-- ISO_MONITOR (R220): An ISO_MONITOR frame is received and acted on. -/
  | isoMonitor (can node : Nat) (data : Bytes)
  /-- ISO_MONITOR_TIMEOUT (R220): No valid ISO_MONITOR for 300 ms on an energised DC bay counts as monitor fault. -/
  | isoMonitorTimeout (bay : Nat)
  /-- CAPABILITY (R154): A CAPABILITY frame is received, completing CONVERTER_CONFIGURE. -/
  | capability (can node : Nat) (data : Bytes)
  /-- CAPABILITY_TIMEOUT (R154): No CAPABILITY within 500 ms of CONFIG; the configuration fails. -/
  | capabilityTimeout (bay : Nat)
  /-- CONVERTER_FAULT (R154): A converter FAULT frame is received; severity 1 trips the bay. -/
  | converterFault (can node : Nat) (data : Bytes)
  /-- RESIDUAL_SELFTEST_DONE (R219): The residual sensor self-test pulse and recovery complete and pass or fail. -/
  | residualSelftestDone (bay : Nat) (core : SafetyCore)
  /-- PERMISSION_LAPSE (R222): No close is issued within 10 s of the grant and the permission lapses. -/
  | permissionLapse (bay : Nat)
  /-- SLC_EXCESS (R225): A phase is in excess for 1 s, or in the first cycle after a cut, causing a safe stop. -/
  | slcExcess (bay : Nat)
  /-- SDI_EXPORT_STOP (R226): Unpermitted export exceeds 100 W for 200 ms or 1 Wh and the bay is stopped. -/
  | sdiExportStop (bay : Nat)
  /-- LOCK_FEEDBACK_LOSS (R226): LKF leaves the locked level for 20 ms on an energised bay with LOCK_REQ 1. -/
  | lockFeedbackLoss (bay : Nat)
  /-- DOOR_CHANGE (R228): The filtered door inputs change. -/
  | doorChange (a b : Bool)
  /-- ESTOP_CHANGE (R229): The filtered emergency-stop inputs change; a press stops every bay. -/
  | estopChange (a b : Bool)
  /-- SAFETY_INPUT_DISCREPANCY (R228): A door or emergency-stop pair holds an invalid combination for 50 ms. -/
  | safetyInputDiscrepancy (estop : Bool)
  /-- SAFE_OUT_READBACK (R230): A SAFE_OUT line drops for its 200 µs readback test once per second. -/
  | safeOutReadback (pair : Nat) (lineB readOk : Bool)
  /-- SAFETY_FRAME_RECEIVED (R240): A copy of a peer safety frame is checked and acted on. -/
  | safetyFrameReceived (siteB : Bool) (frame : Bytes)
  /-- PEER_CONNECTION_LOST (R240): No accepted frame for TIME_EXP_MS; the connection is lost. -/
  | peerConnectionLost (peer : Nat)
  /-- REDUNDANCY_LOST (R240): Copies arrive on one port only for 100 ms. -/
  | redundancyLost (peer : Nat)
  /-- FEEDER_OVERLOAD_TRIP (R242): A group's summed current exceeds FEEDER_TRIP for 1 s and its bays are stopped. -/
  | feederOverloadTrip (group : Nat)
  /-- FEEDER_OVERLOAD_BIT_END (R242): The overload trip bit is cleared from the frames after 2 s. -/
  | feederOverloadBitEnd (group : Nat)
  /-- CORE_LOSS (R212): A core's enable stops changing and the drive die follows the other core or switches off. -/
  | coreLoss (core : SafetyCore) (confirmed : Bool)
  /-- SAFETY_CORE_FAILURE (R243): A safety core is failed by watchdog, self-test, ECC or supply fault. -/
  | safetyCoreFailure (core : SafetyCore) (fault : CoreFault)
  /-- CORE_REJOIN (R245): A failed core completes its reboot and self-test and rejoins. -/
  | coreRejoin (core : SafetyCore) (passed : Bool)
  /-- METERING_VALUES_MISSING (R267): Per-cycle values do not arrive within 3 ms and the bay is stopped. -/
  | meteringValuesMissing (bay : Nat)
  /-- ME_TAKEOVER (R259): A metering engine fault is detected and ME-B takes over with checkpoint and replay. -/
  | meTakeover (cause : TakeoverCause) (durationUs : Nat)
  /-- CE_TAKEOVER (R263): A control engine fault is detected, or a planned takeover is made, and CE-B replays the journal. -/
  | ceTakeover (cause : TakeoverCause) (durationUs : Nat)
  /-- DSP_SHUNT (R265): A DSP cluster fails and its instances are shunted to the spare. -/
  | dspShunt (cluster : Nat) (cause : TakeoverCause)
  /-- BANK_REPLACE (R268): An uncorrectable SRAM error replaces the bank with a spare and rebuilds it. -/
  | bankReplace (bank : SramBank) (number : Nat)
  /-- NAND_BLOCK_FAULT (R100): A NAND program, erase or read fault retires the block to the spare pool. -/
  | nandBlockFault (block : Nat) (partition : Nat) (kind : BlockFault)
  /-- RE_COUPLING (R272): A repaired engine has followed 8 checkpoints and is re-coupled as brake van. -/
  | reCoupling (unit : CoupledUnit) (passed : Bool)
  /-- REGULATOR_PHASE_LOST (R254): An internal regulator phase fails and the others carry the load. -/
  | regulatorPhaseLost (phase : Nat)
  /-- CUT_RESERVATION_END (R204): The 6 s reservation after a cut ends or the draw complies. -/
  | cutReservationEnd (ctx : Nat)
  /-- TIME_LIMIT_EXPIRY (R187): TIME_LIMIT elapses and the context enters FINISHING. -/
  | timeLimitExpiry (ctx : Nat)
  /-- RESERVATION_EXPIRY (R189): A context reaches EXPIRY without energising and is freed. -/
  | reservationExpiry (ctx : Nat)
  /-- HOST_WAIT_EXPIRY (R192): The host gives no answer within HOST_WAIT_S and OFFLINE decides. -/
  | hostWaitExpiry (ctx : Nat)
  /-- PNC_CHAIN_RECEIVED (R194): A vehicle's contract certificate chain is received and verified. -/
  | pncChainReceived (bay : Nat) (chain : PncChain)
  /-- RECORD_SIGN (R121): The record signer builds, signs and stores a session record and the context enters CLOSED. -/
  | recordSign (ctx : Nat)
  /-- RECORD_SLOT_FREED (R125): RETAIN_DAYS pass for an acknowledged record and its slot becomes free. -/
  | recordSlotFreed (seq : Nat)
  /-- SLAC_PARM_REQ (R163): A vehicle's CM_SLAC_PARM.REQ is received and answered. -/
  | slacParmReq (bay : Nat) (sounds : List (List Nat))
  /-- SLAC_TIMEOUT (R163): No SLAC match within the ISO 15118-3 timers; basic charging follows. -/
  | slacTimeout (bay : Nat)
  /-- V2G_MESSAGE (R160): An ISO 15118 message from the vehicle is received and handled. -/
  | v2gMessage (bay : Nat) (m : V2gMessage)
  /-- GREEN_PHY_FRAME (R167): A Green PHY frame is received, blanked and decoded. -/
  | greenPhyFrame (inst : Nat) (samples : List Int) (decoded : Bool) (station : FrameSource)
  /-- BEACON (R177): A beacon period starts at angle 0 of every even cycle. -/
  | beacon (heard : Option HeardBeacon)
  /-- CCO_ELECTION (R178): No mains beacon for 10 periods; a new CCo is elected. -/
  | ccoElection (lowerSerialSeen : Bool)
  /-- TONE_MAP_REFRESH (R175): REFRESH_S passes or FER exceeds FER_LIMIT and a new sounding is made. -/
  | toneMapRefresh (station : Nat) (sounding : Option Sounding)
  /-- NEIGHBOUR_LOST (R176): No frame or beacon from a neighbour for 25 periods. -/
  | neighbourLost (station : Nat)
  /-- CURTAILMENT_FRAME (R173): A curtailment frame is received, applied and passed on. -/
  | curtailmentFrame (frame : Bytes)
  /-- COORDINATOR_FRAME (R330): A member receives a coordinator frame and applies its limits. -/
  | coordinatorFrame (f : CoordFrame)
  /-- SITE_LIMIT_LAPSE (R199): A host or curtailment limit reaches valid-until and lapses. -/
  | siteLimitLapse (src : LimitSource)
  /-- DRIZZLE_PING (R411): A reader port sends a 10 µs ping and compares it with the baseline. -/
  | drizzlePing (port : Nat) (amp phase : Int)
  /-- POLL_COMPLETE (R412): A poll after a detection or RDR_POLL ends with or without a card. -/
  | pollComplete (port : Nat)
  /-- CARD_FOUND (R413): A card is selected and its normalised identifier formed. -/
  | cardFound (port : Nat) (kind : CardKind) (uid : Bytes)
  /-- CARD_RELEASE (R415): 2 s after the last exchange the selected card is released. -/
  | cardRelease (port : Nat)
  /-- TAG_EXTERNAL_AUTHENTICATE (R421): The field answers the challenge with an HMAC to authenticate. -/
  | tagExternalAuthenticate (answer : Bytes)
  /-- TAG_UPDATE_BINARY (R424): The field writes a file of the tag by shadow write and pointer update. -/
  | tagUpdateBinary (file offset : Nat) (data : Bytes)
  /-- TAG_READ_BINARY (R419): The field reads a file of the tag. -/
  | tagReadBinary (file offset len : Nat)
  /-- FIELD_COLLAPSE (R427): The field is lost, possibly during a write. -/
  | fieldCollapse (cut : Option CutWrite)
  /-- REFRESH_PASS (R401): One display pass sends every row and checks the frame CRCs. -/
  | refreshPass (legalFlip outsideFlip : Nat)
  /-- SHORT (R388): A load channel exceeds its short threshold and switches off. -/
  | short (x : ShortSample)
  /-- OVERLOAD (R388): A channel's 1 s average exceeds 1.1 × I_LIM. -/
  | overload (x : SecondCharge)
  /-- THERMAL_LATCH_SET (R388): Junction reaches 170 °C and the channel switches off. -/
  | thermalLatchSet (ch : Nat) (tj : Nat)
  /-- THERMAL_LATCH_CLEAR (R388): Junction falls to 150 °C and the latch clears. -/
  | thermalLatchClear (ch : Nat) (tj : Nat)
  /-- OPEN_LOAD (R388): Open load is set or cleared after 100 ms. -/
  | openLoad (ch : Nat) (w : LoadWindow)
  /-- RETRY (R390): The back-off elapses and a protected channel restarts. -/
  | retry (ch : Nat)
  /-- RETRIES_REFILL (R392): 60 s of conduction without a protective off refill RETRIES_LEFT. -/
  | retriesRefill (ch : Nat)
  /-- GROUP_OVERLOAD (R395): A group's sum exceeds budget for 1 ms and channels are shed. -/
  | groupOverload (group : Nat) (currents : List Nat)
  /-- VLOAD_UNDERVOLTAGE (R383): VLOADg below 7.0 V switches the group off. -/
  | vloadUndervoltage (x : LoadSupply)
  /-- VLOAD_RECOVERY (R383): VLOADg above 8.0 V for 10 ms restarts commanded channels. -/
  | vloadRecovery (x : LoadSupply)
  /-- VSUP_INPUT_CHANGE (R429): One supply input is lost or returns. -/
  | vsupInputChange (inputB : Bool) (x : InputLevel)
  /-- FLUSH_END (R439): The flush completes or VHOLD reaches 12 V and the module enters BACKUP or OFF. -/
  | flushEnd (written : Nat) (vbackupPresent : Bool)
  /-- START (R442): The module starts after C, P, W or S, reloads its images and enters ACTIVE. -/
  | start (m : StartConditions)
  /-- RESET_N (R443): RESET_N held low for 10 µs causes a W. -/
  | resetN (lowUs : Nat)
  /-- VHOLD_LOW (R430): VHOLD falls below 36 V. VHOLD in mV. -/
  | vholdLow (mv : Nat)
  /-- WAKE_SOURCE (R434): A wake source ends STANDBY through S. -/
  | wakeSource (source : Nat)
  /-- REPEAT_WINDOW_LAPSE (R370): REPEAT_MS passes without a repeat and the record becomes FINAL. -/
  | repeatWindowLapse (seq : Nat)
  /-- PERF_WINDOW_END (R377): A counter window of WINDOW_US completes. -/
  | perfWindowEnd (counter : Nat)
  /-- ACTIVATION_COMPLETE (R359): An image activation completes and the kind is on trial. -/
  | activationComplete (kind : ImageKind)
  /-- IMAGE_CONFIRMED (R361): The conditions hold and the kind on trial confirms itself. -/
  | imageConfirmed (kind : ImageKind)
  /-- IMAGE_FALLBACK (R362): The window expires or a fault strikes and the previous image returns. -/
  | imageFallback (kind : ImageKind) (fault : Bool)
  /-- CONSIST_IMAGE_RECEIVED (R365): A neighbour's forwarded image is received, stored and forwarded on. -/
  | consistImageReceived (sender : Nat) (kind : ImageKind) (image : Bytes)
  /-- INRUSH_WINDOW_END (R386): A load channel's inrush window (or VALVE pull-in time) ends and the channel passes to its steady drive, such as the 35 % PWM hold of COIL. -/
  | inrushWindowEnd (ch : Nat)
  /-- LOCK_PULSE_END (R142): The motor-lock drive pulse of LOCK_PULSE ms ends and the H-bridge stops driving. -/
  | lockPulseEnd (bay : Nat)
  /-- LOCK_RELEASE (R143): UO has been below 30 V for 100 ms after a passed weld check, and the module releases the lock. -/
  | lockRelease (bay : Nat)
  /-- VEHICLE_LINK_LOST (R169): The ISO 15118 link to a vehicle times out and the V2G session ends, so its context is treated as for a lost vehicle link. -/
  | vehicleLinkLost (bay : Nat)
  /-- FORWARD_DELIVERED (R365): The consist neighbour answers that it has stored the forwarded image, and UPDATE_FORWARD completes with NTF_UPDATE. -/
  | forwardDelivered (serial : Nat)
  /-- DEBUG_PORT_ACCESS (R346): An access arrives on the debug port; it is opened by challenge-response under slot 0x004, answered or ignored by life-cycle state, and its writes to the legal domain are refused and recorded. -/
  | debugPortAccess (a : DebugAccess)
  /-- UART_BAUD_FALLBACK (R300): No valid UART packet within 10 s of a start, so the UART runs at 115 200 baud. -/
  | uartBaudFallback
  /-- HALF_CYCLE_TICK (R30): At angle 2 048 the safety frame cycle runs and ALIVE toggles. -/
  | halfCycleTick
  /-- PARAMS_TAKE_EFFECT (R332): Committed parameter objects take effect together at the first cycle boundary after the reply. -/
  | paramsTakeEffect
  /-- LEGAL_PARAM_TAKES_EFFECT (R116): An accepted legal parameter write takes effect at the next cycle boundary and the legal checksum is recomputed. -/
  | legalParamTakesEffect
  /-- CLOCK_STEP_TAKES_EFFECT (R95): An accepted step sets module time at the next boundary and closes the interval in progress as partial. -/
  | clockStepTakesEffect
  /-- INTERVAL_CLOSE (R102): A load-profile and demand interval closes at its boundary and 33 entries are written. -/
  | intervalClose
  /-- SUBINTERVAL_CLOSE (R82): A sliding subinterval closes and the window ending with it is evaluated. -/
  | subintervalClose
  /-- CALENDAR_ACTIVATION (R84): A pending calendar becomes ACTIVE at the boundary for its ACTIVATE instant. -/
  | calendarActivation
  /-- HARMONIC_BLOCK_END (R55): A block of L cycles ends and its harmonics, THD and frequency are computed. -/
  | harmonicBlockEnd
  /-- LEGAL_STORE_WRITE (R101): The legal store copy is written at least every 15 minutes. -/
  | legalStoreWrite
  /-- REFERENCE_VALID (R23): No loss condition for 4 cycles; the phase clock enters ACQUIRE. -/
  | referenceValid
  /-- ACQUIRE_PULL_IN (R25): Phase error within 4 au for 8 cycles; the transition cycle begins. -/
  | acquirePullIn
  /-- LOCK_ENTRY (R25): The transition cycle ends at the L1 zero crossing and STATE becomes LOCKED. -/
  | lockEntry
  /-- HOLDOVER_EXPIRY (R22): 10 cycles of HOLDOVER elapse and the clock enters DEAD_RECKON. -/
  | holdoverExpiry
  /-- TIMED_ACTION (R36): The drive die executes a queued entry at its issue point. -/
  | timedAction
  /-- ALONE_LIMIT (R246): 72 h with one core pass and new sessions are blocked. -/
  | aloneLimit
  /-- CONTROL_CHECKPOINT (R262): CE-A writes a control checkpoint every 10 ms and after each TLS record. -/
  | controlCheckpoint
  /-- METERING_LOST (R275): The last working metering pair fails and every bay is stopped. -/
  | meteringLost
  /-- MODULE_WATCHDOG (R276): No control pair refreshes the module watchdog for 100 ms, causing a W. -/
  | moduleWatchdog
  /-- ALLOCATOR_RECOMPUTE (R202): The allocator recomputes grants each second and after changes. -/
  | allocatorRecompute
  /-- ALLOCATION_TAKES_EFFECT (R200): A new allocation takes effect as CP duties and DC setpoints at the next boundary. -/
  | allocationTakesEffect
  /-- CRED_BATCH_TIMEOUT (R198): A batch without DATA for 600 s is discarded. -/
  | credBatchTimeout
  /-- CRED_COMMIT_DURABLE (R320): The credential version switch becomes durable and the commit completes. -/
  | credCommitDurable
  /-- COORDINATOR_SEND (R330): A coordinator sends its limits every 1 s. -/
  | coordinatorSend
  /-- COORDINATOR_LOST (R330): No valid coordinator frame for 3 s; the fallback set applies. -/
  | coordinatorLost
  /-- TAG_GET_CHALLENGE (R421): The field requests a 16-byte challenge from the tag. -/
  | tagGetChallenge
  /-- TAG_POWER_UP (R428): The tag resolves its pointer copies and frees unreferenced blocks. -/
  | tagPowerUp
  /-- MIRROR_UPDATE (R420): Block 0 is rewritten with current identity, checksums and confirmation. -/
  | mirrorUpdate
  /-- LEGAL_REGION_RENDER (R405): The renderer draws the legal region once per second. -/
  | legalRegionRender
  /-- ERROR_PATTERN_END (R407): After 10 s of checkerboard the legal region is drawn again. -/
  | errorPatternEnd
  /-- SC_DISPLAY_END (R405): 600 s after a safety load the check value is no longer shown. -/
  | scDisplayEnd
  /-- PFAIL (R438): VSUP below 8.0 V for 20 µs; outputs off and the flush begins. -/
  | pfail
  /-- VHOLD_READY (R430): VHOLD reaches 36 V and waiting closes may be issued. -/
  | vholdReady
  /-- VBACKUP_LOSS (R433): VBACKUP below 2.0 V in BACKUP; the module goes OFF. -/
  | vbackupLoss
  /-- STANDBY_ENTRY (R436): At the boundary after the reply the module runs the entry steps and enters STANDBY. -/
  | standbyEntry
  /-- QUIET_EXIT (R433): A plug-in or a context reaching BOUND returns the module from QUIET to ACTIVE. -/
  | quietExit
  /-- EVENT_FLUSH (R372): Buffered event records are written to the log periodically or at a trigger. -/
  | eventFlush
  /-- UPDATE_TRANSFER_TIMEOUT (R353): No UPDATE_DATA for 600 s discards the transfer. -/
  | updateTransferTimeout
  /-- IMAGE_VERIFIED (R354): Image verification completes and UPDATE_END completes. -/
  | imageVerified
  /-- FORWARD_RETRY (R365): The sender retries every 30 s and skips after 120 s. -/
  | forwardRetry
  /-- SELFTEST_STEP_END (R62): A METER_SELFTEST step reaches the end of its duration, is judged pass or fail and reported, and the next step begins. -/
  | selftestStepEnd
  /-- TAG_DESELECT (R421): The field deselects the commissioning tag, which ends authentication and the field session. -/
  | tagDeselect
  /-- VCOM_TOGGLE (R401): DISP_VCOM toggles at VCOM_HZ, or at 1 Hz from the always-on die in BACKUP and STANDBY. -/
  | vcomToggle
  /-- MANUFACTURED_FUSE (R347): The factory program blows the MANUFACTURED fuse through the debug port, writing logbook entry 0 and starting the interval index and event sequence. -/
  | manufacturedFuse
  deriving DecidableEq, Repr

end Sys2Proof
end

