-- ==== Sys2Proof/Decode.lean ====
section
/-! DEFINITION. The command a word spells. No row of spec/opcode_table.json gives bits: a host command is a packet of
fields (R278) and an event is no word at all, so no word spells a command. -/

namespace Sys2Proof

/-- The command that a word of the table's bits spells: none, because the table gives no row any bits. -/
def decodeTableWord (_nbits _w : Nat) : Option Instr := none

end Sys2Proof
end

