-- ==== Sys2Proof/Config.lean ====
section
/-! DEFINITION. What one module's manufacture or site fixes, and the free values: constants with no body, so that nothing
in Lean can evaluate them or prove a value of them. Every one is named in the assumption log. -/

namespace Sys2Proof.Config

open Sys2Proof

/-- The module serial that GET_IDENTITY reports (R309, R465), fixed at manufacture. -/
opaque serial : BitVec 64

/-- The SHA-256 of the metering mask ROM (R115), fixed at manufacture: digest byte `i`. -/
opaque romId : Nat → Byte

/-- The SHA-256 digests of the images a module is delivered with (R348, R350): image kind and digest byte. -/
opaque factoryDigest : Nat → Nat → Byte

/-- FREE VALUE. Byte `i` of draw `n` of the true random number generator (R301, R309, R338, R421). -/
opaque random : Nat → Nat → Byte

/-- FREE VALUE. Whether a quotient that is not exact is reported one unit up: the manual gives the formula of a
quantity and an accuracy bound (R54), not the rounding of its last digit. Applied to numerator and denominator. -/
opaque roundUp : Int → Nat → Bool

/-- FREE VALUE. Whether a square root that is not exact is reported one unit up (R51, R54). -/
opaque rootUp : Nat → Bool

/-- FREE VALUE. Tap `k` of the compensating filter, counted from an end, in 2^-30 (R44): the manual gives the number of taps, the
linear phase, which makes them symmetric, and bounds of the droop, and not the coefficients. -/
opaque firTap : Nat → Int

/-- FREE VALUE. The weight, in 2^-30, of point `k` of the four that the cubic resampler takes, at a fraction in 2^-32 of the
decimation period (R44): the manual says cubic and gives no polynomial. -/
opaque cubicTap : Nat → Nat → Int

/-- FREE VALUE. By how many ns the closure instant lies before the stage 1 sample of an index, on the fundamental of UA (R145): the
manual gives no interpolation. UA, UO, index. -/
opaque interpolateBack : List Int → List Int → Nat → Nat

/-- The ECDSA signature of a message under a private key, deterministic as RFC 6979 defines it (R121, R128, R350):
the algorithm stands in published standards, not in the manual. Curve size in bits, key material, message; the answer is
r followed by s. -/
opaque ecdsaSign : Nat → Bytes → Bytes → Bytes

/-- Whether an ECDSA signature r‖s verifies under an uncompressed public point (R93, R194, R351, R352). -/
opaque ecdsaVerify : Nat → Bytes → Bytes → Bytes → Bool

/-- The uncompressed public point of a private key (R338, KEY_GET_PUBLIC). -/
opaque ecPublic : Nat → Bytes → Bytes

/-- Whether an uncompressed point lies on its curve (R339). -/
opaque onCurve : Nat → Bytes → Bool

/-- The fused root from which the wrapping keys of its children derive (R336, R338), fixed at manufacture: byte `i`. -/
opaque fusedRoot : Nat → Byte

/-- AES key wrap with padding (R336): the wrapping key and the material. R336 names the derivation of the wrapping key and not the
wrapping algorithm; the constant stands for the inverse of the unwrap of R339. -/
opaque aesWrap : Bytes → Bytes → Bytes

/-- AES key unwrap with padding, RFC 5649 (R339): the unwrapping key and the wrapped key. -/
opaque aesUnwrap : Bytes → Bytes → Option Bytes

/-- AES-256-GCM decryption (R351): key, initialisation vector, additional data, ciphertext and tag. -/
opaque gcmDecrypt : Bytes → Bytes → Bytes → Bytes → Bytes → Option Bytes

/-- The DER form of an ECDSA signature r‖s, as an OCMF rendering carries it (R128). -/
opaque derSignature : Bytes → Bytes

/-- FREE VALUE. Frame bytes of a line of the legal region: the mask-ROM font is not in the manual, nor is the error pattern
(R405, R407). Text of the line, pixel row 0 to 15 (0 to 63 for the pattern) and byte column. -/
opaque fontByte : Bytes → Nat → Nat → Byte

/-- The authentication of a coordinator frame under the site-link key (R330): the manual gives the frame's content and no
byte layout. Key, sender, site, valid-until and limits in the order of R199. -/
opaque coordMac : Bytes → Nat → Nat → Nat → List Nat → Bytes

/-- FREE VALUE. The longest relocation chain of a credential batch of `n` changes (R198): the manual names the
statistic and not the relocation procedure. -/
opaque relocationChain : Nat → Nat

/-- FREE VALUE. The number of entries a credential store of `n` entries holds in its stash (R197). -/
opaque stashEntries : Nat → Nat

/-- FREE VALUE. The number of credential pages that `n` changes of a batch touch (R198). -/
opaque shadowPages : Nat → Nat

/-- FREE VALUE. One choice among those the manual leaves open at an instant, by the number of the draw. -/
opaque openChoice : Nat → Nat

/-- FREE VALUE. A sensor reading that no command or event presents, by quantity and draw: the manual names the field and
its unit, and its value comes from outside the module (R309, R397, R389). -/
opaque reading : Nat → Nat → Nat

/-- FREE VALUE. What a selected card answers to a frame, by draw, or nothing within the timeout (R415). -/
opaque cardAnswer : Nat → Bytes → Option Bytes

/-- Whether a certificate verifies under an issuer's public key: the signature algorithms stand in X.509 (R194). -/
opaque certVerifies : Bytes → Bytes → Bytes → Bool

/-- The public key of a DER root certificate (R194). -/
opaque certKey : Bytes → Bytes

/-- Whether an OCSP response says good for a certificate and verifies, and when it was produced (R194): the formats stand
in published standards. -/
opaque ocspGood : Bytes → Bytes → Bool

/-- The bits per symbol that the receiver's SNR on a carrier, in 0.1 dB, supports: a step of R174's list, which gives no thresholds. -/
opaque snrStep : Int → Fin 8

/-- An OCSP response is one for a certificate, whatever its status and signature (R194). -/
opaque ocspNames : Bytes → Bytes → Bool

@[inherit_doc ocspGood]
opaque ocspProduced : Bytes → Nat

end Sys2Proof.Config
end

