-- ==== Sys2Proof/Machine/Objects.lean ====
section
/-! DEFINITION. The parameter objects: identifiers, sizes, fields with their ranges and defaults, as the field maps of the
manual lay them out (R328 and the rule named at each object). -/

namespace Sys2Proof.Machine

open Sys2Proof

/-- What values a field may take. -/
inductive Range where
  | span (lo hi : Nat)
  | spanOr (lo hi other : Nat)
  | oneOf (vs : List Nat)
  /-- Two's complement in the field's width. -/
  | signedSpan (lo hi : Int)
  deriving DecidableEq, Repr

/-- One field of an object: lowest bit, width, permitted values, default. -/
structure Field where
  lsb     : Nat
  width   : Nat
  range   : Range
  default : Nat
  deriving DecidableEq, Repr

/-- The layout of an object: size in bytes and fields. Bits of no field are reserved and must stay 0 (R5). -/
structure Layout where
  size   : Nat
  fields : List Field
  deriving DecidableEq, Repr

/-- A field of one bit. -/
def flag (lsb dflt : Nat) : Field := ⟨lsb, 1, .span 0 1, dflt⟩

/-- A field that may hold any value of its width. -/
def anyField (lsb w dflt : Nat) : Field := ⟨lsb, w, .span 0 (2 ^ w - 1), dflt⟩

/-- Whether a value, as the pattern of the field, is permitted. -/
def Range.ok (r : Range) (w v : Nat) : Bool :=
  match r with
  | .span lo hi => lo ≤ v && v ≤ hi
  | .spanOr lo hi o => (lo ≤ v && v ≤ hi) || v == o
  | .oneOf vs => vs.contains v
  | .signedSpan lo hi => lo ≤ signed w v && signed w v ≤ hi

/-- HOST_PORTS (R300). -/
def hostPortsLayout : Layout := ⟨8, [flag 0 1, flag 1 1, ⟨32, 32, .span 115200 3000000, 115200⟩]⟩

/-- PCLK_CONFIG (R28). -/
def pclkConfigLayout : Layout :=
  ⟨8, [⟨0, 32, .span 45000 65000, 50000⟩, ⟨32, 32, .span 50000 300000, 230000⟩]⟩

/-- TIME_AUTH (R94). -/
def timeAuthLayout : Layout := ⟨4, [anyField 0 16 0xFFFF]⟩

/-- PROFILE_NOTIFY (R108). -/
def profileNotifyLayout : Layout := ⟨8, [anyField 0 33 0]⟩

/-- AUTH_CONFIG (R190). -/
def authConfigLayout : Layout :=
  ⟨8, [⟨0, 2, .span 0 2, 1⟩, ⟨2, 2, .span 0 1, 0⟩, ⟨8, 8, .span 1 60, 20⟩, anyField 16 8 0, ⟨24, 8, .span 0 7, 3⟩,
    ⟨32, 16, .span 60 65535, 900⟩, ⟨48, 16, .span 1 720, 168⟩]⟩

/-- SITE_CONNECTION (R329). -/
def siteConnectionLayout : Layout :=
  ⟨72, anyField 0 64 (2 ^ 64 - 1) :: ((List.range 7).map fun k => anyField (64 + 32 * k) 32 0xFFFFFFFF) ++
    anyField 288 64 (2 ^ 64 - 1) :: ((List.range 7).map fun k => anyField (352 + 32 * k) 32 0xFFFFFFFF)⟩

/-- A pulse output, PULSE0 to PULSE3 and PULSE_LED_CFG (R64, R65). -/
def pulseLayout : Layout :=
  ⟨8, [⟨0, 8, .spanOr 0 32 0xFF, 0xFF⟩, ⟨8, 8, .span 0 0x0C, 0⟩, ⟨32, 32, .span 1000 100000, 10000⟩]⟩

/-- BAY_CONFIG of bay `nn` (R133). Channel numbers are ranges of R131. -/
def bayConfigLayout (nn : Nat) : Layout :=
  ⟨16, [⟨0, 2, .span 0 2, 0⟩, flag 2 0, flag 3 0, ⟨4, 2, .span 0 2, 0⟩, flag 6 1, anyField 8 12 0, anyField 20 2 0,
    ⟨22, 2, .span 0 2, 1⟩, flag 24 0, ⟨32, 8, .span 0 31, nn⟩,
    ⟨40, 8, .oneOf ((List.range 32).map fun k => 32 + 2 * k), 32 + 2 * nn⟩, ⟨48, 8, .span 6 80, 32⟩,
    ⟨56, 8, .span 6 80, 32⟩, ⟨64, 16, .span 20 1000, 150⟩, ⟨80, 16, .span 20 1000, 100⟩, ⟨96, 16, .span 50 1000, 300⟩,
    ⟨112, 16, .span 100 2000, 600⟩]⟩

/-- Rated current of a load channel in mA (R381). -/
def chanRated (c : Nat) : Nat := if c < 32 then 1500 else if c < 96 then 1000 else 3000

/-- Load channel LSWc (R384). -/
def lswLayout (c : Nat) : Layout :=
  let ty := if c < 32 then 5 else if c < 96 then 2 else 0
  let il := if c < 32 then 600 else if c < 96 then 500 else 3000
  ⟨16, [⟨0, 4, .span 0 5, ty⟩, anyField 4 3 3, flag 7 0, anyField 8 3 4, ⟨16, 16, .span 10 (chanRated c), il⟩,
    ⟨32, 16, .span 1 500, 10⟩, ⟨48, 16, .span 10 1000, 250⟩, ⟨64, 16, .span 20 1000, 50⟩, ⟨80, 8, .span 20 100, 50⟩]⟩

/-- SAFETY_SITE (R233). -/
def safetySiteLayout : Layout :=
  ⟨16, [flag 0 1, flag 1 0, anyField 8 4 0xF, anyField 12 4 0xF] ++
    (List.range 4).map fun g => ⟨32 + 16 * g, 16, .spanOr 6 4000 0, 0⟩⟩

/-- SITE_SAFETY_NET (R237): header and eight peer entries. -/
def siteSafetyNetLayout : Layout :=
  ⟨144, [flag 0 0, ⟨8, 8, .span 0 8, 0⟩, ⟨16, 16, .span 25 1000, 30⟩, anyField 32 16 0xFFFF] ++
    (List.range 8).flatMap fun k =>
      [anyField (128 + 128 * k) 64 0, anyField (192 + 128 * k) 32 0, anyField (224 + 128 * k) 4 0]⟩

/-- SAFETY_BAY of bay `nn` (R234): COIL_LSW names a coil channel (R131). The range of I_CAP_A follows KIND and is checked with the object's own rules. -/
def safetyBayLayout (nn : Nat) : Layout :=
  ⟨8, [flag 0 0, ⟨1, 2, .span 0 2, 0⟩, flag 3 0, flag 4 1, flag 5 0, anyField 6 2 0, ⟨8, 8, .span 0 31, nn⟩,
    ⟨16, 16, .span 1 500, 32⟩]⟩

/-- SDM_CONFIG (R42). -/
def sdmConfigLayout : Layout := ⟨4, [flag 0 0]⟩

/-- DEMAND_CONFIG (R80). -/
def demandConfigLayout : Layout := ⟨4, [⟨0, 8, .oneOf [1, 2, 3, 4, 5, 6, 10, 12, 15, 20, 30, 60], 15⟩, flag 8 0]⟩

/-- RECORD_CONFIG (R113). -/
def recordConfigLayout : Layout := ⟨4, [⟨0, 16, .span 0 3650, 0⟩, flag 16 0]⟩

/-- METER_SETUP (R47). -/
def meterSetupLayout : Layout :=
  ⟨24, [⟨0, 32, .span 1000 500000, 32000⟩, ⟨32, 32, .span 50000 1000000, 230000⟩, ⟨64, 32, .span 1000 500000, 80000⟩,
    ⟨96, 16, .span 100 4000, 500⟩, ⟨112, 2, .span 0 2, 0⟩, ⟨128, 32, .span 0 1000000, 0⟩]⟩

/-- One calibration record at byte offset 16 × k (R48). -/
def calFields (k : Nat) : List Field :=
  [⟨128 * k, 32, .span 0x20000000 0x7FFFFFFF, 0x40000000⟩, ⟨128 * k + 32, 32, .signedSpan (-0x04000000) 0x04000000, 0⟩,
    anyField (128 * k + 64) 32 0, ⟨128 * k + 96, 16, .signedSpan (-5000) 5000, 0⟩]

/-- METER_CAL and REF_CAL (R48). -/
def calLayout (records : Nat) : Layout := ⟨16 * records, (List.range records).flatMap calFields⟩

/-- V2G_CONFIG (R164). -/
def v2gConfigLayout : Layout :=
  ⟨4, [flag 0 1, flag 1 1, flag 2 1, flag 3 0, flag 4 0, flag 5 0, anyField 16 16 0xFFFF]⟩

/-- PLC_CONFIG (R170). -/
def plcConfigLayout : Layout :=
  ⟨8, [⟨0, 2, .span 0 2, 0⟩, flag 2 0, flag 3 1, ⟨8, 8, .span 10 300, 30⟩, ⟨16, 8, .span 10 200, 50⟩,
    anyField 32 16 0xFFFF]⟩

/-- SQUALL_CONFIG (R168). -/
def squallConfigLayout : Layout := ⟨4, [flag 0 1, flag 1 1, ⟨8, 4, .span 2 15, 4⟩, ⟨12, 4, .span 2 15, 4⟩]⟩

/-- TONE_MASK (R171): 1 155 bits in 145 bytes. -/
def toneMaskLayout : Layout := ⟨145, [anyField 0 1155 (2 ^ 1155 - 1)]⟩

/-- SITE_CONFIG (R330). -/
def siteConfigLayout : Layout :=
  ⟨32, [⟨0, 2, .span 0 2, 0⟩, ⟨2, 2, .span 0 1, 0⟩, ⟨4, 12, .span 0 4094, 0⟩, anyField 16 16 0xFFFF, anyField 32 64 0,
    ⟨96, 16, .span 1 1000, 1000⟩, anyField 128 32 0]⟩

/-- PNC_ROOT (R194): a DER certificate of at most 1 024 bytes, held here with zeros behind it. -/
def pncRootLayout : Layout := ⟨1024, [anyField 0 8192 0]⟩

/-- CONV_CONFIG (R150). -/
def convConfigLayout : Layout := ⟨4, [flag 0 0, anyField 8 5 0]⟩

/-- Display configuration (R402). -/
def dispLayout : Layout :=
  ⟨16, [flag 0 0, flag 1 0, flag 2 0, ⟨8, 8, .spanOr 0 32 0xFF, 0xFF⟩, ⟨16, 16, .span 256 800, 800⟩,
    ⟨32, 16, .span 128 480, 480⟩, ⟨48, 8, .span 1 60, 1⟩, ⟨56, 8, .span 1 60, 1⟩, ⟨64, 16, .span 250 10000, 2000⟩,
    ⟨80, 8, .span 2 60, 5⟩]⟩

/-- Reader port (R410). -/
def readerLayout : Layout :=
  ⟨16, [flag 0 0, flag 1 1, flag 2 1, anyField 8 3 7, anyField 11 2 3, ⟨16, 16, .span 100 1000, 250⟩,
    ⟨32, 16, .span 50 500, 250⟩, anyField 48 32 0, ⟨80, 8, .span 5 200, 20⟩, ⟨88, 8, .span 5 200, 15⟩]⟩

/-- Commissioning tag (R422). -/
def tagLayout : Layout :=
  ⟨16, [flag 0 1, flag 1 1, flag 2 0, flag 3 0, flag 4 1, flag 5 1, anyField 16 16 0xFFFF]⟩

/-- A read-only status object of `n` bytes. -/
def statusLayout (n : Nat) : Layout := ⟨n, []⟩

/-- Whether an identifier lies in a block of `n` objects from `base`. -/
def inBlock (id base n : Nat) : Bool := base ≤ id && id < base + n

/-- The layout of an object, none where no object has the identifier (R112, R328). -/
def layout (id : Nat) : Option Layout :=
  if id == 0x0010 then some hostPortsLayout
  else if id == 0x0020 then some pclkConfigLayout
  else if id == 0x0021 then some (statusLayout 24)
  else if id == 0x0022 then some timeAuthLayout
  else if id == 0x0024 then some profileNotifyLayout
  else if id == 0x0025 then some authConfigLayout
  else if id == 0x0026 then some siteConnectionLayout
  else if id == 0x0027 then some (statusLayout 24)
  else if inBlock id 0x0030 4 then some pulseLayout
  else if inBlock id 0x0100 32 then some (bayConfigLayout (id - 0x0100))
  else if inBlock id 0x0200 112 then some (lswLayout (id - 0x0200))
  else if id == 0x0301 then some safetySiteLayout
  else if id == 0x0302 then some siteSafetyNetLayout
  else if inBlock id 0x0310 32 then some (safetyBayLayout (id - 0x0310))
  else if id == 0x0401 then some sdmConfigLayout
  else if id == 0x0403 then some pulseLayout
  else if id == 0x0404 then some demandConfigLayout
  else if id == 0x0405 then some recordConfigLayout
  else if inBlock id 0x0420 32 then some meterSetupLayout
  else if inBlock id 0x0440 32 then some (calLayout 8)
  else if id == 0x0460 then some (calLayout 4)
  else if id == 0x0500 then some v2gConfigLayout
  else if id == 0x0501 then some plcConfigLayout
  else if id == 0x0502 then some squallConfigLayout
  else if id == 0x0503 then some toneMaskLayout
  else if id == 0x0510 then some siteConfigLayout
  else if inBlock id 0x0520 16 then some pncRootLayout
  else if inBlock id 0x0540 32 then some convConfigLayout
  else if id == 0x0600 then some dispLayout
  else if inBlock id 0x0610 4 then some readerLayout
  else if id == 0x0620 then some tagLayout
  else none

/-- Objects of the safety block (R232). -/
def isSafetyObj (id : Nat) : Bool := id == 0x0301 || id == 0x0302 || inBlock id 0x0310 32

/-- Legal parameters (R112). -/
def isLegalObj (id : Nat) : Bool :=
  id == 0x0401 || id == 0x0403 || id == 0x0404 || id == 0x0405 || inBlock id 0x0420 32 || inBlock id 0x0440 32 || id == 0x0460

/-- The legal parameters in ascending order (R115). -/
def legalIds : List Nat :=
  [0x0401, 0x0403, 0x0404, 0x0405] ++ (List.range 32).map (0x0420 + ·) ++ (List.range 32).map (0x0440 + ·) ++ [0x0460]

/-- The safety block in ascending order (R235). -/
def safetyIds : List Nat := [0x0301, 0x0302] ++ (List.range 32).map (0x0310 + ·)

/-- The committed objects outside the safety block, the read-only objects left out, in ascending order. -/
def paramIds : List Nat :=
  [0x0010, 0x0020, 0x0022, 0x0024, 0x0025, 0x0026, 0x0030, 0x0031, 0x0032, 0x0033] ++
  (List.range 32).map (0x0100 + ·) ++ (List.range 112).map (0x0200 + ·) ++ legalIds ++
  [0x0500, 0x0501, 0x0502, 0x0503, 0x0510] ++ (List.range 16).map (0x0520 + ·) ++ (List.range 32).map (0x0540 + ·) ++
  [0x0600, 0x0610, 0x0611, 0x0612, 0x0613, 0x0620]

/-- The lowest `n` bytes of a number, little-endian (R4). -/
def le : Nat → Nat → Bytes
  | 0, _ => []
  | n + 1, v => byte v :: le n (v / 256)

/-- The number that bytes spell, little-endian (R4). -/
def num : Bytes → Nat
  | [] => 0
  | b :: bs => b.toNat + 256 * num bs

/-- The default content of an object: every field at its default, reserved bits 0. -/
def Layout.defaults (l : Layout) : Bytes :=
  le l.size (l.fields.foldl (fun acc f => acc + f.default * 2 ^ f.lsb) 0)

end Sys2Proof.Machine
end

