-- ==== Sys2Proof/Machine/Crypto.lean ====
section
/-! DEFINITION. Check codes and hashes: the CRCs of R151, R235, R279 and R401, SHA-256, HMAC-SHA-256 and HKDF-SHA-256
(R115, R191, R301, R336). The elliptic-curve and AES algorithms are constants of Config. -/

namespace Sys2Proof.Machine

open Sys2Proof

/-- One bit of a reflected CRC over `w` bits. -/
def crcBit {w : Nat} (poly r : BitVec w) : BitVec w :=
  if r.getLsbD 0 then (r >>> 1) ^^^ poly else r >>> 1

/-- One byte of a reflected 32-bit CRC. -/
def crcByte (poly r : BitVec 32) (b : Byte) : BitVec 32 :=
  (List.range 8).foldl (fun a _ => crcBit poly a) (r ^^^ b.setWidth 32)

/-- A reflected 32-bit CRC with initial value and final xor 0xFFFF_FFFF. -/
def crc32With (poly : BitVec 32) (bs : Bytes) : Nat :=
  ((bs.foldl (crcByte poly) (BitVec.allOnes 32)) ^^^ BitVec.allOnes 32).toNat

/-- CRC-32C of R279 (Castagnoli polynomial, reflected). -/
def crc32c (bs : Bytes) : Nat := crc32With 0x82F63B78 bs

/-- CRC-32 of R235 (IEEE 802.3 polynomial, reflected). -/
def crc32 (bs : Bytes) : Nat := crc32With 0xEDB88320 bs

/-- One byte of a CRC that runs most significant bit first over `w` bits. -/
def crcMsbByte {w : Nat} (poly r : BitVec w) (b : Byte) : BitVec w :=
  (List.range 8).foldl (fun a _ => if a.msb then (a <<< 1) ^^^ poly else a <<< 1)
    (r ^^^ (b.setWidth w <<< (w - 8)))

/-- CRC-16/CCITT-FALSE of R151. -/
def crc16 (bs : Bytes) : Nat := (bs.foldl (crcMsbByte 0x1021) (0xFFFF : BitVec 16)).toNat

/-- CRC-8 of a display row, polynomial 0x07, initial value 0 (R401). -/
def crc8 (bs : Bytes) : Nat := (bs.foldl (crcMsbByte 0x07) (0 : BitVec 8)).toNat

/-- The first 64 primes, from which FIPS 180-4 takes the constants of SHA-256. -/
def shaPrimes : List Nat := (List.range 312).filter fun n => 2 ≤ n && (List.range 18).all fun d => d < 2 || n ≤ d || n % d != 0

/-- The largest number of `j` more bits than `r` whose `k`-th power does not exceed `n`. -/
def rootBits (k n : Nat) : Nat → Nat → Nat
  | 0, r => r
  | j + 1, r => rootBits k n j (if (r + 2 ^ j) ^ k ≤ n then r + 2 ^ j else r)

/-- The first 32 bits of the fraction of the `k`-th root of a prime. -/
def rootFraction (k p : Nat) : BitVec 32 := BitVec.ofNat 32 (rootBits k (p * 2 ^ (32 * k)) 36 0)

/-- The words that a block has produced so far, newest first: those of the first chain (a to d of FIPS 180-4) and of the second
(e to h). -/
abbrev ShaChains := List (BitVec 32) × List (BitVec 32)

/-- The xor of three rotations of a word, of which the last may be a shift. -/
def shaMix (shift : Bool) (i j k : Nat) (x : BitVec 32) : BitVec 32 :=
  x.rotateRight i ^^^ x.rotateRight j ^^^ (if shift then x >>> k else x.rotateRight k)

/-- The chains after one more word of each: `kw` is the sum of the constant and of the schedule's word. -/
def shaStep (c : ShaChains) (kw : BitVec 32) : ShaChains :=
  match c.1, c.2 with
  | p :: q :: r :: u :: _, x :: y :: z :: v :: _ =>
    let t := v + shaMix false 6 11 25 x + (if_ x y z) + kw
    ([t + shaMix false 2 13 22 p + majority p q r, p, q, r], [u + t, x, y, z])
  | _, _ => c
where
  /-- Bits of `y` where `x` is 1, of `z` where it is 0. -/
  if_ (x y z : BitVec 32) : BitVec 32 := z ^^^ (x &&& (y ^^^ z))
  /-- Each bit as most of the three have it. -/
  majority (p q r : BitVec 32) : BitVec 32 := (p &&& (q ||| r)) ||| (q &&& r)

/-- The schedule of a block, newest word first, with `n` words more. -/
def shaSchedule : Nat → List (BitVec 32) → List (BitVec 32)
  | 0, w => w
  | n + 1, w =>
    let back (k : Nat) : BitVec 32 := w.getD (k - 1) 0
    shaSchedule n ((shaMix true 17 19 10 (back 2) + back 7 + shaMix true 7 18 3 (back 15) + back 16) :: w)

/-- The chains after a block of 16 words. -/
def shaBlock (c : ShaChains) (block : List (BitVec 32)) : ShaChains :=
  let ks := shaPrimes.map (rootFraction 3)
  let r := (List.zipWith (· + ·) ks (shaSchedule 48 block.reverse).reverse).foldl shaStep c
  (List.zipWith (· + ·) c.1 r.1, List.zipWith (· + ·) c.2 r.2)

/-- The big-endian bytes of a number. -/
def beBytes (n v : Nat) : Bytes := (le n v).reverse

/-- A message padded to whole blocks. -/
def shaPad (m : Bytes) : Bytes :=
  m ++ [0x80] ++ List.replicate ((119 - m.length % 64) % 64) 0 ++ beBytes 8 (8 * m.length)

/-- The big-endian words of a message, block by block. -/
def shaBlocks (m : Bytes) : List (List (BitVec 32)) :=
  (List.range (m.length / 64)).map fun b => (List.range 16).map fun i => BitVec.ofNat 32 (num ((m.drop (64 * b + 4 * i)).take 4).reverse)

/-- SHA-256, 32 bytes. -/
def sha256 (m : Bytes) : Bytes :=
  let start := (shaPrimes.take 8).map (rootFraction 2)
  let c := (shaBlocks (shaPad m)).foldl shaBlock (start.take 4, start.drop 4)
  (c.1 ++ c.2).flatMap fun w => beBytes 4 w.toNat

/-- HMAC-SHA-256, 32 bytes. -/
def hmac (key m : Bytes) : Bytes :=
  let k := if key.length > 64 then sha256 key else key
  let k := k ++ List.replicate (64 - k.length) 0
  sha256 (k.map (· ^^^ 0x5c) ++ sha256 (k.map (· ^^^ 0x36) ++ m))

/-- HKDF-SHA-256 with no salt: 32 bytes of output for an input key and an info string (R336). -/
def hkdf (ikm info : Bytes) : Bytes := hmac (hmac (List.replicate 32 0) ikm) (info ++ [1])

/-- The legal checksum (R115): the first 4 bytes of SHA-256 over the mask-ROM identity and the contents of the legal parameters, in
ascending order. -/
def checksumOf (content : Nat → Bytes) : Bytes :=
  (sha256 ((List.range 32).map Config.romId ++ legalIds.flatMap fun id => le 2 id ++ le 2 (content id).length ++ content id)).take 4

/-- The default content of an object. -/
def defaultContent (id : Nat) : Bytes := ((layout id).map Layout.defaults).getD []

end Sys2Proof.Machine
end

