-- ==== Sys2Proof/Machine/State.lean ====
section
/-! DEFINITION. The state of the module as plain data, the reasons a step can stop, and the state after reset. Every
field's default value is its value at reset; the rule that names a field stands at the field. Instants named "osc" count
microseconds of the reference oscillator (R53), durations are in microseconds unless said otherwise. -/

namespace Sys2Proof.Machine

open Sys2Proof

/-- Life-cycle states (R346), coded 0 BLANK to 5 RETIRED. -/
inductive Lifecycle where
  | blank | manufactured | calibrated | provisioned | commissioned | retired
  deriving DecidableEq, Repr

/-- Power states (R432), coded in this order from 0. -/
inductive PowerState where
  | active | quiet | standby | backup | off
  deriving DecidableEq, Repr

/-- Start classes (R9): cold start, power return, warm reset, wake from STANDBY. -/
inductive StartClass where
  | c | p | w | s
  deriving DecidableEq, Repr

/-- States of the phase clock (R22), coded in this order from 0. -/
inductive ClkState where
  | acquire | locked | holdover | deadReckon
  deriving DecidableEq, Repr

/-- Bay states (R134), coded in this order from 0. -/
inductive BayState where
  | disabled | idle | occupied | ready | closing | energised | opening | weldCheck | fault | welded
  deriving DecidableEq, Repr

/-- Filtered CP states (R134), coded in this order from 0. -/
inductive CpState where
  | a | b | c | d | e | f | invalid | diodeFault
  deriving DecidableEq, Repr

/-- Proximity classes (R134, R139), coded in this order from 0. -/
inductive PpClass where
  | noCable | a13 | a20 | a32 | a63 | invalid | tethered
  deriving DecidableEq, Repr

/-- How the CPO pin is driven (R135). -/
inductive CpoDrive where
  | stateF | steady | pwm
  deriving DecidableEq, Repr

/-- Context states (R181), coded in this order from 0. -/
inductive CtxState where
  | free | reserved | authorised | bound | energising | charging | suspendedEv | suspendedEvse | finishing | closed
  deriving DecidableEq, Repr

/-- Key slot states (R334), coded in this order from 0. -/
inductive KeyState where
  | empty | valid | orphaned
  deriving DecidableEq, Repr

/-- Brake van states (R271), coded in this order from 0. -/
inductive VanState where
  | ready | recoupling | out | failed
  deriving DecidableEq, Repr

/-- Image states (R355), coded in this order from 0. -/
inductive ImageState where
  | idle | receiving | verifying | staged | activating | trial | fallenBack
  deriving DecidableEq, Repr

/-! ### The phase clock and module time -/

/-- The phase clock (R22 to R29). -/
structure PhaseClock where
  /-- CYCLE of PCLK_STATUS, wrapping at 2^32 (R29). -/
  cycle        : BitVec 32 := 0
  /-- ANGLE, 0 to 4 095 au. -/
  angle        : Nat := 0
  /-- Part of an au not yet counted, in 10^-9 au, of the reckoned angle. -/
  angleRem     : Nat := 0
  /-- STATE; DEAD_RECKON at start-up (R22). -/
  state        : ClkState := .deadReckon
  /-- FREQ in mHz. -/
  freq         : Nat := 0
  /-- PHASE_ERR in au. -/
  phaseErr     : Int := 0
  /-- RELOCK_COUNT, saturating at 65 535. -/
  relockCount  : Nat := 0
  /-- CYCLE_START, module time of the start instant. -/
  cycleStart   : Nat := 0
  /-- Consecutive cycles with each loss condition of R23: voltage, frequency, phase error. -/
  lossVoltage  : Nat := 0
  lossFreq     : Nat := 0
  lossPhase    : Nat := 0
  /-- Consecutive cycles without any loss condition. -/
  goodCycles   : Nat := 0
  /-- Consecutive cycles of ACQUIRE with |phase error| at most 4 au (R22, R25). -/
  pullInCycles : Nat := 0
  /-- Cycles of HOLDOVER elapsed. -/
  holdCycles   : Nat := 0
  /-- The transition cycle of R25 has begun: its cycle count. -/
  transition   : Option (BitVec 32) := none
  /-- A STREAM_FAULT is present on REF_SD_UA (R43). -/
  refFault     : Bool := false
  /-- The whole of the present cycle has been in LOCKED (R59). -/
  lockedCycle  : Bool := false
  /-- What falls due at angle 2 048 of the present cycle has been done (R30). -/
  halfDone     : Bool := false
  deriving DecidableEq, Repr

/-- An accepted clock step that waits for its boundary (R95): the requested time, the world that asked, the key slot of a
signed step or 0xFFFF, and module time at acceptance. -/
structure ClockStep where
  newTime : Nat
  oldTime : Nat
  world   : Nat
  keySlot : Nat
  deriving DecidableEq, Repr

/-- Module time and the reference oscillator (R31, R32, R53, R92 to R98). -/
structure TimeBase where
  /-- Microseconds of the reference oscillator since the start of counting. -/
  osc        : Nat := 0
  /-- Module time (R7). -/
  now        : Nat := 0
  /-- Module time is valid (R98). -/
  valid      : Bool := false
  /-- Slew still to absorb, in µs (R92). -/
  slew       : Int := 0
  /-- Microseconds since the last slewed microsecond; one is slewed in every 2 000 (500 ppm). -/
  slewPhase  : Nat := 0
  /-- The nonce of the latest GET_TIME reply, unless used (R93). -/
  nonce      : Option Bytes := none
  /-- An accepted step not yet in force (R95). -/
  step       : Option ClockStep := none
  /-- Oscillator instant of the strobe that opened the cycle in progress (R53). -/
  cycleOsc   : Nat := 0
  deriving DecidableEq, Repr

/-! ### Command ports -/

/-- A packet the module sends (R278). -/
structure OutPkt where
  world   : Nat
  op      : Nat
  tag     : Nat
  frag    : Nat := 0
  mf      : Bool := false
  dup     : Bool := false
  ntf     : Bool := false
  payload : Bytes
  /-- The CRC-32C over header and payload (R279). -/
  trailer : Nat := 0
  deriving DecidableEq, Repr

/-- A notification: opcode, the prefix fields of R288 and the payload after the prefix. -/
structure Ntf where
  op        : Nat
  nseq      : Nat := 0
  cmdTag    : Nat := 0
  cmdOp     : Nat := 0
  cmdStatus : Nat := 0
  payload   : Bytes
  deriving DecidableEq, Repr

/-- An entry of the duplicate window (R284). -/
structure DupEntry where
  tag     : Nat
  op      : Nat
  world   : Nat
  len     : Nat
  trailer : Nat
  reply   : Bytes
  deriving DecidableEq, Repr

/-- An open reassembly (R286). -/
structure Reassembly where
  tag      : Nat
  op       : Nat
  world    : Nat
  next     : Nat
  data     : Bytes
  deadline : Nat
  deriving DecidableEq, Repr

/-- A challenge of OPEN_WORLD (R301). -/
structure Challenge where
  world    : World
  value    : Bytes
  deadline : Nat
  deriving DecidableEq, Repr

/-- A staged parameter object with the version of its active object (R331). -/
structure Staged where
  id      : Nat
  version : Nat
  data    : Bytes
  deriving DecidableEq, Repr

/-- The command a later notification completes (R282): its port, tag and opcode. -/
structure CmdRef where
  port : HostPort
  tag  : Nat
  op   : Nat
  deriving DecidableEq, Repr

/-- One command port (R277). -/
structure PortState where
  /-- The world open on the port, HOST when no other is (R302). -/
  world       : World := .host
  /-- Instant at which the open world closes for want of packets (R302). -/
  worldIdle   : Nat := 0
  /-- Challenges given and not yet used (R301). -/
  challenges  : List Challenge := []
  /-- Refusals in a row of OPEN_WORLD, by world 0 to 3 (R301). -/
  refusals    : List Nat := [0, 0, 0, 0]
  /-- End of the 60 s refusal, by world. -/
  lockouts    : List (Option Nat) := [none, none, none, none]
  /-- Tags outstanding (R282). -/
  outstanding : List Nat := []
  /-- The duplicate window, newest first, at most 256 (R284). -/
  dups        : List DupEntry := []
  /-- The open reassembly (R286). -/
  reassembly  : Option Reassembly := none
  /-- Queued notifications, oldest first, at most 128 (R289). -/
  ntfQueue    : List Ntf := []
  /-- DROPPED of GET_STATUS (R289). -/
  dropped     : Nat := 0
  /-- The next NSEQ (R288). -/
  nseq        : Nat := 0
  /-- Packets handed to the transport, oldest first. -/
  txQueue     : List OutPkt := []
  /-- The packet, or the fragments of the reply, sent last. -/
  lastTx      : List OutPkt := []
  /-- The bytes that went out on HOST_MISO in the last whole transaction, or on UART_TX with the last packets (R296, R299). -/
  wire        : Bytes := []
  /-- Bit 0 of the SPI status byte: the previous host packet failed framing (R296). -/
  framingFail : Bool := false
  /-- The length and the status byte that the module sent first in the last SPI transaction (R296). -/
  lastHead    : Nat × Nat := (0, 0)
  /-- The staging set, at most 64 objects (R331). -/
  staging     : List Staged := []
  deriving DecidableEq, Repr

/-- The UART rate (R300): the rate in use, and whether the 10 s after a start still run without a valid packet. -/
structure UartState where
  baud         : Nat := 115200
  fallbackWait : Option Nat := none
  fallenBack   : Bool := false
  deriving DecidableEq, Repr

/-- A command journal entry written since the last control checkpoint (R261): packet fields, acceptance instant and, once
sent, the reply. -/
structure JournalEntry where
  port    : HostPort
  world   : Nat
  op      : Nat
  tag     : Nat
  payload : Bytes
  instant : Nat
  reply   : Bytes
  deriving DecidableEq, Repr

/-! ### Parameter objects -/

/-- A parameter object: its content as bytes and its version (R331). -/
structure ParamObj where
  id      : Nat
  data    : Bytes
  version : Nat := 0
  deriving DecidableEq, Repr

/-- A legal parameter write stored and not yet in force (R114, R116). -/
structure LegalWrite where
  id     : Nat
  offset : Nat
  data   : Bytes
  deriving DecidableEq, Repr

/-! ### Bays -/

/-- Control pilot and proximity of a bay (R135 to R139, R466). -/
structure BayPilot where
  /-- The state filtered last; while state F is driven, the one before that drive began (R466). -/
  cp          : CpState := .a
  /-- Proximity class. -/
  pp          : PpClass := .noCable
  /-- Drive of CPO in force. -/
  drive       : CpoDrive := .stateF
  /-- Duty in 0.1 %, 0 for no PWM. -/
  duty        : Nat := 0
  /-- Drive and duty that take effect at the next cycle boundary (R135). -/
  next        : Option (CpoDrive × Nat) := none
  /-- A safe stop outside FAULT holds state F until the weld check has passed (R466). -/
  stopHold    : Bool := false
  /-- A filtered CP A must be seen before the bay takes a session (R466, R249). -/
  awaitA      : Bool := false
  /-- The bay has left state F and the first filtered state, which decides IDLE or OCCUPIED, has not been seen (R466, R134). -/
  awaitFirst  : Bool := false
  /-- Current offered, in mA (R138). -/
  offered     : Nat := 0
  deriving DecidableEq, Repr

/-- Guard channels and the guard start-up test (R140, R141). -/
structure BayGuard where
  /-- Channel A and B closed. -/
  aClosed   : Bool := false
  bClosed   : Bool := false
  /-- Since when the channels differ, and whether it was channel B that changed. -/
  diffSince : Option Nat := none
  diffB     : Bool := false
  /-- Direction of the last change the pair made together: some true when both opened within 50 ms of each other, some
  false when both closed so. -/
  lastPair  : Option Bool := none
  /-- GST_OK. -/
  gstOk     : Bool := false
  deriving DecidableEq, Repr

/-- A lock drive in progress (R142): attempts begun, direction, start, and whether the pulse still runs. -/
structure LockDrive where
  attempt : Nat
  locking : Bool
  start   : Nat
  pulse   : Bool
  deriving DecidableEq, Repr

/-- The lock of a bay (R142, R143). -/
structure BayLock where
  /-- LKF shows the locked level. -/
  feedback    : Bool := false
  /-- LOCKED: confirmed in locked position. -/
  locked      : Bool := false
  /-- A drive is in progress. -/
  drive       : Option LockDrive := none
  /-- The bridge of a held solenoid is energised in the locking direction (R142). -/
  held        : Bool := false
  /-- A weld check has passed since the last open (R143). -/
  weldPassed  : Bool := false
  /-- Since when UO has been below 30 V with the contactor open (R143). -/
  uoLowSince  : Option Nat := none
  /-- The bay was energised in the present session (R143). -/
  wasEnergised : Bool := false
  deriving DecidableEq, Repr

/-- The contactor of a bay (R144 to R149). -/
structure BayCoil where
  /-- Coil channel commanded on by the bay. -/
  on         : Bool := false
  /-- Issue instant of the close in progress. -/
  closeAt    : Option Nat := none
  /-- The normal open of a DC bay waits for |i_dc| below 5 A since this instant (R155). -/
  dcOpenAt   : Option Nat := none
  /-- Instant the coil was switched off, while WELD_CHECK runs (R149). -/
  openAt     : Option Nat := none
  /-- A suspend open waits: instant at which it falls due (R203). -/
  suspendAt  : Option Nat := none
  /-- UA passed 50 V at this instant on a DC bay whose closure is not confirmed (R155). -/
  ua50At     : Option Nat := none
  /-- The last 16 valid operate times in µs, newest first (R145). -/
  operate    : List Nat := []
  /-- The last 16 valid release times in µs, newest first (R147). -/
  release    : List Nat := []
  /-- Invalid measurements in a row. -/
  badOperate : Nat := 0
  badRelease : Nat := 0
  /-- The coil channel has been on at some instant of the present cycle (R58). -/
  onInCycle  : Bool := false
  /-- The bay goes to FAULT when the open completes, with this cause of NTF_BAY event 0 (R148, R291). -/
  faulting   : Option Nat := none
  /-- Cause, as NTF_BAY event 0 codes it, of the open in progress (R291). -/
  openCause  : Nat := 0
  /-- The close that a CTX_START has queued waits for a residual self-test; the execution point it carried. Without one the close is
  placed once the test has passed (R219, R144). -/
  startWait  : Option (Option (BitVec 32 × Nat)) := none
  /-- The cycle of the bay's last trip (R156). -/
  tripCycle  : Option (BitVec 32) := none
  /-- The bay goes to DISABLED when the open completes, with the commands that asked for it (R312). -/
  disabling  : Bool := false
  disableCmds : List CmdRef := []
  /-- Trip line sources (R211): gale path of ME-A, of ME-B, per-cycle evaluation. -/
  galeA      : Bool := false
  galeB      : Bool := false
  residual   : Bool := false
  deriving DecidableEq, Repr

/-- The residual self-test of a bay (R219). -/
structure SelfTest where
  /-- End of the running test. -/
  runningTo  : Option Nat := none
  /-- Failures so far of the test in progress. -/
  failures   : Nat := 0
  /-- ires_dc and ires_ac of the cycles of the running test, oldest first: two before the pulse, three in it, two after it. -/
  values     : List (Int × Nat) := []
  /-- BAYnn_RTS drives 10 mA. -/
  rts        : Bool := false
  /-- A pass is valid until this instant and for the next close only. -/
  passUntil  : Option Nat := none
  /-- BAY_TEST_RESIDUAL that started it. -/
  cmd        : Option CmdRef := none
  deriving DecidableEq, Repr

/-- What the safety cores and the metering pair keep for a bay (R216, R219, R222, R225, R226, R227, R249). -/
structure BaySafety where
  /-- Permission to energise, valid until this instant (R222). -/
  permitUntil : Option Nat := none
  /-- The enables of SC-1 and SC-2 for the coil channel (R211). -/
  enable1     : Bool := false
  enable2     : Bool := false
  selfTest    : SelfTest := {}
  /-- Residual trip timers DC1, DC2, AC2 in µs (R216). -/
  timers      : List Nat := [0, 0, 0]
  /-- DC1 is held at 0 until this instant (R219). -/
  dc1HoldTo   : Nat := 0
  /-- An SDE trip is latched until a filtered CP A (R249). -/
  sdeFirst    : Bool := false
  /-- SDE_LATCH (R248). -/
  sdeLatch    : Bool := false
  /-- Instant of the last SDE trip, for the 24 h of R249. -/
  sdeLast     : Option Nat := none
  /-- WELDED latch (R227). -/
  weldLatch   : Bool := false
  /-- Offers of the last 6 s: instant of effect and current in mA, newest first (R225). -/
  offers      : List (Nat × Nat) := []
  /-- SLC limit that applied to the last committed cycle, in mA. -/
  slcLimit    : Nat := 0
  /-- Uninterrupted time in excess of the three phases, in µs (R225). -/
  excess      : List Nat := [0, 0, 0]
  /-- A phase was in excess in the first cycle of a new limit (R225). -/
  cutExcess   : Bool := false
  /-- Consecutive time below −100 W without permission, in µs (R226). -/
  exportUs    : Nat := 0
  /-- Unpermitted export since the contactor last closed, in 2^-32 mWh (R226). -/
  exportE     : Nat := 0
  /-- Time UO has stayed at or above 30 V on the open bay, in µs (R227). -/
  uoHighUs    : Nat := 0
  deriving DecidableEq, Repr

/-- Quantities of one phase (R51, R52). -/
structure PhaseQ where
  uRms  : Nat := 0
  iRms  : Nat := 0
  p     : Int := 0
  qf    : Int := 0
  qt    : Int := 0
  s     : Nat := 0
  pf    : Int := 0
  phiUi : Int := 0
  phiUu : Int := 0
  deriving DecidableEq, Repr

/-- Quantities of one cycle of a bay (R52, R56, R57, R317). -/
structure CycleQ where
  cycle  : Nat := 0
  status : Nat := 0
  phases : List PhaseQ := [{}, {}, {}]
  uo     : Nat := 0
  pTot   : Int := 0
  qfTot  : Int := 0
  qtTot  : Int := 0
  sTot   : Nat := 0
  pfTot  : Int := 0
  iresDc : Int := 0
  iresAc : Nat := 0
  uDc    : Int := 0
  iDc    : Int := 0
  uoDc   : Int := 0
  pDc    : Int := 0
  freq   : Nat := 0
  deriving DecidableEq, Repr

/-- The injector's settings of one stream (R60): r.m.s. value of the fundamental, DC component and r.m.s. value of the harmonic in
10^-8 of the stream's unit, phase against L1 in 0.01°, order of the harmonic. -/
structure Injection where
  rms     : Nat := 0
  phase   : Int := 0
  dc      : Int := 0
  order   : Nat := 2
  harmRms : Nat := 0
  deriving DecidableEq, Repr

/-- Metering state of a bay (R43, R58, R59, R61). -/
structure BayMeter where
  /-- Quantities of the last committed cycle. -/
  q           : CycleQ := {}
  /-- RUN flags of phases 1 to 3: active, reactive, apparent (R58). -/
  runActive   : List Bool := [false, false, false]
  runReactive : List Bool := [false, false, false]
  runApparent : List Bool := [false, false, false]
  /-- STREAM_FAULT present, by stream (R43). -/
  faults      : List Bool := [false, false, false, false, false, false, false, false]
  /-- Consecutive cycles without the condition, by stream, and whether the present cycle has seen it. -/
  faultClear  : List Nat := [0, 0, 0, 0, 0, 0, 0, 0]
  faultSeen   : List Bool := [false, false, false, false, false, false, false, false]
  /-- The bay is under METER_SELFTEST (R61). -/
  underTest   : Bool := false
  /-- The injector's settings in force, by stream, none while the modulators drive the bay (R60); and those that take over with
  the next cycle. -/
  inject      : List Injection := []
  injectNext  : Option (List Injection) := none
  /-- Test registers (R61): accumulators of R70, cleared at the start of the test; and as they stood when the step's settings
  came into force. -/
  testRegs    : List Nat := List.replicate 45 0
  testBase    : List Nat := List.replicate 45 0
  /-- The step's settings are in force. Every cycle of the step after the first had RUN_ACTIVE set; every ires_ac lay within
  its band (R62). -/
  testLive    : Bool := false
  testRunOk   : Bool := true
  testAcOk    : Bool := true
  testCycles  : Nat := 0
  testUs      : Nat := 0
  /-- Set-up, calibration or REF_CAL took effect at the start of the present cycle (R59). -/
  calChanged  : Bool := false
  deriving DecidableEq, Repr

/-- The converter of a DC bay as the module sees it (R150 to R155, R220). -/
structure BayConverter where
  /-- STATUS: state, output voltage in mV, output current in mA, temperature in 0.1 °C, flags; last valid instant. -/
  status    : Nat := 0
  outMv     : Nat := 0
  outMa     : Int := 0
  temp      : Int := 0
  flags     : Nat := 0
  statusAt  : Option Nat := none
  /-- Last alive counter of STATUS, ISO_MONITOR, CAPABILITY and FAULT. -/
  alive     : List (Option Nat) := [none, none, none, none]
  /-- ISO_MONITOR: status, resistance, test voltage; last valid instant. -/
  iso       : Nat := 0
  isoOhm    : Nat := 0
  isoMv     : Nat := 0
  isoAt     : Option Nat := none
  /-- CAPABILITY: known, export supported, maximum voltage, current and power. -/
  capKnown  : Bool := false
  capExport : Bool := false
  capMv     : Nat := 0
  capMa     : Nat := 0
  capMw     : Nat := 0
  /-- CONFIG sent at this instant and not yet answered, and the commands it completes. -/
  configAt  : Option Nat := none
  configCmds : List CmdRef := []
  /-- CAPABILITY did not come (R154). -/
  capFailed : Bool := false
  /-- Fault code of a severity 1 FAULT not yet acknowledged (R154). -/
  faultCode : Option Nat := none
  /-- Alive counters of HEARTBEAT, SETPOINT, CONFIG and FAULT_ACK (R151). -/
  txAlive   : List Nat := [0, 0, 0, 0]
  /-- RUN is held at 0 for the node (R223). -/
  runHeld   : Bool := false
  /-- SETPOINT: mode, voltage in mV, current in mA, power in mW (R152). -/
  setMode   : Nat := 0
  setMv     : Nat := 0
  setMa     : Int := 0
  setMw     : Nat := 0
  /-- The vehicle's requested current in transfer, negative for export. -/
  wantMa    : Int := 0
  deriving DecidableEq, Repr

/-- The vehicle link of a bay (R158 to R165, R167, R179). -/
structure BayLink where
  /-- LINK: 0 idle, 1 SLAC, 2 matched, 3 V2G session, 4 lost. -/
  link      : Nat := 0
  /-- Draw number of the NMK of the match (R163). -/
  nmk       : Nat := 0
  /-- The attenuation profile reported to the vehicle, by carrier group in 0.1 dB, and its mean (R163, R179). -/
  profile   : List Nat := []
  atten     : Nat := 0
  /-- Beacon periods of the bay's logical network (R177). -/
  beacons   : Nat := 0
  /-- The offered current in mA that the session's messages carried last (R138). -/
  told      : Option Nat := none
  framesOk  : Nat := 0
  framesBad : Nat := 0
  erasures  : Nat := 0
  /-- ISO 15118 part of the session: 0 none, 2 or 20. -/
  part      : Nat := 0
  /-- The session runs on TLS. -/
  tls       : Bool := false
  /-- Bidirectional transfer marked with BPT_EN set (R226). -/
  bpt       : Bool := false
  /-- Requested maximum in mA and mW, 0 none (R201). -/
  reqMa     : Nat := 0
  reqMw     : Nat := 0
  /-- Squares of the last unblanked samples, newest first (R167). -/
  rms       : List Nat := []
  /-- MAC retransmissions of the frame under way to the vehicle, at most 3 (R169). -/
  retries   : Nat := 0
  /-- The vehicle-link settings in force when SLAC started (R164): V2G_CONFIG as a number. -/
  config    : Nat := 0
  deriving DecidableEq, Repr

/-- One bay. -/
structure Bay where
  /-- STATE of R134. -/
  state      : BayState := .disabled
  /-- BAY_ENABLE is in effect (R134, R312). -/
  enabled    : Bool := false
  /-- FAULT_CODE of R134: the cause that NTF_BAY event 0 reported for the change to FAULT or WELDED (R291). -/
  faultCode  : Nat := 0
  /-- Bound context (R134). -/
  ctx        : Option Nat := none
  /-- Cap of BAY_SET_LIMIT in mA (R313). -/
  limitCap   : Nat := 0
  /-- Since when the bay waits for a context (R189 step 4). -/
  waitingAt  : Option Nat := none
  /-- Reasons of NTF_BAY event 2 reported and still in force (R139, R141, R137, R201). -/
  noted      : List Nat := []
  pilot      : BayPilot := {}
  guards     : BayGuard := {}
  lock       : BayLock := {}
  coil       : BayCoil := {}
  safety     : BaySafety := {}
  meter      : BayMeter := {}
  conv       : BayConverter := {}
  link       : BayLink := {}
  deriving DecidableEq, Repr

/-! ### Session contexts -/

/-- One entry of the limit history (R185). -/
structure LimitChange where
  time : Nat
  kind : Nat
  old  : Nat
  new  : Nat
  deriving DecidableEq, Repr

/-- One period of the charging profile (R185, R186): start in s, caps in mA and mW. -/
structure ProfilePeriod where
  start : Nat
  capMa : Nat
  capMw : Nat
  deriving DecidableEq, Repr

/-- Readings of a session (R120): module time, cycle, A_IMP and A_EXP. -/
structure Reading where
  time  : Nat
  cycle : Nat
  aImp  : Nat
  aExp  : Nat
  deriving DecidableEq, Repr

/-- A wait for the host (R192): its end, the reason and origin of NTF_AUTH_REQUEST, and the identifier. -/
structure HostWait where
  deadline : Nat
  reason   : Nat
  origin   : Nat
  ident    : Bytes
  deriving DecidableEq, Repr

/-- A Plug & Charge verification that waits for OCSP responses (R194). -/
structure PncWait where
  chain : PncChain
  deriving DecidableEq, Repr

/-- The header fields of a context (R185). -/
structure CtxHeader where
  state      : CtxState := .free
  bay        : Option Nat := none
  priority   : Nat := 3
  byModule   : Bool := false
  authSrc    : Nat := 0xF
  endCause   : Nat := 0xFF
  reserveBay : Option Nat := none
  nLimits    : Nat := 0
  cred       : Bytes := []
  attr       : Nat := 0
  iLimit     : Nat := 0
  iGuar      : Nat := 0
  iGrant     : Nat := 0
  timeLimit  : Nat := 0
  quota      : Nat := 0
  quotaOrig  : Nat := 0
  tOpen      : Nat := 0
  expiry     : Nat := 0
  /-- SES_IMP and SES_EXP in 2^-32 mWh. -/
  sesImp     : Nat := 0
  sesExp     : Nat := 0
  tStart     : Nat := 0
  flags      : Nat := 0
  seq        : Nat := 0
  pLimit     : Nat := 0
  deriving DecidableEq, Repr

/-- What the control engine and the legal domain keep for a context beside its header. -/
structure CtxWork where
  limits       : List LimitChange := []
  profile      : List ProfilePeriod := []
  /-- ISO 15118 SessionID (R165). -/
  sessionId    : Bytes := []
  /-- The context has entered ENERGISING (R183). -/
  energised    : Bool := false
  /-- Oscillator instant of the first entry into CHARGING (R187). -/
  chargingAt   : Option Nat := none
  /-- Oscillator instant of the opening boundary T_START, for the profile's elapsed time (R186). -/
  boundAt      : Option Nat := none
  hostWait     : Option HostWait := none
  /-- OFFLINE has decided the host request: some true allowed, some false denied (R193). -/
  offline      : Option Bool := none
  pnc          : Option PncWait := none
  /-- CTX_START and CTX_RESUME whose completion is outstanding (R467, R188). -/
  startCmd     : Option CmdRef := none
  resumeCmds   : List CmdRef := []
  /-- Reader port of the card that opened the context (R193). -/
  reader       : Option Nat := none
  /-- Suspended by CTX_SUSPEND (R201). -/
  byHost       : Bool := false
  /-- Suspended by a power return and not resumed since (R183). -/
  afterPower   : Bool := false
  /-- Cut reservations (R204), the latest first: the end of each and the reserved current in mA. -/
  cuts         : List (Nat × Nat) := []
  /-- The last grant broke the guarantee (R202). -/
  broken       : Bool := false
  /-- FINISHING falls due at the next boundary (R206). -/
  quotaEnd     : Bool := false
  opening      : Option Reading := none
  closing      : Option Reading := none
  /-- Legal checksum in force at the closing boundary (R122 key 14). -/
  closeSum     : Bytes := []
  /-- The contactor has opened or the binding ended: closing readings follow the next commit (R120). -/
  closeDue     : Bool := false
  /-- Session energy by tariff index 1 to 16: import and export in 2^-32 mWh (R122 key 9). -/
  tariffs      : List (Nat × Nat) := List.replicate 16 (0, 0)
  calId        : Nat := 0
  takeovers    : Nat := 0
  outages      : Nat := 0
  /-- The record waits for a slot or a key (R126, R121). -/
  recordWait   : Bool := false
  deriving DecidableEq, Repr

/-- One session context (R181, R185). -/
structure Ctx where
  hd : CtxHeader := {}
  wk : CtxWork := {}
  deriving DecidableEq, Repr

/-! ### Timed actions -/

/-- What a queued action does (R36). -/
inductive ActionKind where
  | close (ctx : Nat)
  | normalOpen
  | lsw (on : Bool)
  deriving DecidableEq, Repr

/-- An entry of the timed-action queue (R36): load channel driven, bay if one holds it, issue point, command. -/
structure QEntry where
  chan   : Nat
  bay    : Option Nat
  kind   : ActionKind
  cycle  : BitVec 32
  angle  : Nat
  /-- Target angle of an AC close, for a close put off by VHOLD (R430). -/
  target : Nat := 0
  cmd    : Option CmdRef := none
  /-- A DC close without an execution point: due as soon as R155 holds (R144). -/
  asap   : Bool := false
  /-- The entry waits for VHOLD to reach 36 V (R430). -/
  waitVhold : Bool := false
  deriving DecidableEq, Repr

/-! ### Registers, demand and profiles -/

/-- A maximum-demand record (R70). -/
structure MaxDemand where
  value    : Nat := 0
  endTime  : Nat := 0
  interval : Nat := 0
  deriving DecidableEq, Repr

/-- A register set (R70). Accumulators are in 2^-32 mWh: 0 A_IMP, 1 A_EXP, 2 to 4 A_IMP_P1 to P3, 5 to 7 A_EXP_P1 to P3, 8 to
11 Q1 to Q4, 12 S_APP, 13 to 28 T_IMP1 to T_IMP16, 29 to 44 T_EXP1 to T_EXP16. -/
structure RegSet where
  acc : List Nat := List.replicate 45 0
  /-- MD_IMP1 to 16, MD_EXP1 to 16, MD_IMP_ALL, MD_EXP_ALL. -/
  md  : List MaxDemand := List.replicate 34 {}
  deriving DecidableEq, Repr

/-- What an open interval gathers for one set (R104, R105). -/
structure IntervalSet where
  /-- Integer parts of A_IMP, A_EXP, Q1 to Q4 at the opening boundary. -/
  base   : List Nat := [0, 0, 0, 0, 0, 0]
  /-- Integer parts of A_IMP and A_EXP at the opening of the open subinterval. -/
  subBase : List Nat := [0, 0]
  iMax   : Option Nat := none
  uMin   : Option Nat := none
  /-- Status bits of R105 gathered from cycle status. -/
  status : Nat := 0
  /-- The evaluation made last replaced a maximum-demand record (R105 NEW_MAX). -/
  newMax : Bool := false
  deriving DecidableEq, Repr

/-- A closed subinterval of the sliding window (R82): per set import and export advance, and the tariff indices seen. -/
structure SubInterval where
  energy  : List (Nat × Nat)
  tariffs : List Nat
  index   : Nat
  deriving DecidableEq, Repr

/-- A stored interval of the profile ring: index, nominal start, and the 33 entries as 76-byte entries (R103). -/
structure ProfileInterval where
  index   : Nat
  entries : List Bytes
  deriving DecidableEq, Repr

/-- The last evaluation of a set (R318 DEMAND_READ). -/
structure LastDemand where
  imp     : Nat := 0
  exp     : Nat := 0
  endTime : Nat := 0
  deriving DecidableEq, Repr

/-- Demand and load-profile intervals (R79 to R83, R90, R95 to R98, R101 to R107). -/
structure Intervals where
  /-- Index of the open interval (R106). -/
  index     : Nat := 0
  /-- Nominal start of the open interval's period. -/
  start     : Nat := 0
  /-- Status bits that belong to the interval itself: POWER_DOWN, PARTIAL, CLOCK_FWD, CLOCK_BACK, DUPLICATE, TARIFF_SWITCH,
  CAL_ACTIVATED (R105). -/
  flags     : Nat := 0
  /-- Cycles attributed to the open interval and to the open subinterval. -/
  cycles    : Nat := 0
  subCycles : Nat := 0
  /-- Tariff index of the first cycle, and the indices seen in the interval and in the subinterval. -/
  tariffFirst : Nat := 1
  tariffs   : List Nat := []
  subTariffs : List Nat := []
  subStart  : Nat := 0
  sets      : List IntervalSet := List.replicate 33 {}
  /-- Closed subintervals since the window was cleared, newest first, at most 3. -/
  window    : List SubInterval := []
  /-- Latest period start recorded before a backward step, for DUPLICATE (R96). -/
  dupUntil  : Option Nat := none
  /-- Latest period start recorded. -/
  latestStart : Nat := 0
  /-- Not evaluated for demand, whatever the flags say (R437). -/
  noEval    : Bool := false
  /-- No interval is open: the last metering pair has failed (R275). -/
  closed    : Bool := false
  /-- Nominal start and end of the period evaluated last (R83). -/
  evaluated : Option (Nat × Nat) := none
  last      : List LastDemand := List.replicate 33 {}
  /-- The profile ring, newest interval first: at most 384 blocks of 104 intervals (R106). -/
  ring      : List ProfileInterval := []
  deriving DecidableEq, Repr

/-- An entry of the metrological logbook (R118), without its CRC, which is computed when it is read. -/
structure LogEntry where
  seq      : Nat
  time     : Nat
  cycle    : Nat
  type     : Nat
  world    : Nat
  checksum : Bytes
  detail   : Bytes
  deriving DecidableEq, Repr

/-- A record slot in use (R125). -/
structure RecordSlot where
  seq      : Nat
  ctx      : Nat
  bay      : Nat
  signedAt : Nat
  acked    : Bool := false
  reserve  : Bool := false
  /-- The slot is free again; its bytes stand until another record takes it. -/
  free     : Bool := false
  cose     : Bytes
  ocmf     : Bytes := []
  deriving DecidableEq, Repr

/-- A copy of the legal store (R101): cycle count of its commit, register sets, residue and backlog of the pulse outputs, those of
registers that no output carries, the open interval (without the profile ring), CRC-32C. -/
structure LegalCopy where
  cycle     : Nat
  regs      : List RegSet
  pulses    : List (Nat × Nat)
  parked    : List (Nat × Nat × Nat × Nat)
  intervals : Intervals
  crc       : Nat
  deriving DecidableEq, Repr

/-- Legal store and records (R101, R117, R124 to R126). -/
structure Legal where
  logbook     : List LogEntry := []
  /-- Legal writes that take effect at the next boundary. -/
  pending     : List LegalWrite := []
  /-- Record slots in use, oldest first; regular and reserve. -/
  records     : List RecordSlot := []
  /-- Next record sequence number. -/
  nextSeq     : Nat := 1
  /-- The store is exhausted (R125). -/
  exhausted   : Bool := false
  /-- Oscillator instant of the last legal store copy, cycle count it carries (R101). -/
  storedAt    : Nat := 0
  storedCycle : Nat := 0
  /-- The two copies, that written last first (R101). -/
  stores      : List LegalCopy := []
  /-- The 90 % and 3 840 reports have been made (R125, R117). -/
  level90     : Bool := false
  deriving DecidableEq, Repr

/-! ### Pulse outputs, harmonics, self-test of the meter -/

/-- One pulse output, PULSE0 to PULSE3 or PULSE_LED (R65 to R69). Energies are in 2^-32 mWh. -/
structure PulseOut where
  residue  : Nat := 0
  backlog  : Nat := 0
  /-- Energy of the last committed cycle still to spread, and strobes of it done. -/
  share    : Nat := 0
  strobes  : Nat := 128
  high     : Bool := false
  /-- Instant of the last pulse start, and the instant the running pulse ends. -/
  lastAt   : Option Nat := none
  endAt    : Nat := 0
  deriving DecidableEq, Repr

/-- A completed harmonic block of one stream (R55): first cycle, SHORT and NOT_LOCKED, cycles, frequency, thd, x_1 to
x_31. -/
structure HarmonicBlock where
  first     : Nat
  short     : Bool
  notLocked : Bool
  cycles    : Nat
  fBlock    : Nat
  thd       : Nat
  x         : List Nat
  deriving DecidableEq, Repr

/-- The harmonic block in progress (R55): its first cycle, opening oscillator instant, cycles, whether LOCKED was left,
and the sums of x_h[c]^2 per stream in the unit of the samples. -/
structure HarmonicWork where
  first     : Nat := 0
  osc       : Nat := 0
  cycles    : Nat := 0
  notLocked : Bool := false
  /-- Streams bay × 6 + code, then 192 to 194 the reference voltages; 31 sums each. -/
  sums      : List (List Nat) := List.replicate 195 (List.replicate 31 0)
  /-- A block has ended and its results wait to be formed. -/
  ended     : Bool := false
  deriving DecidableEq, Repr

/-- A running METER_SELFTEST (R61, R62): bays, step, end of the step, start of the step, command. -/
structure MeterTest where
  bays    : List Nat
  step    : Nat
  stepEnd : Nat
  started : Nat
  cmd     : CmdRef
  deriving DecidableEq, Repr

/-- The metering engines' common state (R39 to R69, R257, R258). -/
structure Metering where
  /-- Samples of the cycle in progress, newest strobe first; each strobe holds 260 values (R45). -/
  strobes    : List (List Int) := []
  /-- Oscillator instant of the last strobe (R89). -/
  lastStrobe : Nat := 0
  /-- The sample buffer: strobes of earlier cycles, newest first, up to four cycles (R258). -/
  buffer     : List (List (List Int)) := []
  regs       : List RegSet := List.replicate 33 {}
  /-- U_RMS of the reference streams UA, UB, UC, AUX and PHI_UU of UB and UC (R317). -/
  refU       : List Nat := [0, 0, 0, 0]
  refPhi     : List Int := [0, 0]
  /-- Site totals of the last cycle P, QF, QT, S. -/
  siteP      : Int := 0
  siteQf     : Int := 0
  siteQt     : Int := 0
  siteS      : Nat := 0
  /-- Last committed cycle. -/
  lastCycle  : Nat := 0
  pulses     : List PulseOut := List.replicate 5 {}
  harm       : HarmonicWork := {}
  blocks     : List (Option HarmonicBlock) := List.replicate 195 none
  test       : Option MeterTest := none
  /-- Tariff index in force for the cycle in progress, and that of the cycle committed last (R88, R105). -/
  tariff     : Nat := 1
  lastTariff : Option Nat := none
  /-- Cycles that carry TAKEOVER: the cycle in progress was computed or replayed by the brake van (R59). -/
  takenOver  : Bool := false
  /-- Stream faults of the reference streams REF_SD_UA, UB, UC, AUX; cycles without the condition, and whether the present
  cycle has seen it (R43). -/
  refFaults  : List Bool := [false, false, false, false]
  refClear   : List Nat := [0, 0, 0, 0]
  refSeen    : List Bool := [false, false, false, false]
  /-- Streams with a decimated value at or above 0.94 of full scale in the present cycle (R43). -/
  overSeen   : List Bool := List.replicate 260 false
  /-- The present cycle has been metered from its angle 0 on and is to hold 128 samples (R46). -/
  whole      : Bool := false
  /-- Residue and backlog of registers that no output carries now (R67): SOURCE, REGISTER, residue, backlog. -/
  parked     : List (Nat × Nat × Nat × Nat) := []
  deriving DecidableEq, Repr

/-- Tariff calendars (R84): ACTIVE and the pending slots in order of activation, each a 3 952-byte image. -/
structure Calendars where
  active  : Option Bytes := none
  pending : List Bytes := []
  deriving DecidableEq, Repr

/-! ### Authorisation and budget -/

/-- A stored credential (R196): the 16-byte entry without its hash, and the hash. -/
structure CredEntry where
  hash   : Bytes
  allow  : Bool
  cls    : Nat
  window : Nat
  template : Nat
  deriving DecidableEq, Repr

/-- A limit template (R196). -/
structure CredTemplate where
  iLimit    : Nat := 0
  iGuar     : Nat := 0
  timeLimit : Nat := 0
  quotaWh   : Nat := 0
  deriving DecidableEq, Repr

/-- The contents of one version of the credential store: entries, and the windows and templates that have been set. -/
structure CredSet where
  entries   : List CredEntry := []
  windows   : List (Nat × Nat × Nat) := []
  templates : List (Nat × CredTemplate) := []
  deriving DecidableEq, Repr

/-- An open credential batch (R198). -/
structure CredBatch where
  size   : Nat
  staged : Nat
  data   : CredSet
  deadline : Nat
  deriving DecidableEq, Repr

/-- The credential store (R197, R198). -/
structure Creds where
  live    : CredSet := {}
  version : Nat := 0
  batch   : Option CredBatch := none
  /-- Commits whose switch is not yet durable, oldest first: the set and version before, and the command (R320). -/
  commits : List (CredSet × Nat × CmdRef) := []
  lookups : Nat := 0
  chain   : Nat := 0
  /-- Cached contract chains, newest used first, at most 8, with the OCSP responses held for them (R162, R194). -/
  cache   : List (PncChain × List Bytes) := []
  deriving DecidableEq, Repr

/-- A frame sent over PLCM: its content, the carriers of TONE_MASK, the angle slot it starts in, and whether it goes in ROBO (R171,
R173, R174). -/
structure PlcFrame where
  data     : Bytes
  carriers : Nat
  slot     : Nat
  robo     : Bool
  deriving DecidableEq, Repr

/-- A curtailment limit (R173, R199). -/
structure Curtailment where
  origin : Nat
  seq    : Nat
  limits : Limits
  fromT  : Nat
  until_ : Nat
  deriving DecidableEq, Repr

/-- One grant of the allocator result (R200, R314). -/
structure Grant where
  ctx      : Nat
  bay      : Nat
  ma       : Nat
  broken   : Bool
  reserved : Bool
  deriving DecidableEq, Repr

/-- The allocator and its limit sources (R199 to R204). -/
structure Budget where
  /-- Host limits with their valid-until, and whether they have lapsed to the fallback set. -/
  host       : Option (Limits × Nat) := none
  hostLapsed : Bool := false
  /-- Site-link limits, valid-until, instant of the last frame; lost coordinator. -/
  site       : Option (Limits × Nat) := none
  siteSeen   : Option Nat := none
  siteLost   : Bool := false
  /-- A peer connection is lost (R241). -/
  peerLost   : Bool := false
  curtail    : List Curtailment := []
  /-- Curtailment frames sent over PLCM (R173). -/
  relay      : List PlcFrame := []
  ownSeq     : Nat := 0
  /-- Coordinator frame sent last, and when (R330). -/
  sent       : Option CoordFrame := none
  sentAt     : Option Nat := none
  /-- A recomputation is due (R200), and the second of module time last computed. -/
  dirty      : Bool := false
  lastSecond : Nat := 0
  /-- The limits of the last recomputation (R200). -/
  used       : Option Limits := none
  /-- A result waiting for the next boundary with the cycle it was computed in, and the last result in effect with its
  cycle. -/
  next       : Option (List Grant) := none
  nextCycle  : Nat := 0
  last       : List Grant := []
  lastCycle  : Nat := 0
  deriving DecidableEq, Repr

/-! ### Safety -/

/-- A safety object held by a core (R232). -/
structure SafetyObj where
  id   : Nat
  data : Bytes
  deriving DecidableEq, Repr

/-- A connection to a peer module (R238 to R241). -/
structure Peer where
  up       : Bool := false
  /-- Last accepted sequence number and its frame. -/
  rxSeq    : Option Nat := none
  rxFrame  : Bytes := []
  /-- Instant of the last accepted frame; where there is none, since when one is expected. Instant at which the connection came up. -/
  lastAt   : Nat := 0
  upAt     : Nat := 0
  lastA    : Option Nat := none
  lastB    : Option Nat := none
  onePort  : Bool := false
  txSeq    : Nat := 0
  /-- Groups the peer's frames mark under emergency stop and overload trip. -/
  estop    : Nat := 0
  overload : Nat := 0
  /-- Lost after having been up (R241). -/
  lost     : Bool := false
  /-- The frame sent last. -/
  txFrame  : Bytes := []
  deriving DecidableEq, Repr

/-- Safety cores, inputs, outputs and latches (R211 to R249). -/
structure Safety where
  confirmed  : Bool := false
  /-- The block as each core holds it. -/
  sc1Block   : List SafetyObj := safetyIds.map fun id => { id := id, data := ((layout id).map Layout.defaults).getD [] }
  sc2Block   : List SafetyObj := safetyIds.map fun id => { id := id, data := ((layout id).map Layout.defaults).getD [] }
  /-- The block in the parameter partition (R232, R251). -/
  stored     : List SafetyObj := safetyIds.map fun id => { id := id, data := ((layout id).map Layout.defaults).getD [] }
  sc1Ok      : Bool := true
  sc2Ok      : Bool := true
  /-- Failed rejoin attempts, and failed until the next W or P (R245). -/
  sc1Tries   : Nat := 0
  sc2Tries   : Nat := 0
  /-- Time in one core, in µs, and since when it counts (R246). -/
  aloneUs    : Nat := 0
  aloneSince : Option Nat := none
  newBlocked : Bool := false
  /-- Emergency stop: pressed or discrepant, latch (R228, R229). -/
  estop      : Bool := false
  estopLatch : Bool := false
  estopA     : Bool := false
  estopB     : Bool := false
  /-- Door: inputs, open, discrepancy; since when the pair holds an invalid combination. -/
  doorA      : Bool := false
  doorB      : Bool := true
  doorOpen   : Bool := false
  doorFault  : Bool := false
  invalidSince : Option Nat := none
  /-- Lines SAFE_OUTnA of SC-1 and SAFE_OUTnB of SC-2 high, readback latches of the pairs, and the lines
  (bit 0 A, bit 1 B) whose passed test a pair waits for (R230, R249). -/
  outA       : List Bool := [false, false, false, false]
  outB       : List Bool := [false, false, false, false]
  outFault   : List Bool := [false, false, false, false]
  outRetest  : List Nat := [0, 0, 0, 0]
  /-- Latched site emergency stop by group, and the peers, by bit, whose emergency stop in the group stands (R241, R249). -/
  siteEstop  : List Bool := [false, false, false, false]
  siteOrigin : List Nat := [0, 0, 0, 0]
  /-- Own overload: time above FEEDER_TRIP by group in µs, end of the overload bit in the frames (R242). -/
  feederUs   : List Nat := [0, 0, 0, 0]
  feederBit  : List (Option Nat) := [none, none, none, none]
  peers      : List Peer := List.replicate 8 {}
  /-- Which lost neighbour the next frame names (R239). -/
  lostTurn   : Nat := 0
  /-- Both cores lost, or the survivor failed (R244). -/
  allLost    : Bool := false
  /-- FAULT_N asserted (R244, R275, R358). -/
  faultN     : Bool := false
  deriving DecidableEq, Repr

/-- SAFE_OUT pairs energised: both lines high (R230). -/
def Safety.safeOut (f : Safety) : List Bool := List.zipWith (· && ·) f.outA f.outB

/-! ### Continuity -/

/-- A copy of the metering checkpoint (R257): cycle count and stamp of the cycle, register sets, session registers of the bound
contexts by bay (import, export, by tariff index), open interval, RUN flags by bay, pulse residues and backlogs, residual trip
timers, harmonic block, injector settings and test registers, METER_SETUP and METER_CAL by bay, CRC-32C. -/
structure MeterCheckpoint where
  cycle     : Nat := 0
  start     : Nat := 0
  regs      : List RegSet := []
  sessions  : List (Nat × Nat × List (Nat × Nat)) := []
  intervals : Intervals := {}
  run       : List (List Bool × List Bool × List Bool) := []
  pulses    : List (Nat × Nat) := []
  timers    : List (List Nat) := []
  harm      : HarmonicWork := {}
  tests     : List (List Injection × List Nat) := []
  setup     : List (Bytes × Bytes) := []
  crc       : Nat := 0
  deriving DecidableEq, Repr

/-- A control checkpoint (R262): the contexts' protocol state and the application's timers, the allocator with its reservations,
and the TCP and TLS state of the V2G sessions by bay. -/
structure ControlCheckpoint where
  work   : List CtxWork := []
  budget : Budget := {}
  links  : List BayLink := []
  deriving DecidableEq, Repr

/-- Continuity status and its bookkeeping (R250 to R276). -/
structure Continuity where
  meB        : Bool := false
  meVan      : VanState := .ready
  ceB        : Bool := false
  ceVan      : VanState := .ready
  /-- Both metering pairs are lost (R275). -/
  meLost     : Bool := false
  spare      : Option Nat := some 9
  /-- DSP clusters 0 to 9: in service, re-coupling, or out (R265, R272, R273). -/
  dsp        : List VanState := List.replicate 10 .ready
  /-- Cluster carrying each instance, PLC00 to PLC31 and PLCM (R158); none when stopped (R266). -/
  cluster    : List (Option Nat) := (List.range 33).map fun i => some (i / 4)
  vsupAOk    : Bool := true
  vsupBOk    : Bool := true
  /-- Regulator phases out of service. -/
  regLost    : List Nat := []
  /-- Spare SRAM banks left: metrology, control, SC-1, SC-2, link (R268). -/
  spares     : List Nat := [2, 2, 1, 1, 2]
  nandSpares : Nat := 112
  /-- Blocks retired, and partitions that lost a block with no spare left (R100). -/
  nandRetired : List Nat := []
  nandFailed : List Nat := []
  toMe       : Nat := 0
  toCe       : Nat := 0
  toDsp      : Nat := 0
  toSc       : Nat := 0
  /-- Oscillator instants of the takeovers of the last 24 h that each unit caused (R273): ME-A, ME-B, CE-A, CE-B, then
  clusters 0 to 9. -/
  causes     : List (List Nat) := List.replicate 14 []
  /-- Failed self-tests in a row (R273), in the same order. -/
  testFails  : List Nat := List.replicate 14 0
  /-- The journal's tail: entries written since the last control checkpoint (R261, R263); that checkpoint, and its instant (R262). -/
  journal    : List JournalEntry := []
  check      : ControlCheckpoint := {}
  checkpointAt : Nat := 0
  /-- The two copies of the metering checkpoint (R257). -/
  checkA     : MeterCheckpoint := {}
  checkB     : MeterCheckpoint := {}
  /-- Checkpoints that the re-coupling pair has followed in a row: metering, control (R272). -/
  meFollowed : Nat := 0
  ceFollowed : Nat := 0
  /-- No control pair runs since this instant (R276). -/
  ceSilent   : Option Nat := none
  deriving DecidableEq, Repr

/-! ### Keys and images -/

/-- A key slot (R334) with its material, and the public point of an ECC key. -/
structure KeySlot where
  parent     : Nat := 0
  state      : KeyState := .empty
  type       : Nat := 0
  usage      : Nat := 0
  classB     : Bool := false
  worlds     : Nat := 0
  masters    : Nat := 0
  lifecycles : Nat := 0
  engine     : Nat := 0
  created    : Nat := 0
  material   : Bytes := []
  point      : Bytes := []
  /-- The material as both copies of the parameter partition hold it, wrapped (R336). -/
  wrapped    : Bytes := []
  deriving DecidableEq, Repr

/-- What the module keeps of an image (R350, R355). -/
structure ImageMeta where
  release  : Nat
  secVer   : Nat
  stateFmt : Nat
  minRel   : List Nat
  digest   : Bytes
  confirmS : Nat
  deriving DecidableEq, Repr

/-- One image kind (R349, R354, R355, R359 to R362). -/
structure ImageSlot where
  active   : ImageMeta := { release := 1, secVer := 0, stateFmt := 0, minRel := [0, 0, 0, 0, 0], digest := [], confirmS := 600 }
  previous : Option ImageMeta := none
  bankB    : Bool := false
  state    : ImageState := .idle
  floor    : Nat := 0
  /-- End of the confirmation window, and whether a PING was accepted and a unit struck since activation. -/
  trialEnd : Option Nat := none
  pinged   : Bool := false
  struck   : Bool := false
  cmd      : Option CmdRef := none
  /-- The activation in progress takes the staged image; otherwise it takes the previous one. -/
  fromStaged : Bool := false
  /-- UPDATE_ABORT has asked for the fallback (R362). -/
  aborted  : Bool := false
  /-- The activated APP image has another STATE_FMT and goes on trial with the W that starts it (R360). -/
  byRestart : Bool := false
  deriving DecidableEq, Repr

/-- An open transfer (R353). -/
structure Transfer where
  port     : Option HostPort
  world    : Nat
  kind     : ImageKind
  size     : Nat
  data     : Bytes
  deadline : Nat
  /-- Verification runs, for this UPDATE_END where a command asked for it. -/
  verifying : Bool := false
  cmd      : Option CmdRef := none
  /-- Serial of the consist neighbour that sent it (R365). -/
  sender   : Option Nat := none
  deriving DecidableEq, Repr

/-- A forward in progress (R364, R365): kind, index of the target in the list, first attempt, last attempt, command. -/
structure Forward where
  kind    : ImageKind
  target  : Nat
  started : Nat
  lastTry : Nat
  cmd     : Option CmdRef
  deriving DecidableEq, Repr

/-- Firmware images (R349 to R365). -/
structure Images where
  kinds    : List ImageSlot := List.replicate 5 {}
  transfer : Option Transfer := none
  /-- The verified staged image: kind, content and data. -/
  staged   : Option (ImageKind × ImageMeta × Bytes) := none
  consist  : List Nat := []
  forward  : Option Forward := none
  deriving DecidableEq, Repr

/-! ### Recorder and counters -/

/-- An event record (R366). `lastAt` is the osc instant of the latest occurrence. -/
structure EventRec where
  type     : Nat
  source   : Nat
  severity : Nat
  final    : Bool := false
  logFull  : Bool := false
  seq      : Nat
  time     : Nat
  repeats  : Nat := 0
  payload  : Bytes
  lastAt   : Nat
  deriving DecidableEq, Repr

/-- The event recorder (R366 to R374). -/
structure Recorder where
  nextSeq   : Nat := 1
  /-- Buffered records, oldest first. -/
  buffer    : List EventRec := []
  /-- Flushed records, oldest first. -/
  log       : List EventRec := []
  classMask : Nat := 0xFFFF
  minSev    : Nat := 0
  repeatMs  : Nat := 1000
  /-- Dropped events: count, module time of the first and of the last (R373). -/
  dropped   : Nat := 0
  dropFirst : Nat := 0
  dropLast  : Nat := 0
  /-- Records lost at the last power cut (R373). -/
  lost      : Option (Nat × Nat) := none
  lastFlush : Nat := 0
  /-- A takeover, shunt, safe stop or trip asks for a flush of every record (R372). -/
  flushAll  : Bool := false
  deriving DecidableEq, Repr

/-- A performance counter (R375 to R379). -/
structure Counter where
  event    : Nat := 0
  inst     : Nat := 0
  mode     : Nat := 0
  chain    : Bool := false
  enable   : Bool := false
  n        : Nat := 0
  windowUs : Nat := 1000000
  value    : Nat := 0
  ovf      : Bool := false
  configReset : Bool := false
  /-- Count in the running window or cycle, and the window's end. -/
  part     : Nat := 0
  windowEnd : Nat := 0
  deriving DecidableEq, Repr

/-- Performance counters (R375 to R380). -/
structure Perf where
  counters : List Counter := []
  hostRead : Bool := false
  deriving DecidableEq, Repr

/-! ### Load channels -/

/-- A load channel (R384 to R397). -/
structure Chan where
  cmd        : Bool := false
  out        : Bool := false
  inrush     : Bool := false
  hold       : Bool := false
  short      : Bool := false
  overload   : Bool := false
  openLoad   : Bool := false
  thermal    : Bool := false
  clampLock  : Bool := false
  retryWait  : Bool := false
  lockedOut  : Bool := false
  shed       : Bool := false
  retries    : Nat := 3
  /-- Protective offs since the counter was last refilled, for the back-off (R390). -/
  offs       : Nat := 0
  backoffTo  : Nat := 0
  /-- End of the inrush window, start of the present conduction. -/
  windowTo   : Nat := 0
  onAt       : Nat := 0
  /-- Clamp energies of the last second: instant and 0.1 mJ (R389). -/
  clamps     : List (Nat × Nat) := []
  deriving DecidableEq, Repr

/-- A group of load channels (R382, R383). -/
structure LoadGroup where
  undervolt : Bool := false
  deriving DecidableEq, Repr

/-! ### Display, readers and tag -/

/-- A blink rectangle (R408). -/
structure Blink where
  x : Nat
  y : Nat
  w : Nat
  h : Nat
  rate : Nat
  deriving DecidableEq, Repr

/-- The legal display (R400 to R408). Frame memory: byte address and byte, 48 KiB. -/
structure Display where
  frame      : List Host.Cell := []
  /-- CRC of the last pass over the frame and over the legal region, and passes since W, P or C. -/
  lastCrc    : Nat := 0
  lastLegal  : Nat := 0
  passes     : Nat := 0
  /-- The error pattern is shown until this instant (R407). -/
  patternTo  : Option Nat := none
  /-- Instant of the last legal-region mismatch, for the logbook rule (R407). -/
  mismatchAt : Option Nat := none
  /-- The check value is shown until this instant (R405). -/
  scUntil    : Option Nat := none
  blinks     : List Blink := []
  vcom       : Bool := false
  /-- Instant of the last edge of DISP_VCOM (R401). -/
  vcomAt     : Nat := 0
  /-- Text of the legal region drawn last, four lines; the region's pixels follow from it. -/
  legalText  : List Bytes := []
  lastRender : Nat := 0
  /-- Start of the last pass (R401). -/
  lastPass   : Nat := 0
  deriving DecidableEq, Repr

/-- A reader port (R410 to R416). -/
structure Reader where
  /-- Baseline amplitude and phase in 2^-16 of the measured unit, pings taken for it, and their sums. -/
  baseAmp   : Int := 0
  basePhase : Int := 0
  basePings : Nat := 0
  sumAmp    : Int := 0
  sumPhase  : Int := 0
  /-- Consecutive deviating pings; detections without a card in a row. -/
  deviating : Nat := 0
  empties   : Nat := 0
  /-- A poll runs until this instant, and the RDR_POLL it serves. -/
  pollTo    : Option Nat := none
  pollCmd   : Option CmdRef := none
  pollProto : Nat := 0
  /-- Selected card: type, UID and instant of release. -/
  card      : Option (CardKind × Bytes) := none
  releaseAt : Nat := 0
  /-- Antenna fault: the port stopped (R412). -/
  stopped   : Bool := false
  /-- The ping period in which the last ping came (R411). -/
  pingAt    : Option Nat := none
  /-- The identifier decided last and when (R414). -/
  lastIdent : Bytes := []
  lastAt    : Option Nat := none
  deriving DecidableEq, Repr

/-- A pointer copy of the tag (R424, R428): sequence number, CRC good, physical block of each logical block. -/
structure TagPointer where
  seq   : Nat := 0
  good  : Bool := true
  map   : List Nat := List.range 256
  deriving DecidableEq, Repr

/-- The commissioning tag (R418 to R428). `phys` is its memory: 260 physical blocks of 256 bytes. -/
structure Tag where
  phys      : List Host.Cell := []
  ptrA      : TagPointer := {}
  ptrB      : TagPointer := {}
  /-- The challenge given and not yet used; authentication; wrong answers in the field session. -/
  challenge : Option Bytes := none
  authed    : Bool := false
  wrong     : Nat := 0
  /-- The response the field received last: data and status word. -/
  response  : Option (Bytes × Nat) := none
  /-- A block 0 update is due (R420). -/
  mirrorDue : Bool := false
  /-- Logical blocks whose lock a field command holds (R425). -/
  fieldLocks : List Nat := []
  /-- Field strength at the antenna in mA/m RMS, 0 without a field; the instant since which the tag's internal supply is at or above its
  operating threshold, none below it (R423). -/
  field      : Nat := 0
  supplyFrom : Option Nat := none
  deriving DecidableEq, Repr

/-! ### Mains network and site link -/

/-- A neighbour of PLCM (R174 to R180). -/
structure Neighbour where
  serial  : Nat
  /-- Tone maps in force, transmit and receive: bits per carrier in each of the 4 angle slots; none before the first (R174). -/
  txMap   : List (List Nat) := []
  rxMap   : List (List Nat) := []
  /-- Beacon offset in au (R178). -/
  offset  : Int := 0
  /-- Held on ROBO (R175, R180). -/
  robo    : Bool := true
  /-- One of the 64 neighbours that may hold tone maps (R174). -/
  mapped  : Bool := true
  /-- Refreshes that failed in a row (R175). -/
  fails   : Nat := 0
  /-- Beacon period in which a frame or beacon was heard last (R176). -/
  lastPeriod : Nat := 0
  /-- Beacon period and instant at which the map came into force, none before the first. -/
  map     : Option (Nat × Nat) := none
  /-- The last 64 frames sent to it, newest first: instant, and true for a frame in error (R175). -/
  frames  : List (Nat × Bool) := []
  /-- MAC retransmissions of the frame under way to it, at most 3 (R169). -/
  retries : Nat := 0
  /-- New maps, transmit and receive, and the beacon period from which they hold. -/
  pending : Option (List (List Nat) × List (List Nat) × Nat) := none
  deriving DecidableEq, Repr

/-- The mains network as PLCM sees it (R170 to R180). -/
structure Mains where
  /-- LINK of PLCM: 0 off, 1 joining, 2 member, 3 CCo. -/
  link       : Nat := 0
  neighbours : List Neighbour := []
  /-- Beacon periods counted, and the period in which a CCo beacon was heard last. -/
  periods    : Nat := 0
  /-- The cycle whose angle 0 began the present beacon period (R177). -/
  beaconCycle : Option Nat := none
  ccoHeard   : Nat := 0
  ccoSerial  : Nat := 0
  /-- Beacon offsets of the last 16 periods, newest first; out of tolerance. -/
  offsets    : List Int := []
  outOfTol   : Bool := false
  framesOk   : Nat := 0
  framesBad  : Nat := 0
  erasures   : Nat := 0
  rms        : List Nat := []
  deriving DecidableEq, Repr

/-- Site link (R330, R326 SITE_GET_PEERS): a site station heard, its role, links and the instant of its last frame. -/
structure SitePeer where
  serial : Nat
  role   : Nat
  links  : Nat
  lastAt : Nat
  deriving DecidableEq, Repr

/-! ### CAN -/

/-- A frame put on a CAN port: identifier and 16 data bytes (R151). -/
structure CanFrame where
  can   : Nat
  ident : Nat
  data  : Bytes
  deriving DecidableEq, Repr

/-! ### Power -/

/-- Supplies and power states (R429 to R448). -/
structure Power where
  state      : PowerState := .active
  /-- Class of the latest start (R448). -/
  lastClass  : StartClass := .c
  /-- A start of this class is due and START has not run. -/
  starting   : Option StartClass := none
  /-- VHOLD has reached 36 V (R430). -/
  vholdOk    : Bool := false
  /-- The flush of R439 runs. -/
  flushing   : Bool := false
  /-- VSUP returned during the flush (R440). -/
  vsupBack   : Bool := false
  /-- VSUP is valid. -/
  vsup       : Bool := true
  /-- Validity mark of the backup registers (R431). -/
  mark       : Bool := true
  /-- Module time of the last PFAIL. -/
  pfailTime  : Nat := 0
  /-- The accepted STANDBY request waits for its boundary; wake sources and WAKE_MIN (R434, R436). -/
  standbyDue : Bool := false
  wakeMask   : Nat := 0
  wakeMin    : Nat := 0
  /-- Wake source of the last S. -/
  wokenBy    : Nat := 0
  /-- A QUIET exit is due (R433). -/
  quietExit  : Bool := false
  /-- ALIVE level (R446). -/
  alive      : Bool := false
  /-- The debug port is open; challenge given (R346). -/
  debugOpen  : Bool := false
  debugChallenge : Option Bytes := none
  /-- The APP image failed at start: the boot loader answers (R358); and the failed kinds. -/
  failedKinds : List Bool := [false, false, false, false, false]
  deriving DecidableEq, Repr

/-! ### The module -/

/-- The module. -/
structure State where
  life      : Lifecycle := .manufactured
  clk       : PhaseClock := {}
  time      : TimeBase := {}
  power     : Power := {}
  spi       : PortState := {}
  uart      : PortState := {}
  uartRate  : UartState := {}
  params    : List ParamObj :=
    paramIds.map fun id => { id := id, data := ((layout id).map Layout.defaults).getD [] }
  /-- Staged commits waiting for the next boundary (R332): the objects as committed. -/
  commits   : List ParamObj := []
  bays      : List Bay := List.replicate 32 {}
  ctxs      : List Ctx := List.replicate 256 {}
  queue     : List QEntry := []
  met       : Metering := {}
  intervals : Intervals := {}
  cals      : Calendars := {}
  legal     : Legal := {}
  creds     : Creds := {}
  budget    : Budget := {}
  safety    : Safety := {}
  cont      : Continuity := {}
  keys      : List KeySlot := List.replicate 512 {}
  images    : Images := {}
  recorder  : Recorder := {}
  perf      : Perf := {}
  chans     : List Chan := List.replicate 112 {}
  groups    : List LoadGroup := List.replicate 14 {}
  disp      : Display := {}
  readers   : List Reader := List.replicate 4 {}
  tag       : Tag := {}
  mains     : Mains := {}
  sitePeers : List SitePeer := []
  /-- Frames sent last on the CAN ports and the site ports, newest first. -/
  canOut    : List CanFrame := []
  /-- Draws of free values so far: the model's own counter (DESIGN CHOICE), no state of the manual's. -/
  draws     : Nat := 0
  /-- Commands and events waiting, first in, first out. -/
  pending   : List Instr := []
  deriving DecidableEq, Repr

/-- Why a step stops. -/
inductive Fault where
  /-- An event names a bay, context, channel, port, stream or other unit that the module does not have. Raised by the
  meaning of the event. Safe: no event of the hardware comes from a unit that does not exist. -/
  | noSuchUnit (kind : String) (number : Nat)
  deriving DecidableEq, Repr

/-- Why a step has no meaning. -/
inductive Refusal where
  /-- The row has no meaning in this model. Raised by exec's arms only. Safe: nothing is claimed of the row. -/
  | notModelled (mnemonic : String)
  deriving DecidableEq, Repr

/-- The counter's default configuration (R375): counters 0 to 6 count bytes received on port k, 7 to 13 bytes sent. -/
def Counter.defaultOf (k : Nat) : Counter :=
  if k < 7 then { event := 0x10, inst := k, enable := true }
  else if k < 14 then { event := 0x11, inst := k - 7, enable := true }
  else {}

/-- Material as it is stored for a slot: wrapped under a key that HKDF derives from the parent's material with the slot's number as
info (R336). -/
def wrapMaterial (parent : Bytes) (slot : Nat) (material : Bytes) : Bytes := Config.aesWrap (hkdf parent (le 2 slot)) material

/-- The material of the fused root, PARENT 0x3FF (R337, R338). -/
def rootMaterial : Bytes := (List.range 32).map Config.fusedRoot

/-- The slots filled at manufacture (R337): 0x000 to 0x005, under the fused root. Their material is drawn from the free
values; the attributes of 0x004 that the manual leaves to the factory are a choice of the assumption log. -/
def factorySlot (k : Nat) : KeySlot :=
  let mat (n : Nat) : Bytes := (List.range n).map (Config.random (0x40000 + k))
  let kept (n : Nat) : Bytes := wrapMaterial rootMaterial k (mat n)
  let base : KeySlot := { parent := 0x3FF, state := .valid, wrapped := kept (if k == 2 then 97 else 32) }
  match k with
  | 0 => { base with type := 3, usage := 0x04, worlds := 0xF, masters := 0x8, lifecycles := 0x3E,
                     material := mat 32, point := Config.ecPublic 256 (mat 32) }
  | 1 => { base with type := 1, usage := 0x02, classB := true, engine := 2, lifecycles := 0x1E, material := mat 32 }
  | 2 => { base with type := 6, usage := 0x08, classB := true, engine := 2, lifecycles := 0x1E, point := mat 97 }
  | 3 => { base with type := 1, usage := 0x20, worlds := 0x2, masters := 0x3, lifecycles := 0x1E, material := mat 32 }
  | 4 => { base with type := 2, usage := 0x08, worlds := 0x2, masters := 0x3, lifecycles := 0x3E, material := mat 32 }
  | 5 => { base with type := 2, usage := 0x08, worlds := 0x4, masters := 0x3, lifecycles := 0x3E, material := mat 32 }
  | _ => {}

/-- The images of a delivered module (R1): release 1, with the digests of the factory. -/
def factoryImage (k : Nat) : ImageSlot :=
  { active := { release := 1, secVer := 0, stateFmt := 0, minRel := [0, 0, 0, 0, 0],
                digest := (List.range 32).map (Config.factoryDigest k), confirmS := 600 } }

/-- The state right after reset: a delivered module (life-cycle MANUFACTURED, R347) that has just completed a cold start
(C) and entered ACTIVE (R433, R442), its start reported and collected. Logbook entry 0 of R347 stands in the logbook, with the
legal checksum over the default parameters (R118). -/
def State.reset : State :=
  { legal := { logbook := [{ seq := 0, time := 0, cycle := 0, type := 5, world := 0xFF, checksum := checksumOf defaultContent,
                             detail := [byte 0, byte 1] }] }
    keys := (List.range 512).map factorySlot
    images := { kinds := (List.range 5).map factoryImage }
    perf := { counters := (List.range 64).map Counter.defaultOf }
    clk := { freq := 50000 }
    safety := { outA := [true, true, true, true], outB := [true, true, true, true] }
    intervals := { flags := 1, noEval := true } }

end Sys2Proof.Machine
end

