-- ==== Sys2Proof/Machine/Ops.lean ====
section
/-! DEFINITION. The named operations over the state: reading and changing one bay, context, channel, port or slot; the
committed parameters and their fields; memory as cells in canonical form; deadlines; frames sent. -/

namespace Sys2Proof

/-- The code of a port (R301). -/
def HostPort.code : HostPort → Nat
  | .spi => 0
  | .uart => 1

/-- The code of a world (R278). -/
def World.code : World → Nat
  | .host => 0
  | .service => 1
  | .legal => 2
  | .safety => 3

/-- The world of a code. -/
def World.ofCode : Nat → Option World
  | 0 => some .host
  | 1 => some .service
  | 2 => some .legal
  | 3 => some .safety
  | _ => none

/-- The code of an image kind (R325). -/
def ImageKind.code : ImageKind → Nat
  | .app => 0
  | .link => 1
  | .safe => 2
  | .rdr => 3
  | .disp => 4

/-- The image kind of a code. -/
def ImageKind.ofCode : Nat → Option ImageKind
  | 0 => some .app
  | 1 => some .link
  | 2 => some .safe
  | 3 => some .rdr
  | 4 => some .disp
  | _ => none

/-- The code of a takeover cause (R270). -/
def TakeoverCause.code : TakeoverCause → Nat
  | .lockstep => 0
  | .ecc => 1
  | .watchdog => 2
  | .supply => 3
  | .selfTest => 4
  | .planned => 5

/-- The code of a block fault (R368). -/
def BlockFault.code : BlockFault → Nat
  | .program => 0
  | .erase => 1
  | .sixCorrected => 2
  | .uncorrectable => 3

end Sys2Proof

namespace Sys2Proof.Machine

open Sys2Proof

/-- The answer of a meaning. -/
abbrev Out := Host.Outcome State Fault Refusal

/-! ### One unit of a kind -/

/-- Bay `b`. -/
def State.bay (s : State) (b : Nat) : Bay := s.bays.getD b {}

/-- Changes bay `b`. -/
def State.modBay (s : State) (b : Nat) (f : Bay → Bay) : State := { s with bays := s.bays.modify b f }

/-- Context `c`. -/
def State.ctx (s : State) (c : Nat) : Ctx := s.ctxs.getD c {}

/-- Changes context `c`. -/
def State.modCtx (s : State) (c : Nat) (f : Ctx → Ctx) : State := { s with ctxs := s.ctxs.modify c f }

/-- Load channel `k`. -/
def State.chan (s : State) (k : Nat) : Chan := s.chans.getD k {}

/-- Changes load channel `k`. -/
def State.modChan (s : State) (k : Nat) (f : Chan → Chan) : State := { s with chans := s.chans.modify k f }

/-- Key slot `k`. -/
def State.key (s : State) (k : Nat) : KeySlot := s.keys.getD k {}

/-- Changes key slot `k`. -/
def State.modKey (s : State) (k : Nat) (f : KeySlot → KeySlot) : State := { s with keys := s.keys.modify k f }

/-- Reader port `k`. -/
def State.reader (s : State) (k : Nat) : Reader := s.readers.getD k {}

/-- Changes reader port `k`. -/
def State.modReader (s : State) (k : Nat) (f : Reader → Reader) : State := { s with readers := s.readers.modify k f }

/-- Connection to peer `k`. -/
def State.peer (s : State) (k : Nat) : Peer := s.safety.peers.getD k {}

/-- Changes the connection to peer `k`. -/
def State.modPeer (s : State) (k : Nat) (f : Peer → Peer) : State :=
  { s with safety := { s.safety with peers := s.safety.peers.modify k f } }

/-- Register set `k`. -/
def State.regSet (s : State) (k : Nat) : RegSet := s.met.regs.getD k {}

/-- A host port. -/
def State.port (s : State) : HostPort → PortState
  | .spi => s.spi
  | .uart => s.uart

/-- Changes a host port. -/
def State.modPort (s : State) (p : HostPort) (f : PortState → PortState) : State :=
  match p with
  | .spi => { s with spi := f s.spi }
  | .uart => { s with uart := f s.uart }

/-- The slot of an image kind. -/
def State.image (s : State) (k : ImageKind) : ImageSlot := s.images.kinds.getD k.code {}

/-- Changes the slot of an image kind. -/
def State.modImage (s : State) (k : ImageKind) (f : ImageSlot → ImageSlot) : State :=
  { s with images := { s.images with kinds := s.images.kinds.modify k.code f } }

/-- An event of a numbered unit: a number beyond the module's units stops the step. -/
def atUnit (kind : String) (count number : Nat) (s : State) (f : State → State) : Out :=
  if number < count then .next (f s) else .fault (.noSuchUnit kind number)

/-- An event of a bay. -/
def atBay (b : Nat) (s : State) (f : State → State) : Out := atUnit "bay" 32 b s f

/-- An event of a context. -/
def atCtx (c : Nat) (s : State) (f : State → State) : Out := atUnit "context" 256 c s f

/-- An event of a load channel. -/
def atChan (k : Nat) (s : State) (f : State → State) : Out := atUnit "channel" 112 k s f

/-! ### Codes -/

/-- The code of a bay state (R134). -/
def BayState.code : BayState → Nat
  | .disabled => 0
  | .idle => 1
  | .occupied => 2
  | .ready => 3
  | .closing => 4
  | .energised => 5
  | .opening => 6
  | .weldCheck => 7
  | .fault => 8
  | .welded => 9

/-- The code of a CP state (R134). -/
def CpState.code : CpState → Nat
  | .a => 0
  | .b => 1
  | .c => 2
  | .d => 3
  | .e => 4
  | .f => 5
  | .invalid => 6
  | .diodeFault => 7

/-- The code of a proximity class (R134). -/
def PpClass.code : PpClass → Nat
  | .noCable => 0
  | .a13 => 1
  | .a20 => 2
  | .a32 => 3
  | .a63 => 4
  | .invalid => 5
  | .tethered => 6

/-- The code of a context state (R181). -/
def CtxState.code : CtxState → Nat
  | .free => 0
  | .reserved => 1
  | .authorised => 2
  | .bound => 3
  | .energising => 4
  | .charging => 5
  | .suspendedEv => 6
  | .suspendedEvse => 7
  | .finishing => 8
  | .closed => 9

/-- The code of a phase clock state (R22). -/
def ClkState.code : ClkState → Nat
  | .acquire => 0
  | .locked => 1
  | .holdover => 2
  | .deadReckon => 3

/-- The code of a power state (R432). -/
def PowerState.code : PowerState → Nat
  | .active => 0
  | .quiet => 1
  | .standby => 2
  | .backup => 3
  | .off => 4

/-- The code of a life-cycle state (R309). -/
def Lifecycle.code : Lifecycle → Nat
  | .blank => 0
  | .manufactured => 1
  | .calibrated => 2
  | .provisioned => 3
  | .commissioned => 4
  | .retired => 5

/-- The letter of a start class, ASCII. -/
def StartClass.letter : StartClass → Nat
  | .c => 0x43
  | .p => 0x50
  | .w => 0x57
  | .s => 0x53

/-- The code of a key state (R334). -/
def KeyState.code : KeyState → Nat
  | .empty => 0
  | .valid => 1
  | .orphaned => 2

/-- The code of a brake van state (R271). -/
def VanState.code : VanState → Nat
  | .ready => 0
  | .recoupling => 1
  | .out => 2
  | .failed => 3

/-- The code of an image state (R355). -/
def ImageState.code : ImageState → Nat
  | .idle => 0
  | .receiving => 1
  | .verifying => 2
  | .staged => 3
  | .activating => 4
  | .trial => 5
  | .fallenBack => 6

/-! ### Memory -/

/-- What a byte of memory that no cell lists reads as: cleared memory (R404, R418). -/
def memDefault : Byte := 0

/-- Reads one byte. -/
def readMem : List Host.Cell → Nat → Byte
  | [], _ => memDefault
  | (a, b) :: m, x => if a == x then b else readMem m x

/-- Writes one byte and keeps the canonical form: addresses rising, no cell equal to what an unlisted byte reads as. -/
def writeMem : List Host.Cell → Nat → Byte → List Host.Cell
  | [], x, v => if v == memDefault then [] else [(x, v)]
  | (a, b) :: m, x, v =>
    if x < a then (if v == memDefault then (a, b) :: m else (x, v) :: (a, b) :: m)
    else if a == x then (if v == memDefault then m else (x, v) :: m)
    else (a, b) :: writeMem m x v

/-- Reads `n` bytes from address `x`. -/
def readMemN (m : List Host.Cell) : Nat → Nat → Bytes
  | _, 0 => []
  | x, n + 1 => readMem m x :: readMemN m (x + 1) n

/-- Writes a run of bytes from address `x`. -/
def writeMemN (m : List Host.Cell) (x : Nat) : Bytes → List Host.Cell
  | [] => m
  | b :: bs => writeMemN (writeMem m x b) (x + 1) bs

/-- Whether cells stand in canonical form above a lower bound. -/
def wfFrom (lo : Nat) : List Host.Cell → Bool
  | [] => true
  | (a, b) :: m => lo ≤ a && b != memDefault && wfFrom (a + 1) m

/-- The canonical form of a memory. -/
def Memory.wf (m : List Host.Cell) : Bool := wfFrom 0 m

/-! ### Committed parameters -/

/-- The parameter object of an identifier as stored outside the safety block. -/
def State.obj (s : State) (id : Nat) : Option ParamObj := s.params.find? (·.id == id)

/-- The safety block in force: the copy of a working core (R232, R244). -/
def State.safetyBlock (s : State) : List SafetyObj := if s.safety.sc1Ok then s.safety.sc1Block else s.safety.sc2Block

/-- The content of an active object. -/
def State.param (s : State) (id : Nat) : Bytes :=
  if isSafetyObj id then ((s.safetyBlock.find? (·.id == id)).map (·.data)).getD []
  else ((s.obj id).map (·.data)).getD []

/-- A field of an object's bytes. -/
def fieldOf (data : Bytes) (lsb w : Nat) : Nat := bits (num data) lsb w

/-- A field of an active object. -/
def State.field (s : State) (id lsb w : Nat) : Nat := fieldOf (s.param id) lsb w

/-- Replaces the content of an object and advances its version (R331). -/
def State.putParam (s : State) (id : Nat) (data : Bytes) : State :=
  { s with params := s.params.map fun o => if o.id == id then { o with data := data, version := (o.version + 1) % 2 ^ 32 } else o }

/-- Bytes `data` with `patch` written over them from `off` on. -/
def overlay (data : Bytes) (off : Nat) (patch : Bytes) : Bytes :=
  data.take off ++ patch ++ data.drop (off + patch.length)

/-- BAY_CONFIG of a bay (R133). -/
def State.bayField (s : State) (b lsb w : Nat) : Nat := s.field (0x0100 + b) lsb w

/-- KIND of BAY_CONFIG: 0 AC three phase, 1 AC single phase, 2 DC. -/
def State.kind (s : State) (b : Nat) : Nat := s.bayField b 0 2

/-- A DC bay. -/
def State.isDc (s : State) (b : Nat) : Bool := s.kind b == 2

/-- TETHERED of BAY_CONFIG. -/
def State.tethered (s : State) (b : Nat) : Bool := s.bayField b 2 1 == 1

/-- FEEDER of BAY_CONFIG. -/
def State.feeder (s : State) (b : Nat) : Nat := s.bayField b 20 2

/-- LOCK_TYPE of BAY_CONFIG. -/
def State.lockType (s : State) (b : Nat) : Nat := s.bayField b 22 2

/-- COIL_LSW of BAY_CONFIG. -/
def State.coilLsw (s : State) (b : Nat) : Nat := s.bayField b 32 8

/-- LOCK_LSW of BAY_CONFIG. -/
def State.lockLsw (s : State) (b : Nat) : Nat := s.bayField b 40 8

/-- MODE of METER_SETUP (R47). -/
def State.meterMode (s : State) (b : Nat) : Nat := s.field (0x0420 + b) 112 2

/-- U_REF of METER_SETUP in mV (R47). -/
def State.uRef (s : State) (b : Nat) : Nat := s.field (0x0420 + b) 32 32

/-- NOMINAL_FREQ in mHz and NOMINAL_VOLTAGE in mV (R28). -/
def State.nominalFreq (s : State) : Nat := s.field 0x0020 0 32

@[inherit_doc State.nominalFreq]
def State.nominalVoltage (s : State) : Nat := s.field 0x0020 32 32

/-- SAFETY_BAY of a bay (R234). -/
def State.safetyField (s : State) (b lsb w : Nat) : Nat := s.field (0x0310 + b) lsb w

/-- BAY_USED. -/
def State.bayUsed (s : State) (b : Nat) : Bool := s.safetyField b 0 1 == 1

/-- LOCK_REQ. -/
def State.lockReq (s : State) (b : Nat) : Bool := s.safetyField b 4 1 == 1

/-- LSW object field of a channel (R384). -/
def State.chanField (s : State) (k lsb w : Nat) : Nat := s.field (0x0200 + k) lsb w

/-- The bay that holds a channel as its coil channel (R131). -/
def State.coilBay (s : State) (k : Nat) : Option Nat := (List.range 32).find? fun b => s.coilLsw b == k

/-- The bay that holds a channel as one of its lock bridge (R131). -/
def State.lockBay (s : State) (k : Nat) : Option Nat :=
  (List.range 32).find? fun b => s.lockLsw b == k || s.lockLsw b + 1 == k

/-- The bay that holds a channel (R397 HOLDER). -/
def State.holder (s : State) (k : Nat) : Option Nat := (s.coilBay k).orElse fun _ => s.lockBay k

/-- A contactor that is, or may be, closed: the bay is ENERGISED or OPENING, or its coil channel is commanded on. -/
def Bay.isEnergised (b : Bay) : Bool := b.state == .energised || b.state == .opening || b.coil.on

/-- Whether any bay is energised. -/
def State.anyEnergised (s : State) : Bool := s.bays.any Bay.isEnergised

/-- A modem instance runs: a cluster carries it and the LINK image works (R158, R266, R358). Instance 32 is PLCM. -/
def instanceRuns (s : State) (i : Nat) : Bool :=
  (s.cont.cluster.getD i none).isSome && !s.power.failedKinds.getD 1 false

/-- PLCM carries frames: its instance runs, and the module is in the mains network (R173, R358). -/
def mainsCarries (s : State) : Bool := 2 ≤ s.mains.link && instanceRuns s 32

/-! ### Partitions of the storage die -/

/-- A partition of the storage die takes writes: it has not lost a block with the spare pool empty (R99, R100, log entry 49). The number
is its place in the table of R99. -/
def State.takesWrites (s : State) (partition : Nat) : Bool := !s.cont.nandFailed.contains partition

/-- Partitions in the order of R99: images, parameters, legal store, load profiles, credential store. -/
def imagePartition : Nat := 1

@[inherit_doc imagePartition]
def paramPartition : Nat := 2

@[inherit_doc imagePartition]
def legalPartition : Nat := 4

@[inherit_doc imagePartition]
def profilePartition : Nat := 7

@[inherit_doc imagePartition]
def credPartition : Nat := 9

/-! ### Time -/

/-- The instant `us` microseconds of the reference oscillator from now. -/
def State.after (s : State) (us : Nat) : Nat := s.time.osc + us

/-- Whether a deadline has been reached. -/
def State.due (s : State) (t : Nat) : Bool := t ≤ s.time.osc

/-- Whether an optional deadline is set and has been reached. -/
def State.dueOpt (s : State) (t : Option Nat) : Bool := match t with | some t => s.due t | none => false

/-- The lead in au of a point over the present angle (R34): the difference of cycles as a signed 32-bit number. -/
def State.lead (s : State) (cycle : BitVec 32) (angle : Nat) : Int :=
  (cycle - s.clk.cycle).toInt * 4096 + ((angle : Int) - (s.clk.angle : Int))

/-! ### Free values -/

/-- Draws `n` bytes of the random number generator. -/
def State.random (s : State) (n : Nat) : Bytes × State :=
  ((List.range n).map (Config.random s.draws), { s with draws := s.draws + 1 })

/-- Draws one open choice. -/
def State.choice (s : State) : Nat × State := (Config.openChoice s.draws, { s with draws := s.draws + 1 })

/-- Reads a free sensor value that no command or event presents: the quantity `q` at this draw. -/
def State.reading (s : State) (q : Nat) : Nat := Config.reading q s.draws

/-! ### Serial -/

/-- The module's serial as a number. -/
def serialNum : Nat := Config.serial.toNat

end Sys2Proof.Machine
end

