-- ==== Sys2Proof/Machine/Flags.lean ====
section
/-! DEFINITION. The status words and status records the module computes from its state, bit by bit as the field maps give
them: PCLK_STATUS, bay status, context bytes, safety state, CONTINUITY_STATUS, channel status, and the checksums over
parameter objects. -/

namespace Sys2Proof.Machine

open Sys2Proof

/-- A quotient reported as a whole number. The manual gives no rounding: a quotient that is not exact is the next lower or
the next higher number, as the free value says. -/
def quot (n : Int) (d : Nat) : Int :=
  n / (d : Int) + (if n % (d : Int) != 0 && Config.roundUp n d then 1 else 0)

/-- A quotient of numbers that are not negative. -/
def quotN (n d : Nat) : Nat := (quot n d).toNat

/-- Fields as one number: each pair is a lowest bit and a value. -/
def pack (fields : List (Nat × Nat)) : Nat := fields.foldl (fun a f => a + f.2 * 2 ^ f.1) 0

/-- A list of Bool as bits, the first at bit 0. -/
def bitsOf (l : List Bool) : Nat := l.foldr (fun b a => bit b + 2 * a) 0

/-- A number kept within `w` bits by saturation. -/
def sat (w v : Nat) : Nat := min v (2 ^ w - 1)

/-- An optional index as a byte field, 0xFF for none. -/
def idx (o : Option Nat) : Nat := o.getD 0xFF

/-- PCLK_STATUS, 24 bytes (R29). -/
def pclkStatus (s : State) : Bytes :=
  le 24 (pack [(0, s.clk.cycle.toNat), (32, s.clk.angle), (44, s.clk.state.code), (64, s.clk.freq % 2 ^ 32),
    (96, pattern 16 s.clk.phaseErr), (112, sat 16 s.clk.relockCount), (128, s.clk.cycleStart)])

/-- OPERATE_US (R145): the mean of the last 16 valid measurements, a missing one taken as OPERATE_INIT. -/
def operateUs (s : State) (b : Nat) : Nat :=
  let l := (s.bay b).coil.operate
  quotN (l.sum + (16 - l.length) * (100 * s.bayField b 64 16)) 16

/-- RELEASE_US (R147), learned like OPERATE_US with RELEASE_INIT. -/
def releaseUs (s : State) (b : Nat) : Nat :=
  let l := (s.bay b).coil.release
  quotN (l.sum + (16 - l.length) * (100 * s.bayField b 80 16)) 16

/-- The CP state reported: F while the module drives state F (R466). -/
def reportedCp (p : BayPilot) : CpState := if p.drive == .stateF then .f else p.cp

/-- The proximity class reported: tethered on a tethered bay (R134, R139). -/
def reportedPp (s : State) (b : Nat) : PpClass := if s.tethered b then .tethered else (s.bay b).pilot.pp

/-- Bay status, 16 bytes (R134). -/
def bayStatus (s : State) (b : Nat) : Bytes :=
  let y := s.bay b
  le 16 (pack [(0, y.state.code), (4, (reportedCp y.pilot).code), (8, (reportedPp s b).code),
    (12, bit (y.guards.aClosed && y.guards.bClosed)), (13, bit y.guards.gstOk), (14, bit y.lock.locked),
    (16, y.pilot.duty), (32, operateUs s b), (64, releaseUs s b), (96, y.coil.operate.length), (104, idx y.ctx),
    (112, y.faultCode)])

/-- One limit change, 32 bytes (R185). -/
def limitBytes (l : LimitChange) : Bytes := le 8 l.time ++ le 8 l.kind ++ le 8 l.old ++ le 8 l.new

/-- One profile period, 16 bytes (R185). -/
def periodBytes (p : ProfilePeriod) : Bytes := le 4 p.start ++ le 4 p.capMa ++ le 4 p.capMw ++ le 4 0

/-- A list of bytes filled with zeros, or cut, to `n` bytes. -/
def padTo (n : Nat) (l : Bytes) : Bytes := (l ++ List.replicate (n - l.length) 0).take n

/-- The whole mWh of an energy held in 2^-32 mWh. -/
def mwh (e : Nat) : Nat := e / 2 ^ 32

/-- The header of a context, 128 bytes (R185). -/
def ctxHeaderBytes (h : CtxHeader) : Bytes :=
  le 8 (pack [(0, h.state.code), (8, idx h.bay), (16, h.priority), (19, bit h.byModule), (20, h.authSrc),
    (24, h.endCause), (32, idx h.reserveBay), (40, sat 8 h.nLimits)]) ++
  padTo 12 h.cred ++ le 4 h.attr ++ le 4 h.iLimit ++ le 4 h.iGuar ++ le 4 h.iGrant ++ le 4 h.timeLimit ++
  le 8 h.quota ++ le 8 h.quotaOrig ++ le 8 h.tOpen ++ le 8 h.expiry ++ le 8 (mwh h.sesImp) ++ le 8 (mwh h.sesExp) ++
  le 8 h.tStart ++ le 4 h.flags ++ le 4 h.seq ++ le 4 h.pLimit ++ List.replicate 20 0

/-- Bytes 0 to 767 of a context (R185). -/
def ctxBytes (c : Ctx) : Bytes :=
  ctxHeaderBytes c.hd ++ padTo 256 (c.wk.limits.flatMap limitBytes) ++ padTo 384 (c.wk.profile.flatMap periodBytes)

/-- The safety check value over a block (R235). -/
def safetyCheck (block : List SafetyObj) : Nat :=
  crc32 (block.flatMap fun o => le 2 o.id ++ le 2 o.data.length ++ o.data)

/-- Time in one core, in µs (R246). -/
def aloneTime (s : State) : Nat :=
  s.safety.aloneUs + (match s.safety.aloneSince with | some t => s.time.osc - t | none => 0)

/-- CONFIRMED as the functions see it: set, and the cores' copies equal (R222, R236). -/
def confirmedNow (s : State) : Bool := s.safety.confirmed && s.safety.sc1Block == s.safety.sc2Block

/-- The safety state, 24 bytes (R248). -/
def safetyState (s : State) : Bytes :=
  let f := s.safety
  le 24 (pack [(0, bit (confirmedNow s)), (1, bit f.sc1Ok), (2, bit f.sc2Ok), (3, bit f.newBlocked), (4, bit f.estop),
    (5, bit f.estopLatch), (6, bit f.doorOpen), (7, bit f.doorFault), (8, bitsOf f.safeOut), (12, bitsOf f.siteEstop),
    (16, sat 16 (aloneTime s / 60000000)), (32, safetyCheck f.stored),
    (64, bitsOf (s.bays.map fun y => y.safety.weldLatch)), (96, bitsOf (s.bays.map fun y => y.safety.sdeLatch)),
    (128, bitsOf (f.peers.map Peer.up)), (136, bitsOf (f.peers.map Peer.onePort)), (144, bitsOf f.outFault)])

/-- CONTINUITY_STATUS, 24 bytes (R271). -/
def continuityStatus (s : State) : Bytes :=
  let c := s.cont
  le 24 (pack [(0, bit c.meB), (1, c.meVan.code), (4, bit c.ceB), (5, c.ceVan.code), (8, c.spare.getD 0xF),
    (12, bitsOf (c.dsp.map (· != .ready))), (22, bit c.vsupAOk), (23, bit c.vsupBOk), (24, min 15 c.regLost.length), (32, c.spares.sum),
    (48, c.nandSpares), (64, c.toMe % 2 ^ 32), (96, c.toCe % 2 ^ 32), (128, c.toDsp % 2 ^ 32), (160, c.toSc % 2 ^ 32)])

/-- The clamp energy of the last second, in 0.1 mJ (R389). -/
def clampSum (s : State) (c : Chan) : Nat :=
  ((c.clamps.filter fun e => s.time.osc < e.1 + 1000000).map (·.2)).sum

/-- The group of a channel (R382). -/
def groupOf (k : Nat) : Nat := k / 8

/-- Channel status, 8 bytes (R397). Current and junction temperature are free sensor readings while the output conducts; an
output that is off carries no current. A channel that a bay holds has no retries (R394). -/
def chanStatus (s : State) (k : Nat) : Bytes :=
  let c := s.chan k
  le 8 (pack [(0, bit c.cmd), (1, bit c.out), (2, bit c.inrush), (3, bit c.hold), (4, bit c.short), (5, bit c.overload),
    (6, bit c.openLoad), (7, bit c.thermal), (8, bit c.clampLock), (9, bit c.retryWait), (10, bit c.lockedOut),
    (11, bit c.shed), (12, if (s.holder k).isSome then 0 else c.retries), (15, bit (s.groups.getD (groupOf k) {}).undervolt),
    (16, if c.out then s.reading (0x1000 + k) % 2 ^ 16 else 0), (32, sat 16 (clampSum s c)),
    (48, s.reading (0x1100 + k) % 2 ^ 8), (56, idx (s.holder k))])

/-- The content of a parameter object as GET_PARAM reads it: the status objects are computed (R29, R271). -/
def objectBytes (s : State) (id : Nat) : Bytes :=
  if id == 0x0021 then pclkStatus s else if id == 0x0027 then continuityStatus s else s.param id

/-- The version of an object (R331); objects of the safety block and status objects have none and read 0. -/
def objectVersion (s : State) (id : Nat) : Nat := ((s.obj id).map (·.version)).getD 0

/-- The legal checksum over the legal parameters in force (R115). -/
def legalChecksum (s : State) : Bytes := checksumOf s.param

end Sys2Proof.Machine
end

