-- ==== Sys2Proof/Machine/Counters.lean ====
section
/-! DEFINITION. Performance counters (R375 to R380): what an occurrence or an occupancy adds to them. -/

namespace Sys2Proof.Machine

open Sys2Proof

/-- Counter `k` is the upper half of a chain. -/
def chainHigh (l : List Counter) (k : Nat) : Bool := k % 2 == 1 && (l.getD (k - 1) {}).chain

/-- The width of a counter's value. -/
def Counter.limit (c : Counter) : Nat := if c.chain then 2 ^ 96 else 2 ^ 48

/-- Adds `n` to the value of a mode 0 or 1 counter; an unchained one that passes 2^48 − 1 wraps and sets OVF (R378). -/
def Counter.add (c : Counter) (n : Nat) : Counter :=
  { c with value := (c.value + n) % c.limit, ovf := c.ovf || (!c.chain && 2 ^ 48 ≤ c.value + n) }

/-- A counter that counts event `ev` of unit `inst` (R375). -/
def Counter.counts (c : Counter) (ev inst : Nat) : Bool := c.enable && c.event == ev && (c.inst == 0xFF || c.inst == inst)

/-- Changes every counter that counts an event, a chain's upper half excepted. -/
def modCounters (ev inst : Nat) (f : Counter → Counter) (s : State) : State :=
  let l := s.perf.counters
  let l' := l.mapIdx fun k c => if c.counts ev inst && !chainHigh l k then f c else c
  { s with perf := { s.perf with counters := l' } }

/-- `n` occurrences of a count event (R377): mode 0 adds them, the other modes gather them for the cycle or window. -/
def count (ev inst n : Nat) (s : State) : State :=
  modCounters ev inst (fun c => if c.mode == 0 then c.add n else { c with part := c.part + n }) s

/-- An occupancy at an instant (R377): mode 1 keeps the highest of the cycle. -/
def level (ev inst v : Nat) (s : State) : State :=
  modCounters ev inst (fun c => if c.mode == 1 then { c with part := max c.part v } else c) s

/-- An occupancy sampled at angle 0 (R377): mode 0 adds it, modes 2 and 3 gather it. -/
def levelAtBoundary (ev inst v : Nat) (s : State) : State :=
  modCounters ev inst
    (fun c => if c.mode == 0 then c.add v else if c.mode == 1 then { c with part := max c.part v } else { c with part := c.part + v }) s

/-- At a boundary every mode 1 counter adds 1 when its gathered value exceeded N, and starts again (R377). -/
def closeCycleCounters (s : State) : State :=
  let l' := s.perf.counters.map fun c =>
    if c.enable && c.mode == 1 then { (if c.part > c.n then c.add 1 else c) with part := 0 } else c
  { s with perf := { s.perf with counters := l' } }

end Sys2Proof.Machine
end

