-- ==== Sys2Proof/Machine/Report.lean ====
section
/-! DEFINITION. What the module reports: event records (R366 to R373), the metrological logbook (R117 to R119) and
notifications with the completion of commands (R288 to R295). -/

namespace Sys2Proof.Machine

open Sys2Proof

/-! ### Event records -/

/-- The length of a record in bytes (R366). -/
def recLen (r : EventRec) : Nat := 22 + r.payload.length

/-- Bytes of records. -/
def recBytes (l : List EventRec) : Nat := (l.map recLen).sum

/-- The payload as the repeat rule compares it (R370): the first four bytes of type 0x0202 are not compared. -/
def comparedPayload (type : Nat) (payload : Bytes) : Bytes := if type == 0x0202 then payload.drop 4 else payload

/-- Whether an event passes the filter (R371). -/
def passesFilter (r : Recorder) (type sev : Nat) : Bool :=
  2 ≤ sev || (testBit r.classMask (type / 256) && r.minSev ≤ sev)

/-- The sequence number after `n`, with 0 skipped (R369). -/
def nextSeq (n : Nat) : Nat := if n + 1 < 2 ^ 32 then n + 1 else 1

/-- The open record that an event repeats (R370): the most recent of its type and source, not FINAL, within REPEAT_MS, with
the same compared payload. -/
def repeats (s : State) (type src : Nat) (payload : Bytes) : Option Nat :=
  match s.recorder.buffer.reverse.find? (fun r => r.type == type && r.source == src) with
  | some r =>
    if !r.final && s.time.osc < r.lastAt + 1000 * s.recorder.repeatMs &&
        comparedPayload type r.payload == comparedPayload type payload then some r.seq else none
  | none => none

/-- The room of the buffer for a record of a severity (R372): the last 16 KiB take severity 3 only. -/
def bufferLimit (sev : Nat) : Nat := if sev == 3 then 262144 else 245760

/-- Adds a record to the buffer, or counts it as dropped (R369, R373). -/
def bufferRecord (type src sev : Nat) (payload : Bytes) (logFull : Bool) (s : State) : State :=
  let r := s.recorder
  if recBytes r.buffer + 22 + payload.length ≤ bufferLimit sev then
    let e : EventRec := { type := type, source := src, severity := sev, logFull := logFull, seq := r.nextSeq,
                          time := s.time.now, payload := payload, lastAt := s.time.osc }
    level 0x34 0 (recBytes r.buffer + 22 + payload.length)
      { s with recorder := { r with buffer := r.buffer ++ [e], nextSeq := nextSeq r.nextSeq } }
  else
    let first := if r.dropped == 0 then s.time.now else r.dropFirst
    count 0x41 0 1
      { s with recorder := { r with dropped := r.dropped + 1, dropFirst := first, dropLast := s.time.now } }

/-- Writes an event: filtered out, counted as a repeat, or a new record (R370, R371). -/
def recordAs (type src sev : Nat) (payload : Bytes) (logFull : Bool) (s : State) : State :=
  if !passesFilter s.recorder type sev then count 0x40 0 1 s
  else match repeats s type src payload with
    | some q =>
      let l := s.recorder.buffer.map fun r =>
        if r.seq == q then { r with repeats := min 65535 (r.repeats + 1), lastAt := s.time.osc } else r
      { s with recorder := { s.recorder with buffer := l } }
    | none => bufferRecord type src sev payload logFull s

/-- Writes an event of a type at its source. -/
def record (type src sev : Nat) (payload : Bytes) (s : State) : State := recordAs type src sev payload false s

/-- SOURCE of a unit kind and index (R367). -/
def source (kind index : Nat) : Nat := 256 * kind + index

/-- Drops records, the oldest first, until `n` bytes are gone. -/
def dropBytes (n : Nat) : List EventRec → List EventRec
  | [] => []
  | r :: l => if n == 0 then r :: l else dropBytes (n - recLen r) l

/-- Drops the oldest records of a full log, one block of 256 KiB at a time (R372). -/
def trimLog (fuel : Nat) (l : List EventRec) : List EventRec :=
  match fuel with
  | 0 => l
  | n + 1 =>
    if recBytes l ≤ 33554432 then l
    else trimLog n (dropBytes 262144 l)

/-- Moves the records that a test selects from the buffer to the log, in SEQ order and marked FINAL; then one record of type
0x0003 stands for the events dropped meanwhile (R372, R373). -/
def flushRecords (sel : EventRec → Bool) (s : State) : State :=
  let out := (s.recorder.buffer.filter sel).map fun r => { r with final := true }
  let kept := s.recorder.buffer.filter fun r => !sel r
  let s1 : State := { s with recorder := { s.recorder with buffer := kept, log := trimLog 2 (s.recorder.log ++ out) } }
  if s1.recorder.dropped == 0 || recBytes s1.recorder.buffer + 42 > bufferLimit 1 then s1
  else
    let r := s1.recorder
    let s2 : State := { s1 with recorder := { r with dropped := 0, dropFirst := 0, dropLast := 0 } }
    record 0x0003 0 1 (le 4 r.dropped ++ le 8 r.dropFirst ++ le 8 r.dropLast) s2

/-- Flushes every record (R372). -/
def flushAllRecords (s : State) : State :=
  flushRecords (fun _ => true) { s with recorder := { s.recorder with flushAll := false } }

/-- Asks for a flush of every record at a takeover, shunt, safe stop or trip (R372). -/
def askFlush (s : State) : State := { s with recorder := { s.recorder with flushAll := true } }

/-! ### The metrological logbook -/

/-- The bytes of a logbook entry (R118). -/
def logEntryBytes (e : LogEntry) : Bytes :=
  let body := le 4 e.seq ++ le 8 e.time ++ le 4 e.cycle ++ le 2 e.type ++ le 1 e.world ++ [0] ++ padTo 4 e.checksum ++ padTo 100 e.detail
  body ++ le 4 (crc32c body)

/-- The logbook has a free entry (R117). -/
def logbookFree (s : State) : Bool := s.legal.logbook.length < 4096

/-- Writes a logbook entry, or, in a full logbook, an event record with the logbook-full mark; a written entry is an event
record too (R117, R368). `checksum` is the legal checksum once the entry's action takes effect. The report at 3 840 entries
has no type in R368: DESIGN CHOICE (log entry 161), 0x0201 with severity 0 and the number of entries. -/
def logbook (type world : Nat) (checksum detail : Bytes) (s : State) : State :=
  let e : LogEntry := { seq := s.legal.logbook.length, time := s.time.now, cycle := s.clk.cycle.toNat, type := type,
                        world := world, checksum := checksum, detail := detail }
  if logbookFree s then
    let s1 := record 0x0201 0 0 (logEntryBytes e) { s with legal := { s.legal with logbook := s.legal.logbook ++ [e] } }
    if s1.legal.logbook.length == 3840 then record 0x0201 0 0 (le 2 3840) s1 else s1
  else recordAs 0x0201 0 0 (logEntryBytes e) true s

/-- A logbook entry that leaves the legal checksum as it is. -/
def logbookNow (type world : Nat) (detail : Bytes) (s : State) : State := logbook type world (legalChecksum s) detail s

/-! ### Notifications -/

/-- The record type of a notification (R368): none for NTF_RECORD_READY and NTF_AUTH_REQUEST, which have no type. -/
def ntfRecordType : Nat → Option Nat
  | 0xF000 => some 0x0501
  | 0xF001 => some 0x0601
  | 0xF002 => some 0x0301
  | 0xF003 => some 0x0401
  | 0xF006 => some 0x0D01
  | 0xF007 => some 0x0A01
  | 0xF008 => some 0x0B01
  | 0xF009 => some 0x0C01
  | _ => none

/-- The default severity of a notification's record (R368). -/
def ntfSeverity : Nat → Nat
  | 0xF001 => 0
  | 0xF007 => 0
  | 0xF002 => 2
  | 0xF003 => 3
  | _ => 1

/-- A notification that displaces others from a full queue (R289). -/
def ntfUrgent (op : Nat) : Bool := op == 0xF003 || op == 0xF002

/-- Removes the oldest notification of another kind than NTF_SAFETY and NTF_TAKEOVER. -/
def displaceNtf : List Ntf → Option (List Ntf)
  | [] => none
  | n :: l => if ntfUrgent n.op then (displaceNtf l).map (n :: ·) else some l

/-- Queues a notification on a port (R288, R289). -/
def queueNtf (n : Ntf) (p : PortState) : PortState :=
  let n : Ntf := { n with nseq := p.nseq }
  let p : PortState := { p with nseq := (p.nseq + 1) % 65536 }
  if p.ntfQueue.length < 128 then { p with ntfQueue := p.ntfQueue ++ [n] }
  else if ntfUrgent n.op then
    match displaceNtf p.ntfQueue with
    | some l => { p with ntfQueue := l ++ [n], dropped := min 65535 (p.dropped + 1) }
    | none => { p with dropped := min 65535 (p.dropped + 1) }
  else { p with dropped := min 65535 (p.dropped + 1) }

/-- The port's bit of HOST_PORTS (R289, R300). -/
def ntfEnabled (s : State) : HostPort → Bool
  | .spi => s.field 0x0010 0 1 == 1
  | .uart => s.field 0x0010 1 1 == 1

/-- Sends a notification to one port. The fields of the completed command stand on the command's own port only. -/
def ntfToPort (op : Nat) (payload : Bytes) (cmd : Option CmdRef) (status : Nat) (p : HostPort) (s : State) : State :=
  if !ntfEnabled s p then s
  else
    let own := match cmd with | some c => c.port == p | none => false
    let n : Ntf :=
      { op := op, payload := payload
        cmdTag := if own then (cmd.map (·.tag)).getD 0 else 0
        cmdOp := if own then (cmd.map (·.op)).getD 0 else 0
        cmdStatus := if own then status else 0 }
    let s1 := s.modPort p (queueNtf n)
    level 0x33 p.code (s1.port p).ntfQueue.length s1

/-- Ends the life of a command's tag (R282). -/
def freeTag (cmd : Option CmdRef) (s : State) : State :=
  match cmd with
  | some c => s.modPort c.port fun p => { p with outstanding := p.outstanding.filter (· != c.tag) }
  | none => s

/-- Raises a notification on both ports, with its event record, and completes a command. -/
def notifyFull (op src sev : Nat) (payload : Bytes) (cmd : Option CmdRef) (status : Nat) (s : State) : State :=
  let s1 := freeTag cmd (ntfToPort op payload cmd status .uart (ntfToPort op payload cmd status .spi s))
  match ntfRecordType op with
  | some t => record t src sev payload s1
  | none => s1

/-- Raises a notification that completes no command. -/
def notify (op src : Nat) (payload : Bytes) (s : State) : State := notifyFull op src (ntfSeverity op) payload none 0 s

/-- NTF_BAY (R291). `bay` 0xFF names no bay; the status is that of the event's instant. -/
def ntfBayFull (bay event : Nat) (detail : Bytes) (cmd : Option CmdRef) (status : Nat) (s : State) : State :=
  let st := if bay < 32 then bayStatus s bay else List.replicate 16 0
  let toFault := event == 0 && (detail.getD 1 0).toNat == BayState.fault.code
  notifyFull 0xF000 (if bay < 32 then source 1 bay else 0) (if toFault then 2 else 1)
    (le 1 bay ++ le 1 event ++ le 2 0 ++ st ++ padTo 16 detail) cmd status s

/-- NTF_BAY that completes no command. -/
def ntfBay (bay event : Nat) (detail : Bytes) (s : State) : State := ntfBayFull bay event detail none 0 s

/-- NTF_CTX (R292). -/
def ntfCtxFull (ctx : Nat) (old new : CtxState) (cause : Nat) (detail : Bytes) (cmd : Option CmdRef) (status : Nat)
    (s : State) : State :=
  let bay := if ctx < 256 then idx (s.ctx ctx).hd.bay else 0xFF
  notifyFull 0xF001 (if ctx < 256 then source 2 ctx else 0) (if cause == 7 then 2 else 0)
    (le 1 ctx ++ le 1 old.code ++ le 1 new.code ++ le 1 cause ++ le 1 bay ++ le 3 0 ++ padTo 8 detail) cmd status s

/-- NTF_CTX of a cause that changes no state. -/
def ntfCtx (ctx cause : Nat) (detail : Bytes) (s : State) : State :=
  let st := (s.ctx ctx).hd.state
  ntfCtxFull ctx st st cause detail none 0 s

/-- NTF_SAFETY (R293): the safety state is that of the event's instant. -/
def ntfSafety (event index code : Nat) (s : State) : State :=
  notify 0xF003 (if event == 0 || event == 1 then source 1 index
      else if event == 4 || event == 5 then source 6 (index + 3) else 0)
    (le 1 event ++ le 1 index ++ le 1 code ++ le 1 0 ++ safetyState s) s

/-- NTF_POWER (R448). -/
def ntfPower (event : Nat) (detail : Bytes) (s : State) : State :=
  notify 0xF006 0 (le 1 event ++ le 1 s.power.state.code ++ le 1 s.power.lastClass.letter ++ le 1 0 ++ padTo 8 detail) s

/-- NTF_LSW events that report a fault of the channel (R368, R398): SHORT, OVERLOAD, a thermal latch, a channel locked out and
CLAMP_LOCK. DESIGN CHOICE (log entry 28): a channel has no state FAULT that its status would show. -/
def lswFault (event : Nat) : Bool := [1, 2, 5, 7, 8].contains event

/-- NTF_LSW (R398). -/
def ntfLswFull (ch event : Nat) (cmd : Option CmdRef) (status : Nat) (s : State) : State :=
  notifyFull 0xF008 (source 3 ch) (if lswFault event then 2 else 1) (le 1 ch ++ le 1 event ++ le 2 0 ++ chanStatus s ch) cmd status s

/-- NTF_LSW that completes no command. -/
def ntfLsw (ch event : Nat) (s : State) : State := ntfLswFull ch event none 0 s

/-- NTF_TAKEOVER (R270) with its fields: unit kind, event, unit, cause, interruption and replayed items. The 8 bits of UNIT hold the
low byte of a block number. -/
def ntfTakeover (kind event unit cause durationUs replayed src : Nat) (s : State) : State :=
  notify 0xF002 src
    (le 28 (pack [(0, kind), (4, event), (8, unit % 256), (16, cause), (32, s.clk.cycle.toNat), (64, s.clk.angle),
      (96, durationUs % 2 ^ 32), (128, replayed % 2 ^ 32), (160, s.time.now)])) s

/-- The code of a card type (R417). -/
def cardCode : CardKind → Nat
  | .iso14443A => 1
  | .iso14443B => 2
  | .iso15693 => 3

/-- NTF_RDR (R417): port, event, the card where one applies, context and decision, and the tag's blocks. -/
def ntfRdrFull (port event : Nat) (card : Option (CardKind × Bytes)) (ctx decision first last : Nat) (cmd : Option CmdRef)
    (status : Nat) (s : State) : State :=
  let kind := match card with | some c => cardCode c.1 | none => 0
  let uid := match card with | some c => c.2 | none => []
  notifyFull 0xF009 0 1 (le 1 port ++ le 1 event ++ le 2 0 ++ le 1 kind ++ le 1 uid.length ++ padTo 10 uid ++ le 1 ctx ++
    le 1 decision ++ le 1 first ++ le 1 last) cmd status s

/-- NTF_RDR of a port that completes no command and names no context. -/
def ntfRdr (port event : Nat) (card : Option (CardKind × Bytes)) (s : State) : State :=
  ntfRdrFull port event card 0xFF 0 0 0 none 0 s

end Sys2Proof.Machine
end

