-- ==== Sys2Proof/Machine/Clock.lean ====
section
/-! DEFINITION. The passing of time: one microsecond of the reference oscillator advances module time (R7, R32, R92) and the
reckoned angle (R22, R24). Every other effect of time is a row of its own. -/

namespace Sys2Proof.Machine

open Sys2Proof

/-- One microsecond of module time, slewed at 500 ppm while a slew is left: one µs more or less in every 2 000 (R32, R92). -/
def tickTime (t : TimeBase) : TimeBase :=
  let t : TimeBase := { t with osc := t.osc + 1 }
  if t.slew == 0 then { t with now := (t.now + 1) % 2 ^ 64 }
  else if t.slewPhase + 1 < 2000 then { t with now := (t.now + 1) % 2 ^ 64, slewPhase := t.slewPhase + 1 }
  else if 0 < t.slew then { t with now := (t.now + 2) % 2 ^ 64, slewPhase := 0, slew := t.slew - 1 }
  else { t with slewPhase := 0, slew := t.slew + 1 }

/-- The rate at which the angle advances, in mHz: reckoned at NOMINAL_FREQ in ACQUIRE and DEAD_RECKON (R22). -/
def angleRate (s : State) : Nat :=
  match s.clk.state with
  | .acquire | .deadReckon => s.nominalFreq
  | _ => s.clk.freq

/-- One microsecond of angle: 4 096 × rate × 10^-9 au (R24). The angle waits at 4 095 for the boundary that CYCLE_BOUNDARY
makes; in STANDBY the wake logic counts the cycles itself (R27). -/
def tickAngle (standby : Bool) (rate : Nat) (c : PhaseClock) : PhaseClock :=
  let r := c.angleRem + 4096 * rate
  if r < 1000000000 then { c with angleRem := r }
  else if c.angle + 1 < 4096 then { c with angleRem := r - 1000000000, angle := c.angle + 1 }
  else if standby then { c with angleRem := r - 1000000000, angle := 0, cycle := c.cycle + 1, halfDone := false }
  else { c with angleRem := r - 1000000000 }

/-- One microsecond. A boundary that the wake logic reckons in STANDBY is stamped like any other (R27, R31). -/
def tick (s : State) : State :=
  let t := tickTime s.time
  let c := tickAngle (s.power.state == .standby) (angleRate s) s.clk
  if c.cycle == s.clk.cycle then { s with time := t, clk := c }
  else { s with time := { t with cycleOsc := t.osc }, clk := { c with cycleStart := t.now } }

/-- The present frequency in a state of the clock that reckons at the nominal rate (R22, R29). -/
def deadReckon (s : State) : State := { s with clk := { s.clk with state := .deadReckon, freq := s.nominalFreq } }

end Sys2Proof.Machine
end

