-- ==== Sys2Proof/Machine/Operands.lean ====
section
/-! DEFINITION. Operand forms: the fields of a payload, range and reserved-bit checks of parameter objects, execution
points, and the status codes of R304. -/

namespace Sys2Proof.Machine

open Sys2Proof

/-! ### Status codes (R304) -/

def stOk : Nat := 0x0000
def stPending : Nat := 0x0001
def errOpcode : Nat := 0x0100
def errLength : Nat := 0x0101
def errParam : Nat := 0x0102
def errState : Nat := 0x0103
def errWorld : Nat := 0x0104
def errBusy : Nat := 0x0105
def errCrc : Nat := 0x0106
def errLifecycle : Nat := 0x0107
def errLegal : Nat := 0x0108
def errSafety : Nat := 0x0109
def errCapacity : Nat := 0x010A
def errNotFound : Nat := 0x010B
def errAuth : Nat := 0x010C
def errTime : Nat := 0x010D
def errStorage : Nat := 0x010E
def errInternal : Nat := 0x010F

/-! ### Payload fields -/

/-- `n` bytes from offset `off`. -/
def slice (pl : Bytes) (off n : Nat) : Bytes := (pl.drop off).take n

/-- The little-endian field of `n` bytes at `off` (R4, R307). -/
def fld (pl : Bytes) (off n : Nat) : Nat := num (slice pl off n)

/-- Whether `n` bytes from `off` are all 0, as a reserved field must be (R5). -/
def zeroAt (pl : Bytes) (off n : Nat) : Bool := (slice pl off n).all (· == 0)

/-! ### Objects -/

/-- Whether every field that differs between two contents lies in its range, and reserved bits are 0 (R5, R331 step 5). A
field is touched when its value changes. -/
def objectOk (l : Layout) (old new : Bytes) : Bool :=
  let o := num old
  let n := num new
  l.fields.all (fun f => bits o f.lsb f.width == bits n f.lsb f.width || f.range.ok f.width (bits n f.lsb f.width)) &&
    l.fields.foldl (fun a f => a - bits n f.lsb f.width * 2 ^ f.lsb) n == 0

/-- Whether a whole content lies in range with reserved bits 0. -/
def objectInRange (l : Layout) (new : Bytes) : Bool :=
  let n := num new
  l.fields.all (fun f => f.range.ok f.width (bits n f.lsb f.width)) &&
    l.fields.foldl (fun a f => a - bits n f.lsb f.width * 2 ^ f.lsb) n == 0

/-! ### Execution points -/

/-- An execution point (R33). -/
structure ExecPoint where
  at_    : Bool
  cycle  : BitVec 32
  angle  : Nat
  deriving DecidableEq, Repr

/-- The execution point of an 8-byte field, none where R33 or R5 refuses it. -/
def execPoint (b : Bytes) : Option ExecPoint :=
  let n := num b
  if bits n 44 19 != 0 then none
  else if bits n 63 1 == 0 then (if n == 0 then some ⟨false, 0, 0⟩ else none)
  else some ⟨true, BitVec.ofNat 32 n, bits n 32 12⟩

/-- A point moved by a signed number of au, as cycle and angle. -/
def movePoint (cycle : BitVec 32) (angle : Nat) (au : Int) : BitVec 32 × Nat :=
  let t : Int := (angle : Int) + au
  (cycle + BitVec.ofInt 32 (t / 4096), (t % 4096).toNat)

/-- Microseconds as au at a frequency in mHz, rounded to the nearest au, a half upwards (R34). -/
def usToAu (us freq : Nat) : Nat := (us * 4096 * freq + 500000000) / 1000000000

/-- The answer R35 gives for a point on an output, none when it may be queued: the lead, the distance of the named cycle, the
PLL for an AC close, a queued action on the same output at the same point, a full queue. -/
def pointRefusal (s : State) (chan : Nat) (named cycle : BitVec 32) (angle : Nat) (acClose : Bool) : Option Nat :=
  if s.lead cycle angle < 128 then some errTime
  else if (named - s.clk.cycle).toInt > 16777216 then some errParam
  else if acClose && s.clk.state != .locked then some errState
  else if s.queue.any (fun q => q.chan == chan && q.cycle == cycle && q.angle == angle) then some errState
  else if 512 ≤ s.queue.length then some errBusy
  else none

end Sys2Proof.Machine
end

