-- ==== Sys2Proof/Machine/Channels.lean ====
section
/-! DEFINITION. Load channels (R381 to R397): load types, switching an output on and off, clamp energy and its lock, and the
timed-action queue's entries on them. -/

namespace Sys2Proof.Machine

open Sys2Proof

/-- TYPE of a channel (R384). -/
def chanType (s : State) (k : Nat) : Nat := s.chanField k 0 4

/-- I_LIM of a channel in mA. -/
def chanLimit (s : State) (k : Nat) : Nat := s.chanField k 16 16

/-- RETRIES of a channel; 0 while a bay holds it (R394). -/
def chanRetries (s : State) (k : Nat) : Nat := if (s.holder k).isSome then 0 else s.chanField k 4 3

/-- RETRIES_LEFT, 0 while a bay holds the channel (R394). -/
def retriesLeft (s : State) (k : Nat) : Nat := if (s.holder k).isSome then 0 else (s.chan k).retries

/-- Twice the inrush current A_INR of a type in mA (R386): 1.5 × I_LIM of a HEATER may end in a half. -/
def inrushHalves (type limit : Nat) : Nat :=
  match type with
  | 1 => 20 * limit
  | 2 => 6 * limit
  | 3 => 3 * limit
  | 4 => 2 * limit
  | 5 => 3000
  | _ => 0

/-- The inrush window of a channel in µs (R386). -/
def inrushWindow (s : State) (k : Nat) : Nat :=
  match chanType s k with
  | 1 => 20000
  | 2 => 300000
  | 3 => 100000
  | 4 => 1000 * s.chanField k 64 16
  | 5 => 100000
  | _ => 0

/-- Active limiting current of a channel's kind, I_PEAK in mA (R381). -/
def chanPeak (k : Nat) : Nat := if k < 32 then 6000 else if k < 96 then 3000 else 15000

/-- Group limit in mA (R382). -/
def groupLimit (g : Nat) : Nat := if g < 4 then 6000 else if g < 12 then 4000 else 12000

/-- The drive die drives outputs: in ACTIVE or QUIET, started, no power-fail flush (R399, R438). -/
def outputsDriven (s : State) : Bool :=
  (s.power.state == .active || s.power.state == .quiet) && s.power.starting.isNone && !s.power.flushing

/-- A control engine pair runs, and the module drives its outputs (R276). -/
def controlRuns (s : State) : Bool := outputsDriven s && s.cont.ceSilent.isNone

/-- The trip line of a bay: the gale paths of both metering pairs and the per-cycle evaluation (R211). -/
def tripLine (b : Bay) : Bool := b.coil.galeA || b.coil.galeB || b.coil.residual

/-- The conditions under which the module releases a lock (R143). -/
def mayUnlock (s : State) (b : Nat) : Bool :=
  let y := s.bay b
  y.state != .welded &&
    (!y.lock.wasEnergised ||
      (!y.isEnergised && y.lock.weldPassed &&
        (match y.lock.uoLowSince with | some t => t + 100000 ≤ s.time.osc | none => false)))

/-- Both cores enable a bay's coil channel (R211): a failed core's enable is its partner's (R212), and none is left without a core
(R244). -/
def coilEnabled (s : State) (b : Nat) : Bool :=
  let f := s.safety
  let y := (s.bay b).safety
  !f.allLost && (if f.sc1Ok then y.enable1 else y.enable2) && (if f.sc2Ok then y.enable2 else y.enable1)

/-- Both cores enable a channel in the release direction of a lock bridge, its second one (R211, R226). -/
def releaseEnabled (s : State) (k : Nat) : Bool :=
  match s.lockBay k with
  | some b => k == s.lockLsw b || mayUnlock s b
  | none => true

/-- A channel that is commanded on may conduct: it has a type, no latch holds it, its group's supply stands, a coil channel has both
enables and no trip line, and a lock is not released against R226 (R211, R383, R388 to R390). -/
def mayConduct (s : State) (k : Nat) : Bool :=
  let c := s.chan k
  outputsDriven s && chanType s k != 0 && !c.thermal && !c.clampLock && !c.lockedOut &&
    !(s.groups.getD (groupOf k) {}).undervolt &&
    (match s.coilBay k with | some b => !tripLine (s.bay b) && coilEnabled s b | none => releaseEnabled s k)

/-- Switches an output on with a new inrush window; the status bits of the last protective off are cleared (R386, R388). -/
def switchOn (k : Nat) (s : State) : State :=
  s.modChan k fun c => { c with out := true, inrush := true, hold := false, short := false, overload := false,
                                shed := false, retryWait := false, windowTo := s.after (inrushWindow s k), onAt := s.time.osc }

/-- Whether a turn-off of the channel goes into a clamp: an H-bridge recirculates into VLOAD (R381). -/
def clamped (s : State) (k : Nat) : Bool := (s.lockBay k).isNone

/-- Switches an output off: a clamped turn-off adds its energy, a free value, and locks the channel when the sum of the last
second passes CLAMP_MJ (R389). -/
def switchOff (k : Nat) (s : State) : State :=
  if !(s.chan k).out then s
  else
    let e := s.reading (0x1200 + k)
    let off : State := { s with draws := s.draws + 1 }.modChan k fun c => { c with out := false, inrush := false, hold := false }
    if !clamped s k then off
    else
      let s1 := off.modChan k fun c =>
        { c with clamps := (s.time.osc, e) :: c.clamps.filter fun x => s.time.osc < x.1 + 1000000 }
      if clampSum s1 (s1.chan k) > 10 * s.chanField k 48 16 && !(s.chan k).clampLock then
        ntfLsw k 8 (s1.modChan k fun c => { c with clampLock := true })
      else s1

/-- An on command. -/
def commandOn (k : Nat) (s : State) : State :=
  let s1 := s.modChan k fun c => { c with cmd := true }
  if (s.chan k).out then s1 else if mayConduct s1 k then switchOn k s1 else s1

/-- An off command: it cancels a waiting restart without refilling the counter (R390). -/
def commandOff (k : Nat) (s : State) : State :=
  switchOff k (s.modChan k fun c => { c with cmd := false, retryWait := false })

/-- An on command for a channel that no bay holds: while the thermal latch or a back-off is pending the restart of R390 serves
it (R396), where a retry is left for one; a cleared latch serves it otherwise (R393). -/
def hostOn (k : Nat) (s : State) : State :=
  let c := s.chan k
  if !c.out && !c.lockedOut && !c.clampLock && (c.thermal || (!s.due c.backoffTo && 0 < c.offs)) then
    s.modChan k fun c => { c with cmd := true, retryWait := 0 < retriesLeft s k }
  else commandOn k s

/-- Removes queue entries without a report. -/
def dropEntries (sel : QEntry → Bool) (s : State) : State := { s with queue := s.queue.filter fun q => !sel q }

/-- Appends an entry to the timed-action queue, in acceptance order (R36). -/
def enqueue (q : QEntry) (s : State) : State :=
  level 0x32 0 (s.queue.length + 1) { s with queue := s.queue ++ [q] }

end Sys2Proof.Machine
end

