-- ==== Sys2Proof/Machine/Protocol.lean ====
section
/-! DEFINITION. The Goluno command protocol: packets, replies, the checks of R281, the duplicate window, journaling and the
life of a tag (R277 to R308). A command is its Use, its length and reserved bytes, and its body. -/

namespace Sys2Proof.Machine

open Sys2Proof

/-- Who calls: port, world, opcode and tag of the command. -/
structure Call where
  port  : HostPort
  world : Nat
  op    : Nat
  tag   : Nat
  deriving DecidableEq, Repr

/-- The reference that a later notification completes. -/
def Call.ref (c : Call) : CmdRef := { port := c.port, tag := c.tag, op := c.op }

/-- What a command's own rules answer: the state, the status code, and the reply fields behind it. -/
structure Ans where
  state  : State
  status : Nat
  data   : Bytes := []
  deriving DecidableEq, Repr

/-- A refusal changes nothing (R304). -/
def refuse (s : State) (status : Nat) : Ans := { state := s, status := status }

/-- OK without reply fields. -/
def ok (s : State) : Ans := { state := s, status := stOk }

/-- OK with reply fields. -/
def okWith (s : State) (data : Bytes) : Ans := { state := s, status := stOk, data := data }

/-- PENDING. -/
def pending (s : State) : Ans := { state := s, status := stPending }

/-- The life-cycle column of Use (R305). -/
inductive LifeUse where
  | all | notBlank | n | o | c
  deriving DecidableEq, Repr

/-- Whether a life-cycle state is one of a column's. -/
def LifeUse.ok : LifeUse → Lifecycle → Bool
  | .all, _ => true
  | .notBlank, l => l != .blank
  | .n, l => l == .manufactured || l == .calibrated || l == .provisioned || l == .commissioned
  | .o, l => l == .provisioned || l == .commissioned
  | .c, l => l == .calibrated

/-- One opcode: its Use, its payload lengths, its reserved bytes (offset and count), and its own rules. -/
structure Command where
  op     : Nat
  worlds : List Nat := [0, 1, 2, 3]
  life   : LifeUse
  sc     : Bool := false
  /-- Its writes need the open door (R11, R302). -/
  door   : Bool := false
  len    : Bytes → Bool
  rsv    : List (Nat × Nat) := []
  body   : Call → Bytes → State → Ans

/-- A payload of exactly `n` bytes. -/
def exactly (n : Nat) (pl : Bytes) : Bool := pl.length == n

/-- A payload of `lo` to `hi` bytes. -/
def between (lo hi : Nat) (pl : Bytes) : Bool := lo ≤ pl.length && pl.length ≤ hi

/-! ### Sending -/

/-- The bytes of a packet's header (R278). `flags` are the bits above MF. -/
def headerBytes (version world : Nat) (mf : Bool) (flags op tag len frag : Nat) : Bytes :=
  [byte 0xC7, byte version, byte world, byte (bit mf + 2 * flags)] ++ le 2 op ++ le 2 tag ++ le 2 len ++ le 2 frag

/-- The trailer of a received packet (R279). -/
def trailerOf (h : Hdr) (op frag : Nat) (mf : Bool) (pl : Bytes) : Nat :=
  crc32c (headerBytes h.version h.world mf h.flags op h.tag pl.length frag ++ pl)

/-- A packet of the module with its trailer, which goes out little-endian behind the payload (R278, R279). -/
def OutPkt.sealed (k : OutPkt) : OutPkt :=
  { k with trailer :=
      crc32c (headerBytes 1 k.world k.mf (bit k.dup + 2 * bit k.ntf) k.op k.tag k.payload.length k.frag ++ k.payload) }

/-- The bytes of a packet as they leave the port: header, payload, trailer (R278, R279). -/
def OutPkt.bytes (k : OutPkt) : Bytes :=
  headerBytes 1 k.world k.mf (bit k.dup + 2 * bit k.ntf) k.op k.tag k.payload.length k.frag ++ k.payload ++ le 4 k.trailer

/-- A payload cut into fragments (R286, R287): index, more fragments, bytes. -/
def cut (fuel frag : Nat) (pl : Bytes) : List (Nat × Bool × Bytes) :=
  match fuel with
  | 0 => []
  | n + 1 => if pl.length ≤ 4084 then [(frag, false, pl)] else (frag, true, pl.take 4084) :: cut n (frag + 1) (pl.drop 4084)

/-- The packets of a reply. -/
def replyPackets (world op tag : Nat) (dup : Bool) (payload : Bytes) : List OutPkt :=
  (cut 17 0 payload).map fun f =>
    OutPkt.sealed { world := world, op := op, tag := tag, frag := f.1, mf := f.2.1, dup := dup, payload := f.2.2 }

/-- The blocks of COBS: `block` holds the bytes since the last code byte, at most 254 without a zero (R299). -/
def cobsBlocks (block : Bytes) : Bytes → Bytes
  | [] => byte (block.length + 1) :: block
  | b :: bs =>
    if b == 0 then byte (block.length + 1) :: block ++ cobsBlocks [] bs
    else if block.length == 253 then byte 255 :: (block ++ [b]) ++ cobsBlocks [] bs
    else cobsBlocks (block ++ [b]) bs

/-- A packet on UART_TX: COBS, then the 0x00 delimiter (R299). -/
def uartBytes (k : OutPkt) : Bytes := cobsBlocks [] k.bytes ++ [0]

/-- What HOST_MISO carries in a transaction of `hostLen` host bytes: length, status byte and 0, the packet, and padding (R296). -/
def misoBytes (hostLen status : Nat) (k : Option OutPkt) : Bytes :=
  let bytes := (k.map OutPkt.bytes).getD []
  le 2 bytes.length ++ le 1 status ++ [0] ++ padTo (max hostLen bytes.length) bytes

/-- Hands packets to a port: SPI keeps them for the host's transactions (R297), the UART sends them at once (R299). -/
def send (p : HostPort) (pkts : List OutPkt) (s : State) : State :=
  match p with
  | .spi => s.modPort .spi fun q => { q with txQueue := q.txQueue ++ pkts }
  | .uart => count 0x11 1 ((pkts.map fun k => 16 + k.payload.length).sum) (s.modPort .uart fun q => { q with lastTx := pkts, wire := pkts.flatMap uartBytes })

/-- Sends a reply (R280). -/
def reply (p : HostPort) (world op tag : Nat) (dup : Bool) (payload : Bytes) (s : State) : State :=
  send p (replyPackets world op tag dup payload) s

/-- Sends a reply of a status alone. -/
def replyStatus (p : HostPort) (world op tag status : Nat) (s : State) : State := reply p world op tag false (le 2 status) s

/-! ### Receiving -/

/-- The module takes packets (R297, R442): in ACTIVE or QUIET, started, no takeover of the control pair, no flush. -/
def hostReady (s : State) : Bool :=
  controlRuns s

/-- The door shows open for the SAFETY world (R228). -/
def doorShowsOpen (s : State) : Bool := s.safety.doorOpen && !s.safety.doorFault

/-- Step 9 of R281: world, life-cycle state and door, in the order of R12. -/
def useRefusal (c : Command) (call : Call) (s : State) : Option Nat :=
  if !(call.world == 0 || call.world == (s.port call.port).world.code) then some errWorld
  else if !c.worlds.contains call.world then some errWorld
  else if !c.life.ok s.life then some errLifecycle
  else if c.door && !doorShowsOpen s then some errSafety
  else none

/-- Steps 9 to 11 of R281. -/
def runBody (c : Command) (call : Call) (pl : Bytes) (s : State) : Ans :=
  match useRefusal c call s with
  | some e => refuse s e
  | none =>
    if !c.len pl then refuse s errLength
    else if !(c.rsv.all fun r => zeroAt pl r.1 r.2) then refuse s errParam
    else c.body call pl s

/-- A packet in the port's open world keeps it open for another 900 s (R302). -/
def touchWorld (call : Call) (s : State) : State :=
  if call.world != 0 && call.world == (s.port call.port).world.code then
    s.modPort call.port fun p => { p with worldIdle := s.after 900000000 }
  else s

/-- The answer of a command goes out; a state-changing one enters the duplicate window and the journal (R261, R284). -/
def answer (c : Command) (call : Call) (pl : Bytes) (len trailer : Nat) (accepted : Nat) (a : Ans) : State :=
  let payload := le 2 a.status ++ a.data
  let s1 :=
    if a.status == stPending then a.state
    else a.state.modPort call.port fun p => { p with outstanding := p.outstanding.filter (· != call.tag) }
  let s2 :=
    if !c.sc then s1
    else
      let d : DupEntry := { tag := call.tag, op := call.op, world := call.world, len := len, trailer := trailer, reply := payload }
      let j : JournalEntry := { port := call.port, world := call.world, op := call.op, tag := call.tag, payload := pl,
                                instant := accepted, reply := payload }
      let s' := s1.modPort call.port fun p => { p with dups := (d :: p.dups).take 256 }
      { s' with cont := { s'.cont with journal := s'.cont.journal ++ [j] } }
  reply call.port call.world call.op call.tag false payload s2

/-- A checked command from step 8 of R281 on: its tag is outstanding while it runs. -/
def runCommand (c : Command) (call : Call) (pl : Bytes) (len trailer : Nat) (s : State) : State :=
  let s1 := s.modPort call.port fun p => { p with outstanding := call.tag :: p.outstanding.filter (· != call.tag) }
  answer c call pl len trailer s.time.now (runBody c call pl s1)

/-- The duplicate window's entry of a tag. -/
def dupOf (p : PortState) (tag : Nat) : Option DupEntry := p.dups.find? (·.tag == tag)

/-- Steps 3 to 6 of R281 on a packet: `go` takes it on. Packets beyond fragment 0 are not compared with the window. -/
def screen (h : Hdr) (op frag len trailer : Nat) (passes : Bool) (go : State → State) (s : State) : State :=
  if h.version != 1 then replyStatus h.port h.world op h.tag errOpcode s
  else if h.flags != 0 || h.tag == 0 then replyStatus h.port h.world op h.tag errParam s
  else
    let p := s.port h.port
    let dup := if frag == 0 then dupOf p h.tag else none
    match dup with
    | some d =>
      if d.op == op && d.world == h.world && d.len == len && d.trailer == trailer then
        reply h.port h.world op h.tag true d.reply s
      else screenTag (s.modPort h.port fun q => { q with dups := q.dups.filter (·.tag != h.tag) })
    | none => screenTag s
where
  /-- Step 6: the tag is not outstanding and fewer than 64 are. -/
  screenTag (s : State) : State :=
    let p := s.port h.port
    if passes then go s
    else if p.outstanding.contains h.tag then s
    else if 64 ≤ p.outstanding.length then replyStatus h.port h.world op h.tag errBusy s
    else go s

/-- A packet that has arrived on a port in full: its bytes count, and a UART packet with a good trailer ends the wait of
R300. -/
def arrived (p : HostPort) (len : Nat) (s : State) : State :=
  let s1 := count 0x10 p.code (16 + len) s
  match p with
  | .spi => s1
  | .uart => { s1 with uartRate := { s1.uartRate with fallbackWait := none } }

/-- With no APP image that verifies, the boot loader answers PING, GET_IDENTITY, GET_STATUS, OPEN_WORLD, CLOSE_WORLD and the
update opcodes only (R358). -/
def answers (s : State) (op : Nat) : Bool :=
  !s.power.failedKinds.getD 0 false || [0x0100, 0x0101, 0x0102, 0x0108, 0x0109].contains op || op / 256 == 9

/-- An unfragmented host command. -/
def receive (c : Command) (h : Hdr) (pl : Bytes) (s : State) : State :=
  if !hostReady s || !answers s c.op then s
  else if 4084 < pl.length then count 0x12 h.port.code 1 s
  else
    let t := trailerOf h c.op 0 false pl
    let call : Call := { port := h.port, world := h.world, op := c.op, tag := h.tag }
    screen h c.op 0 pl.length t false (runCommand c call pl pl.length t) (touchWorld call (arrived h.port pl.length s))

/-- The meaning of a host command: its packet is received (R281). -/
def hostCmd (c : Command) (h : Hdr) (pl : Bytes) (s : State) : Out := .next (receive c h pl s)

end Sys2Proof.Machine
end

