-- ==== Sys2Proof/Machine/Session.lean ====
section
/-! DEFINITION. Sessions on bays: context transitions and their reports (R181 to R189), the bay's state, pilot drive and lock
(R134 to R143), permission to energise (R222), scheduling a close and a normal open (R144, R147), trips and safe stops (R148,
R223). -/

namespace Sys2Proof.Machine

open Sys2Proof

/-! ### Conditions -/

/-- The health of a core. -/
def coreOk (s : State) : SafetyCore → Bool
  | .sc1 => s.safety.sc1Ok
  | .sc2 => s.safety.sc2Ok

/-- Reserve slots in use (R125). -/
def reserveUsed (s : State) : Nat := (s.legal.records.filter fun r => r.reserve && !r.free).length

/-- The record store is exhausted, or its reserve is low (R125, R126): R207 holds. -/
def storeBlocks (s : State) : Bool := s.legal.exhausted || 768 < reserveUsed s

/-- R207 holds this context in AUTHORISED: it has never entered ENERGISING. -/
def heldByStore (s : State) (c : Ctx) : Bool := storeBlocks s && !c.wk.energised

/-- Streams a bay uses in its MODE (R40, R57): SD0 to SD2 are IA to IC, SD3 to SD5 UA to UC, SD6 is UO, SD7 is IRES. -/
def usedStreams (mode : Nat) : List Nat :=
  if mode == 0 then [0, 1, 2, 3, 4, 5, 6, 7] else if mode == 1 then [0, 3, 6, 7] else [0, 3, 6]

/-- A used stream of the bay has STREAM_FAULT (R43). -/
def streamFaulty (s : State) (b : Nat) : Bool :=
  (usedStreams (s.meterMode b)).any fun k => (s.bay b).meter.faults.getD k false

/-- Both guard channels closed (R140). -/
def guardClosed (b : Bay) : Bool := b.guards.aClosed && b.guards.bClosed

/-- The reasons of NTF_BAY event 2 that block energising of the bay (R137, R139, R141, R43, R207). -/
def blockReasons (s : State) (b : Nat) : List Nat :=
  let y := s.bay b
  let plugged := y.pilot.cp == .b || y.pilot.cp == .c || y.pilot.cp == .d
  let store : Bool := match y.ctx with
    | some c => heldByStore s (s.ctx c) && ((s.ctx c).hd.state == .authorised || (s.ctx c).hd.state == .suspendedEvse)
    | none => false
  (if !s.tethered b && plugged && (y.pilot.pp == .noCable || y.pilot.pp == .invalid) then [0] else []) ++
  (if !y.guards.gstOk then [1] else []) ++ (if y.pilot.cp == .d then [2] else []) ++ (if store then [4] else []) ++
  (if streamFaulty s b then [5] else [])

/-- Energising of the bay is blocked (R139, R141, R43, R249). -/
def energisingBlocked (s : State) (b : Nat) : Bool :=
  !(blockReasons s b).isEmpty || (!s.tethered b && !guardClosed (s.bay b)) || (s.bay b).pilot.awaitA

/-- A site emergency stop or feeder overload trip is in force for a feeder group (R222, R241, R242). -/
def feederStopped (s : State) (g : Nat) : Bool :=
  s.safety.siteEstop.getD g false || (s.safety.feederBit.getD g none).isSome ||
    s.safety.peers.any fun p => p.up && (testBit p.estop g || testBit p.overload g)

/-- Door condition for energising: closed, or DOOR_STOP 0 (R222, R228). -/
def doorStops (s : State) : Bool := s.field 0x0301 0 1 == 1 && (s.safety.doorOpen || s.safety.doorFault)

/-- SAFETY_BAY agrees with BAY_CONFIG (R222). -/
def safetyMatches (s : State) (b : Nat) : Bool :=
  s.safetyField b 1 2 == s.kind b && (s.safetyField b 5 1 == 1) == s.tethered b && s.safetyField b 6 2 == s.feeder b &&
    s.safetyField b 8 8 == s.coilLsw b

/-- A residual self-test pass is valid (R219). -/
def selfTestValid (s : State) (b : Nat) : Bool :=
  match (s.bay b).safety.selfTest.passUntil with | some t => s.time.osc ≤ t | none => false

/-- The insulation monitor reported OK or warning within the last 300 ms (R220). -/
def isoGood (s : State) (b : Nat) : Bool :=
  let v := (s.bay b).conv
  match v.isoAt with | some t => v.iso ≤ 1 && s.time.osc ≤ t + 300000 | none => false

/-- Every condition of R222 but the residual one. -/
def permitBase (s : State) (b : Nat) : Bool :=
  let y := s.bay b
  confirmedNow s && s.bayUsed b && safetyMatches s b && y.guards.gstOk && (s.tethered b || guardClosed y) &&
    (!s.lockReq b || y.lock.locked) && y.state != .fault && y.state != .welded && !y.safety.weldLatch &&
    !y.safety.sdeLatch && !y.safety.sdeFirst && !s.safety.estop && !s.safety.estopLatch && !doorStops s &&
    s.safety.safeOut.getD (s.feeder b) false && !feederStopped s (s.feeder b) && !s.safety.allLost && !s.power.failedKinds.getD 2 false &&
    (!s.safety.newBlocked || (match y.ctx with | some c => (s.ctx c).wk.energised | none => false))

/-- Every condition of R222. -/
def permits (s : State) (b : Nat) : Bool := permitBase s b && (if s.isDc b then isoGood s b else selfTestValid s b)

/-- A permission granted and not lapsed (R222). -/
def permitted (s : State) (b : Nat) : Bool := permits s b && (match (s.bay b).safety.permitUntil with | some t => s.time.osc ≤ t | none => false)

/-- Both cores grant permission for 10 s and enable the coil channel (R211, R222). -/
def grantPermission (b : Nat) (s : State) : State :=
  s.modBay b fun y => { y with safety := { y.safety with permitUntil := some (s.after 10000000), enable1 := true, enable2 := true } }

/-- Both cores take their enables for the coil channel back (R211). -/
def withdrawEnables (b : Nat) (s : State) : State :=
  s.modBay b fun y => { y with safety := { y.safety with permitUntil := none, enable1 := false, enable2 := false } }

/-! ### Context transitions -/

/-- Changes the header of a context. -/
def State.modHd (s : State) (c : Nat) (f : CtxHeader → CtxHeader) : State := s.modCtx c fun x => { x with hd := f x.hd }

/-- Changes the work part of a context. -/
def State.modWk (s : State) (c : Nat) (f : CtxWork → CtxWork) : State := s.modCtx c fun x => { x with wk := f x.wk }

/-- A recomputation of the allocator is due (R200). -/
def markDirty (s : State) : State := { s with budget := { s.budget with dirty := true } }

/-- Completes a CTX_START that is outstanding (R467): confirmed, or refused with a status. Without one, a removed close is
still reported. -/
def completeStart (c : Nat) (status : Nat) (old : CtxState) (s : State) : State :=
  let cmd := (s.ctx c).wk.startCmd
  let s1 := s.modWk c fun w => { w with startCmd := none }
  ntfCtxFull c old (s.ctx c).hd.state 11 (le 1 (bit (status != stOk)) ++ le 1 0 ++ le 2 (if status == stOk then 0 else status))
    cmd (if cmd.isSome then status else 0) s1

/-- What takes the module out of QUIET has happened (R433). -/
def wakeQuiet (s : State) : State :=
  if s.power.state == .quiet then { s with power := { s.power with quietExit := true } } else s

/-- Sets the state of a context and reports the transition (R182); CTX_RESUME completes when the context leaves
SUSPENDED_EVSE. A context that reaches BOUND takes the module out of QUIET (R433). -/
def toCtxState (c : Nat) (new : CtxState) (cause : Nat) (detail : Bytes) (cmd : Option CmdRef) (status : Nat) (s : State) :
    State :=
  let old := (s.ctx c).hd.state
  let s1 := s.modHd c fun h => { h with state := new }
  let s2 := if new == .energising then s1.modWk c fun w => { w with energised := true, afterPower := false } else s1
  let s3 :=
    if new == .charging then s2.modWk c fun w => { w with chargingAt := some (w.chargingAt.getD s.time.osc) } else s2
  markDirty (ntfCtxFull c old new cause detail cmd status (if new == .bound then wakeQuiet s3 else s3))

/-- A transition of R182; a CTX_START or CTX_RESUME that it ends is completed with `refusal` (R467, R188). -/
def moveCtx (c : Nat) (new : CtxState) (cause : Nat) (detail : Bytes) (refusal : Nat) (s : State) : State :=
  let x := s.ctx c
  let resumes := if x.hd.state == .suspendedEvse then x.wk.resumeCmds else []
  let status := if new == .bound then stOk else refusal
  let s1 := if resumes.isEmpty then s else s.modWk c fun w => { w with resumeCmds := [] }
  let s2 := (resumes.drop 1).foldl (fun a r => ntfCtxFull c new new cause detail (some r) status a)
    (toCtxState c new cause detail resumes.head? status s1)
  if x.wk.startCmd.isSome && new != .energising then completeStart c refusal new s2 else s2

/-- A bay without a context that waits for one, the longest waiting first (R189 step 4). -/
def waitingBay (s : State) : Option Nat :=
  ((List.range 32).filter fun b => (s.bay b).waitingAt.isSome && (s.bay b).state == .occupied && (s.bay b).ctx.isNone &&
      !(s.bay b).pilot.awaitA).foldl
    (fun best b => match best with
      | none => some b
      | some a => if ((s.bay b).waitingAt.getD 0) < ((s.bay a).waitingAt.getD 0) then some b else some a) none

/-- The lowest-numbered FREE context (R188). -/
def freeCtx (s : State) : Option Nat := (List.range 256).find? fun c => (s.ctx c).hd.state == .free

/-- Binds a context to a bay; its first attributed cycle begins at the next boundary (R76, R120). -/
def bindTo (c b : Nat) (s : State) : State :=
  let s1 := (s.modHd c fun h => { h with bay := some b, tStart := 0 }).modWk c fun w =>
    { w with boundAt := none, opening := none }
  markDirty (s1.modBay b fun y => { y with ctx := some c, waitingAt := none, noted := [] })

/-- Opens a FREE context in RESERVED (R189). -/
def openCtx (c : Nat) (byModule : Bool) (reserve : Option Nat) (priority expiry : Nat) (s : State) : State :=
  let hd : CtxHeader := { state := .reserved, byModule := byModule, reserveBay := reserve, priority := priority,
                          tOpen := s.time.now, expiry := expiry }
  s.modCtx c fun _ => { hd := hd, wk := {} }

/-- The module opens and binds the lowest FREE context at a plug-in (R189 step 3), or the bay waits (step 4, R207). -/
def openForBay (b : Nat) (s : State) : State :=
  if storeBlocks s then
    ntfBay b 2 [byte 4] (s.modBay b fun y => { y with waitingAt := some (y.waitingAt.getD s.time.osc) })
  else match freeCtx s with
    | some c =>
      let s1 := bindTo c b (openCtx c true none 3 0 s)
      ntfCtxFull c .free .reserved 2 [] none 0 s1
    | none => ntfBay b 2 [byte 3] (s.modBay b fun y => { y with waitingAt := some (y.waitingAt.getD s.time.osc) })

/-- A context that became FREE goes to the bay that has waited longest (R189 step 4). -/
def serveWaiting (s : State) : State :=
  match waitingBay s with
  | some b => if storeBlocks s || (freeCtx s).isNone then s else openForBay b s
  | none => s

/-- Ends a binding: the bay keeps its vehicle and holds no context. -/
def unbind (c : Nat) (s : State) : State :=
  match (s.ctx c).hd.bay with
  | some b =>
    let s1 := s.modHd c fun h => { h with bay := none, tStart := 0 }
    markDirty (s1.modBay b fun y => if y.ctx == some c then { y with ctx := none, noted := y.noted.filter (· != 6) } else y)
  | none => s

/-- A context goes to FREE (R182): the transition is reported, the record is emptied, and a waiting bay is served. -/
def freeContext (c : Nat) (cause : Nat) (detail : Bytes) (s : State) : State :=
  let s1 := moveCtx c .free cause detail errState s
  let s2 := (unbind c s1).modCtx c fun _ => {}
  serveWaiting s2

/-! ### Bay state and pilot drive -/

/-- The bay state and, for FAULT and WELDED, the fault code; the change is reported (R134, R291 event 0). The drive of CPO
that a state asks for takes effect at the next cycle boundary (R135). -/
def setBayFull (b : Nat) (new : BayState) (cause : Nat) (cmd : Option CmdRef) (status : Nat) (s : State) : State :=
  let old := (s.bay b).state
  let s1 := s.modBay b fun y => { y with state := new, faultCode := if new == .fault || new == .welded then cause else 0 }
  if old == new && cmd.isNone then s1 else ntfBayFull b 0 [byte old.code, byte new.code, byte cause] cmd status s1

/-- A bay state change that completes no command. -/
def setBay (b : Nat) (new : BayState) (cause : Nat) (s : State) : State := setBayFull b new cause none 0 s

/-- A bay state change that completes the commands that waited for it, each with a notification of its own (R282, R312). -/
def setBayFor (b : Nat) (new : BayState) (cause : Nat) (cmds : List CmdRef) (s : State) : State :=
  (cmds.drop 1).foldl (fun a c => ntfBayFull b 0 [byte new.code, byte new.code, byte cause] (some c) stOk a)
    (setBayFull b new cause cmds.head? stOk s)

/-- Asks for a drive of CPO from the next cycle boundary on (R135). -/
def driveNext (b : Nat) (d : CpoDrive) (duty : Nat) (s : State) : State :=
  s.modBay b fun y => { y with pilot := { y.pilot with next := some (d, duty) } }

/-- Drives CPO to state F at once (R135): the state filtered last stays for the comparison of R466. -/
def driveF (b : Nat) (s : State) : State :=
  s.modBay b fun y =>
    let p := y.pilot
    { y with pilot := { p with drive := .stateF, duty := 0, next := none, offered := 0 } }

/-- A bay enters FAULT (R135): state F from the next boundary on; a safe stop has driven it already. -/
def enterFault (b cause : Nat) (s : State) : State := setBay b .fault cause (driveNext b .stateF 0 s)

/-! ### Locks -/

/-- Drives a lock bridge: the first channel in the locking direction, the second in the release direction. -/
def driveLock (b : Nat) (locking : Bool) (attempt : Nat) (s : State) : State :=
  let k := s.lockLsw b
  let s1 := if locking then commandOn k (commandOff (k + 1) s) else commandOn (k + 1) (commandOff k s)
  s1.modBay b fun y => { y with lock := { y.lock with
    drive := some { attempt := attempt, locking := locking, start := s.time.osc, pulse := true } } }

/-- Begins to lock a bay that wants its lock (R142). -/
def startLock (b : Nat) (s : State) : State :=
  let y := s.bay b
  if y.lock.locked || y.lock.drive.isSome || y.lock.held then s
  else if s.lockType b == 1 then driveLock b true 1 s
  else if s.lockType b == 2 then
    let s1 := (commandOn (s.lockLsw b) s).modBay b fun y => { y with lock := { y.lock with held := true } }
    s1.modBay b fun y => { y with lock := { y.lock with
      drive := some { attempt := 1, locking := true, start := s.time.osc, pulse := false } } }
  else s

/-- Releases a bay's lock (R143): a motor lock is driven for its pulse, a held solenoid is let go. -/
def releaseLock (b : Nat) (s : State) : State :=
  let s1 :=
    if s.lockType b == 1 then driveLock b false 1 s
    else if s.lockType b == 2 then
      (commandOff (s.lockLsw b) s).modBay b fun y => { y with lock := { y.lock with held := false, drive := none } }
    else s
  s1.modBay b fun y => { y with lock := { y.lock with locked := false, wasEnergised := false } }

/-- Releases the lock if the conditions hold already; LOCK_RELEASE does it later otherwise (R143). -/
def tryUnlock (b : Nat) (s : State) : State :=
  let l := (s.bay b).lock
  if (l.locked || l.held) && mayUnlock s b then releaseLock b s else s

/-- LOCKED, or a bay that drives no lock (R132, R182). -/
def lockReady (s : State) (b : Nat) : Bool := (s.bay b).lock.locked || s.lockType b == 0

/-! ### Closing -/

/-- The angle of the close target (R133 CLOSE_TARGET): angle 0, the zero of the bay's UA, or CLOSE_ANGLE. -/
def closeTarget (s : State) (b : Nat) : Nat :=
  match s.bayField b 4 2 with
  | 1 =>
    let q := (s.bay b).meter.q.phases.getD 0 {}
    if 100 * q.uRms < 20 * s.nominalVoltage then 0
    else ((-q.phiUu * 8192 + 36000) / 72000 % 4096).toNat
  | 2 => s.bayField b 8 12
  | _ => 0

/-- Operate time in au at FREQ (R34). -/
def operateAu (s : State) (b : Nat) : Nat := usToAu (operateUs s b) s.clk.freq

/-- The first point at an angle whose issue point, `back` au before it, lies at least 128 au ahead (R144, R147). -/
def firstPoint (s : State) (angle back : Nat) : BitVec 32 × Nat :=
  let issue (k : Nat) : BitVec 32 × Nat := movePoint (s.clk.cycle + BitVec.ofNat 32 k) angle (-(back : Int))
  (((List.range 32).map issue).find? fun p => 128 ≤ s.lead p.1 p.2).getD (issue 32)

/-- The issue point of a close (R34): the point less the operate time on an AC bay, the point itself on a DC bay. -/
def issuePoint (s : State) (b : Nat) (cycle : BitVec 32) (angle : Nat) : BitVec 32 × Nat :=
  if s.isDc b then (cycle, angle) else movePoint cycle angle (-(operateAu s b : Int))

/-- Queues the close of a bay for its context: CLOSING and ENERGISING (R137, R181). -/
def queueClose (b c : Nat) (q : QEntry) (bayCause ctxCause : Nat) (s : State) : State :=
  moveCtx c .energising ctxCause [] stOk (setBay b .closing bayCause (enqueue q s))

/-- The queue entry of a close at an issue point. -/
def closeEntry (s : State) (b c : Nat) (p : BitVec 32 × Nat) (target : Nat) (asap : Bool) : QEntry :=
  { chan := s.coilLsw b, bay := some b, kind := .close c, cycle := p.1, angle := p.2, target := target, asap := asap }

/-- The duration of some cycles at FREQ in µs. -/
def testCycles (s : State) (n : Nat) : Nat := n * quotN 1000000000 (max 1 s.clk.freq)

/-- A run of the self-test on the coil's off channel: two cycles before the pulse, three in it and two after it; DC1 is held in them
and for two more (R219). -/
def runSelfTest (b failures : Nat) (s : State) : State :=
  s.modBay b fun y => { y with safety := { y.safety with
    selfTest := { y.safety.selfTest with
      runningTo := some (s.after (testCycles s 7)), failures := failures, values := [], rts := false }
    dc1HoldTo := s.after (testCycles s 9) } }

/-- A self-test begins (R219). -/
def startSelfTest (b : Nat) (cmd : Option CmdRef) (s : State) : State :=
  (runSelfTest b 0 s).modBay b fun y => { y with safety := { y.safety with selfTest := { y.safety.selfTest with cmd := cmd } } }

/-- Only the self-test is missing for permission, and none runs (R219, R222). -/
def needsSelfTest (s : State) (b : Nat) : Bool :=
  !s.isDc b && permitBase s b && !selfTestValid s b && (s.bay b).safety.selfTest.runningTo.isNone && !(s.bay b).coil.on

/-- A READY bay in filtered C schedules its close (R137, R144); an AC bay needs the clock in LOCKED. A permission is granted
as the close is scheduled; a missing self-test runs first. No close follows a trip in its cycle (R156). -/
def autoClose (b : Nat) (s : State) : State :=
  let y := s.bay b
  match y.ctx with
  | none => s
  | some c =>
    let st := (s.ctx c).hd.state
    if y.state != .ready || y.pilot.cp != .c || !(st == .bound || st == .suspendedEv) || y.coil.startWait.isSome ||
        y.coil.tripCycle == some s.clk.cycle then s
    else if !s.isDc b && s.clk.state != .locked then s
    else if needsSelfTest s b then startSelfTest b none s
    else if !permits s b || 512 ≤ s.queue.length then s
    else if s.isDc b then
      queueClose b c (closeEntry s b c (s.clk.cycle, s.clk.angle) s.clk.angle true) 1 1 (grantPermission b s)
    else
      let t := closeTarget s b
      queueClose b c (closeEntry s b c (firstPoint s t (operateAu s b)) t false) 1 1 (grantPermission b s)

/-! ### READY -/

/-- The bay's minimum grant (R182): 6 000 mA on an AC bay, any on a DC bay. -/
def minGrant (s : State) (b : Nat) : Nat := if s.isDc b then 1 else 6000

/-- Reports blocking reasons that were not in force before, and forgets those that have gone (R291 event 2). -/
def noteReasons (b : Nat) (rs : List Nat) (s : State) : State :=
  let known := (s.bay b).noted
  let s1 := rs.foldl (fun a r => if known.contains r then a else ntfBay b 2 [byte r] a) s
  s1.modBay b fun y => { y with noted := rs ++ known.filter (· == 6) }

/-- A BOUND context of a bay that is no longer READY is AUTHORISED again, still bound (R181, R182, R292 cause 14). -/
def dropBound (b : Nat) (s : State) : State :=
  match (s.bay b).ctx with
  | some c => if (s.ctx c).hd.state == .bound then moveCtx c .authorised 14 [] errState s else s
  | none => s

/-- The bay leaves READY for OCCUPIED. -/
def leaveReady (b : Nat) (cause : Nat) (s : State) : State :=
  if (s.bay b).state != .ready then s
  else dropBound b (setBay b .occupied cause (s.modBay b fun y => { y with coil := { y.coil with startWait := none } }))

/-- A context whose bay has reached READY becomes BOUND: from AUTHORISED; from SUSPENDED_EVSE unless the host suspended it and
has not resumed it; not while R207 holds one that has never entered ENERGISING (R182, R188, R203). -/
def ctxReady (c : Nat) (s : State) : State :=
  let x := s.ctx c
  if heldByStore s x then s
  else match x.hd.state with
  | .authorised => moveCtx c .bound 14 [] stOk s
  | .suspendedEvse => if x.wk.byHost then s else moveCtx c .bound (if x.wk.resumeCmds.isEmpty then 4 else 0) [] stOk s
  | _ => s

/-- Looks again at a bay that is OCCUPIED or READY (R182): locks it for an authorised context, and moves it to READY once
lock, grant and permission are there. -/
def evaluateBay (b : Nat) (s : State) : State :=
  let y := s.bay b
  if (y.state != .occupied && y.state != .ready) || s.cont.ceSilent.isSome then s
  else match y.ctx with
    | none => tryUnlock b (leaveReady b 0 (noteReasons b ((blockReasons s b).filter fun r => r == 0 || r == 2) s))
    | some c =>
      let x := s.ctx c
      let live := x.hd.state == .authorised || x.hd.state == .bound || x.hd.state == .suspendedEv || x.hd.state == .suspendedEvse
      if !live then tryUnlock b (leaveReady b 0 (noteReasons b ((blockReasons s b).filter fun r => r == 0 || r == 2) s))
      else
        let s1 := noteReasons b (blockReasons s b) (startLock b s)
        if energisingBlocked s1 b || !lockReady s1 b || x.hd.iGrant < minGrant s1 b then leaveReady b 0 s1
        else if (s1.bay b).state == .ready then autoClose b (ctxReady c s1)
        else if permits s1 b then autoClose b (ctxReady c (setBay b .ready 0 (grantPermission b s1)))
        else if needsSelfTest s1 b then startSelfTest b none s1
        else s1

/-! ### Opening -/

/-- Removes the bay's queued entries (R38). -/
def dropBayEntries (b : Nat) (s : State) : State := dropEntries (fun q => q.bay == some b) s

/-- The weld check begins with the coil command (R149). -/
def beginWeldCheck (b cause : Nat) (s : State) : State :=
  let s1 := s.modBay b fun y => { y with
    coil := { y.coil with on := false, closeAt := none, dcOpenAt := none, openAt := some s.time.osc, openCause := cause, ua50At := none, suspendAt := none }
    lock := { y.lock with weldPassed := false, uoLowSince := none } }
  setBay b .weldCheck cause s1

/-- Switches the coil channel off: the contactor opens, and the weld check runs. -/
def coilOff (b cause : Nat) (s : State) : State := beginWeldCheck b cause (commandOff (s.coilLsw b) (withdrawEnables b s))

/-- p_start of a bay in mW (R58). -/
def pStart (s : State) (b : Nat) : Nat :=
  quotN (s.field (0x0420 + b) 0 32 * s.uRef b * s.field (0x0420 + b) 96 16) 1000000000

/-- The phase whose current zero an open targets: that with the highest I_RMS (R147). -/
def openPhase (q : CycleQ) : PhaseQ :=
  q.phases.foldl (fun best p => if best.iRms < p.iRms then p else best) (q.phases.getD 0 {})

/-- The angle of a current zero of the phase (R147): its voltage zero plus its PHI_UI. -/
def currentZero (p : PhaseQ) : Nat := (((-p.phiUu + p.phiUi) * 8192 + 36000) / 72000 % 4096).toNat

/-- A message for the converter's CAN controller: identifier, alive counter, 13 bytes and CRC (R151). The last 64 frames
sent are kept. -/
def sendCan (b m : Nat) (body : Bytes) (s : State) : State :=
  let cfg := 0x0540 + b
  let ident := 0x400 + 32 * m + s.field cfg 8 5
  let alive := ((s.bay b).conv.txAlive.getD m 0 + 1) % 256
  let front := le 1 alive ++ padTo 13 body
  let f : CanFrame := { can := s.field cfg 0 1, ident := ident, data := front ++ le 2 (crc16 (le 2 ident ++ front)) }
  let s1 := count 0x11 (4 + f.can) 16 { s with canOut := (f :: s.canOut).take 64 }
  s1.modBay b fun y => { y with conv := { y.conv with txAlive := y.conv.txAlive.modify m fun _ => alive } }

/-- RUN of a bay's HEARTBEAT (R152): run permitted on an enabled bay outside FAULT and WELDED, while nothing holds it at 0. -/
def runBit (s : State) (b : Nat) : Nat :=
  let y := s.bay b
  bit (y.enabled && y.state != .fault && y.state != .welded && !y.conv.runHeld && !s.safety.allLost && outputsDriven s)

/-- HEARTBEAT (R152). -/
def sendHeartbeat (b : Nat) (s : State) : State := sendCan b 0 (le 1 (runBit s b) ++ le 4 s.clk.cycle.toNat) s

/-- SETPOINT (R152). -/
def sendSetpoint (b : Nat) (s : State) : State :=
  let v := (s.bay b).conv
  sendCan b 1 (le 1 v.setMode ++ le 4 v.setMv ++ le 4 (pattern 32 v.setMa) ++ le 4 v.setMw) s

/-- SETPOINT OFF, or with current 0, for a DC bay's converter, sent with the change (R152, R155, R223). -/
def setpointZero (b : Nat) (off : Bool) (s : State) : State :=
  sendSetpoint b (s.modBay b fun y =>
    { y with conv := { y.conv with setMode := if off then 0 else y.conv.setMode, setMa := 0, setMw := 0 } })

/-- The earlier of two points. -/
def earlierPoint (s : State) (p q : BitVec 32 × Nat) : BitVec 32 × Nat := if s.lead q.1 q.2 < s.lead p.1 p.2 then q else p

/-- The issue point of an open on a current zero, of either sign (R147). -/
def openPoint (s : State) (b : Nat) : BitVec 32 × Nat :=
  let zero := currentZero (openPhase (s.bay b).meter.q)
  let back := usToAu (releaseUs s b) s.clk.freq
  earlierPoint s (firstPoint s zero back) (firstPoint s ((zero + 2048) % 4096) back)

/-- A normal open (R147, R155). A close still queued is removed instead; a coil commanded and not confirmed, or carrying less
than p_start on every phase, opens at once; a DC bay first commands current 0, once. DESIGN CHOICE (log entry 161): an open on a current
zero that finds the timed-action queue full is issued at once (R36). -/
def normalOpen (b cause : Nat) (s : State) : State :=
  let y := s.bay b
  if !y.coil.on then
    if y.state == .closing then setBay b .ready cause (dropBayEntries b s) else s
  else
    let s1 := (dropBayEntries b s).modBay b fun y => { y with coil := { y.coil with openCause := cause } }
    if s.isDc b then
      let s2 := s1.modBay b fun y => { y with coil := { y.coil with dcOpenAt := some (y.coil.dcOpenAt.getD s.time.osc) } }
      setBay b .opening cause (setpointZero b false s2)
    else if s.bayField b 6 1 == 0 || 512 ≤ s1.queue.length || y.meter.q.phases.all (fun p => p.p.natAbs < pStart s b) then
      coilOff b cause (setBay b .opening cause s1)
    else
      let p := openPoint s b
      setBay b .opening cause
        (enqueue { chan := s.coilLsw b, bay := some b, kind := .normalOpen, cycle := p.1, angle := p.2 } s1)

/-- An open issued at once (R137: C → B in CLOSING with the coil commanded); a DC bay commands current 0 first (R155). -/
def openAtOnce (b cause : Nat) (s : State) : State :=
  let y := s.bay b
  if y.coil.on then
    let s1 := dropBayEntries b s
    coilOff b cause (if s.isDc b then setpointZero b false s1 else s1)
  else if y.state == .closing then setBay b .ready cause (dropBayEntries b s) else s

/-! ### The end of a session -/

/-- States of a running session (R182, FINISHING row). -/
def running (st : CtxState) : Bool :=
  st == .energising || st == .charging || st == .suspendedEv || st == .suspendedEvse

/-- RESERVED, AUTHORISED or BOUND. -/
def unstarted (st : CtxState) : Bool := st == .reserved || st == .authorised || st == .bound

/-- A context that may be freed without a record: before its start, and never in ENERGISING (R182, R183). -/
def freeable (x : Ctx) : Bool := unstarted x.hd.state && !x.wk.energised

/-- A context that leaves through FINISHING: a running session, or one that has entered ENERGISING and is before its start again
(R182, R183). DEDUCED (log entry 167). -/
def endable (x : Ctx) : Bool := running x.hd.state || (unstarted x.hd.state && x.wk.energised)

/-- A context enters FINISHING with its first end cause (R183); the closing readings fall due at once when the contactor is
not closed, otherwise when it has opened (R120). -/
def toFinishing (c endCause cause : Nat) (flags : Nat) (refusal : Nat) (s : State) : State :=
    let x := s.ctx c
    let e := if x.wk.afterPower && x.hd.state == .suspendedEvse then 5 else endCause
    let s1 := s.modHd c fun h => { h with endCause := if h.endCause == 0xFF then e else h.endCause, flags := h.flags ||| flags }
    let closed := match x.hd.bay with | some b => (s.bay b).isEnergised || (s.bay b).coil.openAt.isSome | none => false
    let s2 := s1.modWk c fun w => { w with closeDue := w.closeDue || !closed, cuts := [] }
    moveCtx c .finishing cause (if cause == 6 || cause == 7 then [byte e] else []) refusal s2

/-- The end of a running session (R182, FINISHING row). -/
def finishCtx (c endCause cause : Nat) (flags : Nat) (refusal : Nat) (s : State) : State :=
  if running (s.ctx c).hd.state then toFinishing c endCause cause flags refusal s else s

/-- The contactor of a bay has opened: the cycle in progress is the last one attributed to a FINISHING context (R120). -/
def contactorOpened (b : Nat) (s : State) : State :=
  match (s.bay b).ctx with
  | some c => if (s.ctx c).hd.state == .finishing then s.modWk c fun w => { w with closeDue := true } else s
  | none => s

/-! ### Trips and safe stops -/

/-- A trip (R148): the enables are withdrawn, the bay's queued entries go, its coil channel is switched off at once, and the weld
check runs; a bay that the cause puts in FAULT enters it when the open completes, or at once when there is nothing to open. -/
def trip (b cause : Nat) (toFault : Bool) (s : State) : State :=
  let y := s.bay b
  let s1 := askFlush (dropBayEntries b (withdrawEnables b s))
  let s2 := if toFault then s1.modBay b fun y => { y with coil := { y.coil with faulting := some cause } } else s1
  let s3 := s2.modBay b fun y => { y with coil := { y.coil with startWait := none, tripCycle := some s.clk.cycle } }
  if y.coil.on then coilOff b cause s3
  else if y.state == .weldCheck then s3
  else if y.state == .disabled || y.state == .fault || y.state == .welded then s1
  else if toFault then
    enterFault b cause (s3.modBay b fun y => { y with coil := { y.coil with faulting := none } })
  else if y.state == .closing then setBay b .ready cause s3
  else s3

/-- On a DC bay RUN is held at 0, an extra HEARTBEAT says so, and SETPOINT goes to OFF (R223). -/
def stopConverter (b : Nat) (s : State) : State :=
  if !s.isDc b then s
  else
    setpointZero b true (sendHeartbeat b (s.modBay b fun y => { y with conv := { y.conv with runHeld := true } }))

/-- A safe stop (R223): trip, state F, converter stopped, and the session FINISHING with end cause 4 and SAFE_STOP. A bay left
out of FAULT holds state F until the weld check has passed and takes no session before a filtered CP A (R466, R249).
`fn` is the function code of NTF_SAFETY event 0 (R293). -/
def safeStop (b fn cause : Nat) (toFault : Bool) (s : State) : State :=
  let y := s.bay b
  if y.state == .disabled || y.state == .fault || y.state == .welded then s
  else
    let wasOpen := y.isEnergised || y.coil.openAt.isSome
    let s0 := driveF b s
    let s1 := trip b cause toFault (if toFault then s0 else leaveReady b cause s0)
    let s1 := stopConverter b (if toFault then dropBound b s1 else s1)
    let s2 :=
      if toFault then s1
      else s1.modBay b fun z => { z with
        pilot := { z.pilot with stopHold := wasOpen, awaitA := true, awaitFirst := !wasOpen, next := if wasOpen then none else some (.steady, 0) } }
    let s3 := match y.ctx with
      | some c => finishCtx c 4 7 0x80 errSafety s2
      | none => s2
    ntfSafety 0 b fn s3

/-- A bay fault without a trip: FAULT, and a running session ends with cause 6 (R183). -/
def faultBay (b cause : Nat) (s : State) : State :=
  let y := s.bay b
  if y.state == .disabled || y.state == .fault || y.state == .welded then s
  else
    let s1 := dropBound b (enterFault b cause (dropBayEntries b s))
    match y.ctx with
    | some c => finishCtx c 6 7 0 errState s1
    | none => s1

/-- SAFE_OUT pairs as their causes leave them: in use, no readback latch, no welded bay of the group, no emergency stop on a
pair of ESTOP_OUT, a core alive (R229, R230, R149, R244, R249). -/
def refreshSafeOut (s : State) : State :=
  let used := s.field 0x0301 12 4
  let eout := s.field 0x0301 8 4
  let welded (g : Nat) : Bool := (List.range 32).any fun b => s.feeder b == g && (s.bay b).safety.weldLatch
  let on (g : Nat) : Bool :=
    testBit used g && !s.safety.outFault.getD g false && !welded g &&
      !((s.safety.estop || s.safety.estopLatch) && testBit eout g) && !s.safety.allLost &&
      !s.power.failedKinds.getD 2 false && outputsDriven s
  { s with safety := { s.safety with outA := (List.range 4).map on, outB := (List.range 4).map on } }

/-- A bay loses its supply upstream (R149): a power loss, no fault. DESIGN CHOICE (log entry 161): its contactor opens at once and its
running session is suspended as after a power cut (R183, R210). -/
def supplyLost (b : Nat) (s : State) : State :=
  let y := s.bay b
  if !(y.coil.on || y.state == .closing) then s
  else
    let s1 := match y.ctx with
      | some c =>
        if running (s.ctx c).hd.state && (s.ctx c).hd.state != .suspendedEvse then
          (moveCtx c .suspendedEvse 9 [byte StartClass.p.letter] errState s).modCtx c fun x =>
            { hd := { x.hd with flags := x.hd.flags ||| 2 }, wk := { x.wk with afterPower := true, outages := x.wk.outages + 1 } }
        else s
      | none => s
    openAtOnce b 0 s1

/-- A bay enters WELDED (R149, R227): latch, feeder pair dropped, a session not yet FINISHING ends with cause 7. -/
def enterWelded (b : Nat) (s : State) : State :=
  let y := s.bay b
  let s1 := (driveNext b .stateF 0 (dropBayEntries b s)).modBay b fun z => { z with
    safety := { z.safety with weldLatch := true }
    coil := { z.coil with openAt := none, faulting := none, disableCmds := [] } }
  let s2 := setBayFor b .welded 5 y.coil.disableCmds s1
  let s3 := match y.ctx with | some c => finishCtx c 7 7 0 errState (dropBound b s2) | none => s2
  let s4 := ((List.range 32).filter fun k => k != b && s.feeder k == s.feeder b).foldl (fun a k => supplyLost k a) s3
  askFlush (ntfSafety 2 b 1 (refreshSafeOut (contactorOpened b s4)))

end Sys2Proof.Machine
end

