-- ==== Sys2Proof/Machine/Params.lean ====
section
/-! DEFINITION. Key checks (R341), staging and commit of parameter objects (R328 to R333) and the rules the objects have
between their fields and against the state. -/

namespace Sys2Proof.Machine

open Sys2Proof

/-! ### Key use -/

/-- Who uses a key (R341): a command with its port and world, a frame of the site link, the internal control engine, or an
engine of class B. -/
inductive Requester where
  | command (port : HostPort) (world : Nat)
  | siteLink
  | controlEngine
  | engine (e : Nat)
  deriving DecidableEq, Repr

/-- The master bit of a requester (R334 MASTERS). -/
def Requester.master : Requester → Nat
  | .command .spi _ => 0
  | .command .uart _ => 1
  | .siteLink => 2
  | _ => 3

/-- The world of a requester, 0 where frames and firmware carry none. -/
def Requester.world : Requester → Nat
  | .command _ w => w
  | _ => 0

/-- Check 4 of R341. -/
def requesterOk (k : KeySlot) : Requester → Bool
  | .command p w => !k.classB && testBit k.masters (Requester.command p w).master && testBit k.worlds w
  | .siteLink => !k.classB && testBit k.masters 2
  | .controlEngine => !k.classB && testBit k.masters 3
  | .engine e => k.classB && k.engine == e

/-- Checks 1 to 3 of R341 on slot `n` for an operation that needs one of `types` and a usage bit: the first that fails and its
status. -/
def slotFailure (s : State) (n : Nat) (types : List Nat) (usage : Nat) : Option (Nat × Nat) :=
  let k := s.key n
  if 512 ≤ n || k.state != .valid then some (1, errNotFound)
  else if !(types.contains k.type && testBit k.usage usage) then some (2, errAuth)
  else if !testBit k.lifecycles s.life.code then some (3, errAuth)
  else none

/-- The four checks of R341. -/
def keyFailure (s : State) (n : Nat) (types : List Nat) (usage : Nat) (r : Requester) : Option (Nat × Nat) :=
  match slotFailure s n types usage with
  | some f => some f
  | none => if requesterOk (s.key n) r then none else some (4, errAuth)

/-- Whether a use passes R341. -/
def keyUsable (s : State) (n : Nat) (types : List Nat) (usage : Nat) (r : Requester) : Bool :=
  (keyFailure s n types usage r).isNone

/-- Records a refused key use (R341, R368 type 0x0901). -/
def recordKeyRefusal (n check : Nat) (r : Requester) (s : State) : State :=
  record 0x0901 0 1 (le 2 n ++ le 1 check ++ le 1 r.master ++ le 1 r.world) s

/-- The requester that a function presents for a slot: its engine for class B, its master for class A (R341). -/
def presented (s : State) (n : Nat) (a : Requester) (engine : Nat) : Requester := if (s.key n).classB then .engine engine else a

/-- A function may use a named slot (R341). -/
def functionKeyUsable (s : State) (n : Nat) (types : List Nat) (usage : Nat) (a : Requester) (engine : Nat) : Bool :=
  keyUsable s n types usage (presented s n a engine)

/-- A function asks for a key: a refused use is recorded (R341); 0xFFFF names no slot. -/
def askKey (n : Nat) (types : List Nat) (usage : Nat) (r : Requester) (s : State) : State :=
  if n == 0xFFFF then s
  else match keyFailure s n types usage r with
  | some f => recordKeyRefusal n f.1 r s
  | none => s

/-! ### Staging -/

/-- Worlds that may write an object with SET_PARAM (R328). -/
def writeWorlds (id : Nat) : List Nat :=
  if id == 0x0022 || id == 0x0026 || id == 0x0510 || inBlock id 0x0520 16 then [1] else [0, 1, 2, 3]

/-- The staged copy of an object on a port. -/
def stagedOf (p : PortState) (id : Nat) : Option Staged := p.staging.find? (·.id == id)

/-- Puts an object into a port's staging set, in ascending identifier; a first write carries the active version (R331). -/
def stage (port : HostPort) (id : Nat) (data : Bytes) (s : State) : State :=
  let v := match stagedOf (s.port port) id with | some g => g.version | none => objectVersion s id
  s.modPort port fun p => { p with staging :=
    (p.staging.filter (·.id < id)) ++ [{ id := id, version := v, data := data }] ++ (p.staging.filter (id < ·.id)) }

/-- The bytes a write starts from: the staged copy, else the active object (R331). -/
def stageBase (s : State) (port : HostPort) (id : Nat) : Bytes :=
  match stagedOf (s.port port) id with | some g => g.data | none => s.param id

/-- The checks of R331 from step 3 on, and the staging of the bytes. -/
def stageWrite (call : Call) (id off : Nat) (data : Bytes) (s : State) : Ans :=
  match layout id with
  | none => refuse s errNotFound
  | some l =>
    let base := stageBase s call.port id
    let new := overlay base off data
    if !(writeWorlds id).contains call.world then refuse s errWorld
    else if l.size < off + data.length then refuse s errLength
    else if !objectOk l base new then refuse s errParam
    else if (stagedOf (s.port call.port) id).isNone && 64 ≤ (s.port call.port).staging.length then refuse s errCapacity
    else ok (stage call.port id new s)

/-- SET_PARAM's checks in the order of R331. -/
def setParamBody (call : Call) (pl : Bytes) (s : State) : Ans :=
  let id := fld pl 0 2
  if (layout id).isNone then refuse s errNotFound
  else if isSafetyObj id then refuse s errSafety
  else if isLegalObj id then refuse s errLegal
  else if inBlock id 0x0540 32 || id == 0x0021 || id == 0x0027 then refuse s errParam
  else stageWrite call id (fld pl 2 2) (pl.drop 8) s

/-- A configure command: stages a whole object as SET_PARAM does (R311, R326). -/
def stageObject (call : Call) (id : Nat) (data : Bytes) (s : State) : Ans := stageWrite call id 0 data s

/-! ### Rules of the objects at commit -/

/-- The content an object will have once the port's set is committed: staged, committed and waiting for its boundary, or active. -/
def afterCommit (s : State) (port : HostPort) (id : Nat) : Bytes :=
  match stagedOf (s.port port) id with
  | some g => g.data
  | none => match s.commits.find? (·.id == id) with | some o => o.data | none => s.param id

/-- A bay will hold the H-bridge of a channel once the port's set is committed (R131). -/
def bridgeHeld (s : State) (port : HostPort) (c : Nat) : Bool :=
  (List.range 32).any fun b => fieldOf (afterCommit s port (0x0100 + b)) 40 8 == c - c % 2

/-- R131 and R133: channels of the right kind, held by no other bay, and a bay in DISABLED. -/
def bayConfigRule (s : State) (port : HostPort) (nn : Nat) : Option Nat :=
  let f (b lsb w : Nat) : Nat := fieldOf (afterCommit s port (0x0100 + b)) lsb w
  let coil := f nn 32 8
  let lock := f nn 40 8
  let others := (List.range 32).filter (· != nn)
  if 32 ≤ coil || !(32 ≤ lock && lock ≤ 94 && lock % 2 == 0) then some errParam
  else if others.any fun b => f b 32 8 == coil || f b 40 8 == lock then some errParam
  else if (s.bay nn).state != .disabled then some errState
  else none

/-- R385: type, inrush, thresholds, bridge partners, group sum, and a channel that is off. -/
def lswRule (s : State) (port : HostPort) (c : Nat) : Option Nat :=
  let f (k lsb w : Nat) : Nat := fieldOf (afterCommit s port (0x0200 + k)) lsb w
  let ty := f c 0 4
  let il := f c 16 16
  let partner := if c % 2 == 0 then c + 1 else c - 1
  let group := (List.range 8).map fun i => 8 * groupOf c + i
  if ty == 5 && 32 ≤ c then some errParam
  else if inrushHalves ty il > 2 * chanPeak c then some errParam
  else if il ≤ f c 32 16 then some errParam
  else if 32 ≤ c && c < 96 && bridgeHeld s port c && (f partner 0 4 != ty || f partner 16 16 != il) then some errParam
  else if ((group.filter fun k => f k 0 4 != 0).map fun k => f k 16 16).sum > groupLimit (groupOf c) then some errCapacity
  else if (s.chan c).out then some errState
  else none

/-- Rated pulse rate of a bay for a constant, in pulses per second times 3.6 × 10^14 (R65): 1.15 × U_REF × I_MAX × elements ×
CONSTANT / (3.6 × 10^6), with U_REF in mV and I_MAX in mA. -/
def ratedPulse (s : State) (b const : Nat) : Nat :=
  115 * s.uRef b * s.field (0x0420 + b) 64 32 * (if s.meterMode b == 0 then 3 else 1) * const

/-- R65: source, register code and rated rate of a pulse output. -/
def pulseRule (s : State) (data : Bytes) : Option Nat :=
  let src := fieldOf data 0 8
  let const := fieldOf data 32 32
  let rate := if src == 0xFF then 0
    else if src == 32 then (((List.range 32).filter fun b => s.bayUsed b).map fun b => ratedPulse s b const).sum
    else ratedPulse s src const
  if rate > 500 * 360000000000000 then some errParam else none

/-- R164: a protocol offered, and a usable SECC key where one is needed. -/
def v2gRule (s : State) (data : Bytes) : Option Nat :=
  let f := fieldOf data
  let key := f 16 16
  if f 0 1 == 0 && f 1 1 == 0 then some errParam
  else if (f 3 1 == 1 || f 5 1 == 1) && !functionKeyUsable s key [3, 4, 7] 2 .controlEngine 1 then some errParam
  else none

/-- R402: width, colour limits, and a pass within its period. -/
def dispRule (data : Bytes) : Option Nat :=
  let f := fieldOf data
  let depth := f 0 1
  let w := f 16 16
  let h := f 32 16
  let bitsPerRow := w * (if depth == 1 then 3 else 1)
  if w % 8 != 0 then some errParam
  else if depth == 1 && (400 < w || 240 < h) then some errParam
  else if (32 + h * (24 + bitsPerRow)) * f 48 8 > 1000 * f 64 16 then some errParam
  else none

/-- R330: a site-link key where the module has a role, and a VLAN in range. -/
def siteRule (data : Bytes) : Option Nat :=
  let f := fieldOf data
  if f 0 2 != 0 && f 16 16 == 0xFFFF then some errParam else none

/-- The number of carriers a tone mask enables (R171). -/
def carriers (data : Bytes) : Nat := ((List.range 1155).filter fun k => testBit (num data) k).length

/-- An object's own rules at commit (R332 step 3). -/
def objectRule (s : State) (port : HostPort) (g : Staged) : Option Nat :=
  let f := fieldOf g.data
  if inBlock g.id 0x0100 32 then bayConfigRule s port (g.id - 0x0100)
  else if inBlock g.id 0x0200 112 then lswRule s port (g.id - 0x0200)
  else if inBlock g.id 0x0030 4 then pulseRule s g.data
  else if g.id == 0x0500 then v2gRule s g.data
  else if g.id == 0x0501 then (if f 0 2 != 0 && f 32 16 == 0xFFFF then some errParam else none)
  else if g.id == 0x0503 then (if carriers g.data < 200 then some errParam else none)
  else if g.id == 0x0510 then siteRule g.data
  else if g.id == 0x0600 then dispRule g.data
  else if inBlock g.id 0x0610 4 then (if f 0 1 == 1 && f 8 3 == 0 then some errParam else none)
  else none

/-- The first check of R332 that a staged object fails. -/
def commitRefusal (s : State) (call : Call) (g : Staged) : Option Nat :=
  if objectVersion s g.id != g.version then some errState
  else if !((writeWorlds g.id).contains 0 || (writeWorlds g.id).contains (s.port call.port).world.code) then some errWorld
  else objectRule s call.port g

/-- Writes a committed object to the staging area that takes effect at the next boundary (R332). The version advances at once,
with the durable copy. -/
def commitObject (g : Staged) (s : State) : State :=
  let v := (objectVersion s g.id + 1) % 2 ^ 32
  let ps := s.params.map fun o => if o.id == g.id then { o with version := v } else o
  { s with params := ps, commits := s.commits.filter (·.id != g.id) ++ [{ id := g.id, data := g.data, version := v }] }

/-- COMMIT_PARAMS (R332). -/
def commitBody (call : Call) (pl : Bytes) (s : State) : Ans :=
  let action := fld pl 0 1
  let staged := (s.port call.port).staging
  let clear (x : State) : State := x.modPort call.port fun p => { p with staging := [] }
  if 1 < action then refuse s errParam
  else if action == 1 then okWith (clear s) (le 2 0 ++ le 2 0)
  else match staged.find? fun g => (commitRefusal s call g).isSome with
    | some g => { state := s, status := (commitRefusal s call g).getD errState, data := le 2 0 ++ le 2 g.id }
    | none =>
      if !staged.isEmpty && !s.takesWrites paramPartition then { state := s, status := errStorage, data := le 2 0 ++ le 2 0 }
      else okWith (clear (staged.foldl (fun a g => commitObject g a) s)) (le 2 staged.length ++ le 2 0)

/-! ### Effects of a committed object -/

/-- The selected card of a reader port is released and reported (R415). -/
def releaseCard (k : Nat) (s : State) : State :=
  match (s.reader k).card with
  | some c => ntfRdr k 7 (some c) (s.modReader k fun r => { r with card := none })
  | none => s

/-- A reader port ends what it does, with its field off, and takes a new baseline; a RDR_POLL completes without a card (R410). -/
def restartReader (k : Nat) (s : State) : State :=
  let r := s.reader k
  let s1 := (releaseCard k s).modReader k fun r => { r with
    basePings := 0, sumAmp := 0, sumPhase := 0, deviating := 0, empties := 0, pollTo := none, pollCmd := none, stopped := false
    pingAt := none }
  if r.pollCmd.isSome then ntfRdrFull k 2 none 0xFF 0 0 0 r.pollCmd stOk s1 else s1

/-- The energy of the last committed cycle that an output has still to spread (R67). -/
def unspread (p : PulseOut) : Nat := if p.strobes < 128 then p.share - p.strobes * (p.share / 128) else 0

/-- The residue and backlog kept for a register that no output carries (R67). -/
def parkedPulse (s : State) (src reg : Nat) : Nat × Nat :=
  match s.met.parked.find? fun e => e.1 == src && e.2.1 == reg with
  | some e => (e.2.2.1, e.2.2.2)
  | none => (0, 0)

/-- The residue and backlog of a register are parked (R67). -/
def parkPulse (src reg residue backlog : Nat) (s : State) : State :=
  let old := parkedPulse s src reg
  let rest := s.met.parked.filter fun e => !(e.1 == src && e.2.1 == reg)
  { s with met := { s.met with parked := (src, reg, old.1 + residue, min 65535 (old.2 + backlog)) :: rest } }

/-- Output `k` changes its assignment: residue and backlog stay with the registers (R67). -/
def reassignPulse (k : Nat) (old new : Bytes) (s : State) : State :=
  let src (d : Bytes) : Nat := fieldOf d 0 8
  let reg (d : Bytes) : Nat := fieldOf d 8 8
  if src old == src new && reg old == reg new then s
  else
    let p := s.met.pulses.getD k {}
    let s1 := if src old == 0xFF then s else parkPulse (src old) (reg old) (p.residue + unspread p) p.backlog s
    let kept := if src new == 0xFF then (0, 0) else parkedPulse s1 (src new) (reg new)
    let rest := s1.met.parked.filter fun e => !(e.1 == src new && e.2.1 == reg new)
    { s1 with met := { s1.met with
        parked := rest
        pulses := s1.met.pulses.modify k fun p => { p with residue := kept.1, backlog := kept.2, share := 0, strobes := 128 } } }

/-- What taking effect brings besides the new bytes: pulse outputs reassigned (R67), averages restarted (R145, R147), retry counters refilled (R392), the mains
network restarted (R170), the site link of another role begun anew (R330), frame memory cleared (R402), a new reader baseline (R410), the end of the tag's authentication (R421), the UART rate (R300). -/
def objectEffect (id : Nat) (old new : Bytes) (s : State) : State :=
  let changed (lsb w : Nat) : Bool := fieldOf old lsb w != fieldOf new lsb w
  if id == 0x0010 then
    { s with uartRate := { s.uartRate with baud := if s.uartRate.fallenBack then s.uartRate.baud else fieldOf new 32 32 } }
  else if inBlock id 0x0030 4 then reassignPulse (id - 0x0030) old new s
  else if inBlock id 0x0100 32 then
    s.modBay (id - 0x0100) fun y => { y with coil := { y.coil with
      operate := if changed 32 8 || changed 64 16 then [] else y.coil.operate
      release := if changed 32 8 || changed 80 16 then [] else y.coil.release } }
  else if inBlock id 0x0200 112 then s.modChan (id - 0x0200) fun c => { c with retries := chanRetries s (id - 0x0200), offs := 0 }
  else if id == 0x0501 && (changed 0 2 || changed 2 1 || changed 32 16) then
    { s with mains := { s.mains with link := if fieldOf new 0 2 == 0 then 0 else 1, neighbours := [], offsets := [],
                                     outOfTol := false, ccoSerial := 0, ccoHeard := s.mains.periods } }
  else if id == 0x0600 && (changed 0 1 || changed 16 16 || changed 32 16) then
    { s with disp := { s.disp with frame := [] } }
  else if inBlock id 0x0610 4 then
    restartReader (id - 0x0610) s
  else if id == 0x0620 then { s with tag := { s.tag with authed := false } }
  else if id == 0x0510 && changed 0 2 then
    markDirty { s with budget := { s.budget with site := none, siteSeen := some s.time.osc, siteLost := false } }
  else if id == 0x0025 || id == 0x0026 then markDirty s
  else s

/-- Puts committed bytes in force. -/
def applyObject (o : ParamObj) (s : State) : State :=
  let old := s.param o.id
  let ps := s.params.map fun x => if x.id == o.id then { x with data := o.data } else x
  objectEffect o.id old o.data { s with params := ps }

/-- Whether an object waits for the reply only, and not for a cycle boundary: HOST_PORTS (R300), V2G_CONFIG (R164), PLC_CONFIG
(R170), SQUALL_CONFIG (R168), and a load channel, which is off then and takes it at its next switch-on (R384). -/
def effectAtReply (id : Nat) : Bool :=
  id == 0x0010 || id == 0x0500 || id == 0x0501 || id == 0x0502 || inBlock id 0x0200 112

/-- Puts the committed objects that a test selects in force, in the order committed. -/
def applyCommits (sel : Nat → Bool) (s : State) : State :=
  let due := s.commits.filter fun o => sel o.id
  due.foldl (fun a o => applyObject o a) { s with commits := s.commits.filter fun o => !sel o.id }

end Sys2Proof.Machine
end

