-- ==== Sys2Proof/Machine/Bays.lean ====
section
/-! DEFINITION. Bay commands, 0x02xx (R311 to R313): configuration, state, enabling and disabling, caps, locks, the residual
self-test on demand and converters. -/

namespace Sys2Proof.Machine

open Sys2Proof

/-- A command whose first byte names a bay. -/
def withBay (pl : Bytes) (s : State) (f : Nat → Ans) : Ans :=
  let b := fld pl 0 1
  if b < 32 then f b else refuse s errParam

/-- BAY_CONFIGURE (R311). -/
def cmdBayConfigure : Command where
  op := 0x0200
  life := .n
  sc := true
  len := exactly 20
  rsv := [(1, 3)]
  body c pl s := withBay pl s fun b => stageObject c (0x0100 + b) (pl.drop 4) s

def execBayConfigure (h : Hdr) (pl : Bytes) (s : State) : Out := hostCmd cmdBayConfigure h pl s

/-- BAY_GET_STATE (R134). -/
def cmdBayGetState : Command where
  op := 0x0201
  life := .notBlank
  len := exactly 4
  body _ pl s :=
    let l := (List.range 32).filter fun b => testBit (fld pl 0 4) b
    okWith s (le 1 l.length ++ le 3 0 ++ l.flatMap (bayStatus s))

def execBayGetState (h : Hdr) (pl : Bytes) (s : State) : Out := hostCmd cmdBayGetState h pl s

/-! ### Enabling and disabling -/

/-- A used stream of the bay has SCALE 0 (R50). -/
def uncalibrated (s : State) (b : Nat) : Bool :=
  (usedStreams (s.meterMode b)).any fun k => s.field (0x0440 + b) (128 * k + 64) 32 == 0

/-- The lock bridge has the TYPE of the bay's LOCK_TYPE, with equal I_LIM (R132). -/
def bridgeFits (s : State) (b : Nat) : Bool :=
  let k := s.lockLsw b
  let ty := match s.lockType b with | 1 => some 2 | 2 => some 4 | _ => none
  match ty with
  | none => true
  | some t => chanType s k == t && chanType s (k + 1) == t && chanLimit s k == chanLimit s (k + 1)

/-- The refusal of BAY_ENABLE (R312, R50, R61, R132, R133, R154, R234, R340). -/
def enableRefusal (s : State) (b : Nat) : Option Nat :=
  let y := s.bay b
  if y.state == .welded || y.safety.weldLatch then some errSafety
  else if uncalibrated s b || y.meter.underTest || s.kind b != s.meterMode b || !bridgeFits s b ||
      (s.isDc b && (!y.conv.capKnown || y.conv.capFailed)) || (s.key (0x011 + b)).state != .valid then some errState
  else if !safetyMatches s b then some errSafety
  else none

/-- A converter FAULT acknowledged after SAFETY_RESET_FAULT or BAY_ENABLE (R154): FAULT_ACK goes out once. -/
def ackConverter (b : Nat) (s : State) : State :=
  match (s.bay b).conv.faultCode with
  | some k =>
    (sendCan b 3 (le 1 k ++ le 1 1) s).modBay b fun y => { y with conv := { y.conv with faultCode := none } }
  | none => s

/-- A bay that was DISABLED or in FAULT starts in IDLE: its pilot is read anew, and compared with the state filtered last (R134, R312,
R466). -/
def toIdle (b : Nat) (s : State) : State :=
  let s1 := s.modBay b fun y => { y with
    enabled := true
    pilot := { y.pilot with awaitFirst := true, stopHold := false }
    coil := { y.coil with faulting := none }
    conv := { y.conv with runHeld := false } }
  setBay b .idle 0 (driveNext b .steady 0 s1)

/-- BAY_ENABLE (R312). -/
def bayEnableBody (b : Nat) (s : State) : Ans :=
  let st := (s.bay b).state
  if st != .disabled && st != .fault && st != .welded then ok s
  else match enableRefusal s b with
  | some e => refuse s e
  | none => ok (toIdle b (ackConverter b s))

/-- BAY_ENABLE (R311). -/
def cmdBayEnable : Command where
  op := 0x0202
  life := .o
  sc := true
  len := exactly 1
  body _ pl s := withBay pl s fun b => bayEnableBody b s

def execBayEnable (h : Hdr) (pl : Bytes) (s : State) : Out := hostCmd cmdBayEnable h pl s

/-- A bay enters DISABLED: its queued entries go, a running session ends with end cause 1, a BOUND context is AUTHORISED again,
and state F is driven from the next boundary (R135, R312). -/
def disableNow (b : Nat) (cmds : List CmdRef) (s : State) : State :=
  let s1 := match (s.bay b).ctx with
    | some c =>
      let a := finishCtx c 1 0 0 errState s
      if (a.ctx c).hd.state == .bound then moveCtx c .authorised 14 [] errState a else a
    | none => s
  let s2 := (dropBayEntries b s1).modBay b fun y => { y with
    enabled := false
    waitingAt := none
    coil := { y.coil with startWait := none, faulting := none, disabling := false, disableCmds := [] }
    pilot := { y.pilot with stopHold := false, awaitFirst := false } }
  tryUnlock b (driveNext b .stateF 0 (setBayFor b .disabled 0 cmds s2))

/-- The bay is energised or its open is not over. -/
def openNotOver (y : Bay) : Bool := y.isEnergised || y.coil.openAt.isSome

/-- BAY_DISABLE (R312). Several that wait for one open are each completed by a notification of its own (R282). -/
def disableBay (b : Nat) (cmds : List CmdRef) (s : State) : State × Nat :=
  let y := s.bay b
  if y.state == .welded then (s.modBay b (fun z => { z with enabled := false }), stOk)
  else if !openNotOver y then (disableNow b [] s, stOk)
  else
    let s1 := s.modBay b fun z => { z with coil := { z.coil with disabling := true, disableCmds := z.coil.disableCmds ++ cmds } }
    let s2 := match y.ctx with | some c => finishCtx c 1 0 0 errState s1 | none => s1
    (if y.state == .opening || y.coil.openAt.isSome then s2 else normalOpen b 0 s2, stPending)

/-- BAY_DISABLE (R311). -/
def cmdBayDisable : Command where
  op := 0x0203
  life := .notBlank
  sc := true
  len := exactly 1
  body c pl s := withBay pl s fun b =>
    let r := disableBay b [c.ref] s
    { state := r.1, status := r.2 }

def execBayDisable (h : Hdr) (pl : Bytes) (s : State) : Out := hostCmd cmdBayDisable h pl s

/-! ### Caps and locks -/

/-- BAY_SET_LIMIT (R313). -/
def cmdBaySetLimit : Command where
  op := 0x0204
  life := .o
  sc := true
  len := exactly 8
  rsv := [(1, 3)]
  body _ pl s := withBay pl s fun b =>
    let ma := fld pl 4 4
    if ma != 0 && !(6000 ≤ ma && ma ≤ 80000) then refuse s errParam
    else ok (markDirty (s.modBay b fun y => { y with limitCap := ma }))

def execBaySetLimit (h : Hdr) (pl : Bytes) (s : State) : Out := hostCmd cmdBaySetLimit h pl s

/-- BAY_UNLOCK (R143). -/
def cmdBayUnlock : Command where
  op := 0x0205
  life := .notBlank
  sc := true
  len := exactly 1
  body _ pl s := withBay pl s fun b => if mayUnlock s b then ok (releaseLock b s) else refuse s errSafety

def execBayUnlock (h : Hdr) (pl : Bytes) (s : State) : Out := hostCmd cmdBayUnlock h pl s

/-! ### Residual self-test and converter -/

/-- BAY_TEST_RESIDUAL (R219): on an AC bay whose coil channel is off and on which no self-test runs. -/
def cmdBayTestResidual : Command where
  op := 0x0206
  life := .n
  sc := true
  len := exactly 1
  body c pl s := withBay pl s fun b =>
    let y := s.bay b
    if s.isDc b || y.coil.on || y.safety.selfTest.runningTo.isSome then refuse s errState
    else pending (startSelfTest b (some c.ref) s)

def execBayTestResidual (h : Hdr) (pl : Bytes) (s : State) : Out := hostCmd cmdBayTestResidual h pl s

/-- CONFIG is sent, and CAPABILITY is awaited for 500 ms (R152, R154). -/
def sendConfig (b : Nat) (cmds : List CmdRef) (s : State) : State :=
  (sendCan b 2 (le 1 1) s).modBay b fun y => { y with
    conv := { y.conv with configAt := some s.time.osc, configCmds := cmds, capKnown := false, capFailed := false
                          alive := [none, none, none, none] } }

/-- The other bays that have a converter on a port: those configured as DC bays. -/
def convertersOn (s : State) (b port : Nat) : List Nat :=
  (List.range 32).filter fun k => k != b && s.isDc k && s.field (0x0540 + k) 0 1 == port

/-- CONVERTER_CONFIGURE (R150): written at once, and CONFIG is sent. -/
def converterConfigureBody (c : Call) (b : Nat) (data : Bytes) (s : State) : Ans :=
  let others := convertersOn s b (fieldOf data 0 1)
  if !objectInRange convConfigLayout data then refuse s errParam
  else if others.any fun k => s.field (0x0540 + k) 8 5 == fieldOf data 8 5 then refuse s errParam
  else if 16 ≤ others.length then refuse s errCapacity
  else if (s.bay b).state != .disabled then refuse s errState
  else pending (sendConfig b ((s.bay b).conv.configCmds ++ [c.ref]) (s.putParam (0x0540 + b) data))

/-- CONVERTER_CONFIGURE (R311). -/
def cmdConverterConfigure : Command where
  op := 0x0207
  life := .n
  sc := true
  len := exactly 8
  rsv := [(1, 3)]
  body c pl s := withBay pl s fun b => converterConfigureBody c b (pl.drop 4) s

def execConverterConfigure (h : Hdr) (pl : Bytes) (s : State) : Out := hostCmd cmdConverterConfigure h pl s

end Sys2Proof.Machine
end

