-- ==== Sys2Proof/Machine/BayEvents.lean ====
section
/-! DEFINITION. What a bay's inputs do (R135 to R143, R189, R226, R466): filtered CP and PP changes, guards and locks. -/

namespace Sys2Proof.Machine

open Sys2Proof

/-- A bay event while the drive die drives outputs: in ACTIVE or QUIET, started, with no flush. -/
def atLiveBay (b : Nat) (s : State) (f : State → State) : Out := atBay b s fun x => if outputsDriven x then f x else x

/-! ### Binding at a plug-in -/

/-- The earliest opened of some contexts; of equals the lowest number. -/
def earliest (s : State) (l : List Nat) : Option Nat :=
  l.foldl (fun best c => match best with
    | none => some c
    | some a => if (s.ctx c).hd.tOpen < (s.ctx a).hd.tOpen then some c else some a) none

/-- Contexts not bound, in RESERVED or AUTHORISED. -/
def unboundCtxs (s : State) : List Nat :=
  (List.range 256).filter fun c =>
    let h := (s.ctx c).hd
    (h.state == .reserved || h.state == .authorised) && h.bay.isNone

/-- RESERVE_S in µs (R190). -/
def reserveUs (s : State) : Nat := 1000000 * s.field 0x0025 32 16

/-- A reader port serves a bay (R410). -/
def readerServes (s : State) (port b : Nat) : Bool := testBit (s.field (0x0610 + port) 48 32) b

/-- Steps 1 and 2 of R189: the context that a plug-in on the bay takes. -/
def awaitedCtx (s : State) (b : Nat) : Option Nat :=
  let l := unboundCtxs s
  (earliest s (l.filter fun c => (s.ctx c).hd.reserveBay == some b)).orElse fun _ =>
    earliest s (l.filter fun c =>
      let x := s.ctx c
      x.hd.state == .authorised && s.time.now ≤ x.hd.tOpen + reserveUs s &&
        (match x.wk.reader with | some k => readerServes s k b | none => false))

/-- A plug-in on an enabled bay (R189). A module in QUIET returns to ACTIVE (R433). -/
def plugIn (b : Nat) (s : State) : State :=
  let s1 := setBay b .occupied 1 (wakeQuiet s)
  let y := s1.bay b
  if y.ctx.isSome || y.pilot.awaitA then evaluateBay b s1
  else match awaitedCtx s1 b with
  | some c =>
    let st := (s1.ctx c).hd.state
    evaluateBay b (ntfCtxFull c st st 2 [] none 0 (bindTo c b s1))
  | none => evaluateBay b (openForBay b s1)

/-! ### Filtered CP -/

/-- The state of a plateau (R136). -/
def cpClass (mv : Int) : CpState :=
  if 11000 ≤ mv && mv ≤ 13000 then .a
  else if 8000 ≤ mv && mv ≤ 10000 then .b
  else if 5000 ≤ mv && mv ≤ 7000 then .c
  else if 2000 ≤ mv && mv ≤ 4000 then .d
  else if -1000 ≤ mv && mv ≤ 1000 then .e
  else .invalid

/-- The state of both plateaus (R136): the negative one counts while PWM runs. -/
def cpRead (drive : CpoDrive) (posMv negMv : Int) : CpState :=
  let k := cpClass posMv
  if drive == .pwm && -11000 < negMv && (k == .b || k == .c || k == .d) then .diodeFault else k

/-- The vehicle has gone (R182): a running session ends with end cause 0, a context that the module opened goes to FREE, one
that the host opened stays, unbound. DEDUCED (log entry 167): one that has entered ENERGISING ends with its record (R183). -/
def vehicleGone (b : Nat) (refusal : Nat) (s : State) : State :=
  match (s.bay b).ctx with
  | none => s
  | some c =>
    let x := s.ctx c
    match x.hd.state with
    | .reserved | .authorised | .bound =>
      if !freeable x then toFinishing c 0 1 0 refusal s
      else if x.hd.byModule then freeContext c 1 [] s
      else
        let next : CtxState := if x.hd.state == .reserved then .reserved else .authorised
        unbind c (moveCtx c next 1 [] refusal (s.modWk c fun w => { w with pnc := none }))
    | _ => finishCtx c 0 1 0 refusal s

/-- A trip that a CP or PP event causes on a closed contactor (R137, R139): reported, and the session ends. -/
def inputTrip (b fn cause endCause ctxCause : Nat) (s : State) : State :=
  let s1 := match (s.bay b).ctx with
    | some c => finishCtx c endCause ctxCause 0x80 errSafety s
    | none => s
  ntfSafety 0 b fn (trip b cause false s1)

/-- Leaves for IDLE in state A: whatever the bay waited for is gone, and its lock is released (R137, R143). -/
def leaveForIdle (b cause : Nat) (s : State) : State :=
  let s1 := s.modBay b fun y => { y with waitingAt := none, noted := [], coil := { y.coil with startWait := none } }
  tryUnlock b (setBay b .idle cause s1)

/-- The bay after a passed weld check or a stop without an open: IDLE in A, OCCUPIED otherwise. -/
def settleBay (b cause : Nat) (s : State) : State :=
  if (s.bay b).pilot.cp == .a then leaveForIdle b cause s else evaluateBay b (setBay b .occupied cause s)

/-- State A (R137). -/
def onA (b : Nat) (s : State) : State :=
  let y := s.bay b
  match y.state with
  | .energised | .closing | .opening =>
    let s1 := vehicleGone b errSafety s
    if y.coil.on then ntfSafety 0 b 10 (trip b 1 false s1)
    else if y.state == .closing then ntfSafety 0 b 10 (leaveForIdle b 1 (dropBayEntries b s1))
    else ntfSafety 0 b 10 (trip b 1 false s1)
  | .occupied | .ready => leaveForIdle b 1 (vehicleGone b errState s)
  | .idle => tryUnlock b (vehicleGone b errState s)
  | .weldCheck => vehicleGone b errState s
  | _ => s

/-- State B, C or D on a bay that is not new (R137). -/
def onPlugged (b : Nat) (old st : CpState) (s : State) : State :=
  let y := s.bay b
  if y.state == .idle then plugIn b s
  else if st == .d && y.isEnergised then evaluateBay b (noteReasons b (blockReasons s b) (inputTrip b 10 1 4 7 s))
  else if st == .b && old == .c && (y.state == .energised || y.state == .closing) then
    let paused := match y.ctx with
      | some c =>
        let x := (s.ctx c).hd.state
        if x == .energising || x == .charging then moveCtx c .suspendedEv 1 [] errState s else s
      | none => s
    if y.state == .closing then openAtOnce b 1 paused else normalOpen b 1 paused
  else evaluateBay b s

/-- Without a vehicle there is no SLAC match and no V2G session (R163). -/
def idleLink (l : BayLink) : BayLink := { l with link := 0, part := 0, tls := false, bpt := false, reqMa := 0, reqMw := 0, told := none }

/-- A vehicle that was there before state F and is there after it (R466): no transition of R137. DESIGN CHOICE (log entry 63): the bay
is OCCUPIED again, with the context it is bound to, if any. -/
def stillPlugged (b : Nat) (s : State) : State := evaluateBay b (setBay b .occupied 1 s)

/-- A filtered CP state takes effect (R137, R466). -/
def filteredCp (b : Nat) (st : CpState) (s : State) : State :=
  let p := (s.bay b).pilot
  let first := p.awaitFirst
  let pp := reportedPp s b
  let sde := (s.bay b).safety.sdeFirst && st == .a
  let s1 := s.modBay b fun y => { y with
    pilot := { y.pilot with cp := st, awaitFirst := false, awaitA := y.pilot.awaitA && st != .a }
    safety := { y.safety with sdeFirst := y.safety.sdeFirst && st != .a }
    link := if st == .a then idleLink y.link else y.link }
  let s2 := if st == p.cp then s1 else ntfBay b 1 [byte p.cp.code, byte st.code, byte pp.code, byte pp.code] s1
  let s3 := if sde then ntfSafety 3 b 0 s2 else s2
  match (s3.bay b).state with
  | .disabled | .fault | .welded => s3
  | bs =>
    match st with
    | .e | .f | .invalid | .diodeFault => safeStop b 10 1 true s3
    | .a => if first && bs == .weldCheck then settleBay b 1 (vehicleGone b errState s3) else onA b s3
    | _ =>
      if first && bs == .weldCheck then settleBay b 1 s3
      else if first && bs == .idle && st == p.cp then stillPlugged b s3
      else onPlugged b p.cp st s3

/-- CP_STATE_CHANGE (R137): plateaus held for 3 ms. Nothing is classified while state F is driven (R466). -/
def execCpStateChange (bay : Nat) (plateauMv negMv : Int) (s : State) : Out :=
  atLiveBay bay s fun s =>
    let p := (s.bay bay).pilot
    let st := cpRead p.drive plateauMv negMv
    if p.drive == .stateF || (st == p.cp && !p.awaitFirst) then s else filteredCp bay st s

/-! ### Proximity -/

/-- The class of a resistance in Ω (R139). -/
def ppClass (ohms : Nat) : PpClass :=
  if 4500 < ohms then .noCable
  else if 1100 ≤ ohms && ohms ≤ 2460 then .a13
  else if 400 ≤ ohms && ohms ≤ 936 then .a20
  else if 164 ≤ ohms && ohms ≤ 308 then .a32
  else if 80 ≤ ohms && ohms ≤ 140 then .a63
  else .invalid

/-- PP_CHANGE (R139). A tethered bay's PPS is not evaluated. -/
def execPpChange (bay ohms : Nat) (s : State) : Out :=
  atLiveBay bay s fun s =>
    let y := s.bay bay
    let new := ppClass ohms
    if s.tethered bay || new == y.pilot.pp then s
    else
      let cp := reportedCp y.pilot
      let s1 := markDirty (s.modBay bay fun y => { y with pilot := { y.pilot with pp := new } })
      let s2 := ntfBay bay 1 [byte cp.code, byte cp.code, byte y.pilot.pp.code, byte new.code] s1
      if y.isEnergised then inputTrip bay 10 2 4 7 s2
      else evaluateBay bay (if y.state == .closing then noteReasons bay (blockReasons s2 bay) s2 else s2)

/-! ### Guards -/

/-- A guard channel takes a level; changes of both channels within 50 ms of each other count for the start-up test, and a channel that
returns alone does not (R141). -/
def guardLevel (s : State) (g : BayGuard) (chB closed : Bool) : BayGuard :=
  let g1 : BayGuard := if chB then { g with bClosed := closed } else { g with aClosed := closed }
  if g1.aClosed != g1.bClosed then { g1 with diffSince := some s.time.osc, diffB := chB }
  else match g.diffSince with
  | none => g1
  | some t =>
    if t + 50000 < s.time.osc then { g1 with diffSince := none, lastPair := none, gstOk := false }
    else if g.diffB == chB then { g1 with diffSince := none }
    else
      let opened := !closed
      { g1 with diffSince := none, lastPair := some opened, gstOk := g.gstOk || g.lastPair == some (!opened) }

/-- GUARD_CHANGE (R140, R141): a channel of a socket bay that opens while the bay is energised is a trip. -/
def execGuardChange (bay : Nat) (chB closed : Bool) (s : State) : Out :=
  atLiveBay bay s fun s =>
    let y := s.bay bay
    if (if chB then y.guards.bClosed else y.guards.aClosed) == closed then s
    else
      let s1 := s.modBay bay fun y => { y with guards := guardLevel s y.guards chB closed }
      if !closed && !s.tethered bay && y.isEnergised then inputTrip bay 4 3 4 7 s1 else evaluateBay bay s1

/-- GUARD_DISCREPANCY (R141): the channels have differed for more than 50 ms. -/
def execGuardDiscrepancy (bay : Nat) (s : State) : Out :=
  atLiveBay bay s fun s =>
    match (s.bay bay).guards.diffSince with
    | none => s
    | some t =>
      if s.time.osc ≤ t + 50000 then s
      else
        let s1 := s.modBay bay fun y => { y with guards := { y.guards with gstOk := false, lastPair := none } }
        if !s.tethered bay && (s.bay bay).isEnergised then safeStop bay 4 3 false s1 else evaluateBay bay s1

/-! ### Locks -/

/-- LKF shows the locked level (R142): it confirms a drive within its timeout, and a bridge that is held. -/
def execLockConfirmed (bay : Nat) (s : State) : Out :=
  atLiveBay bay s fun s =>
    let l := (s.bay bay).lock
    let confirms := match l.drive with
      | some d => d.locking && s.time.osc ≤ d.start + 1000 * s.bayField bay 112 16
      | none => l.held
    let s1 := s.modBay bay fun y => { y with lock := { y.lock with
      feedback := true
      locked := y.lock.locked || confirms
      drive := match y.lock.drive with | some d => if confirms && !d.pulse then none else some d | none => none } }
    evaluateBay bay s1

/-- The bridge of a bay stops driving. -/
def bridgeOff (b : Nat) (s : State) : State := commandOff (s.lockLsw b + 1) (commandOff (s.lockLsw b) s)

/-- LOCK_PULSE_END (R142): a release that a failed attempt asked for is followed by the second attempt. -/
def execLockPulseEnd (bay : Nat) (s : State) : Out :=
  atLiveBay bay s fun s =>
    match (s.bay bay).lock.drive with
    | none => s
    | some d =>
      if !d.pulse || s.time.osc < d.start + 1000 * s.bayField bay 96 16 then s
      else
        let s1 := bridgeOff bay s
        if !d.locking && d.attempt == 2 then driveLock bay true 2 s1
        else s1.modBay bay fun y => { y with lock := { y.lock with
          drive := if d.locking && !y.lock.locked then some { d with pulse := false } else none } }

/-- The level of the LKF pin (R133 LKF_POL). -/
def lkfLevel (s : State) (b : Nat) : Nat :=
  let pol := s.bayField b 24 1
  if (s.bay b).lock.feedback then pol else 1 - pol

/-- A failed lock drive (R142): a motor lock is driven back and tried once more; then the bay enters FAULT. DESIGN CHOICE (log entry
161): where R143 forbids a release, the second attempt follows without one. -/
def lockDriveFailed (b : Nat) (d : LockDrive) (s : State) : State :=
  if s.lockType b == 1 && d.attempt == 1 then driveLock b (!mayUnlock s b) 2 (bridgeOff b s)
  else
    let s1 := (bridgeOff b s).modBay b fun y => { y with lock := { y.lock with drive := none, held := false } }
    faultBay b 4 (ntfBay b 4 [byte d.attempt, byte (lkfLevel s b)] s1)

/-- LOCK_TIMEOUT (R142). -/
def execLockTimeout (bay : Nat) (s : State) : Out :=
  atLiveBay bay s fun s =>
    let l := (s.bay bay).lock
    match l.drive with
    | none => s
    | some d =>
      if !d.locking || l.locked || s.time.osc < d.start + 1000 * s.bayField bay 112 16 then s else lockDriveFailed bay d s

/-- The bay's session still wants its lock. -/
def lockWanted (s : State) (b : Nat) : Bool :=
  match (s.bay b).ctx with
  | some c =>
    let st := (s.ctx c).hd.state
    st == .authorised || st == .bound || st == .energising || st == .charging || st == .suspendedEv || st == .suspendedEvse
  | none => false

/-- LOCK_RELEASE (R143): UO below 30 V for 100 ms after a passed weld check. -/
def execLockRelease (bay : Nat) (s : State) : Out :=
  atLiveBay bay s fun s => if lockWanted s bay || !controlRuns s then s else tryUnlock bay s

/-- LOCK_FEEDBACK_LOSS (R226): LKF off the locked level for 20 ms. -/
def execLockFeedbackLoss (bay : Nat) (s : State) : Out :=
  atLiveBay bay s fun s =>
    let s1 := s.modBay bay fun y => { y with lock := { y.lock with feedback := false, locked := false } }
    if (s.bay bay).isEnergised && s.lockReq bay then safeStop bay 3 4 false s1 else evaluateBay bay s1

end Sys2Proof.Machine
end

