-- ==== Sys2Proof/Machine/Auth.lean ====
section
/-! DEFINITION. Authorisation (R190 to R195): credential lookup, the decision on an identifier, allow and deny, the wait for the
host, and the limit history (R185, R205). -/

namespace Sys2Proof.Machine

open Sys2Proof

/-- The credential hash of a normalised identifier (R191). -/
def credHash (ident : Bytes) : Bytes := (sha256 ident).take 12

/-- The stored entry of a hash (R197). -/
def findCred (s : State) (hash : Bytes) : Option CredEntry := s.creds.live.entries.find? (·.hash == hash)

/-- One lookup more (R198 CRED_STATS). -/
def countLookup (s : State) : State := { s with creds := { s.creds with lookups := s.creds.lookups + 1 } }

/-- A window is valid at present module time (R196, R192). -/
def windowValid (s : State) (w : Nat) : Bool :=
  w == 0 || (s.time.valid && (s.creds.live.windows.any fun x => x.1 == w && x.2.1 ≤ s.time.now && s.time.now < x.2.2))

/-- A limit template; one never set holds no limits. Template 0 is no limits (R196). -/
def templateOf (s : State) (t : Nat) : CredTemplate :=
  if t == 0 then {} else ((s.creds.live.templates.find? (·.1 == t)).map (·.2)).getD {}

/-- DEF_CLASS and DEF_TEMPLATE of AUTH_CONFIG (R190). -/
def defClass (s : State) : Nat := s.field 0x0025 24 8

@[inherit_doc defClass]
def defTemplate (s : State) : Nat := s.field 0x0025 16 8

/-- ATTR (R185): bits [126:96] of an entry. -/
def attrOf (allow : Bool) (cls window template : Nat) : Nat := pack [(0, bit allow), (1, cls), (4, window), (12, template)]

/-- Records a limit change in the history (R185, R205). -/
def limitChange (c kind old new : Nat) (s : State) : State :=
  let e : LimitChange := { time := s.time.now, kind := kind, old := old, new := new }
  (s.modHd c fun h => { h with nLimits := h.nLimits + 1 }).modWk c fun w => { w with limits := (w.limits ++ [e]).take 8 }

/-- Gives a context its class, limits and attributes (R185, R192, R193). -/
def setLimits (c cls src attr iLimit iGuar timeLimit quota : Nat) (s : State) : State :=
  s.modHd c fun h => { h with
    priority := cls, authSrc := src, attr := attr, iLimit := iLimit, iGuar := iGuar, timeLimit := timeLimit, quota := quota
    quotaOrig := if h.quotaOrig == 0 then quota else h.quotaOrig }

/-- Looks again at the bay of a context. -/
def evaluateCtx (c : Nat) (s : State) : State := match (s.ctx c).hd.bay with | some b => evaluateBay b s | none => s

/-- An allow decision of a RESERVED context, with the command it completes: AUTHORISED (R182, R292 cause 3). -/
def allowCtxFor (c : Nat) (hash : Bytes) (src cls attr iLimit iGuar timeLimit quota : Nat) (offline : Option Bool)
    (cmd : Option CmdRef) (s : State) : State :=
  let s1 := (setLimits c cls src attr iLimit iGuar timeLimit quota s).modHd c fun h => { h with cred := hash }
  let s2 := s1.modWk c fun w => { w with hostWait := none, pnc := none, offline := offline }
  evaluateCtx c (toCtxState c .authorised 3 [1, byte src, byte cls] cmd stOk s2)

/-- An allow decision that completes no command. -/
def allowCtx (c : Nat) (hash : Bytes) (src cls attr iLimit iGuar timeLimit quota : Nat) (offline : Option Bool) (s : State) :
    State :=
  allowCtxFor c hash src cls attr iLimit iGuar timeLimit quota offline none s

/-- An allow decision with a template. -/
def allowTemplate (c : Nat) (hash : Bytes) (src cls window template : Nat) (offline : Option Bool) (s : State) : State :=
  let t := templateOf s template
  allowCtx c hash src cls (attrOf true cls window template) t.iLimit t.iGuar t.timeLimit (1000 * t.quotaWh) offline s

/-- An allow without an entry: DEF_CLASS and DEF_TEMPLATE (R190, R192). -/
def allowDefault (c : Nat) (hash : Bytes) (src : Nat) (offline : Option Bool) (s : State) : State :=
  allowTemplate c hash src (defClass s) 0 (defTemplate s) offline s

/-- A deny of a RESERVED context leaves it in RESERVED (R193); it completes a command where one asked. -/
def denyCtxFor (c : Nat) (offline : Option Bool) (cmd : Option CmdRef) (s : State) : State :=
  let s1 := (s.modHd c fun h => { h with authSrc := 0xF }).modWk c fun w =>
    { w with hostWait := none, pnc := none, offline := offline }
  let st := (s1.ctx c).hd.state
  ntfCtxFull c st st 3 [0, 0xF, 0] cmd stOk s1

/-- A deny that completes no command. -/
def denyCtx (c : Nat) (offline : Option Bool) (s : State) : State := denyCtxFor c offline none s

/-- NTF_AUTH_REQUEST (R295). -/
def ntfAuthRequest (c reason origin : Nat) (ident tail : Bytes) (s : State) : State :=
  notify 0xF005 (source 2 c)
    (le 1 c ++ le 1 (idx (s.ctx c).hd.bay) ++ le 1 reason ++ le 1 origin ++ credHash ident ++ le 1 ident.length ++ le 3 0 ++
      ident ++ tail) s

/-- The host is asked and has HOST_WAIT_S to answer (R192 step 5). -/
def askHost (c reason origin : Nat) (ident : Bytes) (s : State) : State :=
  let w : HostWait := { deadline := s.after (1000000 * s.field 0x0025 8 8), reason := reason, origin := origin, ident := ident }
  ntfAuthRequest c reason origin ident [] (s.modWk c fun k => { k with hostWait := some w, offline := none })

/-- The outcome of a decision, as NTF_RDR codes it (R417): 1 allow, 2 deny, 3 host asked. -/
abbrev Decision := Nat

/-- The decision on an identifier presented for a RESERVED context (R192). -/
def decide (c origin : Nat) (ident : Bytes) (s : State) : State × Decision :=
  let hash := credHash ident
  let s1 := countLookup s
  let unknown (reason : Nat) : State × Decision :=
    match s.field 0x0025 0 2 with
    | 1 => (askHost c reason origin ident s1, 3)
    | 2 => (allowDefault c hash 0 none s1, 1)
    | _ => (denyCtx c none s1, 2)
  match findCred s hash with
  | none => unknown 0
  | some e =>
    if !e.allow then (denyCtx c none s1, 2)
    else if windowValid s e.window then (allowTemplate c hash 0 e.cls e.window e.template none s1, 1)
    else unknown 1

/-- HOST_WAIT_EXPIRY (R192): OFFLINE decides. -/
def execHostWaitExpiry (ctx : Nat) (s : State) : Out :=
  atCtx ctx s fun s =>
    match (s.ctx ctx).wk.hostWait with
    | none => s
    | some w =>
      if !s.due w.deadline || (s.ctx ctx).hd.state != .reserved then s
      else if s.field 0x0025 2 2 == 1 then allowDefault ctx (credHash w.ident) 0 (some true) s
      else denyCtx ctx (some false) s

end Sys2Proof.Machine
end

