-- ==== Sys2Proof/Machine/Maths.lean ====
section
/-! DEFINITION. The arithmetic of the metering engines (R49 to R58): calibrated samples as exact integers in units of 2^-61 of
their physical unit, square roots, and sines and cosines to 2^-60. -/

namespace Sys2Proof.Machine

open Sys2Proof

/-- Integer square root, one bit of the result at a time. -/
def isqrtFrom : Nat → Nat → Nat → Nat
  | 0, _, r => r
  | k + 1, n, r => let t := r + 2 ^ k; isqrtFrom k n (if t * t ≤ n then t else r)

/-- The greatest number whose square is at most `n`. -/
def isqrt (n : Nat) : Nat := isqrtFrom (Nat.log2 n / 2 + 1) n 0

/-- The square root of a quotient as a whole number; one that is not exact may be reported one unit up (R51, R54). -/
def rootQ (n d : Nat) : Nat :=
  let r := isqrt (n / d)
  r + (if r * r * d != n && Config.rootUp n then 1 else 0)

/-- Terms of the series of sine and cosine at `x`, in 2^-60: index, term, sums of cosine and sine. -/
def seriesTerm : Nat → Nat → Int → Int → Int → Int → Int × Int
  | 0, _, _, _, co, si => (co, si)
  | n + 1, k, x, term, co, si =>
    let t := term * x / (2 ^ 60 : Int) / ((k + 1 : Nat) : Int)
    match k % 4 with
    | 0 => seriesTerm n (k + 1) x t co (si + t)
    | 1 => seriesTerm n (k + 1) x t (co - t) si
    | 2 => seriesTerm n (k + 1) x t co (si - t)
    | _ => seriesTerm n (k + 1) x t (co + t) si

/-- Cosine and sine of `num/den` of a full turn, in 2^-60. -/
def turn (num den : Nat) : Int × Int :=
  let f : Int := ((num % den : Nat) : Int)
  let g : Int := if 2 * f ≤ den then f else f - den
  let x := 2 * 3622009729038561421 * g / (den : Int)
  seriesTerm 40 0 x (2 ^ 60) (2 ^ 60) 0

/-- The table of cosines and sines of a cycle of `n` samples. -/
def turnTable (n : Nat) : List (Int × Int) := (List.range n).map fun k => turn k n

/-- The cross product of a direction in 0.01° with a vector is not negative. -/
def notPast (k : Nat) (re im : Int) : Bool := let (c, s) := turn k 36000; 0 ≤ c * im - s * re

/-- The greatest angle in 0.01°, below 180°, that a vector of the upper half plane has reached. -/
def angleFrom : Nat → Nat → Int → Int → Nat
  | 0, k, _, _ => k
  | j + 1, k, re, im =>
    let t := k + 2 ^ j
    angleFrom j (if t < 18000 && notPast t re im then t else k) re im

/-- The argument of a vector in 0.01°, folded into −180.00° to +179.99° (R51). -/
def argument (re im : Int) : Int :=
  if re == 0 && im == 0 then 0
  else
    let upper := 0 < im || (im == 0 && 0 < re)
    let k := if upper then angleFrom 15 0 re im else 18000 + angleFrom 15 0 (-re) (-im)
    let up := im != 0 && re != 0 && Config.roundUp im re.natAbs
    let a := (k + if up then 1 else 0) % 36000
    if 18000 ≤ a then (a : Int) - 36000 else a

/-- A calibrated sample in 2^-61 of its unit (R43, R49): full scale ends at ±1.0. -/
def calibrate (offset : Int) (gain scale : Nat) (x : Int) : Int :=
  let x := max (-(2 ^ 31)) (min x (2 ^ 31))
  (x - offset) * gain * scale

/-- A value at or above 0.94 of full scale (R43). -/
def overrange (x : Int) : Bool := 94 * 2 ^ 31 ≤ 100 * x.natAbs

/-- The sum of products of two runs. -/
def dot (a b : List Int) : Int := (List.zipWith (· * ·) a b).foldl (· + ·) 0

/-- The sum of a run. -/
def total (a : List Int) : Int := a.foldl (· + ·) 0

/-- Cosine and sine sums of a run at harmonic `h`. -/
def fourier (tab : List (Int × Int)) (h : Nat) (x : List Int) : Int × Int :=
  let n := max 1 tab.length
  (x.zipIdx).foldl (fun a p => let t := tab.getD (h * p.2 % n) (0, 0); (a.1 + p.1 * t.1, a.2 + p.1 * t.2)) (0, 0)

/-- The denominator of a mean of products in thousandths, for `n` samples: µW to mW (R51). -/
def meanDen (n : Nat) : Nat := n * 2 ^ 122 * 1000

/-- The r.m.s. value of a run (R51). -/
def rms (n : Nat) (x : List Int) : Nat := rootQ (dot x x).toNat (n * 2 ^ 122)

/-- The mean of a run (R56, R57). -/
def mean (n : Nat) (x : List Int) : Int := quot (total x) (n * 2 ^ 61)

/-- The r.m.s. value about the mean (R56, R57). -/
def ripple (n : Nat) (x : List Int) : Nat :=
  let t := total x
  rootQ ((n : Int) * dot x x - t * t).toNat (n * n * 2 ^ 122)

/-- The energy of a power num/den in mW over `t` µs, in 2^-32 mWh (R53). -/
def energyOf (num : Int) (den t : Nat) : Int := quot (num * t * 2 ^ 32) (den * 3600000000)

/-- A RUN flag from a power num/den against p_start = ps/10^9 mW (R58). -/
def runFlag (prev : Bool) (num den ps : Nat) : Bool :=
  if ps * den ≤ num * 10 ^ 9 then true else if 10 * num * 10 ^ 9 < 6 * ps * den then false else prev

/-- A RUN flag from an apparent power whose square is num/den². -/
def runFlagRoot (prev : Bool) (num den ps : Nat) : Bool :=
  if ps * ps * den * den ≤ num * 10 ^ 18 then true
  else if 100 * num * 10 ^ 18 < 36 * ps * ps * den * den then false
  else prev

/-- What a phase's samples give (R51): its quantities, and its powers as exact quotients. -/
structure PhaseWork where
  q    : PhaseQ
  pNum : Int
  qNum : Int
  qDen : Nat
  sNum : Nat
  deriving DecidableEq, Repr

/-- The quantities of one AC phase (R51, R52); `ref` is the fundamental of reference L1. -/
def phaseWork (n : Nat) (tab : List (Int × Int)) (ref : Int × Int) (u i : List Int) : PhaseWork :=
  let uu := (dot u u).toNat
  let ii := (dot i i).toNat
  let ui := dot u i
  let fu := fourier tab 1 u
  let fi := fourier tab 1 i
  let qn := 2 * (fu.1 * fi.2 - fu.2 * fi.1)
  let qd := n * n * 2 ^ 242 * 1000
  let d := meanDen n
  let qt := rootQ (((uu * ii : Nat) : Int) - ui * ui).toNat (d * d)
  let pf := if uu * ii == 0 then 0 else rootQ (10 ^ 8 * (ui * ui).toNat) (uu * ii)
  { q :=
      { uRms := rms n u, iRms := rms n i, p := quot ui d, qf := quot qn qd, qt := if qn < 0 then -(qt : Int) else qt,
        s := rootQ (uu * ii) (d * d), pf := if ui < 0 then -(pf : Int) else pf,
        phiUi := argument (fu.1 * fi.1 + fu.2 * fi.2) (fu.1 * fi.2 - fu.2 * fi.1),
        phiUu := argument (fu.1 * ref.1 + fu.2 * ref.2) (fu.1 * ref.2 - fu.2 * ref.1) }
    pNum := ui, qNum := qn, qDen := qd, sNum := uu * ii }

/-- The square of a harmonic's r.m.s. value, in 2^-32 of the squared unit (R55). -/
def harmonicSquare (n : Nat) (tab : List (Int × Int)) (h : Nat) (x : List Int) : Nat :=
  let f := fourier tab h x
  2 * (f.1 * f.1 + f.2 * f.2).toNat * 2 ^ 32 / (n * n * 2 ^ 242)

end Sys2Proof.Machine
end

