-- ==== Sys2Proof/Machine/Sampling.lean ====
section
/-! DEFINITION. The chain of a sample stream (R44, R45, R49): sinc3 decimation, compensating filter, fractional resampler with PHASE;
and the test injector that stands in for the modulators of a bay (R60). Offset, gain and scale, the fourth stage, are in
`calibrate`. -/

namespace Sys2Proof.Machine

open Sys2Proof

/-! ### Decimation and the compensating filter -/

/-- Sums of the first 0, 1, 2, … members of a run, from a start. -/
def prefixSums : Int → List Int → List Int
  | a, [] => [a]
  | a, x :: l => a :: prefixSums (a + x) l

/-- The sums of 256 members in a row. -/
def boxSums (l : List Int) : List Int :=
  let p := prefixSums 0 l
  List.zipWith (· - ·) (p.drop 256) p

/-- Decimated values around a strobe: 60, the middle one at index 29. -/
def windowValues : Nat := 60

/-- Stage 1 (R44): sinc3 decimation by 256 of a stream's bits, a 1 standing for +1 and a 0 for −1. Full scale is 2^24. -/
def decimate (bits : Nat) : List Int :=
  let x := (List.range (256 * (windowValues - 1) + 766)).map fun i => if testBit bits i then (1 : Int) else -1
  let y := boxSums (boxSums (boxSums x))
  (List.range windowValues).map fun m => y.getD (256 * m) 0

/-- Stage 2 (R44): the compensating filter at value `m`, 31 taps, in 2^-54 of full scale. -/
def compensate (d : List Int) (m : Int) : Int :=
  ((List.range 31).map fun k => Config.firTap (min k (30 - k)) * d.getD (m - 15 + k).toNat 0).foldl (· + ·) 0

/-! ### The resampler -/

/-- The modulator clock in MHz (R42). -/
def clockMhz (s : State) : Nat := if s.field 0x0401 0 1 == 1 then 10 else 8

/-- The time shift of a PHASE in 2^-32 of a decimation period (R49). -/
def phaseShift (s : State) (phase : Int) : Int :=
  quot (phase * 1000000 * (clockMhz s) * 2 ^ 32) (360 * max 1 s.nominalFreq * 256)

/-- A number kept within the signed 32 bits of a resampled value (R46), which end at full scale (R43). -/
def clip32 (x : Int) : Int := max (-(2 ^ 31)) (min x (2 ^ 31 - 1))

/-- Stage 3 (R44, R49): the cubic value at an instant, with the stream's shift, as a fraction of full scale in 2^-31. -/
def resample (d : List Int) (frac : Nat) (shift : Int) : Int :=
  let at_ := (frac : Int) + shift
  let m := 29 + at_ / 2 ^ 32
  let f := (at_ % 2 ^ 32).toNat
  clip32 (quot (((List.range 4).map fun k => Config.cubicTap k f * compensate d (m - 1 + k)).foldl (· + ·) 0) (2 ^ 53))

/-- The calibration object and the record in it of a stream (R48). -/
def streamRecord (j : Nat) : Nat × Nat := if j < 256 then (0x0440 + j / 8, j % 8) else (0x0460, j - 256)

/-- PHASE of a calibration record, in 0.001° (R48). -/
def calPhase (data : Bytes) (k : Nat) : Int := signed 16 (num ((data.drop (16 * k + 12)).take 2))

/-- The resampled value of a stream that a modulator drives. -/
def streamValue (s : State) (x : StrobeInput) (j : Nat) : Int :=
  let (obj, k) := streamRecord j
  resample (decimate (x.bits.getD j 0)) x.frac (phaseShift s (calPhase (s.param obj) k))

/-- A decimated value that has arrived with this strobe reached 0.94 of full scale (R43). -/
def strobeOverrange (x : StrobeInput) (j : Nat) : Bool :=
  (((decimate (x.bits.getD j 0)).take 30).drop (30 - x.fresh)).any fun d => 94 * 2 ^ 24 ≤ 100 * d.natAbs

/-! ### The test injector -/

/-- √2 times a sine, in 2^-120, of `num/den` of a turn. -/
def rootTwoSine (num : Int) (den : Nat) : Int := ((isqrt (2 * 2 ^ 120) : Nat) : Int) * (turn (num % (den : Int)).toNat den).2

/-- The value an injected stream has at strobe `k` of a cycle, in 10^-8 of its unit and 2^-120 (R60): a fundamental locked to the
phase clock, a DC component and a harmonic. DESIGN CHOICE (log entry 156): a positive phase leads, and the harmonic has phase 0
against L1. -/
def injected (x : Injection) (k : Nat) : Int :=
  (x.rms : Int) * rootTwoSine (36000 * k + 128 * x.phase) (128 * 36000) + x.dc * 2 ^ 120 +
    (x.harmRms : Int) * rootTwoSine (x.order * k) 128

/-- Offset, gain and scale of record `k` of a calibration object (R48). -/
def calRecord (data : Bytes) (k : Nat) : Int × Nat × Nat :=
  (signed 32 (num ((data.drop (16 * k + 4)).take 4)), num ((data.drop (16 * k)).take 4), num ((data.drop (16 * k + 8)).take 4))

/-- A physical value converted to a full-scale fraction in 2^-31 through the bay's own METER_CAL (R49, R60). -/
def throughCal (data : Bytes) (k : Nat) (y : Int) : Int :=
  let (o, g, sc) := calRecord data k
  clip32 (o + quot (y * 2 ^ 61) (10 ^ 8 * 2 ^ 120 * max 1 (g * sc)))

/-- The injector's settings of a bay. -/
def injections (s : State) (b : Nat) : List Injection := (s.bay b).meter.inject

/-- The value of stream `j` at a strobe: the injector's where it stands in for the bay's modulators (R60, R61). -/
def latched (s : State) (x : StrobeInput) (j : Nat) : Int :=
  if j < 256 then
    match (injections s (j / 8))[j % 8]? with
    | some i => throughCal (s.param (0x0440 + j / 8)) (j % 8) (injected i s.met.strobes.length)
    | none => streamValue s x j
  else streamValue s x j

/-- Whether stream `j` was overrange at a strobe (R43). -/
def latchedOver (s : State) (x : StrobeInput) (v : Int) (j : Nat) : Bool :=
  if j < 256 && !(injections s (j / 8)).isEmpty then 94 * 2 ^ 31 ≤ 100 * v.natAbs else strobeOverrange x j

end Sys2Proof.Machine
end

