-- ==== Sys2Proof/Machine/Edges.lean ====
section
/-! DEFINITION. The instants at which contacts meet and part, as the stage 1 samples of UA and UO show them (R145, R147, R155). -/

namespace Sys2Proof.Machine

open Sys2Proof

/-- The period of a stage 1 sample in ns: 256 modulator clocks (R44). -/
def stagePeriod (s : State) : Nat := 256000 / clockMhz s

/-- The samples that span 1 ms. -/
def millisecond (s : State) : Nat := 1000000 / stagePeriod s + 1

/-- Stage 1 samples of a bay's stream, calibrated (R44, R49), in 2^-61 of its unit: a decimated value has 2^24 at full scale. -/
def stageValues (s : State) (b k : Nat) (l : List Int) : List Int :=
  let (o, g, sc) := calRecord (s.param (0x0440 + b)) k
  l.map fun x => calibrate o g sc (128 * x)

/-- UA and the gap between UO and UA, sample by sample. -/
def edgeGaps (s : State) (b : Nat) (w : EdgeWindow) : List (Int × Int) :=
  List.zipWith (fun u o => (u, o - u)) (stageValues s b 3 w.ua) (stageValues s b 6 w.uo)

/-- A gap lies below some percent of the crest of U_REF. -/
def belowCrest (s : State) (b percent : Nat) (gap : Int) : Bool :=
  10000 * gap.natAbs ^ 2 < 2 * (percent * s.uRef b * 2 ^ 61) ^ 2

/-- UO follows UA (R145): within 5 % of the crest of U_REF; on a DC bay within 5 % of UA, once the converter has raised it (R155). -/
def follows (s : State) (b : Nat) (x : Int × Int) : Bool :=
  if s.isDc b then 50000 * 2 ^ 61 ≤ x.1.natAbs && 20 * x.2.natAbs ≤ x.1.natAbs else belowCrest s b 5 x.2

/-- UO has departed from UA (R147): above 10 % of the crest of U_REF. -/
def departed (s : State) (b : Nat) (x : Int × Int) : Bool := !belowCrest s b 10 x.2

/-- The first place from which a condition holds for `n` members in a row. -/
def holdsFrom {α : Type} (p : α → Bool) (n : Nat) (l : List α) : Option Nat :=
  (List.range l.length).find? fun i => ((l.drop i).take n).length == n && ((l.drop i).take n).all p

/-- The closure instant in µs of the reference oscillator (R145): interpolated back from the first such sample, by less than a
sample's period. -/
def closureAt (s : State) (b : Nat) (w : EdgeWindow) : Option Nat :=
  (holdsFrom (follows s b) (millisecond s) (edgeGaps s b w)).map fun i =>
    (1000 * w.start + i * stagePeriod s - Config.interpolateBack w.ua w.uo i % stagePeriod s) / 1000

/-- The release instant in µs of the reference oscillator (R147). -/
def releaseAt (s : State) (b : Nat) (w : EdgeWindow) : Option Nat :=
  (holdsFrom (departed s b) (millisecond s) (edgeGaps s b w)).map fun i => (1000 * w.start + i * stagePeriod s) / 1000

end Sys2Proof.Machine
end

