-- ==== Sys2Proof/Machine/Contactor.lean ====
section
/-! DEFINITION. Contactors (R144 to R149, R155, R203, R219, R222, R227, R430): the timed-action queue's execution, closure and
release timing, weld checks, the residual self-test, and the opening of DC bays. -/

namespace Sys2Proof.Machine

open Sys2Proof

/-! ### Timing of closes and opens -/

/-- A measured time is valid (R145): 2 ms to 100 ms, and 0.5 to 2 times the present mean. -/
def timeValid (mean us : Nat) : Bool := 2000 ≤ us && us ≤ 100000 && mean ≤ 2 * us && us ≤ 2 * mean

/-- Learns an operate time; every third invalid one in a row is reported (R145). -/
def learnOperate (b us : Nat) (s : State) : State :=
  if timeValid (operateUs s b) us then
    s.modBay b fun y => { y with coil := { y.coil with operate := (us :: y.coil.operate).take 16, badOperate := 0 } }
  else
    let n := (s.bay b).coil.badOperate + 1
    let s1 := s.modBay b fun y => { y with coil := { y.coil with badOperate := n % 3 } }
    if n < 3 then s1 else ntfBay b 5 ([0, 0, 0, 0] ++ le 4 us) s1

/-- Learns a release time like an operate time (R147). -/
def learnRelease (b us : Nat) (s : State) : State :=
  if timeValid (releaseUs s b) us then
    s.modBay b fun y => { y with coil := { y.coil with release := (us :: y.coil.release).take 16, badRelease := 0 } }
  else
    let n := (s.bay b).coil.badRelease + 1
    let s1 := s.modBay b fun y => { y with coil := { y.coil with badRelease := n % 3 } }
    if n < 3 then s1 else ntfBay b 5 ([1, 0, 0, 0] ++ le 4 us) s1

/-- A context whose closure is confirmed enters CHARGING; a CTX_START completes with it (R467). -/
def confirmCharging (c : Nat) (s : State) : State :=
  if (s.ctx c).hd.state != .energising then s
  else
    let cmd := (s.ctx c).wk.startCmd
    toCtxState c .charging 11 [0] cmd stOk (s.modWk c fun w => { w with startCmd := none })

/-- The measured operate time (R145): the closure instant less the issue point. -/
def measuredOperate (y : Bay) (closure : Nat) : Nat := closure - y.coil.closeAt.getD closure

/-- The measured release time (R147): the release instant less the instant the coil channel was switched off. -/
def measuredRelease (y : Bay) (release : Nat) : Nat := release - y.coil.openAt.getD release

/-- A confirmed closure at an instant (R145, R155): ENERGISED and CHARGING. Times are learned on AC bays, where a close is placed on
the wave. -/
def confirmClosure (bay closure : Nat) (s : State) : State :=
  let y := s.bay bay
  let s1 := if s.isDc bay then s else learnOperate bay (measuredOperate y closure) s
  let s2 := s1.modBay bay fun y => { y with
    coil := { y.coil with closeAt := none, ua50At := none }
    lock := { y.lock with wasEnergised := true, weldPassed := false, uoLowSince := none }
    safety := { y.safety with exportE := 0, exportUs := 0, uoHighUs := 0, permitUntil := none } }
  let s3 := setBay bay .energised 0 s2
  match y.ctx with
  | some c => confirmCharging c s3
  | none => s3

/-- CLOSURE_DETECTED (R145, R155). -/
def execClosureDetected (bay : Nat) (w : EdgeWindow) (s : State) : Out :=
  atLiveBay bay s fun s =>
    let y := s.bay bay
    if y.state != .closing || !y.coil.on then s
    else match closureAt s bay w with
    | some t => confirmClosure bay t s
    | none => s

/-- The contactor has parted at an instant: the cycle is one in which the contacts open (R58), and the last one attributed to a
session that ends (R120, R147). -/
def confirmRelease (bay release : Nat) (s : State) : State :=
  let y := s.bay bay
  let s1 := if s.isDc bay then s else learnRelease bay (measuredRelease y release) s
  contactorOpened bay (s1.modBay bay fun z => { z with coil := { z.coil with onInCycle := true } })

/-- RELEASE_DETECTED (R147). -/
def execReleaseDetected (bay : Nat) (w : EdgeWindow) (s : State) : Out :=
  atLiveBay bay s fun s =>
    if (s.bay bay).coil.openAt.isNone then s
    else match releaseAt s bay w with
    | some t => confirmRelease bay t s
    | none => s

/-! ### Weld checks -/

/-- A passed weld check: the bay goes where the open leads it (R134, R312, R466). -/
def weldPassed (b : Nat) (s : State) : State :=
  let y := s.bay b
  let s1 := contactorOpened b (s.modBay b fun z => { z with
    coil := { z.coil with openAt := none }
    lock := { z.lock with weldPassed := true, uoLowSince := some (z.lock.uoLowSince.getD s.time.osc) } })
  if y.coil.disabling then disableNow b y.coil.disableCmds s1
  else match y.coil.faulting with
  | some cause => enterFault b cause (s1.modBay b fun z => { z with coil := { z.coil with faulting := none } })
  | none =>
    if y.pilot.stopHold then
      driveNext b .steady 0 (s1.modBay b fun z => { z with pilot := { z.pilot with stopHold := false, awaitFirst := true } })
    else settleBay b y.coil.openCause s1

/-- WELD_CHECK (R149): UO below 30 V within 200 ms of the coil command passes. -/
def execWeldCheck (bay uoMv : Nat) (s : State) : Out :=
  atLiveBay bay s fun s =>
    match (s.bay bay).coil.openAt with
    | none => s
    | some t =>
      if uoMv < 30000 && s.time.osc ≤ t + 200000 then weldPassed bay s
      else if t + 200000 ≤ s.time.osc then enterWelded bay s
      else s

/-- WELD_OPEN_DETECT (R227): UO at or above 30 V for 200 ms on an open AC bay outside WELD_CHECK. -/
def execWeldOpenDetect (bay : Nat) (s : State) : Out :=
  atLiveBay bay s fun s =>
    let y := s.bay bay
    if s.isDc bay || y.coil.on || y.coil.openAt.isSome || y.state == .welded || y.safety.uoHighUs < 200000 then s
    else enterWelded bay s

/-! ### DC bays -/

/-- DC_CLOSURE_TIMEOUT (R155): UO has not followed UA within 50 ms of 50 V. The contactor is not confirmed closed, so the end
cause is that of a fault without a trip (R183). -/
def execDcClosureTimeout (bay : Nat) (s : State) : Out :=
  atLiveBay bay s fun s =>
    let y := s.bay bay
    match y.coil.ua50At with
    | none => s
    | some t =>
      if !s.isDc bay || y.state != .closing || s.time.osc < t + 50000 then s
      else
        let s1 := match y.ctx with | some c => finishCtx c 6 7 0 errState s | none => s
        trip bay 6 true (setpointZero bay true s1)

/-- DC_OPEN_CURRENT_LOW (R155): below 5 A, or after 1 s. -/
def execDcOpenCurrentLow (bay : Nat) (iDcMa : Int) (s : State) : Out :=
  atLiveBay bay s fun s =>
    match (s.bay bay).coil.dcOpenAt with
    | none => s
    | some t =>
      if iDcMa.natAbs < 5000 || t + 1000000 ≤ s.time.osc then coilOff bay (s.bay bay).coil.openCause s else s

/-- SUSPEND_OPEN_TIMEOUT (R203): 6 s after a grant of 0 took effect. -/
def execSuspendOpenTimeout (bay : Nat) (s : State) : Out :=
  atLiveBay bay s fun s => if s.dueOpt (s.bay bay).coil.suspendAt && controlRuns s then normalOpen bay 0 s else s

/-! ### The timed-action queue -/

/-- The conditions of R155 for a DC close, but for permission: filtered C, STATUS READY, both voltages below 30 V. -/
def dcCloseReady (s : State) (b : Nat) : Bool :=
  let y := s.bay b
  y.pilot.cp == .c && y.conv.status == 1 && y.meter.q.uDc.natAbs < 30000 && y.meter.q.uoDc.natAbs < 30000

/-- A close without an execution point that waits for the residual self-test of its bay (R219). -/
def awaitsTest (s : State) (q : QEntry) : Bool :=
  match q.kind, q.bay with
  | .close _, some b => (s.bay b).coil.startWait == some none
  | _, _ => false

/-- Whether an entry may execute now: its issue point has come; a DC close without a point waits for R155, a close without one for
the self-test; a close that waits for VHOLD is not taken (R430). -/
def entryDue (s : State) (q : QEntry) : Bool :=
  s.lead q.cycle q.angle ≤ 0 && !q.waitVhold && !awaitsTest s q &&
    (!q.asap || (match q.bay with | some b => dcCloseReady s b && permitted s b | none => true))

/-- The entry to execute: the earliest issue point, of equals the one accepted first (R36). -/
def nextEntry (s : State) : Option QEntry :=
  (s.queue.filter (entryDue s)).foldl (fun best q => match best with
    | none => some q
    | some a => if s.lead q.cycle q.angle < s.lead a.cycle a.angle then some q else some a) none

/-- A close is removed without being made: the context is BOUND again (R182), reported once, with CTX_START's status (R467). -/
def refuseClose (b c status : Nat) (s : State) : State :=
  let s1 := if (s.bay b).state == .closing then setBay b .ready 0 s else s
  if (s1.ctx c).hd.state != .energising then s1
  else
    let cmd := (s1.ctx c).wk.startCmd
    toCtxState c .bound 11 (le 1 1 ++ le 1 0 ++ le 2 status) cmd (if cmd.isSome then status else 0)
      (s1.modWk c fun w => { w with startCmd := none })

/-- The coil command of a close: the self-test pass and the permission are used up, and a converter's RUN is no longer held. -/
def issueClose (b : Nat) (s : State) : State :=
  (commandOn (s.coilLsw b) s).modBay b fun y => { y with
    coil := { y.coil with on := true, onInCycle := true, closeAt := some s.time.osc }
    lock := { y.lock with wasEnergised := true, weldPassed := false, uoLowSince := none }
    safety := { y.safety with permitUntil := none, selfTest := { y.safety.selfTest with passUntil := none } }
    conv := { y.conv with runHeld := false } }

/-- The coil channel of a bay in CLOSING or ENERGISED has a protective off, a clamp lock or no supply: a trip into FAULT, and the
session ends with end cause 4 (R394). -/
def coilFails (b : Nat) (s : State) : State :=
  let y := s.bay b
  if y.state != .closing && y.state != .energised then s
  else
    let s1 := match y.ctx with | some c => finishCtx c 4 7 0x80 errSafety s | none => s
    trip b 5 true s1

/-- What keeps a channel off, as NTF_LSW codes it (R398). -/
def offReason (s : State) (k : Nat) : Nat :=
  let c := s.chan k
  if c.clampLock then 8 else if c.lockedOut then 7 else if c.thermal then 5 else 12

/-- The coil command of a close, and the trip of a bay whose coil channel refuses it (R389, R394). -/
def makeClose (b : Nat) (s : State) : State :=
  let s1 := issueClose b s
  let k := s.coilLsw b
  if (s1.chan k).out then s1 else coilFails b (ntfLsw k (offReason s1 k) s1)

/-- A close reaches its issue point (R144, R155, R430). What blocks energising blocks it (R43, R139, R141), and so does a trip in the
same cycle (R156). -/
def executeClose (q : QEntry) (b c : Nat) (s : State) : State :=
  if !s.power.vholdOk then { s with queue := s.queue.map fun e => if e == q then { e with waitVhold := true } else e }
  else
    let s1 := (dropEntries (· == q) s).modBay b fun y => { y with coil := { y.coil with startWait := none } }
    if !permitted s1 b || (s1.bay b).coil.tripCycle == some s1.clk.cycle then refuseClose b c errSafety s1
    else if energisingBlocked s1 b then refuseClose b c errState (noteReasons b (blockReasons s1 b) s1)
    else if (if s1.isDc b then dcCloseReady s1 b else (s1.bay b).pilot.cp == .c) then makeClose b s1
    else refuseClose b c errState s1

/-- Executes an entry. -/
def executeEntry (q : QEntry) (s : State) : State :=
  match q.kind, q.bay with
  | .close c, some b => executeClose q b c s
  | .normalOpen, some b => coilOff b (s.bay b).coil.openCause (dropEntries (· == q) s)
  | .lsw on, _ =>
    let s1 := dropEntries (· == q) s
    let s2 := if on then hostOn q.chan s1 else commandOff q.chan s1
    ntfLswFull q.chan 0 q.cmd stOk s2
  | _, none => dropEntries (· == q) s

/-- TIMED_ACTION (R36). -/
def execTimedAction (s : State) : Out :=
  .next (if !outputsDriven s then s else match nextEntry s with | some q => executeEntry q s | none => s)

/-! ### Residual self-test and permission -/

/-- What the running test adds to the doubled baseline of ires_dc: cycle `k` against the mean of the two before the pulse (R219). -/
def testRise (v : List (Int × Nat)) (k : Nat) : Int := 2 * (v.getD k (0, 0)).1 - ((v.getD 0 (0, 0)).1 + (v.getD 1 (0, 0)).1)

/-- The change of ires_ac in cycle `k`, doubled, against the mean of the two before the pulse. DEDUCED (log entry 162). -/
def testAcChange (v : List (Int × Nat)) (k : Nat) : Nat :=
  (2 * ((v.getD k (0, 0)).2 : Int) - ((v.getD 0 (0, 0)).2 + (v.getD 1 (0, 0)).2 : Nat)).natAbs

/-- A self-test passes (R219): in the second and third pulse cycles, and within two cycles after the pulse. -/
def selfTestPasses (v : List (Int × Nat)) : Bool :=
  ([3, 4].all fun k => 16000 ≤ testRise v k && testRise v k ≤ 24000 && testAcChange v k ≤ 2000) &&
    ([5, 6].any fun k => (testRise v k).natAbs ≤ 2000)

/-- The result of a self-test, with the BAY_TEST_RESIDUAL that asked for it (R291 event 7). -/
def reportSelfTest (b : Nat) (pass : Bool) (attempts : Nat) (s : State) : State :=
  let t := (s.bay b).safety.selfTest
  match t.cmd with
  | some c =>
    ntfBayFull b 7 (le 1 (bit pass) ++ le 1 attempts ++ le 2 0 ++ le 4 (pattern 32 (quot (testRise t.values 4) 2))) (some c) stOk s
  | none => s

/-- A close that waited for the self-test (R219, R222): permission is granted; one without an execution point gets its place now
(R144). -/
def resumeStart (b : Nat) (s : State) : State :=
  match (s.bay b).coil.startWait with
  | none => s
  | some point =>
    let place (q : QEntry) : QEntry :=
      let p := firstPoint s q.target (operateAu s b)
      if point.isNone && q.bay == some b then { q with cycle := p.1, angle := p.2 } else q
    let s1 := s.modBay b fun z => { z with coil := { z.coil with startWait := none } }
    let s2 : State := { s1 with queue := s1.queue.map place }
    if permits s2 b then grantPermission b s2 else s2

/-- Changes the self-test of a bay. -/
def State.modTest (s : State) (b : Nat) (f : SelfTest → SelfTest) : State :=
  s.modBay b fun y => { y with safety := { y.safety with selfTest := f y.safety.selfTest } }

/-- RESIDUAL_SELFTEST_DONE (R219): a failure is repeated once; the second puts the bay in FAULT, and the close that waited is refused
(R467). Both cores come to the verdict from the same values; that of a failed core does not count (R244). -/
def execResidualSelftestDone (bay : Nat) (core : SafetyCore) (s : State) : Out :=
  atLiveBay bay s fun s =>
    let t := (s.bay bay).safety.selfTest
    if !coreOk s core || !s.dueOpt t.runningTo || t.values.length < 7 then s
    else
      let hold := s.modBay bay fun y => { y with safety := { y.safety with dc1HoldTo := s.after (testCycles s 2) } }
      if selfTestPasses t.values then
        let s1 := reportSelfTest bay true (t.failures + 1) hold
        let s2 := s1.modTest bay fun x => { x with runningTo := none, rts := false, passUntil := some (s.after 60000000), cmd := none }
        evaluateBay bay (resumeStart bay s2)
      else if t.failures == 0 then runSelfTest bay 1 s
      else
        let s1 := reportSelfTest bay false 2 hold
        let s2 := s1.modTest bay fun x => { x with runningTo := none, rts := false, passUntil := none, failures := 0, cmd := none }
        let s3 := match (s.bay bay).ctx, (s.bay bay).coil.startWait with
          | some c, some _ => completeStart c errSafety (s.ctx c).hd.state s2
          | _, _ => s2
        let s4 := s3.modBay bay fun y => { y with coil := { y.coil with startWait := none } }
        ntfSafety 1 bay 0 (faultBay bay 7 s4)

/-- PERMISSION_LAPSE (R222): 10 s without a close. A DC close that waits for R155 is refused (R467). -/
def execPermissionLapse (bay : Nat) (s : State) : Out :=
  atLiveBay bay s fun s =>
    let y := s.bay bay
    if !s.dueOpt y.safety.permitUntil || y.coil.on then s
    else
      let s1 := withdrawEnables bay s
      match s1.queue.find? (fun q => q.bay == some bay && q.asap), y.ctx with
      | some q, some c => refuseClose bay c errSafety (dropEntries (· == q) s1)
      | _, _ => s1

/-! ### SDE -/

/-- An SDE trip (R224, R249): safe stop into FAULT; the second on a bay within 24 h sets SDE_LATCH. -/
def sdeTrip (b : Nat) (s : State) : State :=
  let y := s.bay b
  if y.state == .disabled || y.state == .fault || y.state == .welded then s
  else
    let second := match y.safety.sdeLast with | some t => s.time.osc < t + 86400000000 | none => false
    let s1 := safeStop b 0 5 true s
    let s2 := s1.modBay b fun z => { z with safety := { z.safety with
      sdeLast := some s.time.osc, sdeFirst := !second, sdeLatch := z.safety.sdeLatch || second } }
    if second && !y.safety.sdeLatch then ntfSafety 2 b 0 s2 else s2

end Sys2Proof.Machine
end

