-- ==== Sys2Proof/Machine/Contexts.lean ====
section
/-! DEFINITION. Session commands, 0x03xx (R314, R315, R186 to R189, R193, R206, R467), and the ends that time brings. -/

namespace Sys2Proof.Machine

open Sys2Proof

/-- A command that names a context which is not FREE (R188). -/
def withCtx (pl : Bytes) (s : State) (f : Nat → Ctx → Ans) : Ans :=
  let c := fld pl 0 1
  if (s.ctx c).hd.state == .free then refuse s errNotFound else f c (s.ctx c)

/-- CTX_OPEN (R188, R189). -/
def ctxOpenBody (_ : Call) (pl : Bytes) (s : State) : Ans :=
  let rb := fld pl 0 1
  let cls := fld pl 1 1
  let expiry := fld pl 4 8
  if (31 < rb && rb != 0xFF) || 7 < cls then refuse s errParam
  else if storeBlocks s then refuse s errStorage
  else match freeCtx s with
  | none => refuse s errCapacity
  | some c =>
    let s1 := openCtx c false (if rb == 0xFF then none else some rb) cls (if expiry == 0 then s.time.now + reserveUs s else expiry) s
    okWith (markDirty (ntfCtxFull c .free .reserved 0 [] none 0 s1)) (le 1 c ++ le 3 0)

/-- CTX_OPEN (R314). -/
def cmdCtxOpen : Command where
  op := 0x0300
  life := .o
  sc := true
  len := exactly 12
  rsv := [(2, 2)]
  body := ctxOpenBody

def execCtxOpen (h : Hdr) (pl : Bytes) (s : State) : Out := hostCmd cmdCtxOpen h pl s

/-- The end of a session by command, quota, time or vehicle (R182): queued entries go, a closed contactor opens as a normal
open. -/
def endSession (c endCause cause : Nat) (s : State) : State :=
  let b := (s.ctx c).hd.bay
  let s0 := match b with
    | some b => s.modBay b fun y => { y with coil := { y.coil with startWait := none } }
    | none => s
  let s1 := if endable (s.ctx c) then toFinishing c endCause cause 0 errState s0 else s0
  match b with
  | some b => evaluateBay b (normalOpen b (if cause == 1 then 1 else 0) s1)
  | none => s1

/-- CTX_STOP's effect (R182, R183): FREE of a context that has never entered ENERGISING and is before its start, else FINISHING. -/
def stopCtx (c : Nat) (s : State) : State :=
  if freeable (s.ctx c) then
    let s1 := freeContext c 0 [] s
    match (s.ctx c).hd.bay with | some b => evaluateBay b s1 | none => s1
  else endSession c 1 0 s

/-- A limit of a session in range: 0, or within bounds (R185). -/
def limitOk (v lo hi : Nat) : Bool := v == 0 || (lo ≤ v && v ≤ hi)

/-- The four limits of CTX_AUTHORISE are replaced (R193): changes of QUOTA, I_LIMIT and TIME_LIMIT enter the history. -/
def replaceLimits (c cls iLimit iGuar timeLimit quota : Nat) (s : State) : State :=
  let h := (s.ctx c).hd
  let s1 := if h.quota == quota then s else limitChange c 0 h.quota quota s
  let s2 := if h.iLimit == iLimit then s1 else limitChange c 1 h.iLimit iLimit s1
  let s3 := if h.timeLimit == timeLimit then s2 else limitChange c 3 h.timeLimit timeLimit s2
  let s4 := setLimits c cls 2 (attrOf true cls 0 0) iLimit iGuar timeLimit quota s3
  markDirty (ntfCtx c 3 [1, 2, byte cls] s4)

/-- CTX_AUTHORISE (R188, R193). -/
def ctxAuthoriseBody (_ : Call) (pl : Bytes) (s : State) : Ans :=
  withCtx pl s fun c x =>
    let allow := fld pl 1 1
    let cls := fld pl 2 1
    let il := fld pl 4 4
    let ig := fld pl 8 4
    let tl := fld pl 12 4
    let q := 1000 * fld pl 16 4
    let st := x.hd.state
    if 1 < allow || 7 < cls || !limitOk il 1000 500000 || !limitOk ig 6000 80000 || !limitOk tl 60 604800 then refuse s errParam
    else if x.wk.offline == some true then
      if allow == 0 && (st == .authorised || st == .bound || running st) then ok (stopCtx c s) else refuse s errState
    else if x.wk.offline == some false then refuse s errState
    else if st == .reserved then
      let hash := match x.wk.hostWait with | some w => credHash w.ident | none => List.replicate 12 0
      if allow == 1 then ok (allowCtx c hash 2 cls (attrOf true cls 0 0) il ig tl q none s) else ok (denyCtx c none s)
    else if st == .authorised then
      if allow == 1 then ok (replaceLimits c cls il ig tl q s) else ok (stopCtx c s)
    else refuse s errState

/-- CTX_AUTHORISE (R314). -/
def cmdCtxAuthorise : Command where
  op := 0x0301
  life := .o
  sc := true
  len := exactly 20
  rsv := [(3, 1)]
  body := ctxAuthoriseBody

def execCtxAuthorise (h : Hdr) (pl : Bytes) (s : State) : Out := hostCmd cmdCtxAuthorise h pl s

/-- CTX_BIND (R188): to a bay in OCCUPIED or READY without a context, outside METER_SELFTEST and after a filtered CP A (R61,
R466). -/
def ctxBindBody (_ : Call) (pl : Bytes) (s : State) : Ans :=
  let b := fld pl 1 1
  if 31 < b then refuse s errParam
  else withCtx pl s fun c x =>
    let y := s.bay b
    if !(x.hd.state == .reserved || x.hd.state == .authorised) || x.hd.bay.isSome ||
        !(y.state == .occupied || y.state == .ready) || y.ctx.isSome || y.meter.underTest || y.pilot.awaitA then
      refuse s errState
    else ok (evaluateBay b (ntfCtxFull c x.hd.state x.hd.state 0 [] none 0 (bindTo c b s)))

/-- CTX_BIND (R314). -/
def cmdCtxBind : Command where
  op := 0x0302
  life := .o
  sc := true
  len := exactly 4
  rsv := [(2, 2)]
  body := ctxBindBody

def execCtxBind (h : Hdr) (pl : Bytes) (s : State) : Out := hostCmd cmdCtxBind h pl s

/-! ### CTX_START -/

/-- The close of a BOUND context (R34, R35, R144, R155, R222): refused, queued, or waiting for its residual self-test. -/
def startClose (c b : Nat) (point : Option (BitVec 32 × Nat)) (ref : CmdRef) (s : State) : Ans :=
  let marked := s.modWk c fun w => { w with startCmd := some ref }
  let ac := !s.isDc b
  let target := match point with | some p => p | none => firstPoint s (closeTarget s b) (operateAu s b)
  let issue := match point with | some p => issuePoint s b p.1 p.2 | none => target
  let refusal : Option Nat :=
    if !ac && point.isNone then (if 512 ≤ s.queue.length then some errBusy else none)
    else match point with
      | some p => pointRefusal s (s.coilLsw b) p.1 issue.1 issue.2 ac
      | none => if ac && s.clk.state != .locked then some errState else if 512 ≤ s.queue.length then some errBusy else none
  match refusal with
  | some e => refuse s e
  | none =>
    if permits s b then
      let q := if !ac && point.isNone then closeEntry s b c (s.clk.cycle, s.clk.angle) s.clk.angle true
        else closeEntry s b c issue (match point with | some p => p.2 | none => closeTarget s b) false
      pending (queueClose b c q 0 0 (grantPermission b marked))
    else if ac && permitBase s b && !(s.bay b).coil.on then
      let waiting := marked.modBay b fun y => { y with coil := { y.coil with startWait := some point } }
      let tested := if (s.bay b).safety.selfTest.runningTo.isSome then waiting else startSelfTest b none waiting
      pending (queueClose b c (closeEntry s b c issue (match point with | some p => p.2 | none => closeTarget s b) false) 0 0 tested)
    else refuse s errSafety

/-- CTX_START (R188, R207, R467). -/
def ctxStartBody (call : Call) (pl : Bytes) (s : State) : Ans :=
  match execPoint (slice pl 8 8) with
  | none => refuse s errParam
  | some p => withCtx pl s fun c x =>
    if heldByStore s x then refuse s errStorage
    else if x.hd.state != .bound then refuse s errState
    else match x.hd.bay with
    | none => refuse s errState
    | some b => startClose c b (if p.at_ then some (p.cycle, p.angle) else none) call.ref s

/-- CTX_START (R314). -/
def cmdCtxStart : Command where
  op := 0x0303
  life := .o
  sc := true
  len := exactly 16
  rsv := [(1, 7)]
  body := ctxStartBody

def execCtxStart (h : Hdr) (pl : Bytes) (s : State) : Out := hostCmd cmdCtxStart h pl s

/-! ### Suspending, resuming, stopping -/

/-- A session is paused by the module or the host: SUSPENDED_EVSE, queued entries removed, and a normal open (R38, R182). -/
def suspendCtx (c cause : Nat) (detail : Bytes) (s : State) : State :=
  let s1 := moveCtx c .suspendedEvse cause detail errState s
  match (s.ctx c).hd.bay with
  | some b => normalOpen b 0 (s1.modBay b fun y => { y with coil := { y.coil with startWait := none } })
  | none => s1

/-- CTX_SUSPEND (R188). -/
def cmdCtxSuspend : Command where
  op := 0x0304
  life := .o
  sc := true
  len := exactly 1
  body _ pl s := withCtx pl s fun c x =>
    let st := x.hd.state
    if st == .bound || st == .energising || st == .charging || st == .suspendedEv then
      ok (suspendCtx c 0 [] (s.modWk c fun w => { w with byHost := true }))
    else refuse s errState

def execCtxSuspend (h : Hdr) (pl : Bytes) (s : State) : Out := hostCmd cmdCtxSuspend h pl s

/-- CTX_RESUME (R188): at once when the bay is READY and R207 does not hold the context, otherwise when that is so. DESIGN CHOICE
(log entry 30): each of several outstanding is completed by a notification of its own. -/
def ctxResumeBody (call : Call) (pl : Bytes) (s : State) : Ans :=
  withCtx pl s fun c x =>
    if x.hd.state != .suspendedEvse then refuse s errState
    else
      let s1 := s.modWk c fun w => { w with byHost := false }
      let ready : Bool := match x.hd.bay with | some b => (s.bay b).state == .ready | none => false
      if ready && !heldByStore s x then ok (evaluateCtx c (moveCtx c .bound 0 [] stOk s1))
      else pending (evaluateCtx c (markDirty (s1.modWk c fun w => { w with resumeCmds := w.resumeCmds ++ [call.ref] })))

/-- CTX_RESUME (R314). -/
def cmdCtxResume : Command where
  op := 0x0305
  life := .o
  sc := true
  len := exactly 1
  body := ctxResumeBody

def execCtxResume (h : Hdr) (pl : Bytes) (s : State) : Out := hostCmd cmdCtxResume h pl s

/-- CTX_STOP (R188). -/
def cmdCtxStop : Command where
  op := 0x0306
  life := .notBlank
  sc := true
  len := exactly 1
  body _ pl s := withCtx pl s fun c x =>
    if x.hd.state == .finishing || x.hd.state == .closed then refuse s errState else ok (stopCtx c s)

def execCtxStop (h : Hdr) (pl : Bytes) (s : State) : Out := hostCmd cmdCtxStop h pl s

/-! ### Limits -/

/-- RESERVED to SUSPENDED_EVSE. -/
def limitable (st : CtxState) : Bool := unstarted st || running st

/-- CTX_SET_QUOTA (R206): at or below use it ends the session at the next boundary. -/
def ctxSetQuotaBody (_ : Call) (pl : Bytes) (s : State) : Ans :=
  let q := fld pl 8 8
  if q == 0 then refuse s errParam
  else withCtx pl s fun c x =>
    if !limitable x.hd.state then refuse s errState
    else
      let cut := q ≤ mwh x.hd.sesImp
      let s1 := if x.hd.quota == q then s else limitChange c 0 x.hd.quota q s
      let s2 := s1.modHd c fun h => { h with
        quota := q, quotaOrig := if h.quotaOrig == 0 then q else h.quotaOrig, flags := if cut then h.flags ||| 0x20 else h.flags }
      ok (markDirty (s2.modWk c fun w => { w with quotaEnd := cut }))

/-- CTX_SET_QUOTA (R314). -/
def cmdCtxSetQuota : Command where
  op := 0x0307
  life := .o
  sc := true
  len := exactly 16
  rsv := [(1, 7)]
  body := ctxSetQuotaBody

def execCtxSetQuota (h : Hdr) (pl : Bytes) (s : State) : Out := hostCmd cmdCtxSetQuota h pl s

/-- The periods of a profile payload. -/
def profilePeriods (pl : Bytes) : List ProfilePeriod :=
  (List.range (fld pl 1 1)).map fun k =>
    { start := fld pl (4 + 16 * k) 4, capMa := fld pl (8 + 16 * k) 4, capMw := fld pl (12 + 16 * k) 4 }

/-- Starts rise strictly. -/
def ascending : List ProfilePeriod → Bool
  | a :: b :: l => a.start < b.start && ascending (b :: l)
  | _ => true

/-- CTX_SET_PROFILE (R186). -/
def ctxSetProfileBody (_ : Call) (pl : Bytes) (s : State) : Ans :=
  let n := fld pl 1 1
  let ps := profilePeriods pl
  let rsvOk := (List.range n).all fun k => zeroAt pl (16 + 16 * k) 4
  if n == 0 || 24 < n || !rsvOk || (ps.headD ⟨1, 0, 0⟩).start != 0 || !ascending ps then refuse s errParam
  else withCtx pl s fun c x =>
    if !limitable x.hd.state then refuse s errState
    else ok (markDirty (s.modWk c fun w => { w with profile := ps }))

/-- CTX_SET_PROFILE (R314). -/
def cmdCtxSetProfile : Command where
  op := 0x0308
  life := .o
  sc := true
  len pl := 4 ≤ pl.length && pl.length == 4 + 16 * fld pl 1 1
  rsv := [(2, 2)]
  body := ctxSetProfileBody

def execCtxSetProfile (h : Hdr) (pl : Bytes) (s : State) : Out := hostCmd cmdCtxSetProfile h pl s

/-- CTX_SET_PRIORITY (R314). -/
def cmdCtxSetPriority : Command where
  op := 0x0312
  life := .o
  sc := true
  len := exactly 4
  rsv := [(2, 2)]
  body _ pl s :=
    let cls := fld pl 1 1
    if 7 < cls then refuse s errParam
    else withCtx pl s fun c x =>
      if limitable x.hd.state then ok (markDirty (s.modHd c fun h => { h with priority := cls })) else refuse s errState

def execCtxSetPriority (h : Hdr) (pl : Bytes) (s : State) : Out := hostCmd cmdCtxSetPriority h pl s

/-! ### Reading, acknowledging, releasing -/

/-- CTX_GET (R185). -/
def cmdCtxGet : Command where
  op := 0x0309
  life := .notBlank
  len := exactly 1
  body _ pl s := withCtx pl s fun _ x => okWith s (ctxBytes x)

def execCtxGet (h : Hdr) (pl : Bytes) (s : State) : Out := hostCmd cmdCtxGet h pl s

/-- CTX_LIST (R314, R315). -/
def cmdCtxList : Command where
  op := 0x030A
  life := .notBlank
  len := exactly 4
  rsv := [(2, 2)]
  body _ pl s :=
    let l := (List.range 256).filter fun c => testBit (fld pl 0 2) (s.ctx c).hd.state.code
    okWith s (le 2 l.length ++ le 2 0 ++ l.flatMap fun c =>
      let h := (s.ctx c).hd
      le 1 c ++ le 1 h.state.code ++ le 1 (idx h.bay) ++ le 1 h.priority)

def execCtxList (h : Hdr) (pl : Bytes) (s : State) : Out := hostCmd cmdCtxList h pl s

/-- CTX_ACK_RECORD (R184). -/
def ctxAckBody (_ : Call) (pl : Bytes) (s : State) : Ans :=
  withCtx pl s fun c x =>
    if x.hd.state != .closed then refuse s errState
    else if fld pl 4 4 != x.hd.seq then refuse s errParam
    else
      let l := s.legal.records.map fun r => if r.seq == x.hd.seq then { r with acked := true } else r
      ok (freeContext c 0 [] { s with legal := { s.legal with records := l } })

/-- CTX_ACK_RECORD (R314). -/
def cmdCtxAckRecord : Command where
  op := 0x030B
  life := .notBlank
  sc := true
  len := exactly 8
  rsv := [(1, 3)]
  body := ctxAckBody

def execCtxAckRecord (h : Hdr) (pl : Bytes) (s : State) : Out := hostCmd cmdCtxAckRecord h pl s

/-- CTX_RELEASE (R188). -/
def cmdCtxRelease : Command where
  op := 0x030C
  life := .o
  sc := true
  len := exactly 1
  body _ pl s := withCtx pl s fun c x => if unstarted x.hd.state then ok (stopCtx c s) else refuse s errState

def execCtxRelease (h : Hdr) (pl : Bytes) (s : State) : Out := hostCmd cmdCtxRelease h pl s

/-! ### Ends that time brings -/

/-- TIME_LIMIT_EXPIRY (R187): on the reference oscillator, from the first entry into CHARGING. -/
def execTimeLimitExpiry (ctx : Nat) (s : State) : Out :=
  atCtx ctx s fun s =>
    let x := s.ctx ctx
    match x.wk.chargingAt with
    | none => s
    | some t =>
      if x.hd.timeLimit == 0 || !endable x || s.time.osc < t + 1000000 * x.hd.timeLimit then s
      else endSession ctx 3 6 s

/-- RESERVATION_EXPIRY (R189). -/
def execReservationExpiry (ctx : Nat) (s : State) : Out :=
  atCtx ctx s fun s =>
    let x := s.ctx ctx
    if x.hd.expiry == 0 || s.time.now < x.hd.expiry || !unstarted x.hd.state || x.wk.energised then s
    else
      let b := x.hd.bay
      let s1 := freeContext ctx 8 [] s
      match b with | some b => evaluateBay b s1 | none => s1

end Sys2Proof.Machine
end

