-- ==== Sys2Proof/Machine/Converter.lean ====
section
/-! DEFINITION. DC converters on the CAN ports (R150 to R155, R220): the frames sent every 20 ms, the frames received, and their
supervision. -/

namespace Sys2Proof.Machine

open Sys2Proof

/-- The bays whose converter sits on a CAN port. -/
def canBays (s : State) (can : Nat) : List Nat :=
  (List.range 32).filter fun b => s.isDc b && s.field (0x0540 + b) 0 1 == can

/-- HEARTBEAT (R152): HEARTBEAT and SETPOINT to every converter of the port. -/
def execHeartbeat (can : Nat) (s : State) : Out :=
  atUnit "can" 2 can s fun s =>
    if !outputsDriven s then s else (canBays s can).foldl (fun a b => sendSetpoint b (sendHeartbeat b a)) s

/-- The bay of a converter that sends on a port: one configured as DC, or one whose CONFIG is out. -/
def converterBay (s : State) (can node : Nat) : Option Nat :=
  (List.range 32).find? fun b => (s.isDc b || (s.bay b).conv.configAt.isSome) &&
    s.field (0x0540 + b) 0 1 == can && s.field (0x0540 + b) 8 5 == node

/-- A frame is valid (R151): 16 bytes, right CRC, and a counter that has advanced by 1 to 3. -/
def canValid (m node : Nat) (last : Option Nat) (data : Bytes) : Bool :=
  data.length == 16 && fld data 14 2 == crc16 (le 2 (0x400 + 32 * m + node) ++ data.take 14) &&
    (match last with
      | none => true
      | some k => let d := (fld data 0 1 + 256 - k) % 256; 1 ≤ d && d ≤ 3)

/-- Changes a bay's converter. -/
def State.modConv (s : State) (b : Nat) (f : BayConverter → BayConverter) : State :=
  s.modBay b fun y => { y with conv := f y.conv }

/-- A frame of message `m` (4 STATUS to 7 FAULT): a valid one sets the counter and acts; another counts as not received. -/
def canReceive (m can node : Nat) (data : Bytes) (s : State) (act : Nat → State → State) : Out :=
  atUnit "can" 2 can s fun s =>
    match converterBay s can node with
    | none => s
    | some b =>
      if !outputsDriven s || !canValid m node ((s.bay b).conv.alive.getD (m - 4) none) data then s
      else
        let s1 := count 0x10 (4 + can) 16 s
        act b (s1.modConv b fun v => { v with alive := v.alive.modify (m - 4) fun _ => some (fld data 0 1) })

/-- CONVERTER_STATUS (R152, R154). -/
def execConverterStatus (can node : Nat) (data : Bytes) (s : State) : Out :=
  canReceive 4 can node data s fun b s =>
    evaluateBay b (s.modConv b fun v => { v with
      status := fld data 1 1, outMv := fld data 2 4, outMa := signed 32 (fld data 6 4)
      temp := signed 16 (fld data 10 2), flags := fld data 12 2, statusAt := some s.time.osc })

/-- NTF_BAY event 8 of a converter (R291). -/
def ntfConverter (b kind code : Nat) (cmd : Option CmdRef) (status : Nat) (s : State) : State :=
  ntfBayFull b 8 (le 1 kind ++ le 1 (s.field (0x0540 + b) 0 1) ++ le 1 (s.field (0x0540 + b) 8 5) ++ le 1 code) cmd status s

/-- A converter's failure (R154): a trip of a closed contactor ends the session as a trip, otherwise it is a fault without one. -/
def converterTrip (b : Nat) (s : State) : State :=
  let y := s.bay b
  if y.isEnergised then
    let s1 := match y.ctx with | some c => finishCtx c 4 7 0x80 errSafety s | none => s
    trip b 6 true (stopConverter b s1)
  else if y.coil.openAt.isSome then
    s.modBay b fun z => { z with coil := { z.coil with faulting := some 6 } }
  else faultBay b 6 s

/-- Whether `us` have passed since an instant, or nothing ever came. -/
def silentFor (s : State) (t : Option Nat) (us : Nat) : Bool := match t with | some t => t + us ≤ s.time.osc | none => true

/-- CONVERTER_STATUS_TIMEOUT (R154). -/
def execConverterStatusTimeout (bay : Nat) (s : State) : Out :=
  atLiveBay bay s fun s =>
    let y := s.bay bay
    if !s.isDc bay || y.state == .disabled || y.state == .fault || y.state == .welded || !silentFor s y.conv.statusAt 60000
    then s
    else
      let s1 := s.modConv bay fun v => { v with statusAt := none, alive := v.alive.modify 0 fun _ => none }
      converterTrip bay (ntfConverter bay 3 0 none 0 s1)

/-- ISO_MONITOR (R152, R154, R220): alarm and monitor fault are an SDE trip demand. -/
def execIsoMonitor (can node : Nat) (data : Bytes) (s : State) : Out :=
  canReceive 5 can node data s fun b s =>
    let old := (s.bay b).conv.iso
    let new := fld data 1 1
    let s1 := s.modConv b fun v => { v with
      iso := new, isoOhm := fld data 2 4, isoMv := fld data 6 4, isoAt := some s.time.osc }
    if 2 ≤ new then sdeTrip b s1
    else if new == 1 && old != 1 then evaluateBay b (ntfConverter b 2 0 none 0 s1)
    else evaluateBay b s1

/-- ISO_MONITOR_TIMEOUT (R220): 300 ms of silence on an energised DC bay count as a monitor fault. -/
def execIsoMonitorTimeout (bay : Nat) (s : State) : Out :=
  atLiveBay bay s fun s =>
    let y := s.bay bay
    if !s.isDc bay || !y.isEnergised || !silentFor s y.conv.isoAt 300000 then s
    else sdeTrip bay (s.modConv bay fun v => { v with isoAt := none, alive := v.alive.modify 1 fun _ => none })

/-- The end of a CONFIG, reported to every CONVERTER_CONFIGURE that waits for it (R154, R282). -/
def ntfConfigured (b kind : Nat) (cmds : List CmdRef) (status : Nat) (s : State) : State :=
  (cmds.drop 1).foldl (fun a c => ntfConverter b kind 0 (some c) status a) (ntfConverter b kind 0 cmds.head? status s)

/-- CAPABILITY (R152, R154): it completes CONVERTER_CONFIGURE. -/
def execCapability (can node : Nat) (data : Bytes) (s : State) : Out :=
  canReceive 6 can node data s fun b s =>
    let v := (s.bay b).conv
    let s1 := markDirty (s.modConv b fun v => { v with
      capKnown := true, capFailed := false, capExport := testBit (fld data 1 1) 0
      capMv := fld data 2 4, capMa := fld data 6 4, capMw := fld data 10 4, configAt := none, configCmds := [] })
    if v.configAt.isSome then ntfConfigured b 0 v.configCmds stOk s1 else s1

/-- CAPABILITY_TIMEOUT (R154): 500 ms after CONFIG. -/
def execCapabilityTimeout (bay : Nat) (s : State) : Out :=
  atLiveBay bay s fun s =>
    let v := (s.bay bay).conv
    match v.configAt with
    | none => s
    | some t =>
      if s.time.osc < t + 500000 then s
      else
        let s1 := s.modConv bay fun v => { v with
          capKnown := false, capFailed := true, configAt := none, configCmds := [], alive := v.alive.modify 2 fun _ => none }
        ntfConfigured bay 1 v.configCmds errState s1

/-- CONVERTER_FAULT (R152, R154): severity 1 trips the bay, once for each fault. -/
def execConverterFault (can node : Nat) (data : Bytes) (s : State) : Out :=
  canReceive 7 can node data s fun b s =>
    let code := fld data 1 1
    if fld data 2 1 == 0 then ntfConverter b 4 code none 0 s
    else if (s.bay b).conv.faultCode == some code then s
    else converterTrip b (ntfConverter b 4 code none 0 (s.modConv b fun v => { v with faultCode := some code }))

end Sys2Proof.Machine
end

