-- ==== Sys2Proof/Machine/Budget.lean ====
section
/-! DEFINITION. The site power budget: limit sources and their lapse (R173, R199, R313, R314, R329, R330), the allocator
(R200 to R205) and what its result does to duties, setpoints and contexts. -/

namespace Sys2Proof.Machine

open Sys2Proof

/-! ### Limits -/

/-- No limit of any kind. -/
def noLimits : Limits := { siteP := 2 ^ 64 - 1, phase := List.replicate 3 0xFFFFFFFF, feed := List.replicate 4 0xFFFFFFFF }

/-- The lower of two sets, kind by kind. -/
def meetLimits (a b : Limits) : Limits :=
  { siteP := min a.siteP b.siteP
    phase := (List.range 3).map fun k => min (a.phase.getD k 0xFFFFFFFF) (b.phase.getD k 0xFFFFFFFF)
    feed := (List.range 4).map fun k => min (a.feed.getD k 0xFFFFFFFF) (b.feed.getD k 0xFFFFFFFF) }

/-- Limits laid out as site power (8), L1 to L3 (4 each), feeder groups 0 to 3 (4 each). -/
def limitsAt (pl : Bytes) (off : Nat) : Limits :=
  { siteP := fld pl off 8
    phase := (List.range 3).map fun k => fld pl (off + 8 + 4 * k) 4
    feed := (List.range 4).map fun k => fld pl (off + 20 + 4 * k) 4 }

/-- The same layout as bytes. -/
def limitsBytes (l : Limits) : Bytes := le 8 l.siteP ++ l.phase.flatMap (le 4) ++ l.feed.flatMap (le 4)

/-- The connection limits and the fallback set of SITE_CONNECTION (R329). -/
def connection (s : State) : Limits := limitsAt (s.param 0x0026) 0

@[inherit_doc connection]
def fallbackSet (s : State) : Limits := limitsAt (s.param 0x0026) 36

/-- ROLE of SITE_CONFIG (R330). -/
def siteRole (s : State) : Nat := s.field 0x0510 0 2

/-- A limit with its valid-until, replaced by the fallback set once it has lapsed (R199). -/
def timedLimit (s : State) (lapsed : Bool) (l : Option (Limits × Nat)) : Limits :=
  match l with
  | none => if lapsed then fallbackSet s else noLimits
  | some (x, t) => if lapsed || t ≤ s.time.now then fallbackSet s else x

/-- The limits in force (R199): the lowest of the sources, kind by kind. -/
def limitsInForce (s : State) : Limits :=
  let g := s.budget
  let base := meetLimits (meetLimits (connection s) (timedLimit s g.hostLapsed g.host))
    (if siteRole s == 1 then timedLimit s g.siteLost g.site else noLimits)
  let peer := if g.peerLost then meetLimits base (fallbackSet s) else base
  (g.curtail.filter fun k => k.fromT ≤ s.time.now && s.time.now < k.until_).foldl (fun a k => meetLimits a k.limits) peer

/-! ### Frames of the mains network and the site link -/

/-- The slot of the mains network's key (R170). -/
def linkSlot (s : State) : Nat := s.field 0x0501 32 16

/-- The site-link key of the mains network, where it may sign (2) or verify (3) (R170, R335, R341). -/
def linkKey (s : State) (usage : Nat) : Option Bytes :=
  if linkSlot s != 0xFFFF && keyUsable s (linkSlot s) [1] usage .siteLink then some (s.key (linkSlot s)).material else none

/-- A refused use of the mains network's key is recorded (R341). -/
def askLinkKey (usage : Nat) (s : State) : State := askKey (linkSlot s) [1] usage .siteLink s

/-- A curtailment frame (R173). -/
def curtailFrame (key : Bytes) (origin seq hop fromT until_ : Nat) (l : Limits) : Bytes :=
  let body := le 8 origin ++ le 4 seq ++ le 1 hop ++ le 3 0 ++ le 8 fromT ++ le 8 until_ ++ limitsBytes l ++ le 12 0
  body ++ (hmac key body).take 16

/-- Extended mode holds tone maps (R174). -/
def extended (s : State) : Bool := s.field 0x0501 0 2 == 2

/-- A neighbour is held on ROBO: for want of a map, after failed refreshes, or because its network runs on another supply (R175,
R178, R180). -/
def onRobo (s : State) (n : Neighbour) : Bool := n.robo || s.mains.outOfTol || !extended s

/-- The mean beacon offset of the CCo that the last 16 beacons gave, 0 on the CCo itself (R178). -/
def ccoOffset (s : State) : Int :=
  match s.mains.neighbours.find? (·.serial == s.mains.ccoSerial) with | some n => if s.mains.link == 3 then 0 else n.offset | none => 0

/-- The angle slot in which a symbol starts, in the CCo's angle (R174, R178). -/
def angleSlot (s : State) : Nat := (((s.clk.angle : Int) - ccoOffset s) % 2048).toNat / 512

/-- Gives a frame to PLCM: it goes to every station of the network, on the carriers of TONE_MASK, under the maps in force as it starts,
or in ROBO while some neighbour is held on it (R171, R174, R175). The last 64 are kept. -/
def relayFrame (f : Bytes) (s : State) : State :=
  let p : PlcFrame := { data := f, carriers := num (s.param 0x0503), slot := angleSlot s, robo := !extended s || s.mains.neighbours.any (onRobo s) }
  count 0x11 6 f.length { s with budget := { s.budget with relay := (p :: s.budget.relay).take 64 } }

/-- A module in the mains network sends a limit of its host or site Ethernet on as an origin (R173). -/
def originate (until_ : Nat) (l : Limits) (s : State) : State :=
  if !mainsCarries s then s
  else match linkKey s 2 with
  | none => askLinkKey 2 s
  | some key =>
    let seq := s.budget.ownSeq + 1
    relayFrame (curtailFrame key serialNum seq 0 s.time.now until_ l) { s with budget := { s.budget with ownSeq := seq } }

/-- SITE_SET_BUDGET (R199, R315). -/
def siteSetBudgetBody (_ : Call) (pl : Bytes) (s : State) : Ans :=
  let t := fld pl 0 8
  let l := limitsAt pl 8
  if t ≤ s.time.now then refuse s errTime
  else ok (originate t l (markDirty { s with budget := { s.budget with host := some (l, t), hostLapsed := false } }))

/-- SITE_SET_BUDGET (R314). -/
def cmdSiteSetBudget : Command where
  op := 0x0310
  life := .o
  sc := true
  len := exactly 44
  body := siteSetBudgetBody

def execSiteSetBudget (h : Hdr) (pl : Bytes) (s : State) : Out := hostCmd cmdSiteSetBudget h pl s

/-- One entry of SITE_GET_ALLOCATION (R314). -/
def grantBytes (g : Grant) : Bytes := le 1 g.ctx ++ le 1 g.bay ++ le 1 (bit g.broken + 2 * bit g.reserved) ++ le 1 0 ++ le 4 g.ma

/-- SITE_GET_ALLOCATION (R200, R314). -/
def cmdSiteGetAllocation : Command where
  op := 0x0311
  life := .notBlank
  len := exactly 0
  body _ _ s := okWith s (le 4 s.budget.lastCycle ++ le 2 s.budget.last.length ++ le 2 0 ++ s.budget.last.flatMap grantBytes)

def execSiteGetAllocation (h : Hdr) (pl : Bytes) (s : State) : Out := hostCmd cmdSiteGetAllocation h pl s

/-- SITE_LIMIT_LAPSE (R199): a host limit gives way to the fallback set, a curtailment goes. -/
def execSiteLimitLapse (src : LimitSource) (s : State) : Out :=
  match src with
  | .hostBudget =>
    match s.budget.host with
    | some (_, t) =>
      .next (if t ≤ s.time.now && !s.budget.hostLapsed then markDirty { s with budget := { s.budget with hostLapsed := true } } else s)
    | none => .next s
  | .curtailment o =>
    let gone (k : Curtailment) : Bool := k.origin == o && k.until_ ≤ s.time.now && k.limits != noLimits
    .next (if s.budget.curtail.any gone then
        markDirty { s with budget := { s.budget with curtail := s.budget.curtail.map fun k => if gone k then { k with limits := noLimits } else k } }
      else s)

/-- A curtailment frame is discarded with a wrong MAC, a sequence number not above the last accepted of its origin, or after its time;
else applied, and sent on below hop 3 (R173). An origin's entry stays for its sequence number. -/
def takeCurtailment (frame : Bytes) (s : State) : State :=
  match linkKey s 3 with
  | none => askLinkKey 3 s
  | some key =>
    let origin := fld frame 0 8
    let seq := fld frame 8 4
    let hop := fld frame 12 1
    let until_ := fld frame 24 8
    let stale := s.budget.curtail.any fun k => k.origin == origin && seq ≤ k.seq
    if frame.length != 96 || slice frame 80 16 != (hmac key (frame.take 80)).take 16 || stale || until_ ≤ s.time.now then s
    else
      let k : Curtailment := { origin := origin, seq := seq, limits := limitsAt frame 32, fromT := fld frame 16 8, until_ := until_ }
      let s1 := markDirty { s with budget := { s.budget with curtail := s.budget.curtail.filter (·.origin != origin) ++ [k] } }
      if hop < 3 then
        let body := frame.take 12 ++ le 1 (hop + 1) ++ slice frame 13 67
        match linkKey s 2 with
        | some key => relayFrame (body ++ (hmac key body).take 16) s1
        | none => askLinkKey 2 s1
      else s1

/-- CURTAILMENT_FRAME (R173): PLCM of a module in the mains network receives it. -/
def execCurtailmentFrame (frame : Bytes) (s : State) : Out :=
  .next (if !mainsCarries s || !hostReady s then s else takeCurtailment frame (count 0x10 6 frame.length s))

/-- Counts a frame of the site link on the ports of a set, bit 0 SITE_A, bit 1 SITE_B, bit 2 PLCM (R375, R376). Its length is not given: a
free value. -/
def countSite (event ports : Nat) (s : State) : State :=
  let (n, s1) := s.choice
  [(0, 2), (1, 3), (2, 6)].foldl (fun a p => if testBit ports p.1 then count event p.2 n a else a) s1

/-- The links of SITE_CONFIG (R330): SITE_A and SITE_B, or PLCM. -/
def siteLinks (s : State) : Nat := if s.field 0x0510 2 2 == 1 then 4 else 3

/-- The site link carries frames (R330, R358). -/
def siteCarries (s : State) : Bool := siteLinks s == 3 || mainsCarries s

/-- The slot of the site-link key (R330). -/
def siteSlot (s : State) : Nat := s.field 0x0510 16 16

/-- The site-link key of SITE_CONFIG, where it may sign (2) or verify (3) (R330, R335, R341). -/
def siteKey (s : State) (usage : Nat) : Option Bytes :=
  if siteSlot s != 0xFFFF && keyUsable s (siteSlot s) [1, 2] usage .siteLink then some (s.key (siteSlot s)).material else none

/-- A refused use of the site-link key is recorded (R341). -/
def askSiteKey (usage : Nat) (s : State) : State := askKey (siteSlot s) [1, 2] usage .siteLink s

/-- The limits of a set in the order of R199. -/
def limitList (l : Limits) : List Nat := l.siteP :: l.phase ++ l.feed

/-- COORDINATOR_SEND (R330): every second a coordinator sends its limits in force, valid for 3 s. -/
def execCoordinatorSend (s : State) : Out :=
  if siteRole s != 2 || !controlRuns s || !siteCarries s || (match s.budget.sentAt with | some t => s.time.osc < t + 1000000 | none => false) then .next s
  else match siteKey s 2 with
    | none => .next (askSiteKey 2 s)
    | some key =>
      let l := limitsInForce s
      let t := s.time.now + 3000000
      let site := s.field 0x0510 128 32
      let f : CoordFrame := { sender := serialNum, siteId := site, limits := l, validUntil := t,
                              mac := Config.coordMac key serialNum site t (limitList l) }
      .next (countSite 0x11 (siteLinks s) { s with budget := { s.budget with sent := some f, sentAt := some s.time.osc } })

/-- A station of the site link has been heard (SITE_GET_PEERS). -/
def heardPeer (serial role links : Nat) (s : State) : State :=
  { s with sitePeers := s.sitePeers.filter (·.serial != serial) ++ [{ serial := serial, role := role, links := links, lastAt := s.time.osc }] }

/-- A limit times SHARE / 1 000; no limit stays none (R330). -/
def shareOf (share v all : Nat) : Nat := if v == all then v else v * share / 1000

/-- A member takes authentic, valid frames of its coordinator and site, heard on some of its links (R330). -/
def takeCoordinator (links : Nat) (f : CoordFrame) (s : State) : State :=
  match siteKey s 3 with
  | none => if siteRole s == 1 then askSiteKey 3 s else s
  | some key =>
    if siteRole s != 1 || f.siteId != s.field 0x0510 128 32 || f.sender != s.field 0x0510 32 64 ||
        f.mac != Config.coordMac key f.sender f.siteId f.validUntil (limitList f.limits) || f.validUntil ≤ s.time.now then s
    else
      let share := s.field 0x0510 96 16
      let l : Limits := { f.limits with
        siteP := shareOf share f.limits.siteP (2 ^ 64 - 1), phase := f.limits.phase.map fun v => shareOf share v 0xFFFFFFFF }
      let s2 := heardPeer f.sender 2 links s
      let s3 := markDirty { s2 with budget := { s2.budget with site := some (l, f.validUntil), siteSeen := some s.time.osc, siteLost := false } }
      if testBit links 2 then s3 else originate f.validUntil l s3

/-- COORDINATOR_FRAME (R330). Which of SITE_A and SITE_B carried it, one or both, is a free value. -/
def execCoordinatorFrame (f : CoordFrame) (s : State) : Out :=
  .next (if !controlRuns s || !siteCarries s then s
    else if siteLinks s == 4 then takeCoordinator 4 f (countSite 0x10 4 s)
    else
      let (n, s1) := s.choice
      takeCoordinator (1 + n % 3) f (countSite 0x10 (1 + n % 3) s1))

/-- COORDINATOR_LOST (R330, R199): 3 s without a valid frame. -/
def execCoordinatorLost (s : State) : Out :=
  .next (if siteRole s != 1 || !controlRuns s || s.budget.siteLost || !silentFor s s.budget.siteSeen 3000000 then s
    else markDirty { s with budget := { s.budget with siteLost := true } })

/-! ### Demand -/

/-- The caps of the charging profile in force (R186): mA and mW, 0 for none. -/
def profileCaps (s : State) (c : Ctx) : Nat × Nat :=
  let elapsed := match c.wk.boundAt with | some t => (s.time.osc - t) / 1000000 | none => 0
  match (c.wk.profile.filter fun p => p.start ≤ elapsed).getLast? with
  | some p => (p.capMa, p.capMw)
  | none => (0, 0)

/-- The lowest of some caps, 0 standing for no cap. -/
def lowest (l : List Nat) : Option Nat :=
  (l.filter (· != 0)).foldl (fun a v => match a with | some x => some (min x v) | none => some v) none

/-- The cable rating in mA (R138, R139). -/
def cableMa (s : State) (b : Nat) : Nat :=
  match reportedPp s b with
  | .tethered => 1000 * s.bayField b 48 8
  | .a13 => 13000
  | .a20 => 20000
  | .a32 => 32000
  | .a63 => 63000
  | _ => 0

/-- The power demand of a DC bay in mW (R201): the lesser of its power caps and the converter's capability. -/
def dcDemandMw (s : State) (b : Nat) (c : Ctx) : Nat :=
  let v := (s.bay b).conv
  if !v.capKnown then 0 else (lowest [c.hd.pLimit, (profileCaps s c).2, (s.bay b).link.reqMw, v.capMw]).getD 0

/-- The load per phase in mA of a DC power in mW: p / (3 × NOMINAL_VOLTAGE) plus 5 % (R201). -/
def dcLoadMa (s : State) (mw : Nat) : Nat := quotN (350 * mw) (max 1 s.nominalVoltage)

/-- A context's demand per phase in mA (R201, R313). -/
def demandMa (s : State) (b : Nat) (c : Ctx) : Nat :=
  let caps := [c.hd.iLimit, (profileCaps s c).1, (s.bay b).limitCap]
  if s.isDc b then
    let d := dcLoadMa s (dcDemandMw s b c)
    min d ((lowest caps).getD d)
  else
    let hard := min (1000 * s.bayField b 56 8) (cableMa s b)
    min hard ((lowest ((s.bay b).link.reqMa :: caps)).getD hard)

/-- The power that a grant lets a DC bay deliver, in mW. -/
def grantMw (s : State) (b : Nat) (c : Ctx) (ma : Nat) : Nat :=
  let d := dcDemandMw s b c
  if dcLoadMa s d ≤ ma then d else ma * s.nominalVoltage / 350

/-- The phase that a single-phase bay loads, none while it is not identified (R201). -/
def singlePhase (s : State) (b : Nat) : Option Nat :=
  let q := (s.bay b).meter.q.phases.getD 0 {}
  if 100 * q.uRms < 20 * s.nominalVoltage then none
  else if q.phiUu.natAbs ≤ 3000 then some 0
  else if (q.phiUu + 12000).natAbs ≤ 3000 then some 1
  else if (q.phiUu - 12000).natAbs ≤ 3000 then some 2
  else none

/-- The phases that a bay loads. -/
def loadedPhases (s : State) (b : Nat) : List Bool :=
  if s.kind b == 1 then match singlePhase s b with | some k => (List.range 3).map (· == k) | none => [true, true, true]
  else [true, true, true]

/-- The present draw of a bay in mA per phase: the highest I_RMS of the last committed cycle (R204); on a DC bay the load per
phase of its power. -/
def drawMa (s : State) (b : Nat) : Nat :=
  let q := (s.bay b).meter.q
  if s.isDc b then dcLoadMa s q.pDc.natAbs else (q.phases.map PhaseQ.iRms).foldl max 0

/-- SLC's band over a limit in mA, compared without rounding (R225): the greater of 1.1 × the limit and the limit + 2 A. -/
def withinBand (draw limit : Nat) : Bool := 10 * draw ≤ 11 * limit || draw ≤ limit + 2000

/-! ### The allocator -/

/-- One counted context, as the allocator sees it. -/
structure Cand where
  ctx    : Nat
  bay    : Nat
  cls    : Nat
  tStart : Nat
  demand : Nat
  guar   : Nat
  dc     : Bool
  phases : List Bool
  feeder : Nat
  /-- Site power per mA of grant, in units of 1/7 000 mW. -/
  rate   : Nat
  prev   : Nat
  /-- What the context holds back from others after a cut (R204), 0 for nothing. -/
  hold   : Nat
  ma     : Nat := 0
  broken : Bool := false
  deriving DecidableEq, Repr

/-- The allocator counts a context (R201). -/
def counted (s : State) (c : Nat) : Bool :=
  let x := s.ctx c
  match x.hd.state with
  | .authorised => x.hd.bay.isSome && !heldByStore s x
  | .bound | .energising | .charging | .suspendedEv => x.hd.bay.isSome
  | .suspendedEvse => x.hd.bay.isSome && !x.wk.byHost && !heldByStore s x
  | _ => false

/-- A counted context with its demand and loads. -/
def candidate (s : State) (c : Nat) : Cand :=
  let x := s.ctx c
  let b := x.hd.bay.getD 0
  let phases := loadedPhases s b
  let dc := s.isDc b
  { ctx := c, bay := b, cls := x.hd.priority, tStart := x.hd.tStart, demand := demandMa s b x, guar := x.hd.iGuar, dc := dc,
    phases := phases, feeder := s.feeder b,
    rate := if dc then 20 * s.nominalVoltage else 7 * s.uRef b * (if s.kind b == 1 then 1 else 3),
    prev := x.hd.iGrant, hold := ((x.wk.cuts.filter fun k => !s.due k.1).map (·.2)).foldl max 0 }

/-- Protection order (R202): descending class, then the earliest T_START; a context not started comes last. -/
def Cand.before (a b : Cand) : Bool :=
  let start (x : Cand) : Nat := if x.tStart == 0 then 2 ^ 64 else x.tStart
  if a.cls != b.cls then b.cls < a.cls
  else if start a != start b then start a < start b
  else a.ctx < b.ctx

/-- Inserts into protection order. -/
def insertCand (x : Cand) : List Cand → List Cand
  | [] => [x]
  | y :: l => if x.before y then x :: y :: l else y :: insertCand x l

/-- A limit of one kind, none where its value says no limit (R199). -/
def limitOf (v all : Nat) : Option Nat := if v == all then none else some v

/-- What may still be granted of one kind: the limit less what others use. -/
def left (limit : Option Nat) (used per : Nat) : Option Nat := limit.map fun v => (v - used) / max 1 per

/-- The largest grant in mA that fits every limit beside what the others use (R202); `use` says what each of the others holds. -/
def room (l : Limits) (others : List Cand) (use : Cand → Nat) (x : Cand) : Option Nat :=
  let onPhase (sel : Cand → Bool) (k : Nat) : Nat := ((others.filter fun o => sel o && o.phases.getD k false).map use).sum
  let phases := (List.range 3).filter fun k => x.phases.getD k false
  let parts := phases.map (fun k => left (limitOf (l.phase.getD k 0xFFFFFFFF) 0xFFFFFFFF) (onPhase (fun _ => true) k) 1) ++
    phases.map (fun k => left (limitOf (l.feed.getD x.feeder 0xFFFFFFFF) 0xFFFFFFFF) (onPhase (fun o => o.feeder == x.feeder) k) 1) ++
    [left ((limitOf l.siteP (2 ^ 64 - 1)).map (7000 * ·)) ((others.map fun o => use o * o.rate).sum) x.rate]
  parts.foldl (fun a v => match a, v with
    | some p, some q => some (min p q)
    | none, q => q
    | p, none => p) none

/-- The lesser of a wish and the room. -/
def fit (wish : Nat) (r : Option Nat) : Nat := match r with | some v => min wish v | none => wish

/-- Stage 1 (R202): guarantees in protection order. -/
def stage1 (l : Limits) (done : List Cand) : List Cand → List Cand
  | [] => done
  | x :: rest =>
    let wish := min x.guar x.demand
    let v := fit wish (room l done Cand.ma x)
    let part := v / 100 * 100
    let g := if v == wish then wish else if !x.dc && part < 6000 then 0 else part
    stage1 l (done ++ [{ x with ma := g, broken := g < wish }]) rest

/-- The contexts of a class that one more step can raise. -/
def raisable (l : Limits) (all : List Cand) (cls : Nat) : List Cand :=
  all.filter fun x => x.cls == cls && x.ma < x.demand &&
    (let step := min 100 (x.demand - x.ma)
     fit (x.ma + step) (room l (all.filter (·.ctx != x.ctx)) Cand.ma x) == x.ma + step)

/-- Stage 2 for one class (R202): the lowest grant is raised first, in steps of 100 mA. -/
def shareClass (l : Limits) (cls : Nat) : Nat → List Cand → List Cand
  | 0, all => all
  | n + 1, all =>
    match (raisable l all cls).foldl (fun best x => match best with
      | none => some x
      | some a => if x.ma < a.ma then some x else some a) (none : Option Cand) with
    | none => all
    | some x => shareClass l cls n (all.map fun y => if y.ctx == x.ctx then { y with ma := y.ma + min 100 (y.demand - y.ma) } else y)

/-- Both stages; a context below 6 000 mA on an AC bay gets 0. -/
def grants (l : Limits) (cands : List Cand) : List Cand :=
  let s1 := stage1 l [] (cands.foldl (fun a x => insertCand x a) [])
  let fuel := (cands.map fun x => x.demand / 100 + 1).sum
  let s2 := ((List.range 8).reverse).foldl (fun a cls => shareClass l cls fuel a) s1
  s2.map fun x => if !x.dc && x.ma < 6000 then { x with ma := 0 } else x

/-- What a context holds of the limits while others are raised: its grant, or the current it still draws after its cuts (R204). -/
def Cand.held (s : State) (x : Cand) : Nat :=
  let draw := drawMa s x.bay
  if withinBand draw x.ma then x.ma
  else max (max x.ma x.hold) (if x.ma < x.prev && x.ma < draw then min x.prev draw else 0)

/-- R204: raises wait for what cut contexts still draw. They are taken in protection order, `done` before `x`: each is cut back to
what fits beside the raises made and the previous grants of those to come, and never below its own previous grant. -/
def holdRaises (s : State) (l : Limits) (done : List Cand) : List Cand → List Cand
  | [] => done
  | x :: rest =>
    let waiting := rest.map fun y => { y with ma := min y.ma y.prev }
    let g :=
      if x.ma ≤ x.prev then x.ma
      else
        let v := fit x.ma (room l (done ++ waiting) (Cand.held s) x)
        let g := if v == x.ma then x.ma else min x.ma (max x.prev (v / 100 * 100))
        if !x.dc && g < 6000 then 0 else g
    holdRaises s l (done ++ [{ x with ma := g }]) rest

/-- The allocator's result at present (R200 to R204), by context number. -/
def allocate (s : State) : List Grant :=
  let l := limitsInForce s
  let cands := ((List.range 256).filter (counted s)).map (candidate s)
  let all := holdRaises s l [] (grants l cands)
  (cands.filterMap fun y => all.find? (·.ctx == y.ctx)).map fun x =>
    { ctx := x.ctx, bay := x.bay, ma := x.ma, broken := x.broken, reserved := x.ma < Cand.held s x }

/-- Single-phase bays whose phase is not identified report it once per binding (R201, R291). -/
def notePhases (s : State) : State :=
  (List.range 32).foldl (fun a b =>
    let y := a.bay b
    if a.kind b == 1 && (singlePhase a b).isNone && !y.noted.contains 6 && (match y.ctx with | some c => counted a c | none => false) then
      ntfBay b 2 [byte 6] (a.modBay b fun z => { z with noted := 6 :: z.noted })
    else a) s

/-- ALLOCATOR_RECOMPUTE (R200): at the first boundary after a whole second of module time or a change, of a limit by time as well. -/
def execAllocatorRecompute (s : State) : Out :=
  let second := s.time.now / 1000000
  .next (if !controlRuns s || !(s.budget.dirty || second != s.budget.lastSecond || s.budget.used != some (limitsInForce s)) then s
    else
      let s1 := notePhases s
      { s1 with budget := { s1.budget with
        next := some (allocate s1), nextCycle := s1.clk.cycle.toNat, dirty := false, lastSecond := second,
        used := some (limitsInForce s1) } })

/-! ### A result takes effect -/

/-- The duty for an offered current (R138), in 0.1 %. -/
def dutyFor (ma : Nat) : CpoDrive × Nat :=
  if ma < 6000 then (.steady, 0) else if ma ≤ 51000 then (.pwm, ma / 60) else (.pwm, ma / 250 + 640)

/-- The drive of a bay that offers `ma` (R138): 5 % on a DC bay and, unless HLC_DUTY is set, in an AC high-level session. -/
def driveFor (s : State) (b ma : Nat) : CpoDrive × Nat :=
  let y := s.bay b
  let suspended : Bool := match y.ctx with | some c => (s.ctx c).hd.state == .suspendedEvse | none => true
  if s.isDc b then (if suspended then (.steady, 0) else (.pwm, 50))
  else if y.link.link == 3 && s.bayField b 3 1 == 0 && 6000 ≤ ma then (.pwm, 50)
  else dutyFor ma

/-- Drives the offer of a bay from this boundary on, unless state F is driven (R135, R225, R466); an ISO 15118 session's messages
carry the same current (R138). -/
def offer (b ma : Nat) (s : State) : State :=
  let p := (s.bay b).pilot
  if p.drive == .stateF || p.next == some (.stateF, 0) then s
  else
    let (d, duty) := driveFor s b ma
    let i := if ma < 6000 && !s.isDc b then 0 else ma
    s.modBay b fun y => { y with
      pilot := { y.pilot with drive := d, duty := duty, next := none, offered := i }
      link := { y.link with told := if y.link.link == 3 then some i else y.link.told }
      safety := if s.isDc b || i == p.offered then y.safety else { y.safety with offers := (s.time.osc, i) :: y.safety.offers } }

/-- The setpoint of a transfer under a grant, but for an open that has commanded current 0 (R155): the voltage limit, the requested current within capability and power. -/
def setTransfer (b : Nat) (s : State) : State :=
  let v := (s.bay b).conv
  if !(v.setMode == 3 || v.setMode == 4) || (s.bay b).coil.dcOpenAt.isSome then s
  else match (s.bay b).ctx with
    | none => s
    | some c =>
      let mw := grantMw s b (s.ctx c) (s.ctx c).hd.iGrant
      let top := min v.capMa (1000 * mw / max 1 v.setMv)
      let ma : Int := if v.wantMa < 0 then -((min v.wantMa.natAbs top : Nat) : Int) else ((min v.wantMa.toNat top : Nat) : Int)
      if mw == v.setMw && ma == v.setMa then s
      else sendSetpoint b (s.modConv b fun w => { w with setMw := mw, setMa := ma })

/-- A grant below the minimum suspends the context (R203): the open follows at the vehicle's C to B or after 6 s. -/
def suspendForGrant (c b ma : Nat) (s : State) : State :=
  let x := s.ctx c
  if minGrant s b ≤ ma || !(x.hd.state == .bound || x.hd.state == .energising || x.hd.state == .charging || x.hd.state == .suspendedEv)
  then s
  else
    let s1 := moveCtx c .suspendedEvse 4 (le 4 ma) errState s
    let y := s1.bay b
    if y.coil.on then s1.modBay b fun z => { z with coil := { z.coil with suspendAt := some (s.after 6000000) } }
    else if y.state == .closing then setBay b .ready 0 (dropBayEntries b s1) else s1

/-- One grant takes effect (R200, R203 to R205). -/
def applyGrant (g : Grant) (s : State) : State :=
  let c := g.ctx
  if !counted s c || (s.ctx c).hd.bay != some g.bay then s
  else
    let x := s.ctx c
    let b := g.bay
    let old := x.hd.iGrant
    let draw := drawMa s b
    let cut := g.ma < old && g.ma < draw
    let s1 := (s.modHd c fun h => { h with iGrant := g.ma }).modWk c fun w => { w with broken := g.broken }
    let s2 := if cut then s1.modWk c fun w => { w with cuts := (s.after 6000000, min old draw) :: w.cuts } else s1
    let s3 :=
      if g.broken && (!x.wk.broken || g.ma != old) then
        ntfCtx c 5 (le 4 x.hd.iGuar ++ le 4 g.ma)
          (limitChange c 2 x.hd.iGuar g.ma (s2.modHd c fun h => { h with flags := h.flags ||| 0x40 }))
      else if cut then limitChange c 1 old g.ma (s2.modHd c fun h => { h with flags := h.flags ||| 0x20 })
      else s2
    setTransfer b (suspendForGrant c b g.ma s3)

/-- What a bay offers: the grant of its counted context. -/
def offeredTo (s : State) (b : Nat) : Nat :=
  match (s.bay b).ctx with | some c => if counted s c then (s.ctx c).hd.iGrant else 0 | none => 0

/-- ALLOCATION_TAKES_EFFECT (R200): at the boundary that follows the recomputation. A context no longer counted holds no
grant. -/
def execAllocationTakesEffect (s : State) : Out :=
  match s.budget.next with
  | none => .next s
  | some gs =>
    if s.budget.nextCycle == s.clk.cycle.toNat || !controlRuns s then .next s
    else
      let s0 : State := { s with budget := { s.budget with next := none, last := gs, lastCycle := s.clk.cycle.toNat } }
      let s1 := (List.range 256).foldl (fun a c =>
        if (a.ctx c).hd.iGrant != 0 && !counted a c then a.modHd c fun h => { h with iGrant := 0 } else a) s0
      let s2 := gs.foldl (fun a g => applyGrant g a) s1
      let s3 := (List.range 32).foldl (fun a b => offer b (offeredTo a b) a) s2
      .next ((List.range 32).foldl (fun a b => evaluateBay b a) s3)

/-- CUT_RESERVATION_END (R204): after 6 s, or once the draw lies within SLC's band of the new grant. -/
def execCutReservationEnd (ctx : Nat) (s : State) : Out :=
  atCtx ctx s fun s =>
    let x := s.ctx ctx
    let near : Bool := match x.hd.bay with | some b => withinBand (drawMa s b) x.hd.iGrant | none => true
    let rest := if near then [] else x.wk.cuts.filter fun k => !s.due k.1
    if rest == x.wk.cuts then s else markDirty (s.modWk ctx fun w => { w with cuts := rest })

end Sys2Proof.Machine
end

