-- ==== Sys2Proof/Machine/Calendar.lean ====
section
/-! DEFINITION. Tariff calendars (R84 to R88): civil dates, the calendar image and its checks, local time with daylight saving,
and the tariff index of an instant. -/

namespace Sys2Proof.Machine

open Sys2Proof

/-! ### Civil dates, counted from 2000-01-01 (R7), a Saturday -/

/-- A date: year, month 1 to 12, day 1 to 31. -/
structure Date where
  year  : Int
  month : Nat
  day   : Nat
  deriving DecidableEq, Repr

/-- Leap year. -/
def leapYear (y : Int) : Bool := y % 4 == 0 && (y % 100 != 0 || y % 400 == 0)

/-- Days of a month. -/
def monthDays (y : Int) (m : Nat) : Nat :=
  if m == 2 then (if leapYear y then 29 else 28) else if m == 4 || m == 6 || m == 9 || m == 11 then 30 else 31

/-- Days before year `y` of a 400-year cycle that begins with a leap year. -/
def daysBeforeYear (y : Nat) : Nat := 365 * y + (y + 3) / 4 - (y + 99) / 100 + (y + 399) / 400

/-- Days before a month of a year. -/
def daysBeforeMonth (y : Int) (m : Nat) : Nat := ((List.range (m - 1)).map fun k => monthDays y (k + 1)).sum

/-- The day number of a date. -/
def dayNumber (d : Date) : Int :=
  let k := d.year - 2000
  k / 400 * 146097 + daysBeforeYear (k % 400).toNat + daysBeforeMonth d.year d.month + (d.day - 1 : Nat)

/-- The date of a day number. -/
def dateOf (n : Int) : Date :=
  let r := (n % 146097).toNat
  let y0 := r * 400 / 146097
  let y := ([y0 + 1, y0, y0 - 1].find? fun y => daysBeforeYear y ≤ r).getD 0
  let year : Int := 2000 + 400 * (n / 146097) + y
  let k := r - daysBeforeYear y
  let m := (((List.range 12).map (· + 1)).reverse.find? fun m => daysBeforeMonth year m ≤ k).getD 1
  { year := year, month := m, day := k - daysBeforeMonth year m + 1 }

/-- The weekday of a day number, 0 Monday to 6 Sunday. -/
def weekday (n : Int) : Nat := ((n + 5) % 7).toNat

/-! ### The image -/

/-- Microseconds of a minute and of a day. -/
def usMin : Int := 60000000

@[inherit_doc usMin]
def usDay : Int := 86400000000

/-- STD_OFFSET in minutes. -/
def stdOffset (c : Bytes) : Int := signed 16 (fld c 12 2)

/-- DST_OFFSET in minutes. -/
def dstOffset (c : Bytes) : Nat := fld c 14 1

/-- Season, week, day and special-day entries at their offsets (R86). -/
def seasonAt (c : Bytes) (k : Nat) : Nat := fld c (0x40 + 4 * k) 4

@[inherit_doc seasonAt]
def weekAt (c : Bytes) (k : Nat) : Bytes := slice c (0x70 + 8 * k) 8

@[inherit_doc seasonAt]
def dayAt (c : Bytes) (k : Nat) : Bytes := slice c (0xF0 + 100 * k) 100

@[inherit_doc seasonAt]
def specialAt (c : Bytes) (k : Nat) : Nat := fld c (0xD70 + 4 * k) 4

/-- N_SEASONS, N_WEEKS, N_DAYS and N_SPECIAL. -/
def nSeasons (c : Bytes) : Nat := fld c 24 1

@[inherit_doc nSeasons]
def nWeeks (c : Bytes) : Nat := fld c 25 1

@[inherit_doc nSeasons]
def nDays (c : Bytes) : Nat := fld c 26 1

@[inherit_doc nSeasons]
def nSpecial (c : Bytes) : Nat := fld c 28 2

/-- ACTIVATE and CAL_ID. -/
def activateAt (c : Bytes) : Nat := fld c 4 8

@[inherit_doc activateAt]
def calId (c : Bytes) : Nat := fld c 0 4

/-- A daylight-saving rule, 4 bytes: month, week, weekday, minute of the day. -/
def dstRuleOk (r : Nat) : Bool :=
  1 ≤ bits r 0 8 && bits r 0 8 ≤ 12 && 1 ≤ bits r 8 4 && bits r 8 4 ≤ 5 && bits r 12 3 ≤ 6 && bits r 15 1 == 0 && bits r 16 16 ≤ 1439

/-- Whether numbers rise strictly. -/
def rising : List Nat → Bool
  | a :: b :: l => a < b && rising (b :: l)
  | _ => true

/-- Start of a season as month and day in one number. -/
def seasonStart (e : Nat) : Nat := 100 * bits e 0 8 + bits e 8 8

/-- A day profile: switching times from minute 0 rising, tariffs 1 to 16, nothing behind the count. -/
def dayProfileOk (d : Bytes) : Bool :=
  let n := fld d 0 1
  let sw := (List.range n).map fun k => fld d (4 + 4 * k) 4
  1 ≤ n && n ≤ 24 && fld d 1 3 == 0 &&
    sw.all (fun e => bits e 0 16 ≤ 1439 && 1 ≤ bits e 16 5 && bits e 16 5 ≤ 16 && bits e 21 11 == 0) &&
    rising (sw.map fun e => bits e 0 16) && (sw.head?.map fun e => bits e 0 16) == some 0 &&
    zeroAt d (4 + 4 * n) (4 * (24 - n))

/-- The first row of R85: every field in range, tables in order, nothing behind a count. -/
def calendarOk (c : Bytes) : Bool :=
  let ns := nSeasons c
  let nw := nWeeks c
  let nd := nDays c
  let nx := nSpecial c
  let seasons := (List.range ns).map (seasonAt c)
  (-720 : Int) ≤ stdOffset c && stdOffset c ≤ 840 && dstOffset c ≤ 120 && zeroAt c 15 1 && zeroAt c 27 1 && zeroAt c 30 34 && !testBit (fld c 16 4) 15 &&
    (dstOffset c == 0 || (dstRuleOk (fld c 16 4) && dstRuleOk (fld c 20 4))) &&
    1 ≤ ns && ns ≤ 12 && 1 ≤ nw && nw ≤ 16 && 1 ≤ nd && nd ≤ 32 && nx ≤ 128 &&
    seasons.all (fun e => 1 ≤ bits e 0 8 && bits e 0 8 ≤ 12 && 1 ≤ bits e 8 8 && bits e 8 8 ≤ 31 && bits e 16 4 < nw && bits e 20 12 == 0) &&
    rising (seasons.map seasonStart) && zeroAt c (0x40 + 4 * ns) (4 * (12 - ns)) &&
    ((List.range nw).all fun k => ((weekAt c k).take 7).all (fun d => d.toNat < nd) && zeroAt (weekAt c k) 7 1) &&
    zeroAt c (0x70 + 8 * nw) (8 * (16 - nw)) &&
    ((List.range nd).all fun k => dayProfileOk (dayAt c k)) && zeroAt c (0xF0 + 100 * nd) (100 * (32 - nd)) &&
    (((List.range nx).map (specialAt c)).all fun e =>
      1 ≤ bits e 8 4 && bits e 8 4 ≤ 12 && 1 ≤ bits e 12 5 && bits e 17 5 < nd && bits e 22 10 == 0) &&
    zeroAt c (0xD70 + 4 * nx) (4 * (128 - nx))

/-! ### Local time and tariff -/

/-- The instant of a daylight-saving rule in a year, in µs of local standard time (R87): week 5 is the last such weekday. -/
def dstInstant (year : Int) (r : Nat) : Int :=
  let m := bits r 0 8
  let week := bits r 8 4
  let first := dayNumber { year := year, month := m, day := 1 }
  let gap := (bits r 12 3 + 7 - weekday first) % 7
  let last := gap + 28 < monthDays year m
  let day := gap + 7 * (if week == 5 then (if last then 4 else 3) else week - 1)
  (first + day) * usDay + bits r 16 16 * usMin

/-- Local standard time of an instant in µs (R79, R87). -/
def stdTime (c : Bytes) (t : Nat) : Int := (t : Int) + stdOffset c * usMin

/-- Daylight saving is in effect (R87). -/
def dstOn (c : Bytes) (t : Nat) : Bool :=
  let std := stdTime c t
  let year := (dateOf (std / usDay)).year
  let a := dstInstant year (fld c 16 4)
  let b := dstInstant year (fld c 20 4)
  dstOffset c != 0 && (if a < b then a ≤ std && std < b else if b < a then std < b || a ≤ std else false)

/-- Local time of an instant in µs (R87). -/
def localTime (c : Bytes) (t : Nat) : Int := stdTime c t + if dstOn c t then (dstOffset c : Int) * usMin else 0

/-- The day profile of a date (R88). -/
def dayProfile (c : Bytes) (n : Int) : Bytes :=
  let d := dateOf n
  let hit (year : Nat) (e : Nat) : Bool := bits e 0 8 == year && bits e 8 4 == d.month && bits e 12 5 == d.day
  let specials := (List.range (nSpecial c)).map (specialAt c)
  let named := if 2001 ≤ d.year && d.year ≤ 2255 then specials.find? (hit (d.year - 2000).toNat) else none
  match named.orElse fun _ => specials.find? (hit 0) with
  | some e => dayAt c (bits e 17 5)
  | none =>
    let seasons := (List.range (nSeasons c)).map (seasonAt c)
    let s := ((seasons.filter fun e => seasonStart e ≤ 100 * d.month + d.day).getLast?.orElse fun _ => seasons.getLast?).getD 0
    dayAt c ((weekAt c (bits s 16 4)).getD (weekday n) 0).toNat

/-- The tariff index of an instant under a calendar (R88). -/
def tariffAt (c : Bytes) (t : Nat) : Nat :=
  let l := localTime c t
  let minute := (l % usDay / usMin).toNat
  let d := dayProfile c (l / usDay)
  let sw := (List.range (fld d 0 1)).map fun k => fld d (4 + 4 * k) 4
  (((sw.filter fun e => bits e 0 16 ≤ minute).getLast?).map fun e => bits e 16 5).getD 1

/-- The tariff index in force at an instant: T1 while no calendar has ever been ACTIVE (R84). -/
def tariffNow (s : State) (t : Nat) : Nat := match s.cals.active with | some c => tariffAt c t | none => 1

/-- STD_OFFSET of the ACTIVE calendar, 0 without one (R79). -/
def activeOffset (s : State) : Int := match s.cals.active with | some c => stdOffset c | none => 0

end Sys2Proof.Machine
end

