-- ==== Sys2Proof/Machine/Checkpoint.lean ====
section
/-! DEFINITION. The metering checkpoint (R257): what a copy holds, its CRC-32C, and its validity. The layout under the CRC, and that of
the legal store copy of R101, which shares parts with it, is a DESIGN CHOICE (log entry 160). -/

namespace Sys2Proof.Machine

open Sys2Proof

/-- Register sets as bytes. -/
def regBytes (l : List RegSet) : Bytes :=
  l.flatMap fun r => r.acc.flatMap (le 12) ++ r.md.flatMap fun m => le 8 m.value ++ le 8 m.endTime ++ le 4 m.interval

/-- Pulse residues and backlogs as bytes. -/
def pulseBytes (l : List (Nat × Nat)) : Bytes := l.flatMap fun p => le 12 p.1 ++ le 2 p.2

/-- An open interval as bytes, without the profile ring. -/
def intervalBytes (iv : Intervals) : Bytes :=
  le 4 iv.index ++ le 8 iv.start ++ le 4 iv.flags ++ le 4 iv.cycles ++
    iv.sets.flatMap fun g => g.base.flatMap (le 8) ++ g.subBase.flatMap (le 8) ++ le 4 (g.iMax.getD 0xFFFFFFFF) ++
      le 4 (g.uMin.getD 0xFFFFFFFF) ++ le 4 g.status

/-- Residues, with what the outputs have still to spread of the last cycle, and backlogs (R67). -/
def pulseState (s : State) : List (Nat × Nat) := s.met.pulses.map fun p => (p.residue + unspread p, p.backlog)

/-- The bytes under the CRC-32C of a checkpoint copy (R257). -/
def checkBytes (c : MeterCheckpoint) : Bytes :=
  le 4 c.cycle ++ le 8 c.start ++ regBytes c.regs ++
    (c.sessions.flatMap fun x => le 12 x.1 ++ le 12 x.2.1 ++ x.2.2.flatMap fun p => le 12 p.1 ++ le 12 p.2) ++ intervalBytes c.intervals ++
    (c.run.flatMap fun x => le 2 (bitsOf (x.1 ++ x.2.1 ++ x.2.2))) ++ pulseBytes c.pulses ++ (c.timers.flatMap fun l => l.flatMap (le 4)) ++
    (c.harm.sums.flatMap fun l => l.flatMap (le 16)) ++ (c.tests.flatMap fun x => x.2.flatMap (le 12)) ++
    c.setup.flatMap fun x => x.1 ++ x.2

/-- What the active pair writes to each checkpoint bank (R257). -/
def meterCheckpoint (s : State) : MeterCheckpoint :=
  let session (y : Bay) : Nat × Nat × List (Nat × Nat) :=
    match y.ctx with
    | some c => ((s.ctx c).hd.sesImp, (s.ctx c).hd.sesExp, (s.ctx c).wk.tariffs)
    | none => (0, 0, [])
  let c : MeterCheckpoint :=
    { cycle := s.clk.cycle.toNat, start := s.clk.cycleStart, regs := s.met.regs, sessions := s.bays.map session
      intervals := { s.intervals with ring := [] }
      run := s.bays.map fun y => (y.meter.runActive, y.meter.runReactive, y.meter.runApparent)
      pulses := pulseState s, timers := s.bays.map fun y => y.safety.timers, harm := s.met.harm
      tests := s.bays.map fun y => (y.meter.inject, y.meter.testRegs)
      setup := (List.range 32).map fun b => (s.param (0x0420 + b), s.param (0x0440 + b)) }
  { c with crc := crc32c (checkBytes c) }

/-- A copy's CRC is correct (R257). -/
def checkGood (c : MeterCheckpoint) : Bool := c.crc == crc32c (checkBytes c)

/-- The cycle of the checkpoint that a brake van takes (R257, R259): the newest, where both copies carry its count; otherwise the
previous one, which one copy still holds. -/
def checkCycle (s : State) : Nat :=
  let a := s.cont.checkA
  let b := s.cont.checkB
  if checkGood a && checkGood b then min a.cycle b.cycle else if checkGood a then a.cycle else b.cycle

/-- The checkpoint is written to both banks, and a pair that re-couples follows it (R257, R272). -/
def writeCheckpoint (s : State) : State :=
  let c := meterCheckpoint s
  { s with cont := { s.cont with
      checkA := c, checkB := c, meFollowed := if s.cont.meVan == .recoupling then s.cont.meFollowed + 1 else 0 } }

end Sys2Proof.Machine
end

