-- ==== Sys2Proof/Machine/SafetyFrames.lean ====
section
/-! DEFINITION. Site safety frames (R237 to R241): the peers in use, the frame the module sends to each at angles 0 and 2 048,
and ALIVE, which toggles at the same angles (R446). -/

namespace Sys2Proof.Machine

open Sys2Proof

/-- NET_EN and N_PEERS of SITE_SAFETY_NET (R237). -/
def netEnabled (s : State) : Bool := s.field 0x0302 0 1 == 1

@[inherit_doc netEnabled]
def peersInUse (s : State) : Nat := s.field 0x0302 8 8

/-- SERIAL, CONN_ID and FEEDERS of peer `k`. -/
def peerSerial (s : State) (k : Nat) : Nat := s.field 0x0302 (128 + 128 * k) 64

@[inherit_doc peerSerial]
def peerConn (s : State) (k : Nat) : Nat := s.field 0x0302 (192 + 128 * k) 32

@[inherit_doc peerSerial]
def peerFeeders (s : State) (k : Nat) : Nat := s.field 0x0302 (224 + 128 * k) 4

/-- The slot of the site safety key (R237). -/
def safetySlot (s : State) : Nat := s.field 0x0302 32 16

/-- The site safety key, where the SITE_SAFETY engine or the site link may use it to sign (2) or to verify (3) (R341). -/
def safetyKey (s : State) (usage : Nat) : Option Bytes :=
  if safetySlot s != 0xFFFF && functionKeyUsable s (safetySlot s) [1, 2] usage .siteLink 3 then some (s.key (safetySlot s)).material
  else none

/-- A refused use of the site safety key is recorded (R341). -/
def askSafetyKey (usage : Nat) (s : State) : State :=
  askKey (safetySlot s) [1, 2] usage (presented s (safetySlot s) .siteLink 3) s

/-- The lost neighbours that a frame to peer `k` may name (R239, R241): every other peer in use that is lost. -/
def lostNeighbours (s : State) (k : Nat) : List Nat :=
  (List.range (peersInUse s)).filter fun j => j != k && (s.peer j).lost

/-- The 60-byte payload of a safety frame to peer `k` with its sequence number (R238). An emergency stop of the module stops
every bay, so the site emergency stop names every feeder group. DESIGN CHOICE (log entry 163): its fields of several bytes are
little-endian, as elsewhere; R4 leaves Ethernet frames out, and R238 names no order. -/
def safetyFrame (s : State) (key : Bytes) (k seq : Nat) : Bytes :=
  let f := s.safety
  let stop := s.field 0x0301 1 1 == 1 && (f.estop || f.estopLatch)
  let above := (List.range 4).map fun g => (f.feederBit.getD g none).isSome
  let lost := lostNeighbours s k
  let named := lost[f.lostTurn % max 1 lost.length]?
  let flags := pack [(0, bit stop), (1, bit (above.any id)), (2, bit named.isSome), (3, bit (!f.sc1Ok || !f.sc2Ok))]
  let front := le 8 serialNum ++ le 4 (peerConn s k) ++ le 4 seq ++ le 4 s.clk.cycle.toNat ++ le 1 flags ++
    le 1 (if stop then 0xF else 0) ++ le 2 (bitsOf above) ++
    le 8 (match named with | some j => peerSerial s j | none => 0) ++ le 16 0
  let body := front ++ (hmac key front).take 8
  body ++ le 4 (crc32c body)

/-- One frame to every peer in use, the same bytes on SITE_A and SITE_B (R239). -/
def sendSafetyFrames (s : State) : State :=
  match safetyKey s 2 with
  | none => if netEnabled s then askSafetyKey 2 s else s
  | some key =>
    if !netEnabled s then s
    else
      let s1 := (List.range (peersInUse s)).foldl (fun a k =>
        let seq := ((s.peer k).txSeq + 1) % 2 ^ 32
        a.modPeer k fun p => { p with txSeq := seq, txFrame := safetyFrame s key k seq }) s
      let n := 60 * peersInUse s
      count 0x11 3 n (count 0x11 2 n { s1 with safety := { s1.safety with lostTurn := s.safety.lostTurn + 1 } })

/-- The module drives FAULT_N high: in ACTIVE, QUIET or STANDBY while no fault of R244, R275 or R358 holds (R446). -/
def faultNHigh (s : State) : Bool :=
  !s.safety.faultN && (s.power.state == .active || s.power.state == .quiet || s.power.state == .standby) && s.power.starting.isNone

/-- ALIVE toggles while FAULT_N is high (R446). -/
def toggleAlive (s : State) : State :=
  if faultNHigh s then { s with power := { s.power with alive := !s.power.alive } } else s

/-- What falls due at angles 0 and 2 048 (R30): safety frames while the module drives its outputs, and ALIVE. -/
def halfCycle (s : State) : State := toggleAlive (if outputsDriven s then sendSafetyFrames s else s)

/-- HALF_CYCLE_TICK (R30): at angle 2 048 of the reckoned cycle, once in each. In STANDBY, where no cycle is committed, it stands
for both angles (R436). -/
def execHalfCycleTick (s : State) : Out :=
  .next (
    if s.power.state == .standby then halfCycle s
    else if 2048 ≤ s.clk.angle && !s.clk.halfDone then halfCycle { s with clk := { s.clk with halfDone := true } }
    else s)

end Sys2Proof.Machine
end

