-- ==== Sys2Proof/Machine/Cycle.lean ====
section
/-! DEFINITION. The metering cycle: sample strobes and pulse outputs (R45, R67, R68), the commit of a cycle (R51 to R59, R71 to
R76, R105, R216, R225 to R227, R242), and the cycle boundary (R23, R29 to R31, R74, R120, R187, R257). -/

namespace Sys2Proof.Machine

open Sys2Proof

/-- The phase clock runs in the metrology domain: in ACTIVE or QUIET outside the power-fail flush, and through a W (R27, R443). -/
def clockRuns (s : State) : Bool :=
  (s.power.state == .active || s.power.state == .quiet) && !s.power.flushing &&
    (s.power.starting == none || s.power.starting == some .w)

/-- The metering engines run: while the clock runs and a metering pair is left (R275). -/
def metersRun (s : State) : Bool := clockRuns s && !s.cont.meLost

/-- The next boundary is due (R24, R25): at 4 096 reckoned au; in LOCKED at the crossing the PLL follows, at most the 64 au of R23
away; in the transition cycle at the first crossing from 2 048 au on. -/
def boundaryDue (c : PhaseClock) : Bool :=
  match c.state with
  | .locked => 4096 - 64 ≤ c.angle
  | .acquire => if c.transition == some c.cycle then 2048 ≤ c.angle else c.angle == 4095
  | .holdover | .deadReckon => c.angle == 4095

/-! ### Pulse outputs -/

/-- The assignment of pulse output `k`, 4 for PULSE_LED (R64, R65). -/
def pulseObj (k : Nat) : Nat := if k == 4 then 0x0403 else 0x0030 + k

/-- SOURCE, REGISTER and CONSTANT of an output. -/
def pulseSource (s : State) (k : Nat) : Nat := s.field (pulseObj k) 0 8

@[inherit_doc pulseSource]
def pulseRegister (s : State) (k : Nat) : Nat := s.field (pulseObj k) 8 8

@[inherit_doc pulseSource]
def pulseConstant (s : State) (k : Nat) : Nat := s.field (pulseObj k) 32 32

/-- Changes a pulse output. -/
def State.modPulse (s : State) (k : Nat) (f : PulseOut → PulseOut) : State :=
  { s with met := { s.met with pulses := s.met.pulses.modify k f } }

/-- One strobe's energy enters the residue and may add a pulse to the backlog (R67). -/
def addStrobe (const : Nat) (p : PulseOut) : PulseOut :=
  let part := p.share / 128
  let e := if p.strobes == 127 then p.share - 127 * part else if p.strobes < 127 then part else 0
  let residue := p.residue + e
  let unit := quotN (1000000 * 2 ^ 32) (max 1 const)
  let p : PulseOut := { p with strobes := min 128 (p.strobes + 1) }
  if unit ≤ residue && p.backlog < 65535 then { p with residue := residue - unit, backlog := p.backlog + 1 }
  else { p with residue := residue }

/-- A pulse starts at a strobe with backlog, on an output that is low and at least 2 ms after the last start (R67, R68). -/
def startPulse (now : Nat) (p : PulseOut) : PulseOut :=
  let gap := match p.lastAt with | some t => now - t | none => 4000
  if p.backlog == 0 || p.high || gap < 2000 then p
  else { p with backlog := p.backlog - 1, high := true, lastAt := some now, endAt := now + if 4000 ≤ gap then 2000 else gap / 2 }

/-- One strobe on one output; a backlog that reaches 65 535 is reported (R67). -/
def strobePulse (k : Nat) (s : State) : State :=
  if pulseSource s k == 0xFF then s
  else
    let p := s.met.pulses.getD k {}
    let p1 := addStrobe (pulseConstant s k) p
    let s1 := s.modPulse k fun _ => startPulse s.time.osc p1
    if p1.backlog == 65535 && p.backlog != 65535 then
      let src := pulseSource s k
      record 0x0203 0 1 (le 1 k) (ntfBay (if src < 32 then src else 0xFF) 9 [byte k, byte src] s1)
    else s1

/-- A strobe is due: one at every 32 au from angle 0 on (R30, R46); the transition cycle spreads its 128 over its own length (R25). -/
def strobeDue (s : State) : Bool :=
  s.met.strobes.length < 128 &&
    (32 * s.met.strobes.length ≤ s.clk.angle || (s.clk.state == .acquire && s.clk.transition == some s.clk.cycle))

/-- The values of a strobe enter the cycle (R43, R45, R46). -/
def latchStrobe (x : StrobeInput) (s : State) : State :=
  let xs := (List.range 260).map (latched s x)
  let seen := (List.range 260).map fun j => s.met.overSeen.getD j false || latchedOver s x (xs.getD j 0) j
  { s with met := { s.met with strobes := xs :: s.met.strobes, lastStrobe := s.time.osc, overSeen := seen } }

/-- SAMPLE_STROBE (R45): the values are latched; each pulse output takes its part of the last cycle's energy. -/
def execSampleStrobe (x : StrobeInput) (s : State) : Out :=
  .next (if !metersRun s || !strobeDue s then s
    else (List.range 5).foldl (fun a k => strobePulse k a) (latchStrobe x s))

/-- PULSE_END (R68). -/
def execPulseEnd (out : Nat) (s : State) : Out :=
  atUnit "pulse output" 5 out s fun s =>
    let p := s.met.pulses.getD out {}
    if p.high && s.due p.endAt then s.modPulse out fun p => { p with high := false } else s

/-! ### The quantities of a bay's cycle -/

/-- One stream's values over the strobes, the oldest first. -/
def column (strobes : List (List Int)) (j : Nat) : List Int := strobes.map fun x => x.getD j 0

/-- The calibrated samples of a stream with its record. -/
def samples (data : Bytes) (k : Nat) (col : List Int) : List Int :=
  let (o, g, sc) := calRecord data k
  col.map (calibrate o g sc)

/-- What one cycle gives for a bay: quantities, RUN flags, and energies in 2^-32 mWh by R71. -/
structure BayCycle where
  q    : CycleQ := {}
  runA : List Bool := [false, false, false]
  runR : List Bool := [false, false, false]
  runS : List Bool := [false, false, false]
  tot  : Int := 0
  ph   : List Int := [0, 0, 0]
  re   : Int := 0
  ap   : Nat := 0
  deriving DecidableEq, Repr

/-- p_start of a bay in 10^-9 mW (R58). -/
def pStartNano (s : State) (b : Nat) : Nat :=
  s.field (0x0420 + b) 0 32 * s.uRef b * s.field (0x0420 + b) 96 16

/-- The bay's streams come from the test injector in this cycle (R59, R61). -/
def fromInjector (m : BayMeter) : Bool := !m.inject.isEmpty

/-- No energy of the cycle reaches the legal registers: the bay is under test, or the cycle holds injected samples (R61). -/
def testCycleOf (m : BayMeter) : Bool := m.underTest || fromInjector m

/-- The RUN flags of a cycle are decided from its power (R58): the coil channel was on at some instant of it. DEDUCED (log entry
157): so are those of a cycle that the injector drives, whose bay is off. -/
def runDecided (y : Bay) : Bool := y.coil.onInCycle || fromInjector y.meter

/-- Cycle status without its OVERRANGE and RUN bits (R59). -/
def statusBase (s : State) (b : Nat) : Nat :=
  let m := (s.bay b).meter
  pack [(0, bitsOf m.faults), (16, bit (!s.clk.lockedCycle)), (17, bit (fromInjector m)), (21, bit s.met.takenOver), (23, bit m.calChanged)]

/-- The cycle of an AC bay over `n` samples and `t` µs (R51, R56, R58, R71). -/
def acCycle (s : State) (b n t : Nat) (tab : List (Int × Int)) (ref : Int × Int) (cols : Nat → List Int) : BayCycle :=
  let y := s.bay b
  let cal := s.param (0x0440 + b)
  let elements := if s.meterMode b == 0 then 3 else 1
  let ps := pStartNano s b
  let d := meanDen n
  let works := (List.range elements).map fun k =>
    phaseWork n tab ref (samples cal (3 + k) (cols (3 + k))) (samples cal k (cols k))
  let flags (f : Nat → PhaseWork → Bool) : List Bool :=
    (List.range 3).map fun k => match works[k]? with | some w => runDecided y && f k w | none => false
  let runA := flags fun k w => runFlag (y.meter.runActive.getD k false) w.pNum.natAbs d ps
  let runR := flags fun k w => runFlag (y.meter.runReactive.getD k false) w.qNum.natAbs w.qDen ps
  let runS := flags fun k w => runFlagRoot (y.meter.runApparent.getD k false) w.sNum d ps
  let pick (l : List Bool) (f : PhaseWork → Int) : List Int :=
    (List.range 3).map fun k => match works[k]? with | some w => if l.getD k false then f w else 0 | none => 0
  let ph := pick runA fun w => energyOf w.pNum d t
  let re := (pick runR fun w => energyOf w.qNum w.qDen t).foldl (· + ·) 0
  let ap := (pick runS fun w => (rootQ (w.sNum * (t * 2 ^ 32) ^ 2) ((d * 3600000000) ^ 2) : Int)).foldl (· + ·) 0
  let res := samples cal 7 (cols 7)
  let qs := works.map (·.q)
  let sTot := (qs.map PhaseQ.s).sum
  let pTot := (qs.map PhaseQ.p).foldl (· + ·) 0
  { q :=
      { phases := (List.range 3).map fun k => qs.getD k {}
        uo := rms n (samples cal 6 (cols 6)), pTot := pTot, qfTot := (qs.map PhaseQ.qf).foldl (· + ·) 0
        qtTot := (qs.map PhaseQ.qt).foldl (· + ·) 0, sTot := sTot, pfTot := if sTot == 0 then 0 else max (-10000) (min 10000 (quot (10000 * pTot) sTot))
        iresDc := mean n res, iresAc := ripple n res }
    runA := runA, runR := runR, runS := runS, tot := ph.foldl (· + ·) 0, ph := ph, re := re, ap := ap.toNat }

/-- The cycle of a DC bay (R57): active power at the vehicle connector; the RUN flag tests p_raw (R58). -/
def dcCycle (s : State) (b n t : Nat) (cols : Nat → List Int) : BayCycle :=
  let y := s.bay b
  let cal := s.param (0x0440 + b)
  let i := samples cal 0 (cols 0)
  let u := samples cal 3 (cols 3)
  let uo := samples cal 6 (cols 6)
  let d := meanDen n
  let raw := dot u i
  let num := raw * 1000000 - dot i i * s.field (0x0420 + b) 128 32
  let p := quot num (d * 1000000)
  let run := runDecided y && runFlag (y.meter.runActive.getD 0 false) raw.natAbs d (pStartNano s b)
  let ph : PhaseQ := { uRms := ripple n u, iRms := ripple n i, p := p }
  { q :=
      { phases := [ph, {}, {}], uo := ripple n uo, pTot := p, uDc := mean n u, iDc := mean n i, uoDc := mean n uo, pDc := p }
    runA := [run, false, false], tot := if run then energyOf num (d * 1000000) t else 0 }

/-- The cycle of a bay with its status word (R59). DESIGN CHOICE (log entry 158): PF_UNDEF follows S_TOT as reported, as R59 has it;
R51 speaks of the s_app of a phase. -/
def bayCycle (s : State) (b n t : Nat) (tab : List (Int × Int)) (ref : Int × Int) (strobes : List (List Int)) : BayCycle :=
  let mode := s.meterMode b
  let cols (k : Nat) : List Int := column strobes (8 * b + k)
  let w := if mode == 2 then dcCycle s b n t cols else acCycle s b n t tab ref cols
  let above := (List.range 8).map fun k => (usedStreams mode).contains k && s.met.overSeen.getD (8 * b + k) false
  let status := statusBase s b + pack [(8, bitsOf above), (18, bitsOf w.runA), (22, bit (w.q.sTot == 0))]
  { w with q := { w.q with cycle := s.clk.cycle.toNat, status := status, freq := s.clk.freq } }

/-! ### Registers -/

/-- The advance of every accumulator of a set (R71), in the order of RegSet. -/
def advances (w : BayCycle) (tariff : Nat) : List Nat :=
  let pos (x : Int) : Nat := x.toNat
  let neg (x : Int) : Nat := (-x).toNat
  let quadrant := if 0 ≤ w.re then (if 0 ≤ w.tot then 0 else 1) else if w.tot < 0 then 2 else 3
  [pos w.tot, neg w.tot] ++ w.ph.map pos ++ w.ph.map neg ++
    ((List.range 4).map fun k => if k == quadrant then w.re.natAbs else 0) ++ [w.ap] ++
    ((List.range 16).map fun k => if k + 1 == tariff then pos w.tot else 0) ++
    ((List.range 16).map fun k => if k + 1 == tariff then neg w.tot else 0)

/-- A register set after an advance. -/
def RegSet.advance (r : RegSet) (l : List Nat) : RegSet := { r with acc := List.zipWith (· + ·) r.acc l }

/-- Changes register set `k`. -/
def State.modReg (s : State) (k : Nat) (f : RegSet → RegSet) : State :=
  { s with met := { s.met with regs := s.met.regs.modify k f } }

/-- Status bits of R105 that a cycle's status word sets. -/
def intervalBits (status : Nat) : Nat :=
  pack [(7, bits status 21 1), (8, bits status 17 1), (10, bits status 16 1), (11, bit (bits status 0 8 != 0)),
    (12, bit (bits status 8 8 != 0)), (13, bits status 23 1)]

/-- The highest current and lowest voltage of a bay's cycle (R104). -/
def extremes (s : State) (b : Nat) (q : CycleQ) : Nat × Nat :=
  if s.meterMode b == 2 then (q.iDc.natAbs, q.uDc.toNat)
  else
    let ps := q.phases.take (if s.meterMode b == 0 then 3 else 1)
    ((ps.map PhaseQ.iRms).foldl max 0, (ps.map PhaseQ.uRms).foldl min (2 ^ 32 - 1))

/-- A cycle enters the open interval of a set (R104, R105). -/
def gather (status : Nat) (x : Option (Nat × Nat)) (g : IntervalSet) : IntervalSet :=
  let g : IntervalSet := { g with status := g.status ||| intervalBits status }
  match x with
  | none => g
  | some (i, u) => { g with iMax := some (max i (g.iMax.getD 0)), uMin := some (min u (g.uMin.getD u)) }

/-- Changes the open interval's part of a set. -/
def State.modIntervalSet (s : State) (k : Nat) (f : IntervalSet → IntervalSet) : State :=
  { s with intervals := { s.intervals with sets := s.intervals.sets.modify k f } }

/-! ### Safety values of a cycle -/

/-- A trip timer after a cycle (R216). -/
def tierTimer (old t : Nat) (above : Bool) : Nat := if above then old + t else old - t

/-- The delays of the tiers DC1, DC2 and AC2 in µs (R216). -/
def tierDelays : List Nat := [800000, 60000, 60000]

/-- A timer has reached its delay. -/
def tierReached (timers : List Nat) (k : Nat) : Bool := tierDelays.getD k 0 ≤ timers.getD k 0

/-- The trip timers of a used AC bay (R216, R219). -/
def tripTimers (s : State) (b t : Nat) (q : CycleQ) : List Nat :=
  let old := (s.bay b).safety.timers
  let dc := q.iresDc.natAbs
  [ if s.time.cycleOsc < (s.bay b).safety.dc1HoldTo then 0 else tierTimer (old.getD 0 0) t (5400 ≤ dc),
    tierTimer (old.getD 1 0) t (54000 ≤ dc), tierTimer (old.getD 2 0) t (27000 ≤ q.iresAc) ]

/-- The offers in force at some time in the 6 s before an instant: the newest, and every one replaced since. -/
def offersFrom (t : Nat) : List (Nat × Nat) → List (Nat × Nat)
  | a :: b :: l => if t < a.1 + 6000000 then a :: offersFrom t (b :: l) else [a]
  | l => l

/-- SLC's limit at an instant in mA (R225). -/
def slcLimitAt (s : State) (b t : Nat) : Nat :=
  let l := offersFrom t ((s.bay b).safety.offers.filter fun o => o.1 ≤ t)
  min ((l.map (·.2)).foldl max 0) (1000 * s.safetyField b 16 16)

/-- The currents SLC compares (R224): I_RMS per phase, or |i_dc|. -/
def slcCurrents (s : State) (b : Nat) (q : CycleQ) : List Nat :=
  if s.isDc b then [q.iDc.natAbs, 0, 0] else q.phases.map PhaseQ.iRms

/-- SDI permits export on a bay (R226). -/
def exportPermitted (s : State) (b : Nat) : Bool := s.safetyField b 3 1 == 1 && (s.bay b).link.bpt

/-- A cycle of a running residual self-test (R219): its values are noted, and RTS is driven for the three cycles behind the first two. -/
def testCycleDone (q : CycleQ) (t : SelfTest) : SelfTest :=
  if t.runningTo.isNone || 7 ≤ t.values.length then t
  else
    let n := t.values.length + 1
    { t with values := t.values ++ [(q.iresDc, q.iresAc)], rts := 2 ≤ n && n < 5 }

/-- What a committed cycle brings to the safety functions of a bay (R143, R155, R216, R225 to R227). -/
def safetyCycle (b t : Nat) (w : BayCycle) (s : State) : State :=
  let y := s.bay b
  let q := w.q
  let limit := slcLimitAt s b s.time.cycleOsc
  let above := (slcCurrents s b q).map fun i => !withinBand i limit
  let uo := if s.isDc b then q.uoDc.natAbs else q.uo
  let closed := y.isEnergised
  let unpermitted := !exportPermitted s b
  let timers := if s.isDc b || !s.bayUsed b then [0, 0, 0] else tripTimers s b t q
  s.modBay b fun z => { z with
    safety := { z.safety with
      timers := timers
      selfTest := testCycleDone q z.safety.selfTest
      slcLimit := limit
      cutExcess := limit < z.safety.slcLimit && above.any id
      excess := (List.range 3).map fun k => if above.getD k false then z.safety.excess.getD k 0 + t else 0
      exportUs := if unpermitted && q.pTot < -100000 then z.safety.exportUs + t else 0
      exportE := if unpermitted && q.pTot < 0 then z.safety.exportE + (energyOf (-q.pTot) 1 t).toNat else z.safety.exportE
      uoHighUs := if !s.isDc b && !z.coil.on && z.coil.openAt.isNone && 30000 ≤ uo then z.safety.uoHighUs + t else 0 }
    lock := { z.lock with
      uoLowSince := if closed || 30000 ≤ uo then none else some (z.lock.uoLowSince.getD s.time.cycleOsc) }
    coil := { z.coil with
      residual := z.coil.residual && (List.range 3).any (tierReached timers)
      ua50At := if s.isDc b && z.state == .closing && z.coil.on && 50000 ≤ q.uDc.natAbs then some (z.coil.ua50At.getD s.time.osc)
        else z.coil.ua50At } }

/-! ### The commit -/

/-- The session registers of the context bound since the cycle's start (R76, R187), and the flags of R123 that the cycle
brings. -/
def sessionCycle (b : Nat) (w : BayCycle) (s : State) : State :=
  match (s.bay b).ctx with
  | none => s
  | some c =>
    let k := (s.ctx c).wk
    if k.opening.isNone || k.closing.isSome then s
    else
      let imp := w.tot.toNat
      let exp := (-w.tot).toNat
      let t := s.met.tariff - 1
      let s1 := s.modWk c fun x => { x with tariffs := x.tariffs.modify t fun p => (p.1 + imp, p.2 + exp) }
      let used := ((s1.ctx c).wk.tariffs.filter fun p => mwh p.1 != 0 || mwh p.2 != 0).length
      let st := w.q.status
      s1.modHd c fun h =>
        let e := h.sesExp + exp
        let f := pack [(0, bits st 21 1), (3, bit (1 < used)), (8, bit (bits st 0 8 != 0)), (9, bits st 16 1), (11, bit (mwh e != 0))]
        { h with sesImp := h.sesImp + imp, sesExp := e, flags := h.flags ||| f }

/-- The test registers of a bay under METER_SELFTEST advance, and a cycle of a step's settings is judged (R61, R62). -/
def testCycle (elements tariff t : Nat) (w : BayCycle) (m : BayMeter) : BayMeter :=
  let m1 : BayMeter := { m with testRegs := List.zipWith (· + ·) m.testRegs (advances w tariff) }
  if !m.testLive then m1
  else { m1 with
    testUs := m.testUs + t
    testRunOk := m.testRunOk && (m.testCycles == 0 || (w.runA.take elements).all id)
    testAcOk := m.testAcOk && w.q.iresAc ≤ 30600 && 29400 ≤ w.q.iresAc, testCycles := m.testCycles + 1 }

/-- Commits one bay's cycle of `t` µs (R74). -/
def commitBay (b t : Nat) (w : BayCycle) (s : State) : State :=
  let test := testCycleOf (s.bay b).meter
  let s1 := s.modBay b fun y =>
    let m : BayMeter := { y.meter with q := w.q, runActive := w.runA, runReactive := w.runR, runApparent := w.runS, calChanged := false }
    { y with meter := if test then testCycle (if s.meterMode b == 0 then 3 else 1) s.met.tariff t w m else m }
  let s2 := safetyCycle b t w s1
  let s3 := s2.modIntervalSet b (gather w.q.status (if test then none else some (extremes s b w.q)))
  let s4 := if bits w.q.status 8 8 == 0 then s3
    else record 0x0202 (source 1 b) 1 (le 4 w.q.cycle ++ le 4 w.q.status) s3
  if test then s4 else sessionCycle b w (s4.modReg b fun r => r.advance (advances w s.met.tariff))

/-- The sum of the bays' cycles for the site (R52, R73): a bay under test contributes 0. -/
def siteCycle (s : State) (ws : List BayCycle) : BayCycle :=
  let live := (ws.zipIdx.filter fun p => !testCycleOf (s.bay p.2).meter).map (·.1)
  let sum (f : BayCycle → Int) : Int := (live.map f).foldl (· + ·) 0
  { q := { pTot := sum (·.q.pTot), qfTot := sum (·.q.qfTot), qtTot := sum (·.q.qtTot), sTot := (live.map (·.q.sTot)).sum }
    tot := sum (·.tot), ph := (List.range 3).map fun k => sum fun w => w.ph.getD k 0, re := sum (·.re), ap := (live.map (·.ap)).sum }

/-- Streams whose harmonics are evaluated (R55): codes 0 to 5 of the bays, the reference voltages. -/
def harmonicStream (s : State) (strobes : List (List Int)) (j : Nat) : List Int :=
  if j < 192 then samples (s.param (0x0440 + j / 6)) (j % 6) (column strobes (8 * (j / 6) + j % 6))
  else samples (s.param 0x0460) (j - 192) (column strobes (256 + (j - 192)))

/-- The cycle enters its harmonic block (R55). DEDUCED (log entry 158): a block with any cycle outside LOCKED is NOT_LOCKED, one that
never was in LOCKED as well. -/
def harmonicCycle (n : Nat) (tab : List (Int × Int)) (strobes : List (List Int)) (s : State) : State :=
  let w := s.met.harm
  if w.ended then s
  else
    let sums := w.sums.mapIdx fun j l =>
      let x := harmonicStream s strobes j
      l.mapIdx fun h v => v + harmonicSquare n tab (h + 1) x
    let w : HarmonicWork := { w with cycles := w.cycles + 1, notLocked := w.notLocked || !s.clk.lockedCycle, sums := sums }
    { s with met := { s.met with harm := w } }

/-- Summed current per phase of a feeder group in mA (R242). -/
def feederCurrent (s : State) (g : Nat) : Nat :=
  let load (b k : Nat) : Nat :=
    let q := (s.bay b).meter.q
    if s.isDc b then dcLoadMa s q.pDc.natAbs
    else if s.kind b == 1 then (if (loadedPhases s b).getD k false then (q.phases.getD 0 {}).iRms else 0)
    else (q.phases.getD k {}).iRms
  let bays := (List.range 32).filter fun b => s.feeder b == g
  ((List.range 3).map fun k => (bays.map fun b => load b k).sum).foldl max 0

/-- Time above FEEDER_TRIP by group (R233, R242); a FEEDER_TRIP of 0 supervises nothing. -/
def feederCycle (t : Nat) (s : State) : State :=
  let one (g : Nat) : Nat :=
    let trip := s.field 0x0301 (32 + 16 * g) 16
    if trip != 0 && 1000 * trip < feederCurrent s g then s.safety.feederUs.getD g 0 + t else 0
  { s with safety := { s.safety with feederUs := (List.range 4).map one } }

/-- The energy that each pulse output's register receives from a cycle is spread over the next (R67). -/
def sharePulses (before : List RegSet) (s : State) : State :=
  let share (k : Nat) (p : PulseOut) : PulseOut :=
    let src := pulseSource s k
    let reg (l : List RegSet) : Nat := (l.getD src {}).acc.getD (pulseRegister s k) 0
    if src == 0xFF then { p with share := 0, strobes := 128 }
    else { p with residue := p.residue + unspread p, share := reg s.met.regs - reg before, strobes := 0 }
  { s with met := { s.met with pulses := s.met.pulses.mapIdx share } }

/-- Commits the cycle in progress, `t` µs long, over the strobes it received (R74, R89): one indivisible step. -/
def commitCycle (t : Nat) (whole : Bool) (s : State) : State :=
  let strobes := s.met.strobes.reverse
  let n := max 1 strobes.length
  let tab := turnTable strobes.length
  let refCal := s.param 0x0460
  let refs := (List.range 4).map fun k => samples refCal k (column strobes (256 + k))
  let ref1 := fourier tab 1 (refs.getD 0 [])
  let phi (k : Nat) : Int :=
    let f := fourier tab 1 (refs.getD k [])
    argument (f.1 * ref1.1 + f.2 * ref1.2) (f.1 * ref1.2 - f.2 * ref1.1)
  let ws := (List.range 32).map fun b => bayCycle s b n t tab ref1 strobes
  let before := s.met.regs
  let s1 := ws.zipIdx.foldl (fun a p => commitBay p.2 t p.1 a) s
  let site := siteCycle s ws
  let s2 := s1.modReg 32 fun r => r.advance (advances site s.met.tariff)
  let refU := refs.map (rms n)
  let s3 := s2.modIntervalSet 32 (gather 0 (some (0, (refU.take 3).foldl min (2 ^ 32 - 1))))
  let iv := s3.intervals
  let switched : Nat := if s.met.lastTariff.isSome && s.met.lastTariff != some s.met.tariff then 0x20 else 0
  let add (l : List Nat) : List Nat := if l.contains s.met.tariff then l else l ++ [s.met.tariff]
  let s4 : State :=
    { s3 with
      intervals := { iv with
        flags := iv.flags ||| switched, cycles := iv.cycles + 1, subCycles := iv.subCycles + 1,
        tariffFirst := if iv.cycles == 0 then s.met.tariff else iv.tariffFirst
        tariffs := add iv.tariffs, subTariffs := add iv.subTariffs }
      met := { s3.met with
        refU := refU, refPhi := [phi 1, phi 2], siteP := site.q.pTot, siteQf := site.q.qfTot, siteQt := site.q.qtTot, siteS := site.q.sTot,
        lastCycle := s.clk.cycle.toNat, lastTariff := some s.met.tariff, takenOver := false } }
  let s5 := sharePulses before (feederCycle t s4)
  let s6 := if whole then harmonicCycle n tab strobes s5 else s5
  { s6 with met := { s6.met with strobes := [], overSeen := List.replicate 260 false, buffer := (s.met.strobes :: s6.met.buffer).take 4 } }

/-! ### The boundary -/

/-- The conditions of R23 and R25 over the cycle that ends: each counts its consecutive cycles. DEDUCED (log entry 50): a cycle of
ACQUIRE, the transition cycle included, is none of the cycles that R23 counts for the phase error once LOCKED is entered. -/
def clockCycle (freqMhz : Nat) (phaseErr : Int) (s : State) : State :=
  let c := s.clk
  let low := 100 * s.met.refU.getD 0 0 < 20 * s.nominalVoltage
  let off := freqMhz < 45000 || 65000 < freqMhz
  let far := 64 < phaseErr.natAbs
  let next (on : Bool) (n : Nat) : Nat := if on then n + 1 else 0
  let freq := match c.state with
    | .locked | .acquire => freqMhz
    | .holdover => c.freq
    | .deadReckon => s.nominalFreq
  { s with clk := { c with
      cycle := c.cycle + 1, angle := 0, angleRem := 0, freq := freq, phaseErr := phaseErr, cycleStart := s.time.now
      halfDone := false, transition := if c.transition == some c.cycle then c.transition else none
      lossVoltage := next low c.lossVoltage, lossFreq := next off c.lossFreq
      lossPhase := next (far && c.state != .acquire) c.lossPhase
      goodCycles := next (!low && !off && !far && !c.refFault) c.goodCycles
      pullInCycles := next (c.state == .acquire && phaseErr.natAbs ≤ 4) c.pullInCycles
      holdCycles := next (c.state == .holdover) c.holdCycles
      lockedCycle := c.state == .locked } }

/-- The offer of a bay as it stands enters SLC's history when it has changed; what no limit needs any more goes (R225). -/
def noteOffer (b : Nat) (s : State) : State :=
  s.modBay b fun y =>
    let now := if s.isDc b then y.conv.setMa.natAbs else y.pilot.offered
    let l := y.safety.offers
    let l' := if now == (l.head?.map (·.2)).getD 0 then l else (s.time.osc, now) :: l
    { y with safety := { y.safety with offers := offersFrom s.time.osc l' } }

/-- Consecutive cycles without the condition of a stream fault: a cycle that has seen it counts for none (R43). -/
def clearCycles (faults seen : List Bool) (n : List Nat) : List Nat :=
  List.zipWith (fun (p : Bool × Bool) n => if p.1 && !p.2 then n + 1 else 0) (faults.zip seen) n

/-- The injector's settings change with a cycle (R60, R61): those of a step take over and are judged from here; a bay that has left
the test has its modulators back. -/
def beginTestCycle (m : BayMeter) : BayMeter :=
  match m.injectNext with
  | some i => { m with inject := i, injectNext := none, testLive := true, testBase := m.testRegs, testCycles := 0, testUs := 0,
                       testRunOk := true, testAcOk := true }
  | none => if m.underTest then m else { m with inject := [], testLive := false }

/-- What the boundary brings to a bay (R43, R58, R135): drive of CPO, stream faults without their condition, coil use. -/
def bayBoundary (b : Nat) (s : State) : State :=
  noteOffer b (s.modBay b fun y => { y with
    pilot := match if controlRuns s then y.pilot.next else none with
      | some (d, duty) => { y.pilot with drive := d, duty := duty, next := none, offered := 0 }
      | none => y.pilot
    meter := beginTestCycle { y.meter with
      faultClear := clearCycles y.meter.faults y.meter.faultSeen y.meter.faultClear, faultSeen := List.replicate 8 false }
    coil := { y.coil with onInCycle := y.coil.on } })

/-- The readings of a bay at the boundary (R120). -/
def readings (s : State) (b : Nat) : Reading :=
  let a := (s.regSet b).acc
  { time := s.clk.cycleStart, cycle := s.clk.cycle.toNat, aImp := mwh (a.getD 0 0), aExp := mwh (a.getD 1 0) }

/-- Opening readings of a binding that begins with this cycle (R120, R185 T_START). -/
def openReadings (b : Nat) (s : State) : State :=
  match (s.bay b).ctx with
  | none => s
  | some c =>
    if (s.ctx c).wk.opening.isSome then s
    else
      let r := readings s b
      let dc := s.meterMode b == 2
      (s.modHd c fun h => { h with tStart := r.time, flags := h.flags ||| (if dc then 0x1000 else 0) }).modWk c fun w =>
        { w with opening := some r, boundAt := some s.time.osc, calId := (s.cals.active.map calId).getD 0 }

/-- The closing readings of a finished session fix its record number; the binding ends (R120, R124). The header keeps the bay
of the session. DEDUCED (log entry 167): a context that has never entered ENERGISING has no record and is freed here (R183). -/
def closeReadings (b : Nat) (r : Reading) (s : State) : State :=
  match (s.bay b).ctx with
  | none => s
  | some c =>
    let x := s.ctx c
    if x.hd.state != .finishing || !x.wk.closeDue || x.wk.closing.isSome then s
    else if !x.wk.energised then freeContext c 0 [] s
    else
      let n := s.legal.nextSeq
      let s1 := (s.modHd c fun h => { h with seq := n }).modWk c fun w => { w with closing := some r, closeSum := legalChecksum s, closeDue := false }
      let s2 : State := { s1 with legal := { s1.legal with nextSeq := n + 1 } }
      markDirty (s2.modBay b fun y => { y with ctx := none, noted := [] })

/-- A running session whose quota is reached, or was set at or below use, ends (R187, R206). -/
def quotaEnd (c : Nat) (s : State) : State :=
  let x := s.ctx c
  if endable x && ((x.hd.quota != 0 && x.hd.quota ≤ mwh x.hd.sesImp) || x.wk.quotaEnd) then
    endSession c 2 6 (s.modWk c fun w => { w with quotaEnd := false })
  else s

/-- The cycles of a harmonic block (R55). -/
def blockLength (s : State) : Nat := if s.nominalFreq < 55000 then 10 else 12

/-- The cycle that ends is committed while a metering pair is left; without one its samples are lost (R74, R275). -/
def endCycle (s : State) : State :=
  if metersRun s then commitCycle (s.time.osc - s.time.cycleOsc) s.met.whole s
  else { s with met := { s.met with strobes := [], overSeen := List.replicate 260 false } }

/-- A cycle metered from its angle 0 on has its 128 samples (R46). -/
def samplesThere (s : State) : Bool := !metersRun s || !s.met.whole || s.met.strobes.length == 128

/-- CYCLE_BOUNDARY (R30, R74): the cycle that ends is committed, then the new one opens with its stamp, tariff index and
bindings, and the checkpoint is written. The clock's part goes on without a metering pair (R24). -/
def execCycleBoundary (freqMhz : Nat) (phaseErr : Int) (s : State) : Out :=
  .next (if !clockRuns s || !boundaryDue s.clk || !samplesThere s then s
    else
      let s1 := endCycle s
      let s2 := clockCycle freqMhz phaseErr (closeCycleCounters s1)
      let c := s2.clk.cycle.toNat
      let h := s2.met.harm
      let s3 : State :=
        { s2 with
          time := { s2.time with cycleOsc := s.time.osc }
          met := { s2.met with tariff := tariffNow s2 s2.clk.cycleStart, whole := metersRun s
                               refClear := clearCycles s2.met.refFaults s2.met.refSeen s2.met.refClear
                               refSeen := [false, false, false, false]
                               harm := { h with ended := h.ended || c % blockLength s2 == 0 } } }
      let s4 := (List.range 32).foldl (fun a b => closeReadings b (readings a b) (bayBoundary b a)) s3
      let s5 := (List.range 32).foldl (fun a b => openReadings b a) s4
      let s6 := (levelAtBoundary 0x32 0 s5.queue.length s5)
      let s7 := levelAtBoundary 0x33 0 s6.spi.ntfQueue.length (levelAtBoundary 0x33 1 s6.uart.ntfQueue.length s6)
      let s7 := if metersRun s then writeCheckpoint s7 else s7
      let s8 := halfCycle (levelAtBoundary 0x34 0 (recBytes s7.recorder.buffer) s7)
      if !controlRuns s8 then s8
      else
        let s9 := (List.range 256).foldl (fun a c => quotaEnd c a) s8
        (List.range 32).foldl (fun a b => evaluateBay b a) s9)

/-- HARMONIC_BLOCK_END (R55): the block's results are formed and a new block begins. DESIGN CHOICE (log entry 158): a thd above the
16 bits of its field reads 65 535. -/
def execHarmonicBlockEnd (s : State) : Out :=
  let w := s.met.harm
  if !w.ended then .next s
  else
    let n := max 1 w.cycles
    let f := if w.notLocked then s.nominalFreq else quotN (w.cycles * 1000000000) (max 1 (s.time.cycleOsc - w.osc))
    let one (l : List Nat) : Option HarmonicBlock :=
      let tail := (l.drop 1).sum
      let x1 := l.getD 0 0
      some { first := w.first, short := w.cycles < blockLength s, notLocked := w.notLocked, cycles := w.cycles, fBlock := f,
             thd := if x1 == 0 then 0 else sat 16 (rootQ (10 ^ 8 * tail) x1), x := l.map fun v => rootQ v (n * 2 ^ 32) }
    let fresh : HarmonicWork := { first := s.clk.cycle.toNat, osc := s.time.cycleOsc }
    .next { s with met := { s.met with harm := fresh, blocks := if w.cycles == 0 then s.met.blocks else w.sums.map one } }

end Sys2Proof.Machine
end

