-- ==== Sys2Proof/Machine/ClockEvents.lean ====
section
/-! DEFINITION. The state changes of the phase clock (R22 to R26, R38): loss and return of the reference, pull-in, the entry into
LOCKED and the end of HOLDOVER. CYCLE_BOUNDARY counts the cycles on which each of them rests. -/

namespace Sys2Proof.Machine

open Sys2Proof

/-- Reports an entry into LOCKED or HOLDOVER with the cycle count of the change (R26). -/
def reportClock (old new : ClkState) (s : State) : State :=
  let detail := le 1 old.code ++ le 1 new.code ++ le 4 s.clk.cycle.toNat
  record 0x0101 0 0 detail (ntfPower 5 detail s)

/-- A close still queued goes without being made, and is reported (R37, R38). -/
def removeClose (q : QEntry) (s : State) : State :=
  match q.kind, q.bay with
  | .close c, some b => refuseClose b c errState (dropEntries (· == q) s)
  | _, _ => s

/-- A queued close of an AC bay goes and is reported (R38). -/
def removeAcClose (q : QEntry) (s : State) : State :=
  match q.kind, q.bay with
  | .close _, some b => if s.isDc b then s else removeClose q s
  | _, _ => s

/-- STATE leaves LOCKED: every queued close of an AC bay is removed (R38). -/
def leaveLocked (s : State) : State := s.queue.foldl (fun a q => removeAcClose q a) s

/-- A condition of loss holds (R23, R43): for two cycles, or a STREAM_FAULT on REF_SD_UA at once; in ACQUIRE the phase error does
not count. -/
def lossHolds (cause : LossCause) (s : State) : Bool :=
  match cause with
  | .voltage => 2 ≤ s.clk.lossVoltage
  | .frequency => 2 ≤ s.clk.lossFreq
  | .phaseError => 2 ≤ s.clk.lossPhase && s.clk.state != .acquire
  | .streamFault => s.clk.refFault

/-- The reference is lost (R22): LOCKED goes to HOLDOVER at the frequency held, ACQUIRE to DEAD_RECKON. A transition cycle then
ends at its reckoned end (R25), as `boundaryDue` says of DEAD_RECKON. -/
def loseReference (s : State) : State :=
  match s.clk.state with
  | .locked =>
    let s1 : State := { s with clk := { s.clk with state := .holdover, holdCycles := 0, goodCycles := 0, lockedCycle := false } }
    leaveLocked (reportClock .locked .holdover s1)
  | .acquire => deadReckon { s with clk := { s.clk with transition := none, pullInCycles := 0, goodCycles := 0 } }
  | _ => s

/-- LOSS_OF_REFERENCE (R23). -/
def execLossOfReference (cause : LossCause) (s : State) : Out :=
  .next (if clockRuns s && lossHolds cause s then loseReference s else s)

/-- REFERENCE_VALID (R22, R23): four cycles without any condition of loss, in HOLDOVER or DEAD_RECKON. -/
def execReferenceValid (s : State) : Out :=
  let c := s.clk
  .next (if clockRuns s && 4 ≤ c.goodCycles && (c.state == .holdover || c.state == .deadReckon) then
      { s with clk := { c with state := .acquire, pullInCycles := 0, transition := none } }
    else s)

/-- ACQUIRE_PULL_IN (R25), tested at a boundary: after eight cycles within 4 au the cycle that begins there is the transition
cycle. -/
def execAcquirePullIn (s : State) : Out :=
  let c := s.clk
  .next (if clockRuns s && c.state == .acquire && 8 ≤ c.pullInCycles && c.transition.isNone && c.angle == 0 then
      { s with clk := { c with transition := some c.cycle } }
    else s)

/-- The clock enters LOCKED (R25, R29). -/
def enterLocked (s : State) : State :=
  let c := s.clk
  let s1 : State := { s with clk := { c with
    state := .locked, transition := none, pullInCycles := 0, relockCount := min 65535 (c.relockCount + 1), lockedCycle := true } }
  (List.range 32).foldl (fun a b => evaluateBay b a) (reportClock .acquire .locked s1)

/-- LOCK_ENTRY (R25): the zero crossing that ends the transition cycle, at least 2 048 au after its start (`boundaryDue`), has
opened the next cycle. -/
def execLockEntry (s : State) : Out :=
  .next (match s.clk.transition with
    | some c => if clockRuns s && s.clk.state == .acquire && s.clk.cycle == c + 1 then enterLocked s else s
    | none => s)

/-- HOLDOVER_EXPIRY (R22): ten cycles of HOLDOVER. -/
def execHoldoverExpiry (s : State) : Out :=
  .next (if clockRuns s && s.clk.state == .holdover && 10 ≤ s.clk.holdCycles then deadReckon s else s)

end Sys2Proof.Machine
end

