-- ==== Sys2Proof/Machine/Intervals.lean ====
section
/-! DEFINITION. Demand and load-profile intervals (R79 to R83, R101 to R108), calendar slots and activation (R84 to R86),
clock steps and outages (R90, R91, R95 to R98), and the billing commands of 0x05xx but RECORD_READ (R318). -/

namespace Sys2Proof.Machine

open Sys2Proof

/-! ### Periods -/

/-- L in minutes and SLIDING of DEMAND_CONFIG (R80). -/
def intervalMin (s : State) : Nat := s.field 0x0404 0 8

@[inherit_doc intervalMin]
def isSliding (s : State) : Bool := s.field 0x0404 8 1 == 1

/-- The nominal start of the period of `us` µs that holds an instant (R79). -/
def nominalStart (s : State) (us t : Nat) : Nat :=
  let off := activeOffset s * usMin
  let m : Int := us
  (((t : Int) + off) / m * m - off).toNat

/-- Length of an interval and of a subinterval in µs. -/
def intervalUs (s : State) : Nat := 60000000 * intervalMin s

@[inherit_doc intervalUs]
def subUs (s : State) : Nat := 20000000 * intervalMin s

/-- Nominal end of the open interval. -/
def intervalEnd (s : State) : Nat := s.intervals.start + intervalUs s

/-- Duration of a cycle at FREQ in µs. -/
def cycleUs (s : State) : Nat := 1000000000 / max 1 s.clk.freq

/-! ### Demand -/

/-- A demand replaces a record that it exceeds (R83). -/
def raiseMax (value endTime index : Nat) (m : MaxDemand) : MaxDemand :=
  if m.value < value then { value := value, endTime := endTime, interval := index % 2 ^ 32 } else m

/-- Records of one direction that an evaluation compares: ALL and every tariff index of the period. -/
def mdIndexes (export_ : Bool) (tariffs : List Nat) : List Nat :=
  (if export_ then 33 else 32) :: tariffs.map fun t => (if export_ then 16 else 0) + (t - 1)

/-- Evaluates one set (R81, R83): energies in whole mWh over L. -/
def evaluateSet (k imp exp : Nat) (tariffs : List Nat) (endTime : Nat) (s : State) : State :=
  let d (e : Nat) : Nat := e * 60 / max 1 (intervalMin s)
  let index := s.intervals.index
  let up (md : List MaxDemand) (l : List Nat) (v : Nat) : List MaxDemand :=
    l.foldl (fun a i => a.modify i (raiseMax v endTime index)) md
  let old := (s.regSet k).md
  let new := up (up old (mdIndexes false tariffs) (d imp)) (mdIndexes true tariffs) (d exp)
  let s1 := (s.modReg k fun r => { r with md := new }).modIntervalSet k fun g => { g with newMax := new != old }
  { s1 with intervals := { s1.intervals with
      last := s1.intervals.last.modify k fun _ => { imp := d imp, exp := d exp, endTime := endTime } } }

/-- Intervals are evaluated unless opened while module time was not valid, in an outage's shadow, or as duplicates (R96, R98,
R437). -/
def evaluates (s : State) : Bool := !s.intervals.noEval && !testBit s.intervals.flags 4

/-- A period by its nominal start and end is evaluated, once (R83). -/
def notePeriod (start endTime : Nat) (s : State) : State :=
  { s with intervals := { s.intervals with evaluated := some (start, endTime) } }

/-- Whole mWh of an accumulator. -/
def whole (s : State) (k i : Nat) : Nat := mwh ((s.regSet k).acc.getD i 0)

/-- Energies of every set since a base. -/
def energies (s : State) (base : IntervalSet → List Nat) : List (Nat × Nat) :=
  s.intervals.sets.mapIdx fun k g => (whole s k 0 - (base g).getD 0 0, whole s k 1 - (base g).getD 1 0)

/-- Closes the open subinterval (R82): with the two before it, it is evaluated when all three have been open since the window
was cleared. DESIGN CHOICE (log entry 159): subintervals of intervals that are not evaluated themselves stay in the window; the period
that ends in an evaluated interval is evaluated with them. -/
def closeSub (s : State) : State :=
  let iv := s.intervals
  let sub : SubInterval := { energy := energies s (·.subBase), tariffs := iv.subTariffs, index := iv.index }
  let win := sub :: iv.window
  let endTime := iv.subStart + subUs s
  let s1 : State := { s with intervals := { iv with window := win.take 3, sets := iv.sets.map fun g => { g with newMax := false } } }
  let cycles := !(win.flatMap (·.tariffs)).isEmpty
  let period := endTime - intervalUs s
  if win.length < 3 || !evaluates s || !cycles || iv.evaluated == some (period, endTime) then s1
  else
    let three := win.take 3
    let tariffs := (three.flatMap (·.tariffs)).eraseDups
    notePeriod period endTime ((List.range 33).foldl (fun a k =>
      let sum (f : Nat × Nat → Nat) : Nat := (three.map fun w => f (w.energy.getD k (0, 0))).sum
      evaluateSet k (sum Prod.fst) (sum Prod.snd) tariffs endTime a) s1)

/-- Opens the subinterval of a nominal start. -/
def openSubAt (start : Nat) (s : State) : State :=
  let iv := s.intervals
  { s with intervals := { iv with
      subStart := start, subCycles := 0, subTariffs := []
      sets := iv.sets.mapIdx fun k g => { g with subBase := [whole s k 0, whole s k 1] } } }

/-- Opens a subinterval with the cycle that begins. -/
def openSub (s : State) : State := openSubAt (nominalStart s (subUs s) s.clk.cycleStart) s

/-- Closes every subinterval whose nominal end an instant has reached, and opens the next (R82). -/
def closeSubsTo : Nat → Nat → State → State
  | 0, _, s => s
  | n + 1, t, s =>
    if t < s.intervals.subStart + subUs s then s
    else closeSubsTo n t (openSubAt (s.intervals.subStart + subUs s) (closeSub s))

/-- The demand evaluation of an interval that closes (R81). -/
def evaluateInterval (s : State) : State :=
  if isSliding s then (if s.intervals.subCycles == 0 then s else closeSub s)
  else if !evaluates s || s.intervals.cycles == 0 || s.intervals.evaluated == some (s.intervals.start, intervalEnd s) then s
  else
    notePeriod s.intervals.start (intervalEnd s) ((energies s (·.base)).zipIdx.foldl (fun a e =>
      evaluateSet e.2 e.1.1 e.1.2 s.intervals.tariffs (intervalEnd s) a) s)

/-! ### Entries -/

/-- An optional value, all ones where it is absent (R104). -/
def present (n : Nat) (v : Option Nat) : Bytes := le n (v.getD (2 ^ (8 * n) - 1))

/-- An entry with its CRC (R103). -/
def profileEntry (index start status : Nat) (e : List (Option Nat)) (iMax uMin : Option Nat) : Bytes :=
  let body := le 4 index ++ le 8 start ++ le 4 status ++ e.flatMap (present 8) ++ present 4 iMax ++ present 4 uMin
  body ++ le 4 (crc32c body)

/-- The status word of a set's entry (R105); the site takes the cycle bits of any bay. -/
def entryStatus (s : State) (flags k : Nat) : Nat :=
  let iv := s.intervals
  let g := iv.sets.getD k {}
  let cyc := if k == 32 then (iv.sets.take 32).foldl (fun a g => a ||| g.status) 0 else g.status
  let none_ := iv.cycles == 0
  (flags ||| cyc) ||| pack [(14, bit none_), (15, bit g.newMax), (16, if none_ then 0 else iv.tariffFirst - 1)]

/-- The 33 entries of the open interval as it closes (R102 to R105). -/
def closingEntries (s : State) (flags : Nat) : List Bytes :=
  let iv := s.intervals
  (List.range 33).map fun k =>
    let g := iv.sets.getD k {}
    let e := (List.range 6).map fun i =>
      if iv.cycles == 0 then none else some (whole s k (if i < 2 then i else i + 6) - g.base.getD i 0)
    profileEntry iv.index iv.start (entryStatus s flags k) e (if k == 32 then none else g.iMax) g.uMin

/-- Intervals in one block of the profile ring, and in the ring (R99, R106). DESIGN CHOICE (log entry 160): 33 entries of 76 bytes
stand together, and a block of 256 KiB holds 104 of them whole. -/
def blockIntervals : Nat := 104

@[inherit_doc blockIntervals]
def ringIntervals : Nat := 384 * blockIntervals

/-- Puts an interval into the profile ring, for which the oldest block is erased where the ring is full, and reports the entries
that PROFILE_NOTIFY selects (R106, R108). -/
def storeInterval (index : Nat) (entries : List Bytes) (s : State) : State :=
  let old := s.intervals.ring
  let ring := { index := index, entries := entries } :: (if ringIntervals ≤ old.length then old.take (ringIntervals - blockIntervals) else old)
  let s1 : State := { s with intervals := { s.intervals with ring := ring } }
  (List.range 33).foldl (fun a k =>
    if a.field 0x0024 k 1 == 1 then ntfBay (if k < 32 then k else 0xFF) 10 (le 1 k ++ le 3 0 ++ le 4 index) a else a) s1

/-- The bytes under the CRC-32C of a legal store copy (R101): the manual gives its content and no layout (log entry 160). -/
def copyBytes (c : LegalCopy) : Bytes :=
  le 4 c.cycle ++ regBytes c.regs ++ pulseBytes c.pulses ++
    (c.parked.flatMap fun p => le 1 p.1 ++ le 1 p.2.1 ++ le 12 p.2.2.1 ++ le 2 p.2.2.2) ++ intervalBytes c.intervals

/-- What the legal store controller writes now (R101). -/
def legalCopy (s : State) : LegalCopy :=
  let c : LegalCopy :=
    { cycle := s.clk.cycle.toNat, regs := s.met.regs, pulses := pulseState s
      parked := s.met.parked, intervals := { s.intervals with ring := [] }, crc := 0 }
  { c with crc := crc32c (copyBytes c) }

/-- The legal store is written (R101): the older of the two copies is replaced. -/
def legalStore (s : State) : State :=
  { s with legal := { s.legal with
      storedAt := s.time.osc, storedCycle := s.clk.cycle.toNat, stores := legalCopy s :: s.legal.stores.take 1 } }

/-- The newer valid copy of the legal store (R101). -/
def validCopy (s : State) : Option LegalCopy := s.legal.stores.find? fun c => c.crc == crc32c (copyBytes c)

/-- Closes the open interval: evaluation, entries, legal store copy; `clear` empties the sliding window (R82). -/
def closeInterval (flags : Nat) (clear : Bool) (s : State) : State :=
  if s.intervals.closed then s else
  let s1 := evaluateInterval { s with intervals := { s.intervals with sets := s.intervals.sets.map fun g => { g with newMax := false } } }
  let s2 := storeInterval s1.intervals.index (closingEntries s1 (s1.intervals.flags ||| flags)) s1
  legalStore { s2 with intervals := { s2.intervals with
    index := s2.intervals.index + 1, window := if clear then [] else s2.intervals.window } }

/-- Opens an interval with the cycle that begins (R79, R96, R98); none opens while no metering pair is left (log entry 159). -/
def openInterval (flags : Nat) (s : State) : State :=
  if s.cont.meLost then s else
  let iv := s.intervals
  let start := nominalStart s (intervalUs s) s.clk.cycleStart
  let dup : Bool := match iv.dupUntil with | some t => s.time.valid && start ≤ t | none => false
  let fl := flags ||| (if s.time.valid then 0 else 1) ||| (if dup then 0x10 else 0)
  let s1 : State :=
    { s with intervals := { iv with
        start := start, closed := false, flags := fl, cycles := 0, tariffFirst := s.met.tariff, tariffs := [], noEval := !s.time.valid
        latestStart := max iv.latestStart start
        sets := (List.range 33).map fun k =>
          { base := (List.range 6).map fun i => whole s k (if i < 2 then i else i + 6) : IntervalSet } } }
  openSub s1

/-- Closes and opens at a boundary that is no nominal end: the old interval is partial, and so is the new one unless the
boundary is the first at its nominal start (R79, R80, R105). -/
def breakInterval (closeFlags openFlags : Nat) (change : State → State) (s : State) : State :=
  let t := s.clk.cycleStart
  let partial_ := if t < intervalEnd s then 2 else 0
  let s1 := change (closeInterval (closeFlags ||| partial_) true s)
  let s2 := openInterval openFlags s1
  if s2.intervals.start + cycleUs s2 ≤ t then { s2 with intervals := { s2.intervals with flags := s2.intervals.flags ||| 2 } } else s2

/-- INTERVAL_CLOSE (R77, R79, R102): at the first boundary at or after the nominal end. -/
def execIntervalClose (s : State) : Out :=
  .next (if !metersRun s || s.intervals.closed || s.clk.cycleStart < intervalEnd s then s else openInterval 0 (closeInterval 0 false s))

/-- SUBINTERVAL_CLOSE (R82). -/
def execSubintervalClose (s : State) : Out :=
  .next (if !metersRun s || !isSliding s || s.intervals.closed || s.clk.cycleStart < s.intervals.subStart + subUs s then s
    else openSub (closeSub s))

/-- LEGAL_STORE_WRITE (R101): at least every 15 minutes. -/
def execLegalStoreWrite (s : State) : Out :=
  .next (if metersRun s && s.legal.storedAt + 900000000 ≤ s.time.osc then legalStore s else s)

/-! ### Clock steps -/

/-- Contexts bound in the cycle that begins, with their bays. -/
def boundCtxs (s : State) : List Nat := (List.range 32).filterMap fun b => (s.bay b).ctx

/-- The cycle that begins is stamped anew: readings taken at its boundary follow (R95). -/
def restamp (t : Nat) (s : State) : State :=
  let n := s.clk.cycle.toNat
  let fix (r : Option Reading) : Option Reading := r.map fun r => if r.cycle == n then { r with time := t } else r
  { s with
    clk := { s.clk with cycleStart := t }
    ctxs := s.ctxs.map fun x =>
      if x.hd.state == .free then x
      else
        let o := fix x.wk.opening
        { hd := { x.hd with tStart := (o.map (·.time)).getD x.hd.tStart }, wk := { x.wk with opening := o, closing := fix x.wk.closing } } }

/-- Flags of R123 for every session whose binding began before this boundary. -/
def flagSessions (flag : Nat) (s : State) : State :=
  (boundCtxs s).foldl (fun a c =>
    match (a.ctx c).wk.opening with
    | some r => if r.cycle == a.clk.cycle.toNat then a else a.modHd c fun h => { h with flags := h.flags ||| flag }
    | none => a) s

/-- The tariff index of the cycle that begins. -/
def selectTariff (s : State) : State := { s with met := { s.met with tariff := tariffNow s s.clk.cycleStart } }

/-- CLOCK_STEP_TAKES_EFFECT (R95 to R98): at the first boundary after acceptance. -/
def execClockStepTakesEffect (s : State) : Out :=
  match s.time.step with
  | none => .next s
  | some p =>
    let old := s.time.now
    let fwd := !s.time.valid || old < p.newTime
    let flag := if fwd then 4 else 8
    let change (x : State) : State :=
      let y := restamp p.newTime { x with time := { x.time with now := p.newTime, valid := true, slew := 0, slewPhase := 0, step := none } }
      selectTariff (if fwd then y
        else { y with intervals := { y.intervals with dupUntil := some (max y.intervals.latestStart (y.intervals.dupUntil.getD 0)) } })
    let s1 := logbookNow 2 p.world (le 8 old ++ le 8 p.newTime ++ le 2 p.keySlot) s
    let s2 := change (closeInterval (flag ||| 2) true (flagSessions 4 s1))
    .next (openInterval (flag ||| 2) s2)

/-! ### Calendars -/

/-- The first pending calendar becomes ACTIVE (R84). A session opened at this boundary takes its CAL_ID; one opened before
carries CAL_ACTIVATED (R122, R123). -/
def activateCalendar (c : Bytes) (rest : List Bytes) (s : State) : State :=
  let shift := activeOffset s != stdOffset c
  let put (x : State) : State := { x with cals := { active := some c, pending := rest } }
  let s1 := selectTariff (if shift then breakInterval 0 0 put s else put s)
  let s2 : State := { s1 with intervals := { s1.intervals with flags := s1.intervals.flags ||| 0x40 } }
  (boundCtxs s2).foldl (fun a k =>
    match (a.ctx k).wk.opening with
    | some r => if r.cycle == a.clk.cycle.toNat then a.modWk k fun w => { w with calId := calId c } else a
    | none => a) (flagSessions 0x10 s2)

/-- Activates every pending calendar whose instant has come, in order. -/
def activateDue : Nat → State → State
  | 0, s => s
  | n + 1, s =>
    match s.cals.pending with
    | c :: rest => if activateAt c ≤ s.clk.cycleStart then activateDue n (activateCalendar c rest s) else s
    | [] => s

/-- CALENDAR_ACTIVATION (R77, R84). -/
def execCalendarActivation (s : State) : Out := .next (if metersRun s then activateDue 3 s else s)

/-- TARIFF_LOAD_CALENDAR (R85). -/
def tariffLoadBody (_ : Call) (pl : Bytes) (s : State) : Ans :=
  let at_ := activateAt pl
  if !calendarOk pl then refuse s errParam
  else if at_ < s.time.now + 1000000 then refuse s errTime
  else if s.cals.pending.any fun c => activateAt c == at_ then refuse s errState
  else if 3 ≤ s.cals.pending.length then refuse s errCapacity
  else
    let before := s.cals.pending.filter fun c => activateAt c < at_
    let after := s.cals.pending.filter fun c => at_ < activateAt c
    okWith { s with cals := { s.cals with pending := before ++ [pl] ++ after } } (le 1 (before.length + 1) ++ le 3 0)

/-- TARIFF_LOAD_CALENDAR (R318). -/
def cmdTariffLoadCalendar : Command where
  op := 0x0500
  life := .n
  sc := true
  len := exactly 3952
  body := tariffLoadBody

def execTariffLoadCalendar (h : Hdr) (pl : Bytes) (s : State) : Out := hostCmd cmdTariffLoadCalendar h pl s

/-- TARIFF_GET (R318). -/
def tariffGetBody (_ : Call) (pl : Bytes) (s : State) : Ans :=
  let k := fld pl 0 1
  if 3 < k then refuse s errParam
  else match if k == 0 then s.cals.active else s.cals.pending[k - 1]? with
  | some c => okWith s c
  | none => refuse s errNotFound

/-- TARIFF_GET (R318). -/
def cmdTariffGet : Command where
  op := 0x0501
  life := .notBlank
  len := exactly 1
  body := tariffGetBody

def execTariffGet (h : Hdr) (pl : Bytes) (s : State) : Out := hostCmd cmdTariffGet h pl s

/-- TARIFF_CANCEL_PENDING (R86, R318): at least one cycle before ACTIVATE. -/
def tariffCancelBody (_ : Call) (pl : Bytes) (s : State) : Ans :=
  let hit (c : Bytes) : Bool := calId c == fld pl 0 4 && activateAt c == fld pl 8 8
  match s.cals.pending.find? hit with
  | none => refuse s errNotFound
  | some c =>
    if (activateAt c - s.time.now) * s.clk.freq < 1000000000 then refuse s errTime
    else ok { s with cals := { s.cals with pending := s.cals.pending.filter fun c => !hit c } }

/-- TARIFF_CANCEL_PENDING (R318). -/
def cmdTariffCancelPending : Command where
  op := 0x0502
  life := .n
  sc := true
  len := exactly 16
  rsv := [(4, 4)]
  body := tariffCancelBody

def execTariffCancelPending (h : Hdr) (pl : Bytes) (s : State) : Out := hostCmd cmdTariffCancelPending h pl s

/-! ### Reading -/

/-- PROFILE_READ (R107): the header, and the entries held from the first index on, at most 53. -/
def profileReadBody (_ : Call) (pl : Bytes) (s : State) : Ans :=
  let k := fld pl 0 1
  let n := fld pl 2 2
  let first := fld pl 4 4
  let ring := s.intervals.ring
  let newest := (ring.head?.map (·.index)).getD 0
  let oldest := (ring.getLast?.map (·.index)).getD 0
  let header (m : Nat) : Bytes :=
    le 1 k ++ le 1 (intervalMin s) ++ le 2 76 ++ le 4 oldest ++ le 4 newest ++ le 4 m ++ le 8 0
  if 32 < k then refuse s errParam
  else if n == 0 then okWith s (header 0)
  else if ring.isEmpty || first < oldest || newest < first then refuse s errNotFound
  else
    let l := ((ring.reverse.filter fun i => first ≤ i.index).take (min n 53)).map fun i => i.entries.getD k []
    okWith s (header l.length ++ l.flatten)

/-- PROFILE_READ (R318). -/
def cmdProfileRead : Command where
  op := 0x0503
  life := .notBlank
  len := exactly 8
  rsv := [(1, 1)]
  body := profileReadBody

def execProfileRead (h : Hdr) (pl : Bytes) (s : State) : Out := hostCmd cmdProfileRead h pl s

/-- PROFILE_CONFIGURE (R108, R318): written and committed at once. -/
def cmdProfileConfigure : Command where
  op := 0x0504
  life := .n
  sc := true
  len := exactly 8
  body _ pl s :=
    if !objectInRange profileNotifyLayout pl then refuse s errParam
    else if !s.takesWrites paramPartition then refuse s errStorage
    else ok (commitObject { id := 0x0024, version := objectVersion s 0x0024, data := pl } s)

def execProfileConfigure (h : Hdr) (pl : Bytes) (s : State) : Out := hostCmd cmdProfileConfigure h pl s

/-- DEMAND_READ (R318). -/
def cmdDemandRead : Command where
  op := 0x0505
  life := .notBlank
  len := exactly 1
  body _ pl s :=
    let k := fld pl 0 1
    if 32 < k then refuse s errParam
    else
      let e := (energies s (·.base)).getD k (0, 0)
      let d := s.intervals.last.getD k {}
      okWith s (le 4 s.intervals.index ++ le 4 0 ++ le 8 e.1 ++ le 8 e.2 ++ le 8 d.imp ++ le 8 d.exp ++ le 8 d.endTime)

def execDemandRead (h : Hdr) (pl : Bytes) (s : State) : Out := hostCmd cmdDemandRead h pl s

/-- LOGBOOK_READ (R119, R318). -/
def cmdLogbookRead : Command where
  op := 0x0506
  life := .notBlank
  len := exactly 8
  rsv := [(5, 3)]
  body _ pl s :=
    let first := fld pl 0 4
    let n := fld pl 4 1
    let used := s.legal.logbook.length
    if 31 < n then refuse s errParam
    else if n == 0 then okWith s (le 2 used ++ le 2 0)
    else if used ≤ first then refuse s errNotFound
    else
      let l := (s.legal.logbook.drop first).take n
      okWith s (le 2 used ++ le 1 l.length ++ le 1 0 ++ l.flatMap logEntryBytes)

def execLogbookRead (h : Hdr) (pl : Bytes) (s : State) : Out := hostCmd cmdLogbookRead h pl s

/-! ### Outages (R90, R91, R98) -/

/-- The tariff switches at a rising list of instants, by the index in force at each: instant, old and new index. -/
def switchesAt (index : Nat → Nat) : List Nat → Nat → List (Nat × Nat × Nat)
  | [], _ => []
  | t :: l, prev => if index t == prev then switchesAt index l prev else (t, prev, index t) :: switchesAt index l (index t)

/-- Puts an instant into a rising list. -/
def insertInstant (a : Nat) : List Nat → List Nat
  | [] => [a]
  | x :: l => if a < x then a :: x :: l else if a == x then x :: l else x :: insertInstant a l

/-- The instants of an outage at which the index can change: whole minutes, and the activations that fall in it (R88, R90). -/
def switchInstants (cut ret : Nat) (acts : List Nat) : List Nat :=
  let first := cut / 60000000 + 1
  let minutes := (List.range (ret / 60000000 + 1 - first)).map fun k => (first + k) * 60000000
  (acts.filter fun a => cut < a && a ≤ ret).foldl (fun l a => insertInstant a l) minutes

/-- The tariff index in force at an instant of an outage, where the calendars `acts` become ACTIVE in it (R84, R90). -/
def outageTariff (s : State) (acts : List Bytes) (t : Nat) : Nat :=
  match (acts.filter fun c => activateAt c ≤ t).getLast? with
  | some c => tariffAt c t
  | none => tariffNow s t

/-- A flag of R123 for every session whose closing readings have not been taken: what falls in an outage falls in all of them. -/
def flagSpanning (flag : Nat) (s : State) : State :=
  (boundCtxs s).foldl (fun a c =>
    if (a.ctx c).wk.opening.isSome then a.modHd c fun h => { h with flags := h.flags ||| flag } else a) s

/-- Power-down entries for the intervals that lie wholly within an outage, from a nominal start on (R90). -/
def powerDownEntries : Nat → Nat → Nat → State → State
  | 0, _, _, s => s
  | n + 1, start, last, s =>
    if last ≤ start then s
    else
      let iv := s.intervals
      let dup : Bool := match iv.dupUntil with | some t => start ≤ t | none => false
      let e := profileEntry iv.index start (0x4001 + if dup then 0x10 else 0) (List.replicate 6 none) none none
      let s1 := storeInterval iv.index (List.replicate 33 e) s
      let s2 : State := { s1 with intervals := { s1.intervals with index := iv.index + 1, latestStart := max iv.latestStart start } }
      powerDownEntries n (start + intervalUs s) last s2

/-- The combined outage entry (R90, R119) and NTF_POWER event 6 (R448). -/
def outageEntry (cut ret closed first count : Nat) (switches : List (Nat × Nat × Nat)) (acts : List Nat) (s : State) : State :=
  let detail := le 8 cut ++ le 8 ret ++ le 4 closed ++ le 4 first ++ le 4 count ++ le 2 switches.length ++ le 2 acts.length ++
    padTo 40 ((switches.take 4).flatMap fun w => le 8 w.1 ++ le 1 w.2.1 ++ le 1 w.2.2) ++ (acts.take 3).flatMap (le 4)
  let seq := if logbookFree s then s.legal.logbook.length else 0xFFFFFFFF
  ntfPower 6 (le 4 seq) (logbookNow 3 0xFF detail s)

/-- The return after an outage that began at `cut` (R90, R91, R98), as the first cycle after the restart begins. -/
def returnIntervals (cold : Bool) (cut lastStart : Nat) (s : State) : State :=
  let now := s.clk.cycleStart
  let iv := s.intervals
  if cold then
    let s1 := openInterval 3 (selectTariff (closeInterval 3 true s))
    outageEntry cut 0 iv.index 0 0 [] [] s1
  else
    let acts := s.cals.pending.filter fun c => activateAt c ≤ now
    let s0 : State :=
      if acts.isEmpty then s
      else flagSpanning 0x10 { s with cals := { active := acts.getLast?, pending := s.cals.pending.filter fun c => now < activateAt c } }
    let prev := s.met.lastTariff.getD s.met.tariff
    let back := now < lastStart
    let switches := if back then [] else switchesAt (outageTariff s acts) (switchInstants cut now (acts.map activateAt)) prev
    let calFlag := (if acts.isEmpty then 0 else 0x40) ||| (if switches.isEmpty then 0 else 0x20)
    let shifted := activeOffset s0 != activeOffset s
    let keep := !back && !iv.closed && now < intervalEnd s && !shifted
    if keep then
      let sub := if isSliding s0 && iv.subCycles != 0 then closeSub s0 else s0
      let s1 : State := { sub with intervals := { sub.intervals with flags := iv.flags ||| 3 ||| calFlag, window := [] } }
      outageEntry cut now iv.index 0 0 switches (acts.map calId) (openSub (selectTariff s1))
    else if back then
      let s1 := logbookNow 2 0xFF (le 8 cut ++ le 8 now ++ le 2 0xFFFF) (flagSpanning 4 s0)
      let s2 := closeInterval 0xB true { s1 with cals := s.cals }
      let s3 : State := { s2 with cals := s0.cals, intervals := { s2.intervals with
        dupUntil := some (max s2.intervals.latestStart (s2.intervals.dupUntil.getD 0)) } }
      outageEntry cut now iv.index 0 0 [] (acts.map calId) (openInterval (0xB ||| calFlag) (selectTariff s3))
    else
      let s1 : State := { closeInterval 3 true { s0 with cals := s.cals } with cals := s0.cals }
      let from_ := nominalStart s1 (intervalUs s1) (if iv.closed then cut + intervalUs s1 - 1 else intervalEnd s)
      let last := nominalStart s1 (intervalUs s1) now
      let first := s1.intervals.index
      let s2 := powerDownEntries ((now - cut) / max 1 (intervalUs s1) + 1) from_ last s1
      let s3 := openInterval (3 ||| calFlag) (selectTariff s2)
      outageEntry cut now iv.index (if s2.intervals.index == first then 0 else first) (s2.intervals.index - first) switches (acts.map calId) s3

end Sys2Proof.Machine
end

