-- ==== Sys2Proof/Machine/Credentials.lean ====
section
/-! DEFINITION. The credential store and its batches (R196 to R198, R319, R320) and Plug & Charge (R162, R194, R195). -/

namespace Sys2Proof.Machine

open Sys2Proof

/-! ### Reading -/

/-- An entry as 16 bytes, USED set (R196). -/
def credBytes (e : CredEntry) : Bytes := padTo 12 e.hash ++ le 4 (attrOf e.allow e.cls e.window e.template + 2 ^ 31)

/-- CRED_LOOKUP (R319): a lookup counts (R198). -/
def credLookupBody (_ : Call) (pl : Bytes) (s : State) : Ans :=
  let n := fld pl 0 1
  if n < 2 || 65 < n then refuse s errParam
  else
    let s1 := countLookup s
    match findCred s (credHash (pl.drop 1)) with
    | some e => okWith s1 (credBytes e)
    | none => refuse s1 errNotFound

/-- CRED_LOOKUP (R319). -/
def cmdCredLookup : Command where
  op := 0x0600
  life := .notBlank
  len pl := 2 ≤ pl.length && pl.length == 1 + fld pl 0 1
  body := credLookupBody

def execCredLookup (h : Hdr) (pl : Bytes) (s : State) : Out := hostCmd cmdCredLookup h pl s

/-- CRED_STATS (R198, R319). -/
def cmdCredStats : Command where
  op := 0x0604
  life := .notBlank
  len := exactly 0
  body _ _ s :=
    let n := s.creds.live.entries.length
    okWith s (le 4 s.creds.version ++ le 4 n ++ le 4 (min 65536 (min n (Config.stashEntries n))) ++ le 8 s.creds.lookups ++
      le 2 (sat 16 s.creds.chain) ++ le 2 0)

def execCredStats (h : Hdr) (pl : Bytes) (s : State) : Out := hostCmd cmdCredStats h pl s

/-! ### Batches -/

/-- How long a batch waits for its next DATA, in µs (R198). -/
def batchUs : Nat := 600000000

/-- CRED_UPDATE_BEGIN (R198). A batch begins on the live contents. -/
def credBeginBody (_ : Call) (pl : Bytes) (s : State) : Ans :=
  let n := fld pl 4 4
  if fld pl 0 4 != s.creds.version then refuse s errState
  else if 1048576 < n || 1 < fld pl 8 1 then refuse s errParam
  else if s.creds.batch.isSome && fld pl 8 1 == 0 then refuse s errBusy
  else
    let b : CredBatch := { size := n, staged := 0, data := s.creds.live, deadline := s.after batchUs }
    ok { s with creds := { s.creds with batch := some b } }

/-- CRED_UPDATE_BEGIN (R319). -/
def cmdCredUpdateBegin : Command where
  op := 0x0601
  life := .n
  sc := true
  len := exactly 12
  rsv := [(9, 3)]
  body := credBeginBody

def execCredUpdateBegin (h : Hdr) (pl : Bytes) (s : State) : Out := hostCmd cmdCredUpdateBegin h pl s

/-- The entry of a body (R196). -/
def credOf (body : Bytes) : CredEntry :=
  { hash := body.take 12, allow := fld body 12 4 % 2 == 1, cls := bits (fld body 12 4) 1 3, window := bits (fld body 12 4) 4 8,
    template := bits (fld body 12 4) 12 8 }

/-- Puts an entry in place of one with the same hash, or adds it. -/
def CredSet.insert (d : CredSet) (e : CredEntry) : CredSet := { d with entries := e :: d.entries.filter (·.hash != e.hash) }

/-- One change on the staged contents: the new contents, or the status of a change that fails (R198). Window and template 0
have fixed meanings (R196) and are no entries of the tables. -/
def stageChange (change : Bytes) (d : CredSet) : Except Nat CredSet :=
  let k := fld change 1 1
  let body := change.drop 4
  match fld change 0 1 with
  | 0 =>
    let e := credOf body
    if d.entries.all (·.hash != e.hash) && 33554432 ≤ d.entries.length then .error errCapacity else .ok (d.insert e)
  | 1 => .ok { d with entries := d.entries.filter (·.hash != body.take 12) }
  | 2 =>
    if k == 0 then .error errParam
    else .ok { d with windows := (k, fld body 0 8, fld body 8 8) :: d.windows.filter (·.1 != k) }
  | 3 =>
    if k == 0 then .error errParam
    else
      let t : CredTemplate := { iLimit := fld body 0 4, iGuar := fld body 4 4, timeLimit := fld body 8 4, quotaWh := fld body 12 4 }
      .ok { d with templates := (k, t) :: d.templates.filter (·.1 != k) }
  | _ => .error errParam

/-- The changes of a DATA in order, until one fails: the batch, the number staged and the status. -/
def stageChanges (b : CredBatch) (n : Nat) : List Bytes → CredBatch × Nat × Nat
  | [] => (b, n, stOk)
  | c :: l =>
    if b.size ≤ b.staged then (b, n, errParam)
    else if 45056 < Config.shadowPages (b.staged + 1) then (b, n, errCapacity)
    else match stageChange c b.data with
    | .error e => (b, n, e)
    | .ok d => stageChanges { b with data := d, staged := b.staged + 1 } (n + 1) l

/-- The changes of a payload. -/
def changesOf (pl : Bytes) : List Bytes := (List.range (fld pl 4 2)).map fun k => slice pl (8 + 20 * k) 20

/-- Reserved bits of a change: bytes 2 and 3, and bits [126:116] of an entry (R5, R196). -/
def changeReserved (c : Bytes) : Bool := zeroAt c 2 2 && (fld c 0 1 != 0 || bits (fld c 16 4) 20 11 == 0)

/-- CRED_UPDATE_DATA (R198, R320). -/
def credDataBody (_ : Call) (pl : Bytes) (s : State) : Ans :=
  let l := changesOf pl
  match s.creds.batch with
  | none => refuse s errState
  | some b =>
    if 203 < l.length || fld pl 0 4 != b.staged || !l.all changeReserved then refuse s errParam
    else
      let r := stageChanges b 0 l
      { state := { s with creds := { s.creds with batch := some { r.1 with deadline := s.after batchUs } } }, status := r.2.2,
        data := le 2 r.2.1 ++ le 2 0 }

/-- CRED_UPDATE_DATA (R319). -/
def cmdCredUpdateData : Command where
  op := 0x0602
  life := .n
  sc := true
  len pl := 8 ≤ pl.length && pl.length == 8 + 20 * fld pl 4 2
  rsv := [(6, 2)]
  body := credDataBody

def execCredUpdateData (h : Hdr) (pl : Bytes) (s : State) : Out := hostCmd cmdCredUpdateData h pl s

/-- CRED_UPDATE_COMMIT (R198): the live version switches in one step; the switch becomes durable later. -/
def credCommitBody (call : Call) (_ : Bytes) (s : State) : Ans :=
  let k := s.creds
  match k.batch with
  | none => refuse s errState
  | some b =>
    if b.staged != b.size then refuse s errState
    else if !s.takesWrites credPartition then refuse s errStorage
    else pending { s with creds := { k with
      live := b.data, version := (k.version + 1) % 2 ^ 32, batch := none, chain := Config.relocationChain b.size
      commits := k.commits ++ [(k.live, k.version, call.ref)] } }

/-- CRED_UPDATE_COMMIT (R319). -/
def cmdCredUpdateCommit : Command where
  op := 0x0603
  life := .n
  sc := true
  len := exactly 0
  body := credCommitBody

def execCredUpdateCommit (h : Hdr) (pl : Bytes) (s : State) : Out := hostCmd cmdCredUpdateCommit h pl s

/-- CRED_COMMIT_DURABLE (R320): NTF_CTX cause 12 with context 0xFF completes the oldest commit. -/
def execCredCommitDurable (s : State) : Out :=
  match s.creds.commits with
  | [] => .next s
  | (_, v, cmd) :: l =>
    .next (notifyFull 0xF001 0 0 ([0xFF, 0, 0, 12, 0xFF, 0, 0, 0] ++ padTo 8 (le 4 ((v + 1) % 2 ^ 32))) (some cmd) stOk
      { s with creds := { s.creds with commits := l } })

/-- CRED_BATCH_TIMEOUT (R198). -/
def execCredBatchTimeout (s : State) : Out :=
  .next (match s.creds.batch with
    | some b => if s.due b.deadline then { s with creds := { s.creds with batch := none } } else s
    | none => s)

/-- What a restart leaves of the store (R198): an open batch is discarded, and the lookup count starts again at a W, P or C. A
switch not yet durable at a P or C stands or not, as the free choice says. -/
def restartCreds (power : Bool) (s : State) : State :=
  let k := { s.creds with batch := none, lookups := 0 }
  match power, k.commits with
  | true, (d, v, _) :: _ =>
    let (n, s1) := s.choice
    if n % 2 == 0 then { s1 with creds := { k with commits := [] } }
    else { s1 with creds := { k with live := d, version := v, commits := [] } }
  | _, _ => { s with creds := { k with commits := [] } }

/-! ### Plug & Charge -/

/-- The normalised EMAID: letters uppercase, hyphens removed, behind type 0x03 (R191). -/
def normalEmaid (e : Bytes) : Bytes :=
  0x03 :: (e.filter (· != 0x2D)).map fun c => if 0x61 ≤ c.toNat && c.toNat ≤ 0x7A then c - 0x20 else c

/-- The roots held in PNC_ROOT: objects that are not empty. -/
def pncRoots (s : State) : List Bytes := ((List.range 16).map fun k => s.param (0x0520 + k)).filter fun d => d.any (· != 0)

/-- Every certificate verifies under the next one, and the last under a root (R194). -/
def signaturesOk (roots : List Bytes) : List PncCert → Bool
  | [] => false
  | [a] => roots.any fun r => Config.certVerifies a.signedPart a.signature (Config.certKey r)
  | a :: b :: l => Config.certVerifies a.signedPart a.signature b.publicKey && signaturesOk roots (b :: l)

/-- The checks of R194 but for OCSP: signatures, validity at present module time, at most 2 sub-CA certificates. -/
def chainOk (s : State) (c : PncChain) : Bool :=
  s.time.valid && c.certs.length ≤ 3 && signaturesOk (pncRoots s) c.certs &&
    c.certs.all fun x => x.notBefore ≤ s.time.now && s.time.now ≤ x.notAfter

/-- An OCSP response for a certificate, produced at most OCSP_MAX_AGE_H ago (R194). -/
def ocspFresh (s : State) (x : PncCert) (r : Bytes) : Bool :=
  Config.ocspNames r x.der && Config.ocspProduced r ≤ s.time.now &&
    s.time.now ≤ Config.ocspProduced r + 3600000000 * s.field 0x0025 48 16

/-- An OCSP response serves a certificate: status good, correctly signed, and not too old (R194). -/
def ocspServes (s : State) (x : PncCert) (r : Bytes) : Bool := ocspFresh s x r && Config.ocspGood r x.der

/-- Positions in a chain whose response is missing or too old: the host is asked for them (R194). -/
def ocspMissing (s : State) (c : PncChain) (rs : List Bytes) : List Nat :=
  (List.range c.certs.length).filter fun k => match c.certs[k]? with | some x => !rs.any (ocspFresh s x) | none => false

/-- Every certificate whose response is neither missing nor too old has one that serves (R194). -/
def ocspGood (s : State) (c : PncChain) (rs : List Bytes) : Bool :=
  c.certs.all fun x => !rs.any (ocspFresh s x) || rs.any (ocspServes s x)

/-- The responses cached with a chain (R162). -/
def cachedOcsp (s : State) (c : PncChain) : List Bytes := ((s.creds.cache.find? (·.1 == c)).map (·.2)).getD []

/-- Caches a chain with responses, the most recently used first, at most 8 (R162). -/
def cacheChain (c : PncChain) (rs : List Bytes) (s : State) : State :=
  { s with creds := { s.creds with cache := ((c, rs) :: s.creds.cache.filter (·.1 != c)).take 8 } }

/-- The decision after an accepted chain (R195). An ALLOW entry whose window is not valid is taken as a deny: the manual names
no decision for it. -/
def decideEmaid (c : Nat) (chain : PncChain) (cmd : Option CmdRef) (s : State) : State :=
  let hash := credHash (normalEmaid chain.emaid)
  let s1 := countLookup s
  let allow (cls window template : Nat) : State :=
    let t := templateOf s1 template
    allowCtxFor c hash 1 cls (attrOf true cls window template) t.iLimit t.iGuar t.timeLimit (1000 * t.quotaWh) none cmd s1
  match findCred s hash with
  | none => allow (defClass s) 0 (defTemplate s)
  | some e => if e.allow && windowValid s e.window then allow e.cls e.window e.template else denyCtxFor c none cmd s1

/-- NTF_AUTH_REQUEST with reason OCSP (R194, R295). -/
def askOcsp (c : Nat) (chain : PncChain) (missing : List Nat) (s : State) : State :=
  let one (k : Nat) : Bytes := match chain.certs[k]? with
    | some x => le 1 k ++ [0] ++ le 2 x.der.length ++ x.der
    | none => []
  ntfAuthRequest c 2 5 (normalEmaid chain.emaid) (le 1 missing.length ++ le 3 0 ++ missing.flatMap one) s

/-- PNC_CHAIN_RECEIVED (R194): in a V2G session that offers Plug & Charge, for a context that waits for a decision. -/
def execPncChainReceived (bay : Nat) (chain : PncChain) (s : State) : Out :=
  atLiveBay bay s fun s =>
    let y := s.bay bay
    match y.ctx with
    | none => s
    | some c =>
      if y.link.link != 3 || bits y.link.config 3 1 == 0 || (s.ctx c).hd.state != .reserved then s
      else
        let rs := cachedOcsp s chain
        if !chainOk s chain || !ocspGood s chain rs then denyCtx c none s
        else
        let missing := ocspMissing s chain rs
        let s1 := cacheChain chain rs s
        if missing.isEmpty then decideEmaid c chain none s1
        else askOcsp c chain missing (s1.modWk c fun w => { w with pnc := some { chain := chain } })

/-- The responses of PNC_VERIFY, none where the lengths do not fit. -/
def ocspResponses : Nat → Bytes → Option (List Bytes)
  | 0, pl => if pl.isEmpty then some [] else none
  | n + 1, pl =>
    let k := fld pl 0 2
    if pl.length < 2 + k then none else (ocspResponses n (pl.drop (2 + k))).map (slice pl 2 k :: ·)

/-- PNC_VERIFY (R194, R319, R320): the chain is verified again with the responses; a chain that fails is a deny. -/
def pncVerifyBody (call : Call) (pl : Bytes) (s : State) : Ans :=
  withCtx pl s fun c x =>
    match x.wk.pnc with
    | none => refuse s errState
    | some w =>
      let rs := ((ocspResponses (fld pl 1 1) (pl.drop 4)).getD []) ++ cachedOcsp s w.chain
      let s1 := cacheChain w.chain rs s
      pending (if chainOk s w.chain && ocspGood s w.chain rs && (ocspMissing s w.chain rs).isEmpty then decideEmaid c w.chain (some call.ref) s1
        else denyCtxFor c none (some call.ref) s1)

/-- PNC_VERIFY (R319). -/
def cmdPncVerify : Command where
  op := 0x0605
  life := .o
  sc := true
  len pl := 4 ≤ pl.length && (ocspResponses (fld pl 1 1) (pl.drop 4)).isSome
  rsv := [(2, 2)]
  body := pncVerifyBody

def execPncVerify (h : Hdr) (pl : Bytes) (s : State) : Out := hostCmd cmdPncVerify h pl s

/-- After a W, P or C the host is asked again for every RESERVED context whose wait was ended (R192). -/
def askAgain (s : State) : State :=
  (List.range 256).foldl (fun a c =>
    let x := a.ctx c
    if x.hd.state != .reserved then a
    else match x.wk.hostWait, x.wk.pnc with
    | some w, _ => askHost c w.reason w.origin w.ident a
    | none, some p => askOcsp c p.chain (ocspMissing a p.chain (cachedOcsp a p.chain)) a
    | none, none => a) s

end Sys2Proof.Machine
end

