-- ==== Sys2Proof/Machine/Links.lean ====
section
/-! DEFINITION. Links over power wiring (R158 to R180) and the site link's commands (R326, R330): link status, squall blanking,
SLAC, the ISO 15118 session with its vehicle, and the mains network. -/

namespace Sys2Proof.Machine

open Sys2Proof

/-! ### Commands -/

/-- PLC_CONFIGURE (R170, R326). -/
def cmdPlcConfigure : Command where
  op := 0x0E00
  life := .n
  sc := true
  len := exactly 8
  body c pl s := stageObject c 0x0501 pl s

def execPlcConfigure (h : Hdr) (pl : Bytes) (s : State) : Out := hostCmd cmdPlcConfigure h pl s

/-- V2G_CONFIGURE (R164, R326). -/
def cmdV2gConfigure : Command where
  op := 0x0E03
  life := .n
  sc := true
  len := exactly 4
  body c pl s := stageObject c 0x0500 pl s

def execV2gConfigure (h : Hdr) (pl : Bytes) (s : State) : Out := hostCmd cmdV2gConfigure h pl s

/-- SITE_CONFIGURE (R326, R330). -/
def cmdSiteConfigure : Command where
  op := 0x1000
  worlds := [1]
  life := .n
  sc := true
  len := exactly 32
  body c pl s := stageObject c 0x0510 pl s

def execSiteConfigure (h : Hdr) (pl : Bytes) (s : State) : Out := hostCmd cmdSiteConfigure h pl s

/-- One record of PLC_GET_LINK (R179); a stopped instance is carried by no cluster. -/
def linkRecord (s : State) (i : Nat) : Bytes :=
  let cl := (s.cont.cluster.getD i none).getD 0xF
  if i == 32 then
    let m := s.mains
    le 20 (pack [(0, 32), (8, m.link), (12, cl), (16, (m.neighbours.filter fun n => n.map.isSome).length),
      (64, m.framesOk % 2 ^ 32), (96, m.framesBad % 2 ^ 32), (128, m.erasures % 2 ^ 32)])
  else
    let l := (s.bay i).link
    le 20 (pack [(0, i), (8, l.link), (12, cl), (32, sat 16 l.atten), (64, l.framesOk % 2 ^ 32), (96, l.framesBad % 2 ^ 32),
      (128, l.erasures % 2 ^ 32)])

/-- PLC_GET_LINK (R179, R326). -/
def cmdPlcGetLink : Command where
  op := 0x0E01
  life := .notBlank
  len := exactly 8
  rsv := [(5, 3)]
  body _ pl s :=
    let mask := fld pl 0 5
    if 2 ^ 33 ≤ mask then refuse s errParam
    else
      let l := (List.range 33).filter fun i => testBit mask i
      okWith s (le 1 l.length ++ le 3 0 ++ l.flatMap (linkRecord s))

def execPlcGetLink (h : Hdr) (pl : Bytes) (s : State) : Out := hostCmd cmdPlcGetLink h pl s

/-- The frames that count for the error rate (R175): the last 64, or those of the last 2 s when fewer were sent. -/
def ferFrames (s : State) (n : Neighbour) : List Bool :=
  if 64 ≤ n.frames.length then (n.frames.take 64).map (·.2)
  else (n.frames.filter fun f => s.time.osc < f.1 + 2000000).map (·.2)

/-- Frame error rate to a neighbour in 0.1 % (R175, R180). -/
def ferOf (s : State) (n : Neighbour) : Nat :=
  let l := ferFrames s n
  quotN (1000 * (l.filter id).length) (max 1 l.length)

/-- The error rate exceeds FER_LIMIT (R175), compared without rounding. -/
def ferExceeds (s : State) (n : Neighbour) : Bool :=
  let l := ferFrames s n
  s.field 0x0501 16 8 * l.length < 1000 * (l.filter id).length

/-- Mean bits per enabled carrier and slot of a tone map, in 0.01 (R180); 0 before the first map. -/
def meanBits (s : State) (m : List (List Nat)) : Nat := quotN (100 * (m.map List.sum).sum) (max 1 (m.length * carriers (s.param 0x0503)))

/-- One entry of PLC_TONEMAP_INFO (R180). -/
def neighbourEntry (s : State) (n : Neighbour) : Bytes :=
  let age := match n.map with | some m => s.mains.periods - m.1 | none => 0
  le 8 n.serial ++ le 2 (meanBits s n.txMap) ++ le 2 (meanBits s n.rxMap) ++ le 2 (ferOf s n) ++ le 2 (pattern 16 n.offset) ++ le 4 age ++
    le 1 (bit (onRobo s n)) ++ le 11 0

/-- PLC_TONEMAP_INFO (R180, R326). -/
def cmdPlcTonemapInfo : Command where
  op := 0x0E02
  life := .notBlank
  len := exactly 4
  rsv := [(2, 2)]
  body _ pl s :=
    let all := s.mains.neighbours
    let l := (all.drop (fld pl 0 1)).take (fld pl 1 1)
    okWith s (le 1 (sat 8 all.length) ++ le 3 0 ++ l.flatMap (neighbourEntry s))

def execPlcTonemapInfo (h : Hdr) (pl : Bytes) (s : State) : Out := hostCmd cmdPlcTonemapInfo h pl s

/-- SITE_GET_PEERS (R326, R327). -/
def cmdSiteGetPeers : Command where
  op := 0x1001
  life := .notBlank
  len := exactly 0
  body _ _ s :=
    okWith s (le 1 (sat 8 s.sitePeers.length) ++ le 3 0 ++ s.sitePeers.flatMap fun p =>
      le 8 p.serial ++ le 1 p.role ++ le 1 p.links ++ le 2 0 ++ le 4 ((s.time.osc - p.lastAt) / 1000))

def execSiteGetPeers (h : Hdr) (pl : Bytes) (s : State) : Out := hostCmd cmdSiteGetPeers h pl s

/-! ### Squall blanking -/

/-- The receiver while it goes through a frame: squares of the last 4 096 unblanked samples, and the last samples, newest
first, whose blanking a hit within the next 8 may still decide. -/
structure Squall where
  rms  : List Nat
  held : List (Nat × Bool) := []
  deriving DecidableEq, Repr

/-- A sample's magnitude exceeds K times the running RMS (R167); without samples yet nothing is blanked. -/
def squallHit (k sq : Nat) (rms : List Nat) : Bool := k * k * rms.sum < sq * rms.length

/-- A sample that no hit within 8 samples blanks enters the running RMS. -/
def squallSettle (q : Squall) : Squall :=
  match q.held[8]? with
  | some x => if q.held.any (·.2) then { q with held := q.held.take 16 } else { rms := (x.1 :: q.rms).take 4096, held := q.held.take 16 }
  | none => q

/-- Goes through the samples, the oldest first: the state behind them and which samples are hits. -/
def squallScan (k : Nat) : Squall → List Int → Squall × List Bool
  | q, [] => (q, [])
  | q, x :: xs =>
    let sq := x.natAbs * x.natAbs
    let hit := squallHit k sq q.rms
    let r := squallScan k (squallSettle { q with held := (sq, hit) :: q.held }) xs
    (r.1, hit :: r.2)

/-- The end of a frame: its last 8 samples that no hit blanks enter the running RMS, the oldest first. -/
def squallFlush : Nat → Squall → Squall
  | 0, q => q
  | j + 1, q =>
    match q.held[j]? with
    | some x => squallFlush j (if (q.held.take (j + 9)).any (·.2) then q else { q with rms := (x.1 :: q.rms).take 4096 })
    | none => squallFlush j q

/-- The samples set to 0: every hit with the 8 before and the 8 after it. -/
def blankMask (hits : List Bool) : List Bool :=
  (List.range hits.length).map fun i => ((hits.drop (i - 8)).take (if i < 8 then i + 9 else 17)).any id

/-- Blanked samples in each FFT window of 3 072 samples. -/
def windowCounts : Nat → List Bool → List Nat
  | 0, _ => []
  | n + 1, l => ((l.take 3072).filter id).length :: windowCounts n (l.drop 3072)

/-- What a frame leaves: the running RMS, blanked samples and erased symbols (R167, R168). DESIGN CHOICE (log entry 168): frames lie
further apart than 8 samples, so no impulse of one blanks samples of another. -/
def squall (s : State) (inst : Nat) (rms : List Nat) (xs : List Int) : List Nat × Nat × Nat :=
  let mains := inst == 32
  let on := s.field 0x0502 (if mains then 1 else 0) 1 == 1
  let k := s.field 0x0502 (if mains then 12 else 8) 4
  if !on then ((xs.reverse.map (fun x => x.natAbs * x.natAbs) ++ rms).take 4096, 0, 0)
  else
    let r := squallScan k { rms := rms } xs
    let mask := blankMask r.2
    ((squallFlush 8 r.1).rms, (mask.filter id).length, ((windowCounts (xs.length / 3072 + 1) mask).filter (921 < ·)).length)

/-! ### The mains network -/

/-- Changes the mains network. -/
def State.modMains (s : State) (f : Mains → Mains) : State := { s with mains := f s.mains }

/-- Changes the neighbour of a serial. -/
def State.modNeighbour (s : State) (serial : Nat) (f : Neighbour → Neighbour) : State :=
  s.modMains fun m => { m with neighbours := m.neighbours.map fun n => if n.serial == serial then f n else n }

/-- NTF_BAY event 11 of an instance (R291). -/
def ntfLink (inst reason serial : Nat) (s : State) : State :=
  ntfBay (if inst < 32 then inst else 0xFF) 11 (le 1 inst ++ le 1 reason ++ le 2 0 ++ le 8 serial) s

/-- A station heard on the mains network: a new one is a neighbour, the 65th in ROBO only (R174). -/
def hearStation (serial : Nat) (s : State) : State :=
  let m := s.mains
  if m.neighbours.any (·.serial == serial) then s.modNeighbour serial fun n => { n with lastPeriod := m.periods }
  else
    let full := 64 ≤ (m.neighbours.filter (·.mapped)).length
    let n : Neighbour := { serial := serial, mapped := !full, lastPeriod := m.periods }
    let s1 := s.modMains fun m => { m with neighbours := m.neighbours ++ [n] }
    if full then ntfLink 32 5 serial s1 else s1

/-- The MAC retransmissions of a selective acknowledgement, the oldest frame first (R169): a frame in error goes out again, at most 3
times. The first number counts those of the frame under way before and after. -/
def retransmits : Nat → List Bool → Nat × Nat
  | r, [] => (r, 0)
  | r, bad :: l =>
    if bad && r < 3 then let x := retransmits (r + 1) l; (x.1, x.2 + 1) else retransmits 0 l

/-- A neighbour is heard, and the frames sent to it that it acknowledges count for the error rate, which may hold it on ROBO at once
(R175); those in error are retransmitted. -/
def neighbourFrame (f : FrameSource) (s : State) : State :=
  let s1 := hearStation f.serial s
  let before := ((s1.mains.neighbours.find? (·.serial == f.serial)).map (·.retries)).getD 0
  let r := retransmits before f.acks.reverse
  let s2 := count 0x24 32 r.2 (s1.modNeighbour f.serial fun n =>
    { n with frames := (f.acks.map (s.time.osc, ·) ++ n.frames).take 64, retries := r.1 })
  s2.modNeighbour f.serial fun n => if ferExceeds s2 n then { n with robo := true } else n

/-- GREEN_PHY_FRAME (R167, R169): delivered, or dropped after a failed check. -/
def execGreenPhyFrame (inst : Nat) (samples : List Int) (decoded : Bool) (station : FrameSource) (s : State) : Out :=
  atUnit "modem instance" 33 inst s fun s =>
    if !outputsDriven s || !instanceRuns s inst || (inst == 32 && s.mains.link == 0) then s
    else
      let r := squall s inst (if inst == 32 then s.mains.rms else (s.bay inst).link.rms) samples
      let s1 := count 0x23 inst r.2.2 (count 0x22 inst r.2.1 (count (if decoded then 0x20 else 0x21) inst 1 s))
      let ok := bit decoded
      let acks := if decoded then station.acks else []
      if inst == 32 then
        neighbourFrame { station with acks := acks } (s1.modMains fun m => { m with
          rms := r.1, framesOk := m.framesOk + ok, framesBad := m.framesBad + (1 - ok), erasures := m.erasures + r.2.2 })
      else
        let again := retransmits (s.bay inst).link.retries acks.reverse
        (count 0x24 inst again.2 s1).modBay inst fun y => { y with link := { y.link with
          rms := r.1, framesOk := y.link.framesOk + ok, framesBad := y.link.framesBad + (1 - ok), erasures := y.link.erasures + r.2.2
          retries := again.1 } }

/-- The difference of two angles, from −2 048 to 2 047 au. -/
def angleDiff (a b : Int) : Int := (a - b + 2048) % 4096 - 2048

/-- An offset lies within 16 au of a phase of the same supply, angles taken modulo 4 096 (R178). -/
def sameSupply (au : Int) : Bool := [(0 : Int), 1365, 2731].any fun p => (angleDiff au p).natAbs ≤ 16

/-- The mean of angles round the circle, the first of them as the place to count from. -/
def meanAngle (l : List Int) : Int :=
  let a := l.headD 0
  angleDiff (a + quot ((l.map (angleDiff · a)).foldl (· + ·) 0) (max 1 l.length)) 0

/-- A CCo's beacon: the module is a member, and the offset is averaged over 16 periods (R178). -/
def ccoBeacon (b : HeardBeacon) (s : State) : State :=
  let offsets := (b.offsetAu :: s.mains.offsets).take 16
  let mean := meanAngle offsets
  let full := offsets.length == 16
  let out := full && !sameSupply mean
  let s1 := s.modMains fun m => { m with
    link := 2, ccoHeard := m.periods, ccoSerial := b.station, offsets := offsets, outOfTol := if full then out else m.outOfTol }
  let s2 := if full then s1.modNeighbour b.station fun n => { n with offset := mean } else s1
  if out && !s.mains.outOfTol then ntfLink 32 4 b.station s2 else s2

/-- Tone maps whose period has come are in force (R175). -/
def mapsInForce (s : State) : State :=
  s.modMains fun m => { m with neighbours := m.neighbours.map fun n =>
    match n.pending with
    | some (tx, rx, p) =>
      if p ≤ m.periods then
        { n with txMap := tx, rxMap := rx, map := some (m.periods, s.time.osc), robo := false, pending := none }
      else n
    | none => n }

/-- A beacon period of the mains network begins: maps named for it come into force; a beacon heard in the one that ends is taken
(R175, R178). -/
def mainsBeacon (heard : Option HeardBeacon) (s : State) : State :=
  if !instanceRuns s 32 || s.mains.link == 0 then s
  else
    let s1 := mapsInForce (s.modMains fun m => { m with periods := m.periods + 1 })
    match heard with
    | none => s1
    | some b =>
      let s2 := hearStation b.station s1
      if b.cco && s.mains.link != 3 then ccoBeacon b s2 else s2

/-- BEACON (R177, R178): at angle 0 of a cycle with an even count a beacon period starts, once, on every bay, whose CCo the instance
is, and on the mains network. -/
def execBeacon (heard : Option HeardBeacon) (s : State) : Out :=
  .next (if !outputsDriven s || s.clk.cycle.toNat % 2 != 0 || s.clk.angle != 0 || s.mains.beaconCycle == some s.clk.cycle.toNat then s
    else
      let s1 := s.modMains fun m => { m with beaconCycle := some s.clk.cycle.toNat }
      mainsBeacon heard ((List.range 32).foldl (fun a b =>
        if instanceRuns a b then a.modBay b fun y => { y with link := { y.link with beacons := y.link.beacons + 1 } } else a) s1))

/-- CCO_ELECTION (R178): no beacon for 10 periods; the lowest serial with CCO_OK 1 is the CCo. -/
def execCcoElection (lowerSerialSeen : Bool) (s : State) : Out :=
  .next (if !outputsDriven s || !instanceRuns s 32 || s.mains.link == 0 || s.mains.link == 3 ||
        s.mains.periods < s.mains.ccoHeard + 10 || (linkKey s 3).isNone then s
    else if s.field 0x0501 3 1 == 1 && !lowerSerialSeen then
      s.modMains fun m => { m with link := 3, ccoSerial := serialNum, offsets := [], outOfTol := false }
    else s.modMains fun m => { m with link := 1, offsets := [], outOfTol := false, ccoHeard := m.periods })

/-- Bits per symbol that a tone map may assign to a carrier (R174). -/
def bitSteps : List Nat := [0, 1, 2, 3, 4, 6, 8, 10]

/-- A tone map over the enabled carriers: 4 slots of 1 155 carriers; one that TONE_MASK takes out carries nothing (R171, R174). -/
def maskedMap (s : State) (f : Nat → Nat → Nat) : List (List Nat) :=
  let mask := num (s.param 0x0503)
  (List.range 4).map fun k => (List.range 1155).map fun c => if testBit mask c then f k c else 0

/-- The receive map that the measured SNR gives, and the transmit map as the neighbour sent it (R174). -/
def soundedMaps (s : State) (x : Sounding) : List (List Nat) × List (List Nat) :=
  (maskedMap s fun k c => (x.txMap.getD k []).getD c 0,
   maskedMap s fun k c => bitSteps.getD (Config.snrStep ((x.snr.getD k []).getD c 0)).val 0)

/-- A refresh of a neighbour's map is due (R175). -/
def refreshDue (s : State) (n : Neighbour) : Bool :=
  match n.map with
  | some m => m.2 + 1000000 * s.field 0x0501 8 8 ≤ s.time.osc || ferExceeds s n
  | none => true

/-- TONE_MAP_REFRESH (R175): a sounding gives a new map, in force at least one period later; the third failure in a row leaves
the neighbour on ROBO. -/
def execToneMapRefresh (station : Nat) (sounding : Option Sounding) (s : State) : Out :=
  .next (match s.mains.neighbours.find? (·.serial == station) with
    | none => s
    | some n =>
      if !outputsDriven s || !instanceRuns s 32 || !extended s || !n.mapped || !refreshDue s n then s
      else match sounding with
        | some x =>
          let m := soundedMaps s x
          s.modNeighbour station fun n => { n with fails := 0, pending := some (m.1, m.2, max x.period (s.mains.periods + 1)) }
        | none =>
          if n.fails + 1 < 3 then s.modNeighbour station fun n => { n with fails := n.fails + 1 }
          else
            let s1 := s.modNeighbour station fun n => { n with fails := 0, robo := true }
            ntfLink 32 3 station (record 0x0801 (source 4 32) 1 (le 8 station ++ le 1 1) s1))

/-- NEIGHBOUR_LOST (R176): nothing heard for 25 periods. -/
def execNeighbourLost (station : Nat) (s : State) : Out :=
  .next (match s.mains.neighbours.find? (·.serial == station) with
    | none => s
    | some n =>
      if !outputsDriven s || s.mains.periods < n.lastPeriod + 25 then s
      else
        record 0x0801 (source 4 32) 1 (le 8 station ++ le 1 0)
          (s.modMains fun m => { m with neighbours := m.neighbours.filter (·.serial != station) }))

/-! ### The vehicle link -/

/-- Changes the vehicle link of a bay. -/
def State.modLink (s : State) (b : Nat) (f : BayLink → BayLink) : State := s.modBay b fun y => { y with link := f y.link }

/-- The V2G session of a bay ends; the SLAC match stays unless the link is lost (R160, R165). -/
def endV2g (b link : Nat) (s : State) : State :=
  markDirty (s.modLink b fun l => { l with link := link, part := 0, tls := false, bpt := false, reqMa := 0, reqMw := 0, told := none })

/-- A pause that the vehicle asks for (R182): SUSPENDED_EV, a queued close removed, a closed contactor opened. -/
def pauseByVehicle (b : Nat) (s : State) : State :=
  let y := s.bay b
  let s1 := match y.ctx with
    | some c =>
      let st := (s.ctx c).hd.state
      if st == .energising || st == .charging then moveCtx c .suspendedEv 1 [] errState s else s
    | none => s
  if y.state == .closing then openAtOnce b 1 s1 else if y.state == .energised then normalOpen b 1 s1 else s1

/-- A lost vehicle link (R169, R266). The manual ends the V2G session and lets the context run on; a DC bay, which takes its
setpoints from the session, is treated as paused by the vehicle. -/
def loseLink (b reason : Nat) (s : State) : State :=
  let s1 := ntfLink b reason 0 (endV2g b 4 s)
  if s.isDc b then pauseByVehicle b s1 else s1

/-- VEHICLE_LINK_LOST (R169). -/
def execVehicleLinkLost (bay : Nat) (s : State) : Out :=
  atLiveBay bay s fun s =>
    let l := (s.bay bay).link.link
    if l == 0 || l == 4 then s else loseLink bay 2 s

/-- The attenuation of each carrier group, averaged over all received sounds (R163). -/
def attenProfile (sounds : List (List Nat)) : List Nat :=
  (List.range (sounds.headD []).length).map fun g => quotN (sounds.map (·.getD g 0)).sum (max 1 sounds.length)

/-- SLAC_PARM_REQ (R163): answered on a plugged bay in OCCUPIED or READY without a match, with a new NMK and the profile of the sounds
that follow; the vehicle-link settings of now apply to the session (R164). -/
def execSlacParmReq (bay : Nat) (sounds : List (List Nat)) (s : State) : Out :=
  atLiveBay bay s fun s =>
    let y := s.bay bay
    let cp := reportedCp y.pilot
    let plugged := cp == .b || cp == .c || cp == .d
    if !plugged || !(y.state == .occupied || y.state == .ready) || y.link.link == 2 || y.link.link == 3 || !instanceRuns s bay then s
    else
      let s1 : State := { s with draws := s.draws + 1 }
      let p := attenProfile sounds
      s1.modLink bay fun l => { l with
        link := 1, nmk := s.draws, profile := p, atten := quotN p.sum (max 1 p.length), config := num (s.param 0x0500), part := 0 }

/-- SLAC_TIMEOUT (R163): no match; the bay goes on in basic charging. -/
def execSlacTimeout (bay : Nat) (s : State) : Out :=
  atLiveBay bay s fun s => if (s.bay bay).link.link == 1 then ntfLink bay 1 0 (s.modLink bay fun l => { l with link := 0 }) else s

/-! ### ISO 15118 messages -/

/-- A setting of V2G_CONFIG as the bay's session took it (R164). -/
def v2gSetting (s : State) (b k : Nat) : Bool := testBit (s.bay b).link.config k

/-- The TYPE of the SECC key that a curve needs (R334); Ed448 is not supported (R162). -/
def curveType : TlsCurve → Option Nat
  | .p256 => some 3
  | .p384 => some 4
  | .p521 => some 7
  | .ed448 => none

/-- The SECC key of the session works for TLS on a curve (R162, R164, R341). -/
def seccUsable (s : State) (b : Nat) (c : TlsCurve) : Bool :=
  match curveType c with
  | some t => functionKeyUsable s (bits (s.bay b).link.config 16 16) [t] 2 .controlEngine 1
  | none => false

/-- The SECC key of the session is one that no handshake may use: the refused use is recorded (R341). -/
def refuseSecc (b : Nat) (s : State) : State :=
  let n := bits (s.bay b).link.config 16 16
  askKey n [3, 4, 7] 2 (presented s n .controlEngine 1) s

/-- The TLS handshake (R162): it stands on an offered curve of the SECC key. Without one it is refused and reported (R160). -/
def onTlsHandshake (b : Nat) (curves : List TlsCurve) (s : State) : State :=
  if curves.any (seccUsable s b) then s.modLink b fun l => { l with tls := true }
  else ntfLink b 0 0 ((refuseSecc b s).modLink b fun l => { l with tls := false })

/-- supportedAppProtocol (R160): ISO 15118-20 on TLS, else ISO 15118-2, on TLS where TLS_REQ asks for it. -/
def onAppProtocol (b : Nat) (iso2 iso20 : Bool) (s : State) : State :=
  let l := (s.bay b).link
  let part : Nat :=
    if iso20 && v2gSetting s b 1 && l.tls then 20
    else if iso2 && v2gSetting s b 0 && (l.tls || !v2gSetting s b 5) then 2
    else 0
  if part == 0 then ntfLink b 0 0 (endV2g b 2 s)
  else markDirty (s.modLink b fun l => { l with link := 3, part := part, told := some (s.bay b).pilot.offered })

/-- Session set-up (R165): the SessionID of the bound context resumes it; any other, or one of zeros, gets a new one. -/
def onSessionSetup (b : Nat) (sid : Bytes) (s : State) : State :=
  match (s.bay b).ctx with
  | none => s
  | some c =>
    if sid.any (· != 0) && (s.ctx c).wk.sessionId == sid then s
    else
      let r := s.random 8
      r.2.modWk c fun w => { w with sessionId := r.1 }

/-- External identification (R191, R192): an identifier presented for a context that waits for a decision. -/
def onEim (b : Nat) (ident : Option Bytes) (s : State) : State :=
  match (s.bay b).ctx, ident with
  | some c, some i =>
    let x := s.ctx c
    if v2gSetting s b 2 && x.hd.state == .reserved && x.wk.hostWait.isNone && x.wk.pnc.isNone then (decide c 5 i s).1 else s
  | _, _ => s

/-- The SETPOINT of a DC session (R152), sent with the change. -/
def setConverter (b mode mv : Nat) (ma : Int) (mw : Nat) (s : State) : State :=
  sendSetpoint b (s.modConv b fun v => { v with setMode := mode, setMv := mv, setMa := ma, setMw := mw })

/-- A DC bay whose contactor is commanded takes setpoints from the session. -/
def dcSession (s : State) (b : Nat) : Bool := s.isDc b && (s.bay b).coil.on && (s.bay b).coil.dcOpenAt.isNone

/-- The current of cable check and pre-charge in mA: the manual's example uses 2 A. -/
def checkMa : Int := 2000

/-- The power of the grant of the bay's context in mW. -/
def sessionMw (s : State) (b : Nat) : Nat :=
  match (s.bay b).ctx with | some c => grantMw s b (s.ctx c) (s.ctx c).hd.iGrant | none => 0

/-- Energy transfer (R155): CHARGE, or EXPORT where the session is bidirectional and the converter can; the current lies within
the request, the capability and the grant. -/
def onCurrentDemand (b mv : Nat) (ma : Int) (s : State) : State :=
  let v := (s.bay b).conv
  let mw := sessionMw s b
  let lim := min mv v.capMv
  let top := min v.capMa (1000 * mw / max 1 lim)
  let export_ := ma < 0
  let allowed := !export_ || ((s.bay b).link.bpt && v.capExport)
  let want : Int := if allowed then ma else 0
  let size := min want.natAbs top
  setConverter b (if export_ && allowed then 4 else 3) lim (if want < 0 then -(size : Int) else (size : Int)) mw
    (s.modConv b fun w => { w with wantMa := want })

/-- A message of the vehicle in its session. -/
def onMessage (b : Nat) (m : V2gMessage) (s : State) : State :=
  match m with
  | .slacMatch => s.modLink b fun l => { l with link := 2 }
  | .tlsHandshake curves => onTlsHandshake b curves s
  | .appProtocol iso2 iso20 => onAppProtocol b iso2 iso20 s
  | .sessionSetup sid => onSessionSetup b sid s
  | .unsupported => ntfLink b 0 0 s
  | .authoriseEim ident => onEim b ident s
  | .chargeParameters maxMa maxMw bpt =>
    let l := (s.bay b).link
    markDirty (s.modLink b fun l' => { l' with reqMa := maxMa, reqMw := maxMw, bpt := bpt && l.part == 20 && v2gSetting s b 4 })
  | .cableCheck mv => if dcSession s b then setConverter b 1 mv checkMa (sessionMw s b) s else s
  | .preCharge mv => if dcSession s b then setConverter b 2 mv checkMa (sessionMw s b) s else s
  | .currentDemand mv ma => if dcSession s b then onCurrentDemand b mv ma s else s
  | .pause => pauseByVehicle b (endV2g b 2 s)
  | .stop =>
    let s1 := endV2g b 2 s
    match (s.bay b).ctx with
    | some c => if running (s.ctx c).hd.state then endSession c 0 1 s1 else s1
    | none => s1

/-- A match ends the SLAC exchange, a session opens on a matched link, and the other messages belong to one. -/
def messageFits (link : Nat) (m : V2gMessage) : Bool :=
  match m with
  | .slacMatch => link == 1
  | .tlsHandshake _ => link == 2
  | .appProtocol _ _ => link == 2 || link == 3
  | _ => link == 3

/-- V2G_MESSAGE (R160): handled while the instance runs and, like every TCP traffic, outside a control takeover. -/
def execV2gMessage (bay : Nat) (m : V2gMessage) (s : State) : Out :=
  atLiveBay bay s fun s =>
    if !instanceRuns s bay || s.cont.ceSilent.isSome || !messageFits (s.bay bay).link.link m then s else onMessage bay m s

end Sys2Proof.Machine
end

