-- ==== Sys2Proof/Machine/System.lean ====
section
/-! DEFINITION. System commands, 0x01xx (R309 to R310), but for RESET and SET_POWER_STATE: identity, status, parameter objects,
worlds and module time; and the events of worlds and of committed parameters. -/

namespace Sys2Proof.Machine

open Sys2Proof

/-! ### PING, GET_IDENTITY, GET_STATUS, GET_HEALTH -/

/-- An accepted PING is one of the conditions of R361 for every kind on trial. -/
def notePing (s : State) : State :=
  { s with images := { s.images with kinds := s.images.kinds.map fun k => if k.state == .trial then { k with pinged := true } else k } }

/-- PING (R309). -/
def cmdPing : Command where
  op := 0x0100
  life := .all
  len := exactly 0
  body _ _ s := okWith (notePing s) (le 4 s.clk.cycle.toNat ++ le 2 s.clk.angle ++ le 1 s.clk.state.code ++ [0])

def execPing (h : Hdr) (pl : Bytes) (s : State) : Out := hostCmd cmdPing h pl s

/-- The reply fields of GET_IDENTITY (R309, R1): hardware step E. -/
def identityBytes (s : State) : Bytes :=
  le 8 serialNum ++ [0x45] ++ le 1 s.life.code ++ le 2 0 ++ (List.range 32).map Config.romId ++
    (List.range 5).flatMap fun k => le 4 (s.images.kinds.getD k {}).active.release

/-- GET_IDENTITY (R309). -/
def cmdGetIdentity : Command where
  op := 0x0101
  life := .all
  len := exactly 0
  body _ _ s := okWith s (identityBytes s)

def execGetIdentity (h : Hdr) (pl : Bytes) (s : State) : Out := hostCmd cmdGetIdentity h pl s

/-- The reply fields of GET_STATUS on a port (R309). The tag of the GET_STATUS itself is outstanding until its reply is sent and
is counted with the others (R282). -/
def statusBytes (s : State) (c : Call) : Bytes :=
  let p := s.port c.port
  let flags := bitsOf [s.time.valid, s.safety.faultN, confirmedNow s, !p.staging.isEmpty]
  le 1 s.power.state.code ++ le 1 s.life.code ++ le 1 p.world.code ++ le 1 flags ++
    le 1 p.outstanding.length ++ [0] ++ le 2 p.ntfQueue.length ++ le 2 p.dropped ++ le 2 0

/-- GET_STATUS (R309). -/
def cmdGetStatus : Command where
  op := 0x0102
  life := .all
  len := exactly 0
  body c _ s := okWith s (statusBytes s c)

def execGetStatus (h : Hdr) (pl : Bytes) (s : State) : Out := hostCmd cmdGetStatus h pl s

/-- Regular record slots that are not free, with the records that wait for a slot or a key (R125, R126, R121). -/
def recordSlotsUsed (s : State) : Nat :=
  (s.legal.records.filter fun r => !r.reserve && !r.free).length + (s.ctxs.filter fun c => c.wk.recordWait).length

/-- The reply fields of GET_HEALTH (R309). Temperature and supply voltages are sensor readings. -/
def healthBytes (s : State) : Bytes :=
  continuityStatus s ++ le 2 s.legal.logbook.length ++ le 2 (recordSlotsUsed s) ++ le 2 (reserveUsed s) ++
    le 2 (s.reading 0x2000) ++ le 4 (s.reading 0x2001) ++ le 4 (s.reading 0x2002) ++ le 2 (s.reading 0x2003) ++ le 2 0

/-- GET_HEALTH (R309). -/
def cmdGetHealth : Command where
  op := 0x010D
  life := .notBlank
  len := exactly 0
  body _ _ s := okWith { s with draws := s.draws + 1 } (healthBytes s)

def execGetHealth (h : Hdr) (pl : Bytes) (s : State) : Out := hostCmd cmdGetHealth h pl s

/-! ### Parameter objects -/

/-- Bytes of an object from an offset, where a length of 0 means to its end; none when they do not lie within it. -/
def objectSlice (data : Bytes) (off len : Nat) : Option Bytes :=
  let n := if len == 0 then data.length - off else len
  if data.length < off + n || data.length < off then none else some (slice data off n)

/-- GET_PARAM (R309, R333): the active object, or the copy staged on this port. -/
def getParamBody (c : Call) (pl : Bytes) (s : State) : Ans :=
  let id := fld pl 0 2
  let copy := fld pl 2 1
  if 1 < copy then refuse s errParam
  else match layout id with
  | none => refuse s errNotFound
  | some l =>
    let found : Option (Nat × Bytes) :=
      if copy == 1 then (stagedOf (s.port c.port) id).map fun g => (g.version, g.data)
      else some (objectVersion s id, objectBytes s id)
    match found with
    | none => refuse s errNotFound
    | some (v, data) =>
      match objectSlice data (fld pl 4 2) (fld pl 6 2) with
      | none => refuse s errLength
      | some bs => okWith s (le 2 id ++ le 2 l.size ++ le 4 v ++ bs)

/-- GET_PARAM (R309). -/
def cmdGetParam : Command where
  op := 0x0105
  life := .notBlank
  len := exactly 8
  rsv := [(3, 1)]
  body := getParamBody

def execGetParam (h : Hdr) (pl : Bytes) (s : State) : Out := hostCmd cmdGetParam h pl s

/-- SET_PARAM (R309, R331). A data length of 0 or above 1 024 does not fit the layout (R303). -/
def cmdSetParam : Command where
  op := 0x0106
  life := .n
  sc := true
  len pl := 8 ≤ pl.length && pl.length == 8 + fld pl 4 2 && 1 ≤ fld pl 4 2 && fld pl 4 2 ≤ 1024
  rsv := [(6, 2)]
  body := setParamBody

def execSetParam (h : Hdr) (pl : Bytes) (s : State) : Out := hostCmd cmdSetParam h pl s

/-- COMMIT_PARAMS (R309, R332). Objects that wait for the reply only take effect with it. -/
def cmdCommitParams : Command where
  op := 0x0107
  life := .n
  sc := true
  len := exactly 4
  rsv := [(1, 3)]
  body c pl s := let a := commitBody c pl s; { a with state := applyCommits effectAtReply a.state }

def execCommitParams (h : Hdr) (pl : Bytes) (s : State) : Out := hostCmd cmdCommitParams h pl s

/-- PARAMS_TAKE_EFFECT (R332): every committed object that waits for the boundary takes effect. -/
def execParamsTakeEffect (s : State) : Out := .next (applyCommits (fun _ => true) s)

/-! ### Worlds -/

/-- The key slot of a world (R337). -/
def worldSlot (w : World) : Nat := 3 + w.code

/-- Changes a port's entry of a world in a list of four. -/
def setAt {α : Type} (l : List α) (k : Nat) (v : α) : List α := l.modify k fun _ => v

/-- A refusal of OPEN_WORLD: the third in a row starts the 60 s of R301. -/
def refuseWorld (c : Call) (w : World) (s : State) : Ans :=
  let n := (s.port c.port).refusals.getD w.code 0 + 1
  let s1 := s.modPort c.port fun p =>
    if n < 3 then { p with refusals := setAt p.refusals w.code n }
    else { p with refusals := setAt p.refusals w.code 0, lockouts := setAt p.lockouts w.code (some (s.after 60000000)) }
  refuse s1 errAuth

/-- The answer that opens a world (R301). -/
def worldAnswer (s : State) (c : Call) (w : World) (challenge : Bytes) : Bytes :=
  (hmac (s.key (worldSlot w)).material (challenge ++ [byte w.code, byte c.port.code] ++ le 8 serialNum)).take 16

/-- A challenge given on a port for a world that stands and that an answer of phase 1 meets (R301). -/
def answered (s : State) (c : Call) (w : World) (answer : Bytes) (ch : Challenge) : Bool :=
  ch.world == w && s.time.osc ≤ ch.deadline && answer == worldAnswer s c w ch.value

/-- OPEN_WORLD (R301). An answer opens the world by any challenge that stands; a wrong one uses up the world's challenges on the
port (DESIGN CHOICE, log entry 173). -/
def openWorldBody (c : Call) (pl : Bytes) (s : State) : Ans :=
  match World.ofCode (fld pl 1 1) with
  | none => refuse s errParam
  | some w =>
    let p := s.port c.port
    if w == .host || 1 < fld pl 0 1 then refuse s errParam
    else if (p.lockouts.getD w.code none).isSome && !s.dueOpt (p.lockouts.getD w.code none) then refuse s errAuth
    else
      let asker : Requester := .command c.port w.code
      match keyFailure s (worldSlot w) [1, 2] 3 asker with
      | some f => refuseWorld c w (recordKeyRefusal (worldSlot w) f.1 asker s)
      | none =>
        if fld pl 0 1 == 0 then
          let (ch, s1) := s.random 16
          let entry : Challenge := { world := w, value := ch, deadline := s.after 30000000 }
          okWith (s1.modPort c.port fun p =>
            { p with challenges := entry :: p.challenges.filter fun x => s.time.osc ≤ x.deadline }) ch
        else match p.challenges.find? (answered s c w (slice pl 4 16)) with
          | none => refuseWorld c w (s.modPort c.port fun p => { p with challenges := p.challenges.filter (·.world != w) })
          | some ch => ok (s.modPort c.port fun p =>
              { p with world := w, worldIdle := s.after 900000000, refusals := setAt p.refusals w.code 0
                       challenges := p.challenges.filter (· != ch) })

/-- OPEN_WORLD (R309). -/
def cmdOpenWorld : Command where
  op := 0x0108
  life := .notBlank
  len pl := if fld pl 0 1 == 1 then pl.length == 20 else pl.length == 4
  rsv := [(2, 2)]
  body := openWorldBody

def execOpenWorld (h : Hdr) (pl : Bytes) (s : State) : Out := hostCmd cmdOpenWorld h pl s

/-- Closes the world open on a port (R302). -/
def closeWorldOn (p : HostPort) (s : State) : State := s.modPort p fun q => { q with world := .host, worldIdle := 0 }

/-- CLOSE_WORLD (R309). -/
def cmdCloseWorld : Command where
  op := 0x0109
  life := .notBlank
  len := exactly 0
  body c _ s := ok (closeWorldOn c.port s)

def execCloseWorld (h : Hdr) (pl : Bytes) (s : State) : Out := hostCmd cmdCloseWorld h pl s

/-- WORLD_IDLE_TIMEOUT (R302): 900 s without a packet in the open world. -/
def execWorldIdleTimeout (p : HostPort) (s : State) : Out :=
  .next (if (s.port p).world != .host && s.due (s.port p).worldIdle then closeWorldOn p s else s)

/-- OPEN_WORLD_LOCKOUT_END (R301). -/
def execOpenWorldLockoutEnd (p : HostPort) (w : World) (s : State) : Out :=
  .next (if s.dueOpt ((s.port p).lockouts.getD w.code none) then
    s.modPort p fun q => { q with lockouts := setAt q.lockouts w.code none } else s)

/-! ### Module time -/

/-- GET_TIME (R309): a new nonce replaces the one before (R93). -/
def getTimeBody (_ : Call) (_ : Bytes) (s : State) : Ans :=
  let (nonce, s1) := s.random 16
  okWith { s1 with time := { s1.time with nonce := some nonce } }
    (le 8 s.time.now ++ le 1 (bit s.time.valid) ++ le 3 0 ++ le 4 (pattern 32 s.time.slew) ++ nonce)

/-- GET_TIME (R309). -/
def cmdGetTime : Command where
  op := 0x010A
  life := .notBlank
  len := exactly 0
  body := getTimeBody

def execGetTime (h : Hdr) (pl : Bytes) (s : State) : Out := hostCmd cmdGetTime h pl s

/-- A correction that is slewed: it replaces what is left of an earlier one (R92). -/
def slewBy (us : Int) (s : State) : State := { s with time := { s.time with slew := us } }

/-- A step is accepted: it waits for the next boundary (R95). -/
def acceptStep (new world slot : Nat) (s : State) : State :=
  { s with time := { s.time with step := some { newTime := new, oldTime := s.time.now, world := world, keySlot := slot } } }

/-- A signed step outside the LEGAL world (R93 check 3): the nonce is used up by the first signed step checked against it. -/
def signedStep (c : Call) (pl : Bytes) (new : Nat) (s : State) : Ans :=
  let slot := s.field 0x0022 0 16
  let asker : Requester := .command c.port c.world
  if slot == 0xFFFF then refuse s errWorld
  else match keyFailure s slot [3, 5] 3 asker with
  | some f => refuse (recordKeyRefusal slot f.1 asker s) errWorld
  | none =>
    if pl.length == 8 then refuse s errAuth
    else match s.time.nonce with
    | none => refuse s errAuth
    | some n =>
      let s1 : State := { s with time := { s.time with nonce := none } }
      if Config.ecdsaVerify 256 (s.key slot).point (slice pl 0 8 ++ n) (slice pl 8 64) then ok (acceptStep new c.world slot s1)
      else refuse s1 errAuth

/-- SET_TIME (R92, R93, R98). While module time is not valid every SET_TIME is a forward step. -/
def setTimeBody (c : Call) (pl : Bytes) (s : State) : Ans :=
  let new := fld pl 0 8
  let diff : Int := (new : Int) - (s.time.now : Int)
  if s.time.valid && diff.natAbs ≤ 9000000 then ok (slewBy diff s)
  else if s.time.valid && diff < -3600000000 then refuse s errParam
  else if !logbookFree s then refuse s errLegal
  else if c.world == 2 then ok (acceptStep new c.world 0xFFFF s)
  else signedStep c pl new s

/-- SET_TIME (R309). -/
def cmdSetTime : Command where
  op := 0x010B
  life := .notBlank
  sc := true
  len pl := pl.length == 8 || pl.length == 72
  body := setTimeBody

def execSetTime (h : Hdr) (pl : Bytes) (s : State) : Out := hostCmd cmdSetTime h pl s

/-- ADJUST_TIME (R92): at most 9 s either way. -/
def adjustTimeBody (_ : Call) (pl : Bytes) (s : State) : Ans :=
  let us := signed 32 (fld pl 0 4)
  if 9000000 < us.natAbs then refuse s errParam else ok (slewBy us s)

/-- ADJUST_TIME (R309). -/
def cmdAdjustTime : Command where
  op := 0x010C
  life := .notBlank
  sc := true
  len := exactly 4
  body := adjustTimeBody

def execAdjustTime (h : Hdr) (pl : Bytes) (s : State) : Out := hostCmd cmdAdjustTime h pl s

end Sys2Proof.Machine
end

