-- ==== Sys2Proof/Machine/Metering.lean ====
section
/-! DEFINITION. Metering commands 0x04xx (R316, R317), legal parameters (R112 to R116), the meter self-test (R60 to R62) and
stream faults (R43). -/

namespace Sys2Proof.Machine

open Sys2Proof

/-! ### Reading -/

/-- One phase of METER_READ_INSTANT (R317). -/
def phaseBytes (p : PhaseQ) : Bytes :=
  le 4 p.uRms ++ le 4 p.iRms ++ le 4 (pattern 32 p.p) ++ le 4 (pattern 32 p.qf) ++ le 4 (pattern 32 p.qt) ++ le 4 p.s ++
    le 2 (pattern 16 p.pf) ++ le 2 (pattern 16 p.phiUi) ++ le 2 (pattern 16 p.phiUu) ++ le 2 0

/-- The reply of METER_READ_INSTANT for a bay (R317). -/
def instantBay (q : CycleQ) : Bytes :=
  let i (x : Int) : Bytes := le 4 (pattern 32 x)
  le 4 q.cycle ++ le 4 q.status ++ ((List.range 3).flatMap fun k => phaseBytes (q.phases.getD k {})) ++ le 4 q.uo ++ i q.pTot ++
    i q.qfTot ++ i q.qtTot ++ le 4 q.sTot ++ le 2 (pattern 16 q.pfTot) ++ le 2 0 ++ i q.iresDc ++ le 4 q.iresAc ++ i q.uDc ++
    i q.iDc ++ i q.uoDc ++ i q.pDc ++ le 4 q.freq

/-- The reply of METER_READ_INSTANT for the site (R317). -/
def instantSite (s : State) : Bytes :=
  let m := s.met
  le 4 m.lastCycle ++ le 4 0 ++ le 8 (pattern 64 m.siteP) ++ le 8 (pattern 64 m.siteQf) ++ le 8 (pattern 64 m.siteQt) ++ le 8 m.siteS ++
    ((List.range 4).flatMap fun k => le 4 (m.refU.getD k 0)) ++ ((List.range 2).flatMap fun k => le 2 (pattern 16 (m.refPhi.getD k 0))) ++
    le 4 s.clk.freq

/-- METER_READ_INSTANT (R316, R317). -/
def cmdMeterReadInstant : Command where
  op := 0x0400
  life := .notBlank
  len := exactly 1
  body _ pl s :=
    let k := fld pl 0 1
    if 32 < k then refuse s errParam else okWith s (if k == 32 then instantSite s else instantBay (s.bay k).meter.q)

def execMeterReadInstant (h : Hdr) (pl : Bytes) (s : State) : Out := hostCmd cmdMeterReadInstant h pl s

/-- A maximum-demand record (R70). -/
def maxDemandBytes (m : MaxDemand) : Bytes := le 8 m.value ++ le 8 m.endTime ++ le 4 m.interval ++ le 4 0

/-- A register set, 1 200 bytes (R70). -/
def regSetBytes (r : RegSet) : Bytes :=
  let e (lo n : Nat) : Bytes := (List.range n).flatMap fun k => le 8 (mwh (r.acc.getD (lo + k) 0))
  e 0 13 ++ le 24 0 ++ e 13 32 ++ (List.range 34).flatMap fun k => maxDemandBytes (r.md.getD k {})

/-- METER_READ_REGISTERS (R70, R316). -/
def cmdMeterReadRegisters : Command where
  op := 0x0401
  life := .notBlank
  len := exactly 1
  body _ pl s :=
    let k := fld pl 0 1
    if 32 < k then refuse s errParam else okWith s (le 4 s.met.lastCycle ++ le 4 0 ++ regSetBytes (s.regSet k))

def execMeterReadRegisters (h : Hdr) (pl : Bytes) (s : State) : Out := hostCmd cmdMeterReadRegisters h pl s

/-- The stream index of METER_READ_HARMONICS, none where R316 refuses it. -/
def harmonicIndex (s : State) (set code : Nat) : Option Nat :=
  if set == 32 then (if 3 ≤ code && code ≤ 5 then some (192 + code - 3) else none)
  else if set < 32 && code < 6 && (usedStreams (s.meterMode set)).contains code then some (6 * set + code)
  else none

/-- METER_READ_HARMONICS (R55, R316). -/
def meterReadHarmonicsBody (_ : Call) (pl : Bytes) (s : State) : Ans :=
  match harmonicIndex s (fld pl 0 1) (fld pl 1 1) with
  | none => refuse s errParam
  | some j =>
    match s.met.blocks.getD j none with
    | none => refuse s errNotFound
    | some k =>
      okWith s (le 4 k.first ++ le 1 (bit k.short + 2 * bit k.notLocked) ++ le 1 k.cycles ++ le 2 0 ++ le 4 k.fBlock ++ le 2 k.thd ++
        le 2 0 ++ (List.range 31).flatMap fun h => le 4 (k.x.getD h 0))

/-- METER_READ_HARMONICS (R316). -/
def cmdMeterReadHarmonics : Command where
  op := 0x0402
  life := .notBlank
  len := exactly 2
  body := meterReadHarmonicsBody

def execMeterReadHarmonics (h : Hdr) (pl : Bytes) (s : State) : Out := hostCmd cmdMeterReadHarmonics h pl s

/-- PULSE_ASSIGN (R65, R316): output 4 is PULSE_LED, a legal parameter. -/
def cmdPulseAssign : Command where
  op := 0x0403
  life := .n
  sc := true
  len := exactly 12
  rsv := [(1, 3)]
  body c pl s := if 3 < fld pl 0 1 then refuse s errParam else stageObject c (0x0030 + fld pl 0 1) (slice pl 4 8) s

def execPulseAssign (h : Hdr) (pl : Bytes) (s : State) : Out := hostCmd cmdPulseAssign h pl s

/-! ### Legal parameters -/

/-- LEGAL_PARAM_READ (R316). -/
def cmdLegalParamRead : Command where
  op := 0x0404
  life := .notBlank
  len := exactly 6
  body _ pl s :=
    let id := fld pl 0 2
    if !isLegalObj id then refuse s errNotFound
    else match objectSlice (s.param id) (fld pl 2 2) (fld pl 4 2) with
      | none => refuse s errLength
      | some bs => okWith s (le 2 id ++ le 2 (s.param id).length ++ bs)

def execLegalParamRead (h : Hdr) (pl : Bytes) (s : State) : Out := hostCmd cmdLegalParamRead h pl s

/-- A legal object as it will be once the stored writes are in force (R114). -/
def legalContent (s : State) (id : Nat) : Bytes :=
  (s.legal.pending.filter (·.id == id)).foldl (fun a w => overlay a w.offset w.data) (s.param id)

/-- The object's own conditions: R42, R50, R64 (the conditions of R65), I_MAX at least I_REF, and U_REF at most 300 000 mV in the AC
modes (R47). -/
def legalRule (s : State) (id : Nat) (new : Bytes) : Option Nat :=
  if id == 0x0403 then pulseRule s new
  else if inBlock id 0x0420 32 then
    (if fieldOf new 64 32 < fieldOf new 0 32 || (fieldOf new 112 2 != 2 && 300000 < fieldOf new 32 32) then some errParam
     else if (s.bay (id - 0x0420)).isEnergised then some errState
     else none)
  else if inBlock id 0x0440 32 then (if (s.bay (id - 0x0440)).isEnergised then some errState else none)
  else if id == 0x0401 then (if s.anyEnergised then some errState else none)
  else none

/-- The legal checksum once every stored write is in force (R115, R118). -/
def checksumAfter (s : State) : Bytes :=
  legalChecksum (s.legal.pending.foldl (fun a w => a.putParam w.id (overlay (a.param w.id) w.offset w.data)) s)

/-- LEGAL_PARAM_WRITE behind the logbook check, in the order of R114: the logbook entry and the stored write. -/
def legalWrite (call : Call) (pl : Bytes) (s : State) : Ans :=
  let id := fld pl 0 2
  let off := fld pl 2 2
  let len := fld pl 4 1
  let data := pl.drop 8
  if pl.length < 8 then refuse s errLength
  else if !isLegalObj id then refuse s errNotFound
  else
    let old := legalContent s id
    let new := overlay old off data
    if len == 0 || 32 < len || data.length != len || old.length < off + len then refuse s errLength
    else if !zeroAt pl 5 3 || !(match layout id with | some l => objectOk l old new | none => false) then refuse s errParam
    else match legalRule s id new with
      | some e => refuse s e
      | none =>
        if !s.takesWrites legalPartition then refuse s errStorage else
        let s1 : State := { s with legal := { s.legal with pending := s.legal.pending ++ [{ id := id, offset := off, data := data }] } }
        let detail := le 2 id ++ le 2 off ++ le 2 len ++ le 2 0 ++ le 4 (s.clk.cycle + 1).toNat ++ padTo 32 (slice old off len) ++ padTo 32 data
        ok (logbook 1 call.world (checksumAfter s1) detail s1)

/-- LEGAL_PARAM_WRITE (R114, R316). Its length check comes after the logbook check. -/
def cmdLegalParamWrite : Command where
  op := 0x0405
  worlds := [2]
  life := .c
  sc := true
  len _ := true
  body c pl s := if !logbookFree s then refuse s errLegal else legalWrite c pl s

def execLegalParamWrite (h : Hdr) (pl : Bytes) (s : State) : Out := hostCmd cmdLegalParamWrite h pl s

/-- Marks the bays whose set-up or calibration a write changes (R59). -/
def markCalibration (id : Nat) (s : State) : State :=
  let hit (b : Nat) : Bool := id == 0x0420 + b || id == 0x0440 + b || id == 0x0460
  (List.range 32).foldl (fun a b =>
    if hit b then a.modBay b fun y => { y with meter := { y.meter with calChanged := true } } else a) s

/-- Puts one stored write in force; PULSE_LED may change its register (R64, R67). -/
def applyLegalWrite (w : LegalWrite) (s : State) : State :=
  let old := s.param w.id
  let new := overlay old w.offset w.data
  let s1 := markCalibration w.id (s.putParam w.id new)
  if w.id == 0x0403 then reassignPulse 4 old new s1 else s1

/-- Puts stored writes in force. -/
def applyLegal (s : State) : State :=
  s.legal.pending.foldl (fun a w => applyLegalWrite w a) { s with legal := { s.legal with pending := [] } }

/-- LEGAL_PARAM_TAKES_EFFECT (R80, R114, R116): a DEMAND_CONFIG write closes the interval; it and SDM_CONFIG are marked in the
interval that the boundary falls in. -/
def execLegalParamTakesEffect (s : State) : Out :=
  let hit (id : Nat) : Bool := s.legal.pending.any (·.id == id)
  .next (if s.legal.pending.isEmpty || !metersRun s then s
    else
      let s1 := if hit 0x0404 then breakInterval 0 0 applyLegal s else applyLegal s
      if hit 0x0404 || hit 0x0401 then { s1 with intervals := { s1.intervals with flags := s1.intervals.flags ||| 0x2000 } } else s1)

/-! ### METER_SELFTEST -/

/-- The bays of a mask. -/
def maskBays (m : Nat) : List Nat := (List.range 32).filter (testBit m)

/-- Metering elements of a bay. -/
def elements (s : State) (b : Nat) : Nat := if s.meterMode b == 0 then 3 else 1

/-- T_nl of a bay in s, rounded up and at least 10 (R62): U_REF in mV and I_MAX in mA. -/
def noLoadSeconds (s : State) (b : Nat) : Nat :=
  let d := max 1 (pulseConstant s 4 * elements s b * s.uRef b * s.field (0x0420 + b) 64 32)
  max 10 ((60 * 600000000 * 1000000 + d - 1) / d)

/-- The duration of a step in µs; the no-load step lasts as long as the longest of the named bays needs. -/
def stepUs (s : State) (bays : List Nat) (step : Nat) : Nat :=
  match step with
  | 1 => 1000000 * ((bays.map (noLoadSeconds s)).foldl max 10)
  | 4 => 2000000
  | 5 => 1000000
  | _ => 10000000

/-- The injector's settings of a step on a bay (R62), in 10^-8 of a unit: voltages of the metering elements on streams 3 to 5, their
currents on 0 to 2, IRES on 7. DESIGN CHOICE (log entry 156): the elements stand 120° apart, what a step does not name is 0, and
on a DC bay the injected values are r.m.s. values of a fundamental as well. -/
def stepInjection (s : State) (b step : Nat) : List Injection :=
  let element (k : Nat) : Bool := k < elements s b
  let turnOf (k : Nat) : Int := -12000 * k
  let iStart := s.field (0x0420 + b) 0 32 * s.field (0x0420 + b) 96 16
  let u : Nat := match step with
    | 1 => 115000000
    | 5 => 0
    | _ => 100000000
  let i : Nat := match step with
    | 2 => 55 * iStart
    | 3 => 100 * iStart
    | 4 => 100000000 * s.field (0x0420 + b) 0 32
    | _ => 0
  let lag : Int := if step == 4 then 6000 else 0
  let current (k : Nat) : Injection := if element k then { rms := i, phase := turnOf k - lag } else {}
  let voltage (k : Nat) : Injection := if element k then { rms := u * s.uRef b, phase := turnOf k } else {}
  ((List.range 3).map current) ++ ((List.range 3).map voltage) ++ [({} : Injection), { rms := if step == 5 then 30000 * 10 ^ 8 else 0 }]

/-- A step begins: its settings take over with the next cycle. -/
def beginStep (bays : List Nat) (step : Nat) (cmd : CmdRef) (s : State) : State :=
  let s1 := bays.foldl (fun a b => a.modBay b fun y => { y with meter := { y.meter with
    underTest := true, injectNext := some (stepInjection s b step), testLive := false } }) s
  { s1 with met := { s1.met with
      test := some { bays := bays, step := step, stepEnd := s.after (stepUs s bays step), started := s.time.osc, cmd := cmd } } }

/-- A test begins: the test registers are cleared (R61). -/
def beginTest (bays : List Nat) (cmd : CmdRef) (s : State) : State :=
  beginStep bays 1 cmd (bays.foldl (fun a b => a.modBay b fun y => { y with meter := { y.meter with
    testRegs := List.replicate 45 0 } }) s)

/-- METER_SELFTEST (R61): a mask that names no bay is out of range. DESIGN CHOICE (log entry 158): a named bay that is not free is
looked at before another self-test that runs. -/
def meterSelftestBody (call : Call) (pl : Bytes) (s : State) : Ans :=
  let bays := maskBays (fld pl 0 4)
  if bays.isEmpty then refuse s errParam
  else if bays.any fun b => let y := s.bay b; y.isEnergised || y.ctx.isSome || y.enabled then refuse s errState
  else if s.met.test.isSome then refuse s errBusy
  else pending (beginTest bays call.ref s)

/-- METER_SELFTEST (R316). -/
def cmdMeterSelftest : Command where
  op := 0x0406
  worlds := [1, 2]
  life := .n
  sc := true
  len := exactly 4
  body := meterSelftestBody

def execMeterSelftest (h : Hdr) (pl : Bytes) (s : State) : Out := hostCmd cmdMeterSelftest h pl s

/-- Whether energy in 2^-32 mWh lies within 1/`part` of a power in 10^-9 mW over `t` µs. -/
def withinPart (energy nano t part : Nat) : Bool :=
  let want := nano * t * 2 ^ 32
  let got := energy * 3600000000 * 1000000000
  part * (got - want) ≤ want && part * (want - got) ≤ want

/-- The advance of a test register in a step, in 2^-32 mWh (R61, R62). -/
def testAdvance (m : BayMeter) (k : Nat) : Nat := m.testRegs.getD k 0 - m.testBase.getD k 0

/-- The power that step 4 injects, in 10^-9 mW (R62). DESIGN CHOICE (log entry 158): on a DC bay the energy counts at the vehicle
connector, so the cable loss of R57 is taken off. -/
def accuracyNano (s : State) (b : Nat) : Nat :=
  let i := s.field (0x0420 + b) 0 32
  elements s b * s.uRef b * i * 500000 - (if s.meterMode b == 2 then i * i * s.field (0x0420 + b) 128 32 else 0)

/-- The verdict on a step of a bay (R62). p_start stands for each metering element. -/
def stepPass (s : State) (b step : Nat) : Bool :=
  let m := (s.bay b).meter
  match step with
  | 3 => m.testRunOk && withinPart (testAdvance m 0) (elements s b * pStartNano s b) m.testUs 100
  | 4 => withinPart (testAdvance m 0) (accuracyNano s b) m.testUs 10000
  | 5 => m.testAcOk
  | _ => (List.range 8).all fun k => testAdvance m k == 0

/-- The measured value of a step (R291): test energy in µWh, or ires_ac in µA. -/
def stepValue (s : State) (b step : Nat) : Int :=
  let m := (s.bay b).meter
  if step == 5 then m.q.iresAc
  else ((testAdvance m 0 * 1000 / 2 ^ 32 : Nat) : Int) - ((testAdvance m 1 * 1000 / 2 ^ 32 : Nat) : Int)

/-- The bays that a step runs on: the residual step on AC bays only (R62). -/
def stepBays (s : State) (bays : List Nat) (step : Nat) : List Nat :=
  if step == 5 then bays.filter fun b => s.meterMode b != 2 else bays

/-- Bays return to their normal streams, with the next cycle (`beginTestCycle`). -/
def endTest (bays : List Nat) (s : State) : State :=
  let s1 := bays.foldl (fun a b => a.modBay b fun y => { y with meter := { y.meter with
    underTest := false, injectNext := none, testLive := false } }) s
  { s1 with met := { s1.met with test := none } }

/-- SELFTEST_STEP_END (R62): each bay's result is reported, the last one completing the command, and the next step begins. -/
def execSelftestStepEnd (s : State) : Out :=
  match s.met.test with
  | none => .next s
  | some t =>
    if !s.due t.stepEnd || !outputsDriven s then .next s
    else
      let bays := stepBays s t.bays t.step
      let final := t.step == 5 || (stepBays s t.bays (t.step + 1)).isEmpty
      let s1 := bays.foldl (fun a b =>
        let last := final && bays.getLast? == some b
        let pass := stepPass s b t.step
        ntfBayFull b 6 (le 1 t.step ++ le 1 (bit pass) ++ le 2 0 ++ le 8 (pattern 64 (stepValue s b t.step)))
          (if last then some t.cmd else none) (if last then stOk else 0) a) s
      .next (if final then endTest t.bays s1 else beginStep t.bays (t.step + 1) t.cmd s1)

/-- A self-test that a restart ends is reported as aborted (R63). -/
def abortTest (s : State) : State :=
  match s.met.test with
  | none => s
  | some t => endTest t.bays (t.bays.foldl (fun a b => ntfBay b 6 [0xFF, 0] a) s)

/-! ### Stream faults -/

/-- STREAM_FAULT (R43): stream bay × 8 + k, then 256 to 259 the reference streams. On an energised bay it is a safe-stop demand
reported as a loss of metering. -/
def execStreamFault (stream : Nat) (s : State) : Out :=
  atUnit "stream" 260 stream s fun s =>
    if !metersRun s then s
    else if 256 ≤ stream then
      let k := stream - 256
      let s1 : State := { s with met := { s.met with
        refFaults := setAt s.met.refFaults k true, refClear := setAt s.met.refClear k 0, refSeen := setAt s.met.refSeen k true } }
      if k == 0 then { s1 with clk := { s1.clk with refFault := true, goodCycles := 0 } } else s1
    else
      let b := stream / 8
      let k := stream % 8
      let m := (s.bay b).meter
      if !(usedStreams (s.meterMode b)).contains k then s
      else
        let s1 := s.modBay b fun y => { y with meter := { y.meter with
          faults := setAt y.meter.faults k true, faultClear := setAt y.meter.faultClear k 0
          faultSeen := setAt y.meter.faultSeen k true } }
        if m.faults.getD k false then s1
        else
          let s2 := record 0x0202 (source 1 b) 1 (le 4 s.clk.cycle.toNat ++ le 4 (statusBase s1 b))
            (ntfBay b 3 ([byte k, 1, 0, 0] ++ le 4 s.clk.cycle.toNat) s1)
          if (s.bay b).isEnergised && outputsDriven s then safeStop b 9 5 false s2 else evaluateBay b s2

/-- STREAM_FAULT_CLEAR (R43): after 8 consecutive cycles without the condition. -/
def execStreamFaultClear (stream : Nat) (s : State) : Out :=
  atUnit "stream" 260 stream s fun s =>
    if 256 ≤ stream then
      let k := stream - 256
      let s1 : State := { s with met := { s.met with refFaults := setAt s.met.refFaults k false } }
      if s.met.refClear.getD k 0 < 8 then s else if k == 0 then { s1 with clk := { s1.clk with refFault := false } } else s1
    else
      let b := stream / 8
      let k := stream % 8
      let m := (s.bay b).meter
      if !m.faults.getD k false || m.faultClear.getD k 0 < 8 then s
      else
        evaluateBay b (ntfBay b 3 ([byte k, 0, 0, 0] ++ le 4 s.clk.cycle.toNat)
          (s.modBay b fun y => { y with meter := { y.meter with faults := setAt y.meter.faults k false } }))

end Sys2Proof.Machine
end

