-- ==== Sys2Proof/Machine/SafetyCmds.lean ====
section
/-! DEFINITION. Safety commands, 0x07xx (R321, R322): state, loading and confirming the safety block (R232 to R237), and
clearing latches (R249). -/

namespace Sys2Proof.Machine

open Sys2Proof

/-! ### Reading -/

/-- SAFETY_GET_STATE (R248). -/
def cmdSafetyGetState : Command where
  op := 0x0700
  life := .notBlank
  len := exactly 0
  body _ _ s := okWith s (safetyState s)

def execSafetyGetState (h : Hdr) (pl : Bytes) (s : State) : Out := hostCmd cmdSafetyGetState h pl s

/-- SAFETY_GET_CHECK (R235). -/
def cmdSafetyGetCheck : Command where
  op := 0x0702
  life := .notBlank
  len := exactly 0
  body _ _ s := okWith s
    (le 4 (safetyCheck s.safety.sc1Block) ++ le 4 (safetyCheck s.safety.sc2Block) ++ le 1 (bit (confirmedNow s)) ++ le 3 0)

def execSafetyGetCheck (h : Hdr) (pl : Bytes) (s : State) : Out := hostCmd cmdSafetyGetCheck h pl s

/-! ### Loading the block -/

/-- The entries of a load: identifier, size and content; none where they do not fill the payload exactly (R232 check 1). -/
def loadEntries : Nat → Bytes → Option (List (Nat × Nat × Bytes))
  | 0, pl => if pl.isEmpty then some [] else none
  | n + 1, pl =>
    let size := fld pl 2 2
    if pl.length < 4 + size then none
    else (loadEntries n (pl.drop (4 + size))).map fun l => (fld pl 0 2, size, slice pl 4 size) :: l

/-- An identifier stands twice. -/
def namedTwice : List (Nat × Nat × Bytes) → Bool
  | [] => false
  | e :: l => l.any (fun x => x.1 == e.1) || namedTwice l

/-- SITE_SAFETY_NET's own rules (R237): a key where frames run, and connection identities of the peers in use. -/
def netOk (data : Bytes) : Bool :=
  let n := fieldOf data 8 8
  let ids := (List.range n).map fun k => fieldOf data (192 + 128 * k) 32
  !(fieldOf data 0 1 == 1 && fieldOf data 32 16 == 0xFFFF) && ids.all (· != 0) && ids.eraseDups.length == ids.length

/-- SAFETY_BAY's own rules (R232, R234): the lock, and I_CAP_A by KIND. -/
def safetyBayOk (data : Bytes) : Bool :=
  let cap := fieldOf data 16 16
  !(fieldOf data 4 1 == 0 && fieldOf data 5 1 == 0) && (fieldOf data 1 2 == 2 || (6 ≤ cap && cap ≤ 80))

/-- A content of the block is in range (R232 check 3). -/
def safetyObjOk (id : Nat) (data : Bytes) : Bool :=
  (match layout id with | some l => objectInRange l data | none => false) &&
    (if id == 0x0302 then netOk data else if inBlock id 0x0310 32 then safetyBayOk data else true)

/-- A load that changes an entry of SITE_SAFETY_NET makes a new connection of it: what was heard of the peer before counts no longer, and
a frame is expected from now on (R237, R240; DESIGN CHOICE, log entry 163). -/
def newPeers (before s : State) : State :=
  let same (k : Nat) : Bool :=
    peerSerial before k == peerSerial s k && peerConn before k == peerConn s k && peerFeeders before k == peerFeeders s k
  let used (x : State) (k : Nat) : Bool := netEnabled x && Nat.blt k (peersInUse x)
  let keep (k : Nat) : Bool := same k && used before k == used s k
  { s with safety := { s.safety with
      peers := s.safety.peers.mapIdx fun k p => if keep k then p else { lastAt := s.time.osc }
      siteOrigin := s.safety.siteOrigin.map fun v => v &&& bitsOf ((List.range 8).map keep) } }

/-- Both cores' copies and the stored block take new contents, in one step. -/
def loadBlock (entries : List (Nat × Nat × Bytes)) (s : State) : State :=
  let new (l : List SafetyObj) : List SafetyObj := l.map fun o =>
    match entries.find? (·.1 == o.id) with | some e => { o with data := e.2.2 } | none => o
  let b1 := new s.safety.sc1Block
  let b2 := new s.safety.sc2Block
  let same := b1 == s.safety.sc1Block && b2 == s.safety.sc2Block
  refreshSafeOut (newPeers s { s with
    safety := { s.safety with sc1Block := b1, sc2Block := b2, stored := new s.safety.stored, confirmed := s.safety.confirmed && same }
    disp := { s.disp with scUntil := some (s.after 600000000) } })

/-- The checks of R232 from the second on, and the load. -/
def loadSafety (entries : List (Nat × Nat × Bytes)) (s : State) : Ans :=
  if entries.any fun e => !isSafetyObj e.1 then refuse s errNotFound
  else if namedTwice entries then refuse s errParam
  else if entries.any fun e => !safetyObjOk e.1 e.2.2 then refuse s errParam
  else if s.anyEnergised then refuse s errState
  else ok (loadBlock entries s)

/-- The size of an entry is that of the object it names (R232 check 1). -/
def sizeFits (e : Nat × Nat × Bytes) : Bool := match layout e.1 with | some l => l.size == e.2.1 | none => true

/-- SAFETY_LOAD_PARAMS (R232): a count of 0 is accepted and changes nothing. -/
def safetyLoadBody (_ : Call) (pl : Bytes) (s : State) : Ans :=
  match loadEntries (fld pl 0 1) (pl.drop 4) with
  | none => refuse s errLength
  | some entries =>
    if !entries.all sizeFits then refuse s errLength
    else if entries.isEmpty then ok s
    else loadSafety entries s

/-- SAFETY_LOAD_PARAMS (R321). -/
def cmdSafetyLoadParams : Command where
  op := 0x0701
  worlds := [3]
  life := .n
  sc := true
  door := true
  len pl := 4 ≤ pl.length
  rsv := [(1, 3)]
  body := safetyLoadBody

def execSafetyLoadParams (h : Hdr) (pl : Bytes) (s : State) : Out := hostCmd cmdSafetyLoadParams h pl s

/-- SITE_SAFETY_CONFIGURE (R237, R321). -/
def cmdSiteSafetyConfigure : Command where
  op := 0x0705
  worlds := [3]
  life := .n
  sc := true
  door := true
  len := exactly 144
  body _ pl s := loadSafety [(0x0302, 144, pl)] s

def execSiteSafetyConfigure (h : Hdr) (pl : Bytes) (s : State) : Out := hostCmd cmdSiteSafetyConfigure h pl s

/-- SAFETY_CONFIRM (R236). -/
def cmdSafetyConfirm : Command where
  op := 0x0703
  worlds := [3]
  life := .n
  sc := true
  door := true
  len := exactly 4
  body _ pl s :=
    let v := fld pl 0 4
    if v != safetyCheck s.safety.sc1Block || v != safetyCheck s.safety.sc2Block then refuse s errSafety
    else ok ((List.range 32).foldl (fun a b => evaluateBay b a) { s with safety := { s.safety with confirmed := true } })

def execSafetyConfirm (h : Hdr) (pl : Bytes) (s : State) : Out := hostCmd cmdSafetyConfirm h pl s

/-! ### Clearing latches -/

/-- Looks again at every bay. -/
def evaluateAll (s : State) : State := (List.range 32).foldl (fun a b => evaluateBay b a) s

/-- SDE_LATCH of a bay (R249): the trip line asserted, or an insulation alarm, is its condition. -/
def resetSde (b : Nat) (s : State) : Ans :=
  let y := s.bay b
  if tripLine y || (s.isDc b && 2 ≤ y.conv.iso) then refuse s errSafety
  else if !y.safety.sdeLatch then ok s
  else
    let s1 := s.modBay b fun z => { z with safety := { z.safety with sdeLatch := false } }
    ok (evaluateBay b (ntfSafety 3 b 0 (ackConverter b s1)))

/-- The WELDED latch of a bay (R249): UO at or above 30 V is its condition. The bay enters DISABLED. -/
def resetWelded (b : Nat) (s : State) : Ans :=
  let y := s.bay b
  if 30000 ≤ (if s.isDc b then y.meter.q.uoDc.natAbs else y.meter.q.uo) then refuse s errSafety
  else if !y.safety.weldLatch then ok s
  else
    let s1 := s.modBay b fun z => { z with safety := { z.safety with weldLatch := false, uoHighUs := 0 } }
    ok (evaluateAll (ntfSafety 3 b 1 (refreshSafeOut (disableNow b [] s1))))

/-- ESTOP_LATCH (R249). -/
def resetEstop (s : State) : Ans :=
  if s.safety.estop then refuse s errSafety
  else if !s.safety.estopLatch then ok s
  else ok (evaluateAll (ntfSafety 3 0 2 (refreshSafeOut { s with safety := { s.safety with estopLatch := false } })))

/-- SITE_ESTOP of a group (R249): every peer that marked it has cleared its bit; a connection that is lost clears none. -/
def resetSiteEstop (g : Nat) (s : State) : Ans :=
  if s.safety.siteOrigin.getD g 0 != 0 then refuse s errSafety
  else if !s.safety.siteEstop.getD g false then ok s
  else
    ok (evaluateAll (ntfSafety 3 g 3 { s with safety := { s.safety with siteEstop := setAt s.safety.siteEstop g false } }))

/-- OUT_FAULT of a pair (R249): a passed readback test of its lines is still to follow. -/
def resetOutFault (g : Nat) (s : State) : Ans :=
  if s.safety.outFault.getD g false then ok { s with safety := { s.safety with outRetest := setAt s.safety.outRetest g 3 } }
  else ok s

/-- SAFETY_RESET_FAULT (R249, R322): WELDED and OUT_FAULT need SAFETY and the open door. -/
def resetFaultBody (c : Call) (pl : Bytes) (s : State) : Ans :=
  let code := fld pl 0 1
  let k := fld pl 1 1
  let limit := if code ≤ 1 then 32 else if code == 2 then 1 else 4
  if 4 < code then refuse s errParam
  else if (code == 1 || code == 4) && c.world != 3 then refuse s errWorld
  else if (code == 1 || code == 4) && !doorShowsOpen s then refuse s errSafety
  else if limit ≤ k then refuse s errParam
  else match code with
    | 0 => resetSde k s
    | 1 => resetWelded k s
    | 2 => resetEstop s
    | 3 => resetSiteEstop k s
    | _ => resetOutFault k s

/-- SAFETY_RESET_FAULT (R321). -/
def cmdSafetyResetFault : Command where
  op := 0x0704
  worlds := [1, 3]
  life := .notBlank
  sc := true
  len := exactly 4
  rsv := [(2, 2)]
  body := resetFaultBody

def execSafetyResetFault (h : Hdr) (pl : Bytes) (s : State) : Out := hostCmd cmdSafetyResetFault h pl s

end Sys2Proof.Machine
end

