-- ==== Sys2Proof/Machine/SafetyEvents.lean ====
section
/-! DEFINITION. Events of the safety functions (R211 to R249, R267): residual trips, current and export supervision, door,
emergency stop and safe outputs, site safety frames, and the loss and return of a safety core. -/

namespace Sys2Proof.Machine

open Sys2Proof

/-- A safe stop of the bays that a test selects. -/
def stopBays (fn : Nat) (sel : Nat → Bool) (s : State) : State :=
  (List.range 32).foldl (fun a b => if sel b then safeStop b fn 5 false a else a) s

/-- A safe stop of every bay. -/
def stopAll (fn : Nat) (s : State) : State := stopBays fn (fun _ => true) s

/-- Changes the safety fields. -/
def State.modSafety (s : State) (f : Safety → Safety) : State := { s with safety := f s.safety }

/-! ### Residual current -/

/-- The number of a tier (R216). -/
def tierIndex : Tier → Nat
  | .dc1 => 0
  | .dc2 => 1
  | .ac2 => 2

/-- An AC bay marked used: its residual evaluation runs (R216, R218, R234). -/
def residualArmed (s : State) (b : Nat) : Bool := !s.isDc b && s.bayUsed b

/-- RESIDUAL_TIER_TRIP (R211, R216, R224): a timer at its delay asserts the trip line, which is a trip: the bay's queued entries go, and
SDE stops it. That of a bay under METER_SELFTEST is no safety event (R62); its result has no field for the trip (R291, log entry
158). -/
def execResidualTierTrip (bay : Nat) (tier : Tier) (s : State) : Out :=
  atLiveBay bay s fun s =>
    let y := s.bay bay
    if !residualArmed s bay || y.coil.residual || !tierReached y.safety.timers (tierIndex tier) then s
    else
      let s1 := s.modBay bay fun y => { y with coil := { y.coil with residual := true } }
      if y.meter.underTest then s1 else sdeTrip bay s1

/-- The gale path of one engine pair on a bay. -/
def galePath (b : Bay) (engineB : Bool) : Bool := if engineB then b.coil.galeB else b.coil.galeA

/-- Sets a gale path's part of the trip line. -/
def setGale (b : Nat) (engineB on : Bool) (s : State) : State :=
  s.modBay b fun y => { y with coil :=
    if engineB then { y.coil with galeB := on } else { y.coil with galeA := on } }

/-- n_win: the stage 1 samples of one cycle at FREQ (R217). -/
def galeSize (s : State) : Nat := quotN (clockMhz s * 1000000000) (256 * max 1 s.clk.freq)

/-- Stage 1 samples of the bay's IRES stream in 2^-61 µA (R44, R217). -/
def galeSamples (s : State) (b : Nat) (r : List Int) : List Int := stageValues s b 7 r

/-- A window of `n` samples with this sum and sum of squares is at or above |g_dc| or g_ac, given in µA (R217), without the division
and the root. -/
def galeAbove (dc ac n : Nat) (sum sq : Int) : Bool :=
  dc * n * 2 ^ 61 ≤ sum.natAbs || ((ac * n * 2 ^ 61 : Nat) : Int) ^ 2 ≤ n * sq - sum ^ 2

/-- The sum of a list of integers, and that of their squares. -/
def sumOf (l : List Int) : Int := l.foldl (· + ·) 0

@[inherit_doc sumOf]
def squaresOf (l : List Int) : Int := l.foldl (fun a x => a + x * x) 0

/-- The windows from one with this sum and sum of squares on, each a sample later, all lie below 50 % of both thresholds (R218):
the samples that leave, and those that enter. -/
def galeCalm (n : Nat) : Int → Int → List (Int × Int) → Bool
  | sum, sq, [] => !galeAbove 90000 67500 n sum sq
  | sum, sq, (x, y) :: l => !galeAbove 90000 67500 n sum sq && galeCalm n (sum - x + y) (sq - x * x + y * y) l

/-- GALE_TRIP (R217, R218): with this sample the window of the last stage 1 samples, the latest first, is at or above a threshold. The
trip line is asserted; on a channel already off the trip is recorded only. -/
def execGaleTrip (bay : Nat) (engineB : Bool) (earlier : List Int) (sample : Int) (s : State) : Out :=
  atLiveBay bay s fun s =>
    let y := s.bay bay
    let n := galeSize s
    let l := galeSamples s bay ((sample :: earlier).take n)
    if !residualArmed s bay || galePath y engineB || l.length < n || !galeAbove 180000 135000 n (sumOf l) (squaresOf l) then s
    else
      let s1 := setGale bay engineB true s
      if y.coil.on then sdeTrip bay s1
      else record 0x0401 (source 1 bay) 3 ([0, byte bay, 0, 0] ++ safetyState s1) s1

/-- GALE_TRIP_RELEASE (R218): at n_win samples in a row, those up to the latest, both window values were below 50 %. -/
def execGaleTripRelease (bay : Nat) (w : GaleSamples) (s : State) : Out :=
  atLiveBay bay s fun s =>
    let n := galeSize s
    let l := galeSamples s bay (w.samples.take (2 * n - 1))
    let first := l.take n
    if l.length < 2 * n - 1 || !galeCalm n (sumOf first) (squaresOf first) (l.zip (l.drop n)) then s
    else evaluateBay bay (setGale bay w.engineB false s)

/-! ### SLC and SDI -/

/-- SLC_EXCESS (R225): a phase in excess for 1 s, or in the first cycle of a cut's new limit. -/
def execSlcExcess (bay : Nat) (s : State) : Out :=
  atLiveBay bay s fun s =>
    let y := s.bay bay
    if y.isEnergised && (y.safety.cutExcess || y.safety.excess.any (1000000 ≤ ·)) then safeStop bay 1 5 false s else s

/-- SDI_EXPORT_STOP (R226): 200 ms below −100 W, or 1 Wh, without permission. -/
def execSdiExportStop (bay : Nat) (s : State) : Out :=
  atLiveBay bay s fun s =>
    let y := s.bay bay
    if y.isEnergised && (200000 ≤ y.safety.exportUs || 1000 * 2 ^ 32 ≤ y.safety.exportE) then safeStop bay 2 5 false s else s

/-! ### Door, emergency stop, safe outputs -/

/-- What a change of the door's filtered state brings (R229): an open door, or a discrepancy, stops every bay with DOOR_STOP
1; a closed one lets them go on (R249). -/
def doorReacts (before : Bool) (s : State) : State :=
  let now := doorStops s
  if now && !before then stopAll 7 (ntfSafety 2 0 0xFF s)
  else if before && !now then evaluateAll (ntfSafety 3 0 0xFF s)
  else s

/-- DOOR_CHANGE (R228): high and low is open, low and high closed; another combination waits for its 50 ms. DESIGN CHOICE (log entry
108): until then the door shows as it did before, to the SAFETY world too (R11). -/
def execDoorChange (a b : Bool) (s : State) : Out :=
  let f := s.safety
  let s1 := s.modSafety fun f => { f with doorA := a, doorB := b }
  if !outputsDriven s then .next s1
  else if a == b then .next (s1.modSafety fun f => { f with invalidSince := some (f.invalidSince.getD s.time.osc) })
  else if f.doorOpen == a && !f.doorFault then .next (s1.modSafety fun f => { f with invalidSince := none })
  else .next (doorReacts (doorStops s) (s1.modSafety fun f => { f with doorOpen := a, doorFault := false, invalidSince := none }))

/-- The emergency stop is pressed (R229): latched, its pairs dropped, and every bay stopped. -/
def pressEstop (s : State) : State :=
  let latched := s.safety.estopLatch
  let s1 := refreshSafeOut (s.modSafety fun f => { f with estop := true, estopLatch := true })
  stopAll 6 (if latched then s1 else ntfSafety 2 0 2 s1)

/-- ESTOP_CHANGE (R228, R229): either channel high is pressed. -/
def execEstopChange (a b : Bool) (s : State) : Out :=
  let s1 := s.modSafety fun f => { f with estopA := a, estopB := b }
  if !outputsDriven s then .next s1
  else if a || b then .next (if s.safety.estop then s1 else pressEstop s1)
  else .next (refreshSafeOut (s1.modSafety fun f => { f with estop := false }))

/-- SAFETY_INPUT_DISCREPANCY (R228): a door pair invalid for more than 50 ms is DOOR_FAULT; emergency-stop channels that differ
count as pressed. -/
def execSafetyInputDiscrepancy (estop : Bool) (s : State) : Out :=
  let f := s.safety
  if !outputsDriven s then .next s
  else if estop then .next (if f.estopA != f.estopB && !f.estop then pressEstop s else s)
  else match f.invalidSince with
    | none => .next s
    | some t =>
      .next (if s.time.osc ≤ t + 50000 || f.doorFault then s
        else doorReacts (doorStops s) (s.modSafety fun f => { f with doorFault := true }))

/-- SAFE_OUT_READBACK (R230, R249) of one line: a mismatch drops and latches the pair, whichever line it is and whether the pair is
energised or not. DESIGN CHOICE (log entry 163): after SAFETY_RESET_FAULT it is a passed test of each of the two lines that clears the
latch. -/
def execSafeOutReadback (pair : Nat) (lineB readOk : Bool) (s : State) : Out :=
  atUnit "safe output pair" 4 pair s fun s =>
    let f := s.safety
    let left := f.outRetest.getD pair 0 &&& (if lineB then 1 else 2)
    if !outputsDriven s then s
    else if readOk then
      if f.outRetest.getD pair 0 == 0 then s
      else if left != 0 then s.modSafety fun f => { f with outRetest := setAt f.outRetest pair left }
      else
        let s1 := s.modSafety fun f => { f with outFault := setAt f.outFault pair false, outRetest := setAt f.outRetest pair 0 }
        evaluateAll (ntfSafety 3 pair 4 (refreshSafeOut s1))
    else if f.outFault.getD pair false then s.modSafety fun f => { f with outRetest := setAt f.outRetest pair 0 }
    else
      let s1 := refreshSafeOut (s.modSafety fun f => { f with outFault := setAt f.outFault pair true })
      ntfSafety 2 pair 4 (ntfSafety 10 pair 0 s1)

/-! ### Site safety frames -/

/-- The peer entry that names a sender and a connection (R240). -/
def peerOf (s : State) (serial conn : Nat) : Option Nat :=
  (List.range (peersInUse s)).find? fun k => peerSerial s k == serial && peerConn s k == conn

/-- A frame that R240 does not discard for its CRC, its HMAC or its connection: the peer it comes from. -/
def frameSender (s : State) (key frame : Bytes) : Option Nat :=
  if frame.length != 60 || fld frame 56 4 != crc32c (frame.take 56) || slice frame 48 8 != (hmac key (frame.take 48)).take 8 then none
  else peerOf s (fld frame 0 8) (fld frame 8 4)

/-- A lost connection (R241): reported, and the allocator applies the fallback set. -/
def losePeer (k : Nat) (s : State) : State :=
  let s1 := s.modPeer k fun p => { p with up := false, lost := true, rxSeq := none, rxFrame := [], onePort := false,
                                          lastA := none, lastB := none, estop := 0, overload := 0 }
  markDirty { ntfSafety 8 k 0 s1 with budget := { s1.budget with peerLost := true } }

/-- A site emergency stop or overload trip in a shared group that the peer did not mark before (R241). -/
def peerGroup (g : Nat) (estop : Bool) (s : State) : State :=
  let mine (b : Nat) : Bool := s.feeder b == g
  if estop then
    let latched := s.safety.siteEstop.getD g false
    let s1 := s.modSafety fun f => { f with siteEstop := setAt f.siteEstop g true }
    stopBays 8 mine (ntfSafety 11 g 0 (if latched then s1 else ntfSafety 2 g 3 s1))
  else stopBays 8 mine (ntfSafety 11 g 1 s)

/-- The groups in which a peer's emergency stop stands, as its frame marks them (R241, R249). -/
def noteOrigin (k stop : Nat) (l : List Nat) : List Nat :=
  l.mapIdx fun g v => if testBit stop g then v ||| 2 ^ k else v - (v &&& 2 ^ k)

/-- Acts on the first valid copy of a frame (R241): only the feeder groups shared with the peer count. -/
def actOnFrame (k : Nat) (frame : Bytes) (s : State) : State :=
  let shared (v : Nat) : Nat := v &&& peerFeeders s k
  let flags := fld frame 20 1
  let stop := if testBit flags 0 then shared (fld frame 21 1) else 0
  let above := if testBit flags 1 then shared (fld frame 22 1) else 0
  let old := s.peer k
  let s1 := (s.modPeer k fun p => { p with estop := stop, overload := above }).modSafety fun f =>
    { f with siteOrigin := noteOrigin k stop f.siteOrigin }
  let s2 := (List.range 4).foldl (fun a g =>
    let a1 := if testBit stop g && !testBit old.estop g then peerGroup g true a else a
    if testBit above g && !testBit old.overload g then peerGroup g false a1 else a1) s1
  if testBit flags 2 && fld old.rxFrame 24 8 != fld frame 24 8 then record 0x0401 0 3 ([8, byte k, 0, 0] ++ safetyState s2) s2
  else if old.overload != 0 && above == 0 then evaluateAll s2
  else s2

/-- The arrival of a valid copy on a port. -/
def notePort (k : Nat) (siteB : Bool) (s : State) : State :=
  s.modPeer k fun p =>
    let q : Peer := if siteB then { p with lastB := some s.time.osc } else { p with lastA := some s.time.osc }
    { q with onePort := q.onePort && !(
        (match q.lastA with | some t => s.time.osc < t + 100000 | none => false) &&
        (match q.lastB with | some t => s.time.osc < t + 100000 | none => false)) }

/-- A frame with a new sequence number, or the base after a start or a loss, is accepted (R240). -/
def acceptFrame (k seq : Nat) (frame : Bytes) (s : State) : State :=
  let back := (s.peer k).lost
  let s1 := actOnFrame k frame s
  let s2 := s1.modPeer k fun p => { p with up := true, upAt := if p.up then p.upAt else s.time.osc, lost := false, rxSeq := some seq,
                                           rxFrame := frame, lastAt := s.time.osc }
  let still := s2.safety.peers.any Peer.lost
  if back then markDirty { s2 with budget := { s2.budget with peerLost := still } } else s2

/-- SAFETY_FRAME_RECEIVED (R240, R241). -/
def execSafetyFrameReceived (siteB : Bool) (frame : Bytes) (s : State) : Out :=
  let s0 := count 0x10 (2 + bit siteB) frame.length s
  if !outputsDriven s || !netEnabled s then .next s
  else match safetyKey s 3 with
  | none => .next (askSafetyKey 3 s0)
  | some key =>
    match frameSender s key frame with
    | none => .next s0
    | some k =>
      let p := s.peer k
      let seq := fld frame 12 4
      match p.rxSeq with
      | none => .next (notePort k siteB (acceptFrame k seq frame s0))
      | some last =>
        let ahead := (seq + 2 ^ 32 - last) % 2 ^ 32
        if ahead == 0 then
          .next (if p.rxFrame == frame then notePort k siteB s0
            else losePeer k (record 0x0401 0 3 ([8, byte k, 1, 0] ++ safetyState s0) s0))
        else if ahead ≤ 64 then .next (notePort k siteB (acceptFrame k seq frame s0))
        else .next s0

/-- PEER_CONNECTION_LOST (R240): no accepted frame for TIME_EXP_MS on the connection to a peer in use; for a peer never heard, since the
start. -/
def execPeerConnectionLost (peer : Nat) (s : State) : Out :=
  atUnit "peer" 8 peer s fun s =>
    let p := s.peer peer
    let due := netEnabled s && Nat.blt peer (peersInUse s) && p.lastAt + 1000 * s.field 0x0302 16 16 ≤ s.time.osc
    if !outputsDriven s || p.lost || !due then s else losePeer peer s

/-- REDUNDANCY_LOST (R240, R270): copies on one port only for 100 ms; on a port never heard, since the connection came up. -/
def execRedundancyLost (peer : Nat) (s : State) : Out :=
  atUnit "peer" 8 peer s fun s =>
    let p := s.peer peer
    let quiet (t : Option Nat) : Bool := (t.getD p.upAt) + 100000 ≤ s.time.osc
    if !outputsDriven s || !p.up || p.onePort || (quiet p.lastA == quiet p.lastB) then s
    else
      let lost := bit (quiet p.lastB)
      ntfTakeover 6 0 lost 2 0 0 (source 7 (2 + lost)) (ntfSafety 7 peer 0 (s.modPeer peer fun p => { p with onePort := true }))

/-! ### Feeder overload -/

/-- FEEDER_OVERLOAD_TRIP (R242): above FEEDER_TRIP for 1 s. -/
def execFeederOverloadTrip (group : Nat) (s : State) : Out :=
  atUnit "feeder group" 4 group s fun s =>
    if !outputsDriven s || s.safety.feederUs.getD group 0 < 1000000 then s
    else
      let s1 := s.modSafety fun f => { f with
        feederUs := setAt f.feederUs group 0, feederBit := setAt f.feederBit group (some (s.after 2000000)) }
      stopBays 8 (fun b => s.feeder b == group) s1

/-- FEEDER_OVERLOAD_BIT_END (R242): after 2 s. -/
def execFeederOverloadBitEnd (group : Nat) (s : State) : Out :=
  atUnit "feeder group" 4 group s fun s =>
    if s.dueOpt (s.safety.feederBit.getD group none) then
      evaluateAll (s.modSafety fun f => { f with feederBit := setAt f.feederBit group none })
    else s

/-! ### Safety cores -/

/-- The other core. -/
def otherCore : SafetyCore → SafetyCore
  | .sc1 => .sc2
  | .sc2 => .sc1

/-- The number of a core (R293). -/
def coreNumber : SafetyCore → Nat
  | .sc1 => 1
  | .sc2 => 2

/-- CORE_LOSS (R212): an enable that stops changing, confirmed by the other core, holds; without it, every closed channel is
switched off as a trip. -/
def execCoreLoss (core : SafetyCore) (confirmed : Bool) (s : State) : Out :=
  if !outputsDriven s || (confirmed && coreOk s (otherCore core)) then .next s
  else
    let tripOne (b : Nat) (a : State) : State :=
      let y := a.bay b
      if !y.coil.on then a
      else
        let a1 := match y.ctx with | some c => finishCtx c 4 7 0x80 errSafety a | none => a
        ntfSafety 0 b 0 (trip b 5 false a1)
    .next ((List.range 32).foldl (fun a b => tripOne b a) s)

/-- Both cores are lost (R244): every bay stopped, SAFE_OUT off, RUN 0, FAULT_N asserted. -/
def coresLost (s : State) : State :=
  let stopped := stopAll 0 s
  refreshSafeOut (stopped.modSafety fun f => { f with allLost := true, faultN := true })

/-- A fault strikes a unit that runs an image on trial (R361, R362). -/
def strikeImage (k : ImageKind) (s : State) : State :=
  s.modImage k fun i => if i.state == .trial then { i with struck := true } else i

/-- A core fails (R243, R244, R246, R247). -/
def failCore (core : SafetyCore) (cause : TakeoverCause) (s : State) : State :=
  if !coreOk s core then s
  else
    let n := coreNumber core
    let alone := coreOk s (otherCore core)
    let s1 := s.modSafety fun f => { f with
      sc1Ok := f.sc1Ok && n != 1, sc2Ok := f.sc2Ok && n != 2
      sc1Tries := if n == 1 then 0 else f.sc1Tries, sc2Tries := if n == 2 then 0 else f.sc2Tries
      aloneSince := if alone then some s.time.osc else f.aloneSince }
    let s2 : State := { s1 with cont := { s1.cont with toSc := s1.cont.toSc + 1 } }
    let s3 := ntfTakeover 3 0 n cause.code 0 0 (source 6 (n + 3)) (ntfSafety 4 n 0 s2)
    strikeImage .safe (askFlush (if alone then s3 else coresLost s3))

/-- SAFETY_CORE_FAILURE (R243). Where the decisions of two live cores differ, the stopping one is carried out and both run their
self-tests; a core that fails its test is failed. DEDUCED (log entry 164): the stop's own record is the recorded event. -/
def execSafetyCoreFailure (core : SafetyCore) (fault : CoreFault) (s : State) : Out :=
  .next (if !outputsDriven s then s
    else match fault with
    | .failed cause => failCore core cause s
    | .differs bay fn pass1 pass2 =>
      if !s.safety.sc1Ok || !s.safety.sc2Ok then s
      else
        let s1 := safeStop bay fn 5 (fn == 0) s
        let s2 := if pass1 then s1 else failCore .sc1 .selfTest s1
        if pass2 then s2 else failCore .sc2 .selfTest s2)

/-- Attempts of a core to rejoin that have failed. -/
def coreTries (s : State) : SafetyCore → Nat
  | .sc1 => s.safety.sc1Tries
  | .sc2 => s.safety.sc2Tries

/-- A core rejoins with the survivor's state and the block of the parameter partition (R245, R251), without which equal to the
survivor's copy no permission is granted (`confirmedNow`); the count of R246 starts again at 0. -/
def rejoin (core : SafetyCore) (s : State) : State :=
  let n := coreNumber core
  let s1 := s.modSafety fun f => { f with
    sc1Ok := true, sc2Ok := true, sc1Tries := 0, sc2Tries := 0
    sc1Block := if n == 1 then f.stored else f.sc1Block, sc2Block := if n == 2 then f.stored else f.sc2Block
    aloneSince := none, aloneUs := 0, newBlocked := false }
  evaluateAll (ntfTakeover 3 1 n 0 0 0 (source 6 (n + 3)) (ntfSafety 5 n 0 s1))

/-- CORE_REJOIN (R245): with a survivor, the failed core takes over its state; the third failed attempt leaves it failed until W
or P. -/
def execCoreRejoin (core : SafetyCore) (passed : Bool) (s : State) : Out :=
  if !outputsDriven s || coreOk s core || !coreOk s (otherCore core) || 3 ≤ coreTries s core then .next s
  else if passed then .next (rejoin core s)
  else
    let n := coreNumber core
    let tries := coreTries s core + 1
    let s1 := s.modSafety fun f => { f with
      sc1Tries := if n == 1 then tries else f.sc1Tries, sc2Tries := if n == 2 then tries else f.sc2Tries }
    .next (if tries == 3 then ntfTakeover 3 2 n 4 0 0 (source 6 (n + 3)) s1 else s1)

/-- ALONE_LIMIT (R246): 72 h with one core. -/
def execAloneLimit (s : State) : Out :=
  let alone := s.safety.sc1Ok != s.safety.sc2Ok
  .next (if !outputsDriven s || !alone || s.safety.newBlocked || aloneTime s ≤ 259200000000 then s
    else ntfSafety 6 0 0 (s.modSafety fun f => { f with newBlocked := true }))

/-- METERING_VALUES_MISSING (R267): a used bay whose per-cycle values did not come within 3 ms of the boundary. -/
def execMeteringValuesMissing (bay : Nat) (s : State) : Out :=
  atLiveBay bay s fun s =>
    if s.bayUsed bay && s.time.cycleOsc + 3000 ≤ s.time.osc then safeStop bay 9 5 false s else s

end Sys2Proof.Machine
end

