-- ==== Sys2Proof/Machine/Engines.lean ====
section
/-! DEFINITION. Engine pairs and clusters (R250 to R276): what a takeover of the metering pair, of the control pair, and a shunt
of a DSP cluster do to the state, whatever asks for them. Units are numbered 0 ME-A, 1 ME-B, 2 CE-A, 3 CE-B, then the clusters. -/

namespace Sys2Proof.Machine

open Sys2Proof

/-- Changes the continuity status. -/
def State.modCont (s : State) (f : Continuity → Continuity) : State := { s with cont := f s.cont }

/-- A unit causes a takeover: what becomes of it, out after three within 24 h (R273). -/
def blame (u : Nat) (s : State) : State × VanState :=
  let l := s.time.osc :: (s.cont.causes.getD u []).filter fun t => s.time.osc < t + 86400000000
  (s.modCont fun c => { c with causes := setAt c.causes u l }, if 3 ≤ l.length then .out else .recoupling)

/-- A takeover counts for every session in progress (R122 key 16). -/
def countTakeover (s : State) : State :=
  { s with ctxs := s.ctxs.map fun x =>
      if (running x.hd.state || x.hd.state == .finishing) && x.wk.closing.isNone then { x with wk := { x.wk with takeovers := x.wk.takeovers + 1 } } else x }

/-- NTF_TAKEOVER of a unit that is out, and of the function that has no brake van left (R270, R273). -/
def ntfOut (kind unit cause src : Nat) (s : State) : State :=
  ntfTakeover kind 3 unit cause 0 0 src (ntfTakeover kind 2 unit cause 0 0 src s)

/-! ### Metering pair -/

/-- The last working metering pair fails (R275): every bay stopped, sessions closed with the readings of the last committed
cycle, the interval closed as partial, FAULT_N asserted, and the gale paths gone with the pairs. -/
def loseMetering (cause : Nat) (s : State) : State :=
  if s.cont.meLost then s
  else
    let dueAll (x : State) : State :=
      (boundCtxs x).foldl (fun a c => if (a.ctx c).hd.state == .finishing then a.modWk c fun w => { w with closeDue := true } else a) x
    let s1 := dueAll (stopAll 9 s)
    let s2 := (List.range 32).foldl (fun a b => closeReadings b (readings a b) a) s1
    let s3 : State := { closeInterval 2 true s2 with intervals := { (closeInterval 2 true s2).intervals with closed := true } }
    let s4 : State := { s3 with bays := s3.bays.map fun y => { y with coil := { y.coil with galeA := false, galeB := false } } }
    let s5 := (s4.modCont fun c => { c with meLost := true }).modSafety fun f => { f with faultN := true }
    askFlush (ntfTakeover 0 3 (bit s.cont.meB) cause 0 0 (source 6 (bit s.cont.meB)) s5)

/-- Samples replayed (R259, R270): every strobe from the checkpoint's cycle on. -/
def replaySamples (s : State) : Nat :=
  let before := if checkCycle s == s.clk.cycle.toNat then [] else s.met.buffer.headD []
  260 * (before.length + s.met.strobes.length)

/-- An ME takeover (R259): the brake van takes the checkpoint and replays the cycle in progress, which carries TAKEOVER. DEDUCED (log
entry 165): what it computes is what ME-A had (R250, R260), so that the state stays as it is. -/
def takeMetering (cause durationUs : Nat) (s : State) : State :=
  if s.cont.meVan != .ready then loseMetering cause s
  else
    let unit := bit s.cont.meB
    let samples := replaySamples s
    let r := blame unit s
    let s1 := r.1.modCont fun c => { c with meB := !c.meB, meVan := r.2, toMe := c.toMe + 1, meFollowed := 0 }
    let s2 : State := { s1 with met := { s1.met with takenOver := true } }
    let s3 := ntfTakeover 0 0 unit cause durationUs samples (source 6 unit) (countTakeover (level 0x30 0 samples s2))
    askFlush (if r.2 == .out then ntfOut 0 unit cause (source 6 unit) s3 else s3)

/-! ### Control pair -/

/-- The last working control pair fails (R276): the drive die holds the outputs. -/
def loseControl (s : State) : State :=
  if s.cont.ceSilent.isSome then s else s.modCont fun c => { c with ceSilent := some s.time.osc }

/-- The pairs change places: the journal's tail is replayed (R263). The pair that gives up control keeps `van`. -/
def swapControl (cause durationUs : Nat) (van : VanState) (s : State) : State :=
  let unit := bit s.cont.ceB
  let n := s.cont.journal.length
  let s1 := s.modCont fun c => { c with ceB := !c.ceB, ceVan := van, toCe := c.toCe + 1, ceFollowed := 0 }
  askFlush (ntfTakeover 1 0 unit cause durationUs n (source 6 (2 + unit)) (countTakeover s1))

/-! ### Clusters -/

/-- Instances that a cluster carries. -/
def instancesOn (s : State) (k : Nat) : List Nat := (List.range 33).filter fun i => s.cont.cluster.getD i none == some k

/-- An instance stops (R266): the bay's link is lost, or the mains link. -/
def stopInstance (i : Nat) (s : State) : State :=
  if i < 32 then (if (s.bay i).link.link == 0 then ntfLink i 6 0 s else loseLink i 6 s)
  else ntfLink 32 6 0 (s.modMains fun m => { m with link := 0, neighbours := [], offsets := [], outOfTol := false })

/-- Moves a cluster's instances to the spare (R265). -/
def moveInstances (k sp : Nat) (s : State) : State :=
  s.modCont fun c => { c with
    cluster := c.cluster.map fun x => if x == some k then some sp else x, toDsp := c.toDsp + 1 }

/-- A shunt that no fault asks for: the freed cluster becomes the spare (R359 LINK). -/
def plannedShunt (k : Nat) (s : State) : State :=
  match s.cont.spare with
  | none => s
  | some sp =>
    let s1 := (moveInstances k sp s).modCont fun c => { c with spare := some k }
    ntfTakeover 2 0 k 5 0 0 (source 5 k) s1

/-- A cluster fails (R265, R266). -/
def failCluster (k cause : Nat) (s : State) : State :=
  if s.cont.dsp.getD k .out != .ready then s
  else
    let r := blame (4 + k) s
    let s1 := strikeImage .link (r.1.modCont fun c => { c with dsp := setAt c.dsp k r.2 })
    let out (x : State) : State := if r.2 == .out then ntfTakeover 2 2 k cause 0 0 (source 5 k) x else x
    match s.cont.spare with
    | some sp =>
      if sp == k then askFlush (out (ntfTakeover 2 3 k cause 0 0 (source 5 k) (s1.modCont fun c => { c with spare := none })))
      else askFlush (out (ntfTakeover 2 0 k cause 0 0 (source 5 k) ((moveInstances k sp s1).modCont fun c => { c with spare := none })))
    | none =>
      let l := instancesOn s k
      let s2 := s1.modCont fun c => { c with cluster := c.cluster.map fun x => if x == some k then none else x }
      let s3 := l.foldl (fun a i => stopInstance i a) s2
      askFlush (out (ntfTakeover 2 3 k cause 0 0 (source 5 k) s3))

/-- A takeover or shunt has not been reported as re-coupled or out (R380). The control pair that an activation of APP has isolated
takes nothing over before that is complete (R360). -/
def recovering (s : State) : Bool :=
  s.cont.meVan == .recoupling || (s.cont.ceVan == .recoupling && (s.image .app).state != .activating) || s.cont.dsp.any (· == .recoupling)

end Sys2Proof.Machine
end

