-- ==== Sys2Proof/Machine/Starting.lean ====
section
/-! DEFINITION. The begin of a reset or a power cut: outputs released, and the class of the start that follows (R134, R148, R399,
R438, R443, R445). What the start then keeps and loses is the meaning of START. -/

namespace Sys2Proof.Machine

open Sys2Proof

/-- A bay whose outputs the drive die has released: state F on the pilot, coil and lock bridge off, no permission (R445). -/
def releasedBay (y : Bay) : Bay :=
  { y with
    pilot := { y.pilot with drive := .stateF, duty := 0, next := none, offered := 0 }
    coil := { y.coil with on := false, onInCycle := y.coil.onInCycle || y.coil.on }
    lock := { y.lock with held := false, drive := none }
    safety := { y.safety with permitUntil := none, enable1 := false, enable2 := false } }

/-- Every load channel off and CMD cleared, every pilot at state F, every SAFE_OUT line low (R399, R438, R445). -/
def releaseOutputs (s : State) : State :=
  let s1 := (List.range 112).foldl (fun a k => commandOff k a) s
  { s1 with bays := s1.bays.map releasedBay, safety := { s1.safety with outA := List.replicate 4 false, outB := List.replicate 4 false } }

/-- A start of a class is due: the module is in reset until START (R445). -/
def beginStart (cls : StartClass) (s : State) : State := { s with power := { s.power with starting := some cls } }

/-- A W begins (R443). RESET, the module watchdog and R276 flush the event records first (R372). -/
def beginReset (flush : Bool) (s : State) : State :=
  beginStart .w (releaseOutputs (if flush then flushAllRecords s else s))

end Sys2Proof.Machine
end

