-- ==== Sys2Proof/Machine/Update.lean ====
section
/-! DEFINITION. Firmware images (R349 to R365): transfer and verification, activation, trial, confirmation and fallback, and the
update consist. -/

namespace Sys2Proof.Machine

open Sys2Proof

/-! ### Images -/

/-- The region of a kind in a bank, in bytes (R349). -/
def imageRegion : ImageKind → Nat
  | .app => 20 * 1048576
  | .link => 4 * 1048576
  | .safe => 2 * 1048576
  | .rdr => 2 * 1048576
  | .disp => 4 * 1048576

/-- The length of an image's body (R350). -/
def bodySize (d : Bytes) : Nat := fld d 16 4

/-- An image carries a co-signature block (R350). -/
def hasCosign (d : Bytes) : Bool := d.length == 464 + bodySize d

/-- The start of the co-signature block: behind header, body and Kolmoend signature. -/
def cosignAt (d : Bytes) : Nat := 352 + bodySize d

/-- The confirmation window of an image in s (R352). -/
def confirmWindow (d : Bytes) : Nat := if hasCosign d then fld d (cosignAt d + 8) 4 else 600

/-- What the module keeps of an image (R350). -/
def imageMeta (d : Bytes) : ImageMeta :=
  { release := fld d 8 4, secVer := fld d 12 4, stateFmt := fld d 20 2, minRel := (List.range 5).map fun k => fld d (24 + 4 * k) 4,
    digest := slice d 44 32, confirmS := confirmWindow d }

/-- Check 2 of R354: magic, kind, hardware step, header version, reserved fields, and the total size. -/
def headerOk (kind : ImageKind) (d : Bytes) : Bool :=
  fld d 0 4 == 0x4B474C31 && fld d 4 1 == kind.code && fld d 5 1 == 0x45 && fld d 6 2 == 1 && zeroAt d 22 2 && zeroAt d 76 148 &&
    zeroAt d 252 4 && (d.length == 352 + bodySize d || hasCosign d)

/-- Check 3 of R354: the Kolmoend signature over header and body, under slot 0x002 (R351). -/
def kolmoendSigned (s : State) (d : Bytes) : Bool :=
  keyUsable s 2 [6] 3 (.engine 2) &&
    Config.ecdsaVerify 384 (s.key 2).point (d.take (256 + bodySize d)) (slice d (256 + bodySize d) 96)

/-- An operator update key (R352): a VALID slot of class B, engine UPDATE, verify usage, besides slot 0x002. -/
def operatorKey (s : State) (n : Nat) : Bool :=
  let k := s.key n
  n != 2 && n < 512 && k.state == .valid && k.classB && k.engine == 2 && testBit k.usage 3

/-- A co-signature is required (R352). -/
def cosignRequired (s : State) : Bool := (List.range 512).any (operatorKey s)

/-- Check 4 of R354: a co-signature block is there when required and, when there, is valid with CONFIRM_S in range (R352). -/
def cosignOk (s : State) (d : Bytes) : Bool :=
  if !hasCosign d then !cosignRequired s
  else
    let at_ := cosignAt d
    let n := fld d (at_ + 4) 2
    let window := fld d (at_ + 8) 4
    let signed := d.take (at_ + 16)
    let p384 := keyUsable s n [4, 6] 3 (.engine 2) &&
      Config.ecdsaVerify 384 (s.key n).point signed (slice d (at_ + 16) 96)
    let p256 := keyUsable s n [3, 5] 3 (.engine 2) && zeroAt d (at_ + 80) 32 &&
      Config.ecdsaVerify 256 (s.key n).point signed (slice d (at_ + 16) 64)
    fld d at_ 4 == 0x4B474353 && zeroAt d (at_ + 6) 2 && zeroAt d (at_ + 12) 4 && operatorKey s n && 60 ≤ window && window ≤ 86400 &&
      (p384 || p256)

/-- Check 6 of R354: the GCM tag under slot 0x001, then DIGEST over the decrypted body (R351). -/
def bodyOk (s : State) (d : Bytes) : Bool :=
  keyUsable s 1 [1] 1 (.engine 2) &&
    (match Config.gcmDecrypt (s.key 1).material (slice d 224 12) (d.take 224) (slice d 256 (bodySize d)) (slice d 236 16) with
    | some body => sha256 body == slice d 44 32
    | none => false)

/-- The verification of R354, in its order: the first status that fails. -/
def verifyImage (s : State) (kind : ImageKind) (size : Nat) (d : Bytes) : Nat :=
  if d.length != size then errState
  else if !headerOk kind d then errParam
  else if !kolmoendSigned s d then errAuth
  else if !cosignOk s d then errAuth
  else if (imageMeta d).secVer < (s.image kind).floor then errAuth
  else if !bodyOk s d then errAuth
  else if !s.takesWrites imagePartition then errStorage
  else stOk

/-- A key that the verification of R354 came to and could not use is recorded (R341). -/
def askImageKeys (s : State) (kind : ImageKind) (size : Nat) (d : Bytes) : State :=
  let n := fld d (cosignAt d + 4) 2
  if d.length != size || !headerOk kind d then s
  else if !keyUsable s 2 [6] 3 (.engine 2) then askKey 2 [6] 3 (.engine 2) s
  else if !kolmoendSigned s d then s
  else if hasCosign d && !keyUsable s n [3, 4, 5, 6] 3 (.engine 2) then askKey n [3, 4, 5, 6] 3 (.engine 2) s
  else if !cosignOk s d || (imageMeta d).secVer < (s.image kind).floor then s
  else askKey 1 [1] 1 (.engine 2) s

/-- NTF_UPDATE (R356). -/
def ntfUpdate (kind : ImageKind) (event status release : Nat) (detail : Bytes) (cmd : Option CmdRef) (s : State) : State :=
  notifyFull 0xF007 0 0 (le 1 kind.code ++ le 1 event ++ le 2 status ++ le 4 release ++ padTo 8 detail) cmd status s

/-! ### Receiving an image -/

/-- Changes the image store. -/
def State.modImages (s : State) (f : Images → Images) : State := { s with images := f s.images }

/-- UPDATE_BEGIN (R353, R349). -/
def updateBeginBody (c : Call) (pl : Bytes) (s : State) : Ans :=
  match ImageKind.ofCode (fld pl 0 1) with
  | none => refuse s errParam
  | some k =>
    let size := fld pl 4 4
    if 33554432 < size then refuse s errParam
    else if s.images.transfer.isSome then refuse s errBusy
    else if imageRegion k < size || s.images.staged.isSome then refuse s errCapacity
    else
      let t : Transfer := { port := some c.port, world := c.world, kind := k, size := size, data := [],
                            deadline := s.after 600000000 }
      ok (s.modImages fun i => { i with transfer := some t })

/-- UPDATE_BEGIN (R325). -/
def cmdUpdateBegin : Command where
  op := 0x0900
  worlds := [1]
  life := .n
  sc := true
  len := exactly 8
  rsv := [(1, 3)]
  body := updateBeginBody

def execUpdateBegin (h : Hdr) (pl : Bytes) (s : State) : Out := hostCmd cmdUpdateBegin h pl s

/-- The transfer a call may continue: open, not under verification, of its port and world (R353). -/
def ownTransfer (c : Call) (s : State) : Option Transfer :=
  s.images.transfer.filter fun t => t.port == some c.port && t.world == c.world && !t.verifying

/-- UPDATE_DATA (R353). -/
def updateDataBody (c : Call) (pl : Bytes) (s : State) : Ans :=
  match ownTransfer c s with
  | none => refuse s errState
  | some t =>
    let d := pl.drop 4
    if fld pl 0 4 != t.data.length then refuse s errParam
    else if t.size < t.data.length + d.length then refuse s errLength
    else
      let u : Transfer := { t with data := t.data ++ d, deadline := s.after 600000000 }
      ok (s.modImages fun i => { i with transfer := some u })

/-- UPDATE_DATA (R325). -/
def cmdUpdateData : Command where
  op := 0x0901
  worlds := [1]
  life := .n
  sc := true
  len := between 5 65344
  body := updateDataBody

def execUpdateData (h : Hdr) (pl : Bytes) (s : State) : Out := hostCmd cmdUpdateData h pl s

/-- UPDATE_END (R354). -/
def updateEndBody (c : Call) (_ : Bytes) (s : State) : Ans :=
  match ownTransfer c s with
  | none => refuse s errState
  | some t =>
    let u : Transfer := { t with verifying := true, cmd := some c.ref }
    pending (s.modImages fun i => { i with transfer := some u })

/-- UPDATE_END (R325). -/
def cmdUpdateEnd : Command where
  op := 0x0902
  worlds := [1]
  life := .n
  sc := true
  len := exactly 0
  body := updateEndBody

def execUpdateEnd (h : Hdr) (pl : Bytes) (s : State) : Out := hostCmd cmdUpdateEnd h pl s

/-- UPDATE_TRANSFER_TIMEOUT (R353): 600 s without UPDATE_DATA. -/
def execUpdateTransferTimeout (s : State) : Out :=
  .next (match s.images.transfer with
    | some t => if !t.verifying && s.due t.deadline then s.modImages fun i => { i with transfer := none } else s
    | none => s)

/-! ### The update consist -/

/-- The place of the module's successor in its list, where it has one and takes part in the site link (R364). -/
def successor (s : State) : Option Nat :=
  match s.images.consist.findIdx? (· == serialNum) with
  | some k => if siteRole s != 0 && k + 1 < s.images.consist.length then some (k + 1) else none
  | none => none

/-- A forward begins (R364, R365). -/
def startForward (k : ImageKind) (target : Nat) (cmd : Option CmdRef) (s : State) : State :=
  let f : Forward := { kind := k, target := target, started := s.time.osc, lastTry := s.time.osc, cmd := cmd }
  s.modImages fun i => { i with forward := some f }

/-- The release of the staged image. -/
def stagedRelease (s : State) : Nat := (s.images.staged.map (·.2.1.release)).getD 0

/-- The staged image is of a kind. -/
def stagedOfKind (s : State) (k : ImageKind) : Bool := match s.images.staged with | some g => g.1 == k | none => false

/-- CONSIST_CONFIGURE (R364, R325). -/
def cmdConsistConfigure : Command where
  op := 0x0906
  worlds := [1]
  life := .n
  sc := true
  len pl := 4 ≤ pl.length && pl.length == 4 + 8 * fld pl 0 1
  rsv := [(1, 3)]
  body _ pl s :=
    let n := fld pl 0 1
    if n == 0 || 64 < n then refuse s errParam
    else ok (s.modImages fun i => { i with consist := (List.range n).map fun k => fld pl (4 + 8 * k) 8 })

def execConsistConfigure (h : Hdr) (pl : Bytes) (s : State) : Out := hostCmd cmdConsistConfigure h pl s

/-- UPDATE_FORWARD (R364). One forward runs at a time. -/
def updateForwardBody (c : Call) (pl : Bytes) (s : State) : Ans :=
  match ImageKind.ofCode (fld pl 0 1) with
  | none => refuse s errParam
  | some k =>
    match successor s with
    | some t => if stagedOfKind s k && s.images.forward.isNone then pending (startForward k t (some c.ref) s) else refuse s errState
    | none => refuse s errState

/-- UPDATE_FORWARD (R325). -/
def cmdUpdateForward : Command where
  op := 0x0907
  worlds := [1]
  life := .n
  sc := true
  len := exactly 4
  rsv := [(1, 3)]
  body := updateForwardBody

def execUpdateForward (h : Hdr) (pl : Bytes) (s : State) : Out := hostCmd cmdUpdateForward h pl s

/-- FORWARD_DELIVERED (R365): the first delivery completes the forward. -/
def execForwardDelivered (serial : Nat) (s : State) : Out :=
  .next (match s.images.forward with
    | none => s
    | some f =>
      if s.images.consist[f.target]? != some serial || !siteCarries s then s
      else ntfUpdate f.kind 4 stOk (stagedRelease s) (le 8 serial) f.cmd
        (countSite 0x11 (siteLinks s) (s.modImages fun i => { i with forward := none })))

/-- FORWARD_RETRY (R365): every 30 s; after 120 s the serial is skipped, and an exhausted list completes the command. -/
def execForwardRetry (s : State) : Out :=
  .next (match s.images.forward with
    | none => s
    | some f =>
      let serial := s.images.consist.getD f.target 0
      if f.started + 120000000 ≤ s.time.osc then
        if f.target + 1 < s.images.consist.length then
          startForward f.kind (f.target + 1) f.cmd (ntfUpdate f.kind 4 errState (stagedRelease s) (le 8 serial) none s)
        else ntfUpdate f.kind 4 errState (stagedRelease s) (le 8 serial) f.cmd (s.modImages fun i => { i with forward := none })
      else if f.lastTry + 30000000 ≤ s.time.osc then
        s.modImages fun i => { i with forward := some { f with lastTry := s.time.osc } }
      else s)

/-- CONSIST_IMAGE_RECEIVED (R365): a transfer as under R353, refused while one is open or an image is staged. -/
def execConsistImageReceived (sender : Nat) (kind : ImageKind) (image : Bytes) (s : State) : Out :=
  .next (if !controlRuns s || !siteCarries s || siteRole s == 0 || s.images.transfer.isSome || s.images.staged.isSome ||
      imageRegion kind < image.length then s
    else if (siteKey s 3).isNone then askSiteKey 3 s
    else
      let t : Transfer := { port := none, world := 0, kind := kind, size := image.length, data := image, deadline := s.after 600000000,
                            verifying := true, sender := some sender }
      countSite 0x10 (siteLinks s) (s.modImages fun i => { i with transfer := some t }))

/-- The image goes into the staging area; a fallback of the kind is no longer shown as its state. -/
def stageImage (k : ImageKind) (d : Bytes) (s : State) : State :=
  (s.modImages fun i => { i with staged := some (k, imageMeta d, d) }).modImage k fun i =>
    if i.state == .fallenBack then { i with state := .idle } else i

/-- IMAGE_VERIFIED (R354, R365). -/
def execImageVerified (s : State) : Out :=
  .next (match s.images.transfer with
    | none => s
    | some t =>
      if !t.verifying then s
      else
        let status := verifyImage s t.kind t.size t.data
        let s1 : State := (askImageKeys s t.kind t.size t.data).modImages fun i => { i with transfer := none }
        let rel := (imageMeta t.data).release
        match t.sender with
        | none => ntfUpdate t.kind 0 status rel [] t.cmd (if status == stOk then stageImage t.kind t.data s1 else s1)
        | some _ =>
          if status != stOk then s1
          else
            let s2 := ntfUpdate t.kind 5 stOk rel [] none (stageImage t.kind t.data s1)
            match successor s2 with
            | some k => if s2.images.forward.isNone then startForward t.kind k none s2 else s2
            | none => s2)

/-! ### Status and abort -/

/-- STATE of R355: activation and trial, then a transfer of the kind, a fallback, a staged image. -/
def imageState (s : State) (k : ImageKind) : ImageState :=
  let st := (s.image k).state
  if st == .activating || st == .trial then st
  else match s.images.transfer.filter (fun t => t.kind == k) with
    | some t => if t.verifying then .verifying else .receiving
    | none => if st == .fallenBack then .fallenBack else if stagedOfKind s k then .staged else .idle

/-- Time left in the confirmation window in 10 s, rounded up (R355). -/
def confirmLeft (s : State) (k : ImageKind) : Nat :=
  match (s.image k).trialEnd with
  | some t => (t - s.time.osc + 9999999) / 10000000
  | none => 0

/-- An image status record (R355). -/
def imageRecord (s : State) (k : ImageKind) : Bytes :=
  let i := s.image k
  le 16 (pack [(0, k.code), (8, (imageState s k).code), (12, bit i.bankB), (16, i.active.release),
    (48, (i.previous.map (·.release)).getD 0), (80, if stagedOfKind s k then stagedRelease s else 0),
    (112, confirmLeft s k)])

/-- UPDATE_STATUS (R325, R355). -/
def cmdUpdateStatus : Command where
  op := 0x0904
  life := .notBlank
  len := exactly 0
  body _ _ s := okWith s ([ImageKind.app, .link, .safe, .rdr, .disp].flatMap (imageRecord s))

def execUpdateStatus (h : Hdr) (pl : Bytes) (s : State) : Out := hostCmd cmdUpdateStatus h pl s

/-- Discards the open transfer; its UPDATE_END completes with ERR_STATE. -/
def dropTransfer (t : Transfer) (s : State) : State :=
  let s1 := s.modImages fun i => { i with transfer := none }
  if t.cmd.isSome then ntfUpdate t.kind 0 errState (imageMeta t.data).release [] t.cmd s1 else s1

/-- UPDATE_ABORT (R362, R363). -/
def updateAbortBody (_ : Call) (pl : Bytes) (s : State) : Ans :=
  match ImageKind.ofCode (fld pl 0 1) with
  | none => refuse s errParam
  | some k =>
    let st := (s.image k).state
    if st == .trial then ok (s.modImage k fun i => { i with aborted := true })
    else if st == .activating then refuse s errState
    else match s.images.transfer.filter (fun t => t.kind == k) with
      | some t => ok (dropTransfer t s)
      | none => if stagedOfKind s k then ok (s.modImages fun i => { i with staged := none }) else refuse s errState

/-- UPDATE_ABORT (R325). -/
def cmdUpdateAbort : Command where
  op := 0x0905
  worlds := [1]
  life := .n
  sc := true
  len := exactly 4
  rsv := [(1, 3)]
  body := updateAbortBody

def execUpdateAbort (h : Hdr) (pl : Bytes) (s : State) : Out := hostCmd cmdUpdateAbort h pl s

/-! ### Activation -/

/-- The image that an activation of a kind takes (R359): the staged one, else the previous one at or above the floor. -/
def candidateImage (s : State) (k : ImageKind) : Option ImageMeta :=
  let i := s.image k
  match s.images.staged.filter (fun g => g.1 == k) with
  | some g => some g.2.1
  | none => i.previous.filter fun p => i.floor ≤ p.secVer

/-- The MIN_REL entries of a new image and of the active ones agree (R359). -/
def releasesFit (s : State) (k : ImageKind) (m : ImageMeta) : Bool :=
  (List.range 5).all fun j =>
    let a := (s.images.kinds.getD j {}).active
    j == k.code || (m.minRel.getD j 0 ≤ a.release && a.minRel.getD k.code 0 ≤ m.release)

/-- Another kind is on trial or activating. -/
def otherKindBusy (s : State) (k : ImageKind) : Bool :=
  (List.range 5).any fun j => let st := (s.images.kinds.getD j {}).state; j != k.code && (st == .trial || st == .activating)

/-- A reader exchange or a field write of the tag is in progress (R359 RDR). -/
def contactlessBusy (s : State) : Bool := s.readers.any (fun r => r.pollTo.isSome) || !s.tag.fieldLocks.isEmpty

/-- The conditions of a kind's procedure (R359). -/
def kindRefusal (s : State) (k : ImageKind) : Option Nat :=
  match k with
  | .app => if s.cont.ceVan == .ready then none else some errState
  | .link => if s.cont.spare.isSome && s.cont.dsp.all (· == .ready) then none else some errState
  | .safe => if !s.anyEnergised && s.safety.sc1Ok && s.safety.sc2Ok then none else some errState
  | .rdr => if contactlessBusy s then some errBusy else none
  | .disp => none

/-- The brake van is isolated and reboots with the new image (R360). -/
def isolateVan (s : State) : State :=
  let unit := bit (!s.cont.ceB)
  ntfTakeover 1 5 unit 5 0 0 (source 6 (2 + unit)) (s.modCont fun c => { c with ceVan := .recoupling, ceFollowed := 0 })

/-- UPDATE_ACTIVATE (R359, R360). -/
def updateActivateBody (c : Call) (pl : Bytes) (s : State) : Ans :=
  match ImageKind.ofCode (fld pl 0 1) with
  | none => refuse s errParam
  | some k =>
    match candidateImage s k with
    | none => refuse s errState
    | some m =>
      let i := s.image k
      let other := k == .app && m.stateFmt != i.active.stateFmt
      if i.state == .activating || otherKindBusy s k || !releasesFit s k m || (other && s.anyEnergised) then refuse s errState
      else match kindRefusal s k with
        | some e => refuse s e
        | none =>
          let s1 := s.modImage k fun x => { x with state := .activating, cmd := some c.ref, fromStaged := stagedOfKind s k, trialEnd := none }
          pending (if k == .app && !other then isolateVan s1 else s1)

/-- UPDATE_ACTIVATE (R325). -/
def cmdUpdateActivate : Command where
  op := 0x0903
  worlds := [1]
  life := .n
  sc := true
  len := exactly 4
  rsv := [(1, 3)]
  body := updateActivateBody

def execUpdateActivate (h : Hdr) (pl : Bytes) (s : State) : Out := hostCmd cmdUpdateActivate h pl s

/-- The image that an activation in progress takes. -/
def activatedImage (s : State) (k : ImageKind) : Option ImageMeta :=
  let i := s.image k
  if i.fromStaged then (s.images.staged.filter fun g => g.1 == k).map (·.2.1) else i.previous

/-- The inactive bank takes an image and becomes the active one; the image it replaces becomes the previous one (R349). -/
def switchBank (k : ImageKind) (m : ImageMeta) (s : State) : State :=
  let taken := (s.image k).fromStaged
  (s.modImage k fun i => { i with active := m, previous := some i.active, bankB := !i.bankB, fromStaged := false }).modImages fun i =>
    if taken then { i with staged := none } else i

/-- A planned takeover of the control pair (R360, R269). Its interruption is a measured value. -/
def plannedTakeover (van : VanState) (s : State) : State :=
  let us := s.reading 0x3000 % 1001
  swapControl 5 us van { s with draws := s.draws + 1 }

/-- SC-2 and then SC-1 reload and rejoin, and CONFIRMED is cleared (R359, R236, R245). -/
def reloadCores (s : State) : State := rejoin .sc1 (rejoin .sc2 (s.modSafety fun f => { f with confirmed := false }))

/-- The clusters that carry instances are shunted to the spare one after another (R359). -/
def rollClusters (s : State) : State :=
  ((List.range 10).filter fun k => !(instancesOn s k).isEmpty).foldl (fun a k => plannedShunt k a) s

/-- The procedure by which a kind's processors come to run the active image (R359); `van` is what becomes of the control pair
that gives up control. -/
def runProcedure (k : ImageKind) (van : VanState) (s : State) : State :=
  match k with
  | .app => plannedTakeover van s
  | .link => rollClusters s
  | .safe => reloadCores s
  | .rdr => (List.range 4).foldl (fun a k => restartReader k a) s
  | .disp => s

/-- A kind goes on trial (R359, R361); an activation of APP renews block 0 of the tag (R420). -/
def enterTrial (k : ImageKind) (s : State) : State :=
  let i := s.image k
  let s1 := s.modImage k fun x => { x with
    state := .trial, trialEnd := some (s.after (1000000 * x.active.confirmS)), pinged := false, struck := false, aborted := false
    cmd := none, byRestart := false }
  let s2 : State := if k == .app then { s1 with tag := { s1.tag with mirrorDue := true } } else s1
  ntfUpdate k 1 stOk i.active.release [] i.cmd s2

/-- An activation completes. An APP image of another STATE_FMT is carried in by a W. -/
def completeActivation (k : ImageKind) (s : State) : State :=
  let i := s.image k
  match activatedImage s k with
  | none => s
  | some m =>
    let s1 := switchBank k m s
    if k == .app && m.stateFmt != i.active.stateFmt then
      beginReset false (s1.modImage k fun x => { x with byRestart := true, cmd := none })
    else enterTrial k (runProcedure k .ready s1)

/-- A planned takeover may begin (R269): at a cycle boundary, with an empty journal tail. -/
def plannedDue (s : State) : Bool := s.clk.angle == 0 && s.cont.journal.isEmpty

/-- What an activation still waits for (R17, R359, R360): a hitless one for the brake van that has matched 8 checkpoints with the new
image and for its planned takeover; one that a W carries in for bays still energised, and another kind's for its conditions (DESIGN
CHOICE, log entry 166: they may have lapsed since the command). -/
def activationWaits (s : State) (k : ImageKind) : Bool :=
  match k, activatedImage s k with
  | .app, some m =>
    if m.stateFmt == (s.image k).active.stateFmt then s.cont.ceFollowed < 8 || !plannedDue s else s.anyEnergised
  | _, _ => (kindRefusal s k).isSome

/-- ACTIVATION_COMPLETE (R359, R360). -/
def execActivationComplete (kind : ImageKind) (s : State) : Out :=
  .next (if !controlRuns s || (s.image kind).state != .activating || (s.image kind).byRestart || activationWaits s kind then s
    else completeActivation kind s)

/-! ### Confirmation and fallback -/

/-- IMAGE_CONFIRMED (R361): the floor rises, and the control pair with the old image reloads the new one. -/
def execImageConfirmed (kind : ImageKind) (s : State) : Out :=
  let i := s.image kind
  .next (if !controlRuns s || i.state != .trial || !i.pinged || i.struck || i.aborted || s.dueOpt i.trialEnd then s
    else
      let s1 := s.modImage kind fun x => { x with state := .idle, trialEnd := none, floor := max x.floor x.active.secVer }
      let s2 := if kind == .app && s.cont.ceVan == .ready then s1.modCont fun c => { c with ceVan := .recoupling, ceFollowed := 0 } else s1
      ntfUpdate kind 2 stOk i.active.release [] none s2)

/-- The previous image is the active one again; the unconfirmed one stays as the previous image (R362). -/
def returnBank (k : ImageKind) (s : State) : State :=
  s.modImage k fun i =>
    match i.previous with
    | some p => { i with active := p, previous := some i.active, bankB := !i.bankB, state := .fallenBack, trialEnd := none,
                         struck := false, aborted := false, byRestart := false }
    | none => { i with state := .idle, trialEnd := none, struck := false, aborted := false, byRestart := false }

/-- NTF_UPDATE event 3 with its cause (R356). -/
def ntfFallback (k : ImageKind) (cause : Nat) (s : State) : State :=
  ntfUpdate k 3 stOk (s.image k).active.release (le 1 cause) none s

/-- A fallback's cause, where one holds (R362): a fault has struck, the window has expired, or UPDATE_ABORT asked. -/
def fallbackCause (s : State) (k : ImageKind) (fault : Bool) : Option Nat :=
  let i := s.image k
  if i.state != .trial then none
  else if fault then (if i.struck then some 1 else none)
  else if s.dueOpt i.trialEnd then some 0
  else if i.aborted then some 2
  else none

/-- IMAGE_FALLBACK (R362, R363): it waits until the procedure of R359 can run with the previous image. -/
def execImageFallback (kind : ImageKind) (fault : Bool) (s : State) : Out :=
  .next (if !controlRuns s then s
    else match fallbackCause s kind fault, kindRefusal s kind with
    | some cause, none => ntfFallback kind cause (runProcedure kind .recoupling (returnBank kind s))
    | _, _ => s)

end Sys2Proof.Machine
end

