-- ==== Sys2Proof/Machine/Continuity.lean ====
section
/-! DEFINITION. Events of service continuity (R100, R250 to R276): takeovers, shunts, bank replacement, re-coupling, the loss of
the metering or the control pair, the module watchdog and regulator phases. -/

namespace Sys2Proof.Machine

open Sys2Proof

/-! ### Takeovers -/

/-- ME_TAKEOVER (R259). -/
def execMeTakeover (cause : TakeoverCause) (durationUs : Nat) (s : State) : Out :=
  .next (if metersRun s then takeMetering cause.code durationUs s else s)

/-- METERING_LOST (R275): which fault struck the last pair is open. -/
def execMeteringLost (s : State) : Out :=
  let c := s.choice
  .next (if metersRun s then loseMetering (c.1 % 5) c.2 else s)

/-- A hitless APP activation is under way: the brake van shadows with the new image (R360). -/
def shadowing (s : State) : Bool :=
  let i := s.image .app
  i.state == .activating && !i.byRestart &&
    (match activatedImage s .app with | some m => m.stateFmt == i.active.stateFmt | none => false)

/-- A fault of the active control pair (R263, R269, R276, R362). -/
def failControl (cause durationUs : Nat) (s : State) : State :=
  let unit := bit s.cont.ceB
  let out (v : VanState) (x : State) : State := if v == .out then ntfOut 1 unit cause (source 6 (2 + unit)) x else x
  if shadowing s then
    let r := blame (2 + unit) s
    let s1 := out r.2 (swapControl cause durationUs r.2 r.1)
    match activatedImage s .app with
    | some m => enterTrial .app (switchBank .app m s1)
    | none => s1
  else if s.cont.ceVan != .ready then loseControl s
  else
    let r := blame (2 + unit) s
    let s1 := out r.2 (swapControl cause durationUs r.2 r.1)
    if (s.image .app).state == .trial then ntfFallback .app 1 (returnBank .app s1) else s1

/-- CE_TAKEOVER (R263): a planned one starts at a cycle boundary with an empty journal tail and a ready brake van (R269). -/
def execCeTakeover (cause : TakeoverCause) (durationUs : Nat) (s : State) : Out :=
  .next (if !controlRuns s then s
    else match cause with
    | .planned =>
      if s.cont.ceVan == .ready && plannedDue s then swapControl 5 durationUs .ready s else s
    | c => failControl c.code durationUs s)

/-- What a control checkpoint holds (R262). -/
def controlCheckpoint (s : State) : ControlCheckpoint :=
  { work := s.ctxs.map Ctx.wk, budget := s.budget, links := s.bays.map Bay.link }

/-- CONTROL_CHECKPOINT (R262): every 10 ms, and after a TLS record. The journal's tail begins anew; a pair that re-couples, or that
shadows with a new image, follows (R272, R360). -/
def execControlCheckpoint (s : State) : Out :=
  let tls := s.bays.any fun b => b.link.link == 3 && b.link.tls
  .next (if !controlRuns s || (!tls && s.time.osc < s.cont.checkpointAt + 10000) then s
    else s.modCont fun c => { c with
      journal := [], check := controlCheckpoint s, checkpointAt := s.time.osc
      ceFollowed := if c.ceVan == .recoupling then c.ceFollowed + 1 else 0 })

/-! ### Clusters, banks and blocks -/

/-- A cluster that QUIET clock-gates: its watchdog is suspended (R432, R435). -/
def gated (s : State) (k : Nat) : Bool := s.power.state == .quiet && s.cont.cluster.getD 32 none != some k

/-- DSP_SHUNT (R265, R266). -/
def execDspShunt (cluster : Nat) (cause : TakeoverCause) (s : State) : Out :=
  atUnit "DSP cluster" 10 cluster s fun s =>
    if !outputsDriven s || gated s cluster then s else failCluster cluster cause.code s

/-- The domain of a bank in the order of the spares (R268). -/
def bankDomain : SramBank → Nat
  | .checkpoint | .sampleBuffer | .metrologyOther => 0
  | .context | .journal | .controlOther => 1
  | .safety1 => 2
  | .safety2 => 3
  | .link => 4

/-- The fault of the engine that uses a bank, where no spare is left (R268). Which cluster used a link bank is open. -/
def bankEngineFault (bank : SramBank) (s : State) : State :=
  let us := s.reading 0x3001 % 1001
  let drawn : State := { s with draws := s.draws + 1 }
  match bankDomain bank with
  | 0 => takeMetering 1 us drawn
  | 1 => failControl 1 us drawn
  | 2 => failCore .sc1 .ecc s
  | 3 => failCore .sc2 .ecc s
  | _ => let c := s.choice; failCluster (c.1 % 10) 1 c.2

/-- An engine reads the bank, so that its error is found (R255): the metrology domain also through a W (R443); the control domain while
a control pair runs. -/
def bankRead (bank : SramBank) (s : State) : Bool :=
  match bankDomain bank with
  | 0 => metersRun s
  | 1 => controlRuns s
  | _ => outputsDriven s

/-- A spare bank is cleared and rebuilt (R268): a checkpoint bank, ME-A's or ME-B's by its number (DESIGN CHOICE, log entry 165), from
the other copy; the sample buffer refills (R258). The other banks come to hold again what they held. -/
def rebuildBank (bank : SramBank) (number : Nat) (s : State) : State :=
  match bank with
  | .sampleBuffer => { s with met := { s.met with buffer := [] } }
  | .checkpoint => s.modCont fun c => if number % 2 == 0 then { c with checkA := c.checkB } else { c with checkB := c.checkA }
  | _ => s

/-- BANK_REPLACE (R16, R268): a spare of the domain takes the bank's place; without one the fault is its engine's. -/
def execBankReplace (bank : SramBank) (number : Nat) (s : State) : Out :=
  let d := bankDomain bank
  let left := s.cont.spares.getD d 0
  .next (if !bankRead bank s then s
    else if left == 0 then bankEngineFault bank s
    else ntfTakeover 4 0 number 1 0 0 0 (rebuildBank bank number (s.modCont fun c => { c with spares := setAt c.spares d (left - 1) })))

/-- An entry as it reads from a damaged sector: a draw says which bits fell (R100). -/
def damageEntry (draw : Nat) (e : Bytes) : Bytes := e.mapIdx fun i b => b ^^^ Config.random draw i

/-- An uncorrectable sector of the profile ring (R100): which entries stood in it is open, and they are returned as they then stand,
without repair. -/
def damageProfile (s : State) : State :=
  let n := Config.openChoice s.draws
  let held := Config.openChoice (s.draws + 1)
  let hit (i : ProfileInterval) : ProfileInterval :=
    { i with entries := i.entries.mapIdx fun k e => if testBit held k then damageEntry (s.draws + 2) e else e }
  { s with draws := s.draws + 3, intervals := { s.intervals with ring := s.intervals.ring.modify n hit } }

/-- A block is retired (R100): its valid pages go to a block of the spare pool. DESIGN CHOICE (log entry 49): a partition that finds
the pool empty takes no more writes. -/
def retireBlock (block partition : Nat) (c : Continuity) : Continuity :=
  if c.nandSpares == 0 then { c with nandRetired := block :: c.nandRetired, nandFailed := partition :: c.nandFailed }
  else { c with nandRetired := block :: c.nandRetired, nandSpares := c.nandSpares - 1 }

/-- NAND_BLOCK_FAULT (R100): recorded; a faulty block is retired. An uncorrectable sector is rewritten from the other copy; the
profile ring has none. -/
def execNandBlockFault (block : Nat) (partition : Nat) (kind : BlockFault) (s : State) : Out :=
  .next (if !outputsDriven s || s.cont.nandRetired.contains block then s
    else
      let s1 := ntfTakeover 5 0 block 1 0 0 0 (record 0x0701 0 1 (le 2 block ++ le 1 partition ++ le 1 kind.code) s)
      if kind != .uncorrectable then s1.modCont (retireBlock block partition)
      else if partition == profilePartition then damageProfile s1 else s1)

/-! ### Re-coupling -/

/-- The checkpoints a unit has followed: a cluster follows none (R272). -/
def followed (unit : CoupledUnit) (c : Continuity) : Nat :=
  match unit with
  | .me => c.meFollowed
  | .ce => c.ceFollowed
  | .cluster _ => 8

/-- A failed attempt of a unit to re-couple: the third in a row leaves it out (R273), and what it followed counts no longer. -/
def failAttempt (u kind unit src : Nat) (setOut : State → State) (s : State) : State :=
  let n := s.cont.testFails.getD u 0 + 1
  let s1 := s.modCont fun c => { c with
    testFails := setAt c.testFails u n, meFollowed := if u < 2 then 0 else c.meFollowed
    ceFollowed := if u == 2 || u == 3 then 0 else c.ceFollowed }
  if n < 3 then s1 else ntfOut kind unit 4 src (setOut s1)

/-- RE_COUPLING (R272, R273): the self-test of the unit, of a control pair with its image's verification (R357), of a cluster with the
load of its image, has passed or failed. A pair becomes brake van once it has followed 8 checkpoints. A cluster becomes the spare where there is none. While the control pair's brake van shadows an
activation it is re-coupled by ACTIVATION_COMPLETE. -/
def execReCoupling (unit : CoupledUnit) (passed : Bool) (s : State) : Out :=
  let clear (u : Nat) (c : Continuity) : Continuity := { c with testFails := setAt c.testFails u 0 }
  if !outputsDriven s || (passed && followed unit s.cont < 8) then .next s
  else match unit with
  | .me =>
    let u := bit (!s.cont.meB)
    .next (if s.cont.meVan != .recoupling then s
      else if passed then ntfTakeover 0 1 u 0 0 0 (source 6 u) (s.modCont fun c => clear u { c with meVan := .ready })
      else failAttempt u 0 u (source 6 u) (fun x => x.modCont fun c => { c with meVan := .out }) s)
  | .ce =>
    let u := bit (!s.cont.ceB)
    .next (if s.cont.ceVan != .recoupling || shadowing s then s
      else if passed then
        ntfTakeover 1 1 u 0 0 0 (source 6 (2 + u)) (s.modCont fun c => clear (2 + u) { c with ceVan := .ready })
      else failAttempt (2 + u) 1 u (source 6 (2 + u)) (fun x => x.modCont fun c => { c with ceVan := .out }) s)
  | .cluster k =>
    atUnit "DSP cluster" 10 k s fun s =>
      let state (v : VanState) (x : State) : State := x.modCont fun c => { c with dsp := setAt c.dsp k v }
      if s.cont.dsp.getD k .ready != .recoupling then s
      else if passed then
        ntfTakeover 2 1 k 0 0 0 (source 5 k) ((state .ready s).modCont fun c => clear (4 + k) { c with spare := some (c.spare.getD k) })
      else failAttempt (4 + k) 2 k (source 5 k) (state .out) s

/-! ### Watchdog and regulator -/

/-- MODULE_WATCHDOG (R276, R443): 100 ms without a control pair. -/
def execModuleWatchdog (s : State) : Out :=
  .next (match s.cont.ceSilent with
    | some t => if outputsDriven s && t + 100000 ≤ s.time.osc then beginReset true s else s
    | none => s)

/-- REGULATOR_PHASE_LOST (R254, R268): reported and recorded. -/
def execRegulatorPhaseLost (phase : Nat) (s : State) : Out :=
  .next (if !outputsDriven s || s.cont.regLost.contains phase then s
    else ntfTakeover 7 0 phase 3 0 0 0 <| ntfPower 3 (le 1 phase) (s.modCont fun c => { c with regLost := phase :: c.regLost }))

end Sys2Proof.Machine
end

