-- ==== Sys2Proof/Machine/Records.lean ====
section
/-! DEFINITION. Signed session records (R120 to R128): the CBOR payload and its COSE_Sign1 wrapping, the OCMF rendering, record
slots and the reserve, waiting records, and RECORD_READ. -/

namespace Sys2Proof.Machine

open Sys2Proof

/-! ### CBOR (R121, R122) -/

/-- The head of a data item: major type and argument in the shortest form. -/
def cborHead (major n : Nat) : Bytes :=
  let m := 32 * major
  if n < 24 then [byte (m + n)]
  else if n < 2 ^ 8 then byte (m + 24) :: beBytes 1 n
  else if n < 2 ^ 16 then byte (m + 25) :: beBytes 2 n
  else if n < 2 ^ 32 then byte (m + 26) :: beBytes 4 n
  else byte (m + 27) :: beBytes 8 n

/-- An unsigned integer. -/
def cborUint (n : Nat) : Bytes := cborHead 0 n

/-- A byte string. -/
def cborBytes (b : Bytes) : Bytes := cborHead 2 b.length ++ b

/-- An array of encoded items. -/
def cborArray (l : List Bytes) : Bytes := cborHead 4 l.length ++ l.flatten

/-- A map of integer keys to encoded items. -/
def cborMap (l : List (Nat × Bytes)) : Bytes := cborHead 5 l.length ++ l.flatMap fun e => cborUint e.1 ++ e.2

/-- A reading as key 7 or 8 holds it. -/
def cborReading (r : Reading) : Bytes := cborArray [cborUint r.time, cborUint r.cycle, cborUint r.aImp, cborUint r.aExp]

/-- The bay, readings and context that a record is made from. -/
structure RecordSource where
  ctx  : Nat
  bay  : Nat
  x    : Ctx
  flags : Nat
  deriving DecidableEq, Repr

/-- Opening and closing readings; a binding that ended at its first boundary opened and closed there. -/
def RecordSource.stop (r : RecordSource) : Reading := r.x.wk.closing.getD ⟨0, 0, 0, 0⟩

@[inherit_doc RecordSource.stop]
def RecordSource.start (r : RecordSource) : Reading := r.x.wk.opening.getD r.stop

/-- Limit changes beyond those listed (R122 key 12, R185). -/
def limitsMore (h : CtxHeader) : Nat := sat 8 h.nLimits - 8

/-- The payload of a record (R122). Keys 12, 16 and 17 stand only when non-zero. -/
def recordPayload (r : RecordSource) : Bytes :=
  let h := r.x.hd
  let w := r.x.wk
  let nonZero (k v : Nat) : List (Nat × Bytes) := if v == 0 then [] else [(k, cborUint v)]
  let tariffs := (w.tariffs.zipIdx.filter fun e => mwh e.1.1 != 0 || mwh e.1.2 != 0).map fun e =>
    cborArray [cborUint (e.2 + 1), cborUint (mwh e.1.1), cborUint (mwh e.1.2)]
  let limits := w.limits.map fun l => cborArray [cborUint l.time, cborUint l.kind, cborUint l.old, cborUint l.new]
  cborMap
    ([(1, cborUint h.seq), (2, cborBytes (le 8 serialNum)), (3, cborUint r.bay), (4, cborUint r.ctx), (5, cborBytes (padTo 12 h.cred)),
      (6, cborUint h.authSrc), (7, cborReading r.start), (8, cborReading r.stop), (9, cborArray tariffs), (10, cborUint r.flags),
      (11, cborArray limits)] ++ nonZero 12 (limitsMore h) ++
     [(13, cborArray [cborUint (mwh h.sesImp), cborUint (mwh h.sesExp)]), (14, cborUint (num w.closeSum.reverse)),
      (15, cborUint w.calId)] ++ nonZero 16 w.takeovers ++ nonZero 17 w.outages ++ [(18, cborUint h.endCause)])

/-- The protected header: ES256 (−7) and the kid of serial and bay (R121). -/
def recordProtected (bay : Nat) : Bytes :=
  [byte 0xA2, byte 0x01, byte 0x26, byte 0x04] ++ cborBytes (le 8 serialNum ++ le 1 bay)

/-- The context string of a COSE signature. -/
def coseContext : Bytes := "Signature1".toList.map fun c => byte c.toNat

/-- The COSE_Sign1 rendering under a meter key (R121). -/
def coseRecord (key : Bytes) (r : RecordSource) : Bytes :=
  let prot := recordProtected r.bay
  let payload := recordPayload r
  let toSign := cborArray [cborHead 3 coseContext.length ++ coseContext, cborBytes prot, cborBytes [], cborBytes payload]
  cborHead 6 18 ++ cborArray [cborBytes prot, cborMap [], cborBytes payload, cborBytes (Config.ecdsaSign 256 key toSign)]

/-! ### OCMF (R128) -/

/-- A text as ASCII bytes. -/
def ascii (t : String) : Bytes := t.toList.map fun c => byte c.toNat

/-- The decimal digits of a number, at least `n` of them. -/
def decimal (n v : Nat) : Bytes :=
  let d := (Nat.toDigits 10 v).map fun c => byte c.toNat
  List.replicate (n - d.length) 0x30 ++ d

/-- One hexadecimal digit, uppercase. -/
def hexDigit (n : Nat) : Byte := byte (if n < 10 then 0x30 + n else 0x37 + n)

/-- Bytes in hexadecimal, the first byte first. -/
def hexText (b : Bytes) : Bytes := b.flatMap fun x => [hexDigit (x.toNat / 16), hexDigit (x.toNat % 16)]

/-- A JSON string. -/
def jsonText (b : Bytes) : Bytes := [0x22] ++ b ++ [0x22]

/-- Items with commas between them. -/
def commas : List Bytes → Bytes
  | [] => []
  | [a] => a
  | a :: l => a ++ [0x2C] ++ commas l

/-- A JSON object. -/
def jsonObject (l : List (String × Bytes)) : Bytes :=
  [0x7B] ++ commas (l.map fun e => jsonText (ascii e.1) ++ [0x3A] ++ e.2) ++ [0x7D]

/-- A JSON array. -/
def jsonArray (l : List Bytes) : Bytes := [0x5B] ++ commas l ++ [0x5D]

/-- TM of a reading: local time of the ACTIVE calendar, its offset, and status S, or U while module time is not valid. -/
def ocmfTime (s : State) (t : Nat) : Bytes :=
  let l : Int := match s.cals.active with | some c => localTime c t | none => t
  let d := dateOf (l / usDay)
  let ms := (l % usDay / 1000).toNat
  let off := (l - t) / usMin
  let clock := decimal 2 (ms / 3600000) ++ ascii ":" ++ decimal 2 (ms / 60000 % 60) ++ ascii ":" ++ decimal 2 (ms / 1000 % 60) ++
    ascii "," ++ decimal 3 (ms % 1000)
  decimal 4 d.year.toNat ++ ascii "-" ++ decimal 2 d.month ++ ascii "-" ++ decimal 2 d.day ++ ascii "T" ++ clock ++
    ascii (if off < 0 then "-" else "+") ++ decimal 2 (off.natAbs / 60) ++ decimal 2 (off.natAbs % 60) ++
    ascii (if s.time.valid then " S" else " U")

/-- RV in kWh, truncated to three decimals. -/
def ocmfEnergy (e : Nat) : Bytes := decimal 1 (e / 1000000) ++ ascii "." ++ decimal 3 (e / 1000 % 1000)

/-- One entry of RD. -/
def ocmfReading (s : State) (flags : Nat) (opening : Bool) (time e : Nat) (ri : String) : Bytes :=
  jsonObject [("TX", jsonText (ascii (if opening then "B" else "E"))), ("TM", jsonText (ocmfTime s time)), ("RV", ocmfEnergy e),
    ("RI", jsonText (ascii ri)), ("RU", jsonText (ascii "kWh")), ("RT", jsonText (ascii (if testBit flags 12 then "DC" else "AC"))),
    ("EF", jsonText (ascii (if testBit flags 2 then "t" else ""))), ("ST", jsonText (ascii "G"))]

/-- The serial in hexadecimal. -/
def serialText : Bytes := hexText (beBytes 8 serialNum)

/-- The signed part of the OCMF rendering. -/
def ocmfPayload (s : State) (r : RecordSource) : Bytes :=
  let a := r.start
  let z := r.stop
  let imp := [ocmfReading s r.flags true a.time a.aImp "1-b:1.8.0", ocmfReading s r.flags false z.time z.aImp "1-b:1.8.0"]
  let exp := [ocmfReading s r.flags true a.time a.aExp "1-b:2.8.0", ocmfReading s r.flags false z.time z.aExp "1-b:2.8.0"]
  jsonObject [("FV", jsonText (ascii "1.0")), ("GI", jsonText (ascii "KOLMOEND KGL-3256")), ("GS", jsonText serialText),
    ("GV", jsonText (decimal 1 (s.image .app).active.release)), ("PG", jsonText (ascii "T" ++ decimal 1 r.x.hd.seq)),
    ("MV", jsonText (ascii "Kolmoend")), ("MM", jsonText (ascii "KGL-3256")),
    ("MS", jsonText (serialText ++ ascii "-" ++ decimal 2 r.bay)), ("MF", jsonText (hexText r.x.wk.closeSum)), ("IS", ascii "true"),
    ("IT", jsonText (ascii "UNDEFINED")), ("ID", jsonText (hexText (padTo 12 r.x.hd.cred))), ("CT", jsonText (ascii "EVSEID")),
    ("CI", jsonText (ascii "BAY" ++ decimal 2 r.bay)), ("RD", jsonArray (imp ++ if testBit r.flags 11 then exp else []))]

/-- The OCMF rendering under a meter key. -/
def ocmfRecord (s : State) (key : Bytes) (r : RecordSource) : Bytes :=
  let p := ocmfPayload s r
  let sig := Config.derSignature (Config.ecdsaSign 256 key p)
  ascii "OCMF|" ++ p ++ ascii "|" ++
    jsonObject [("SA", jsonText (ascii "ECDSA-secp256r1-SHA256")), ("SE", jsonText (ascii "hex")), ("SD", jsonText (hexText sig))]

/-! ### Slots (R125, R126) -/

/-- The slot of a bay's meter key (R337). -/
def meterSlot (b : Nat) : Nat := 0x011 + b

/-- Slots in use outside the reserve. -/
def regularUsed (s : State) : Nat := (s.legal.records.filter fun r => !r.reserve && !r.free).length

/-- Puts a record into a free slot: one never used, or the free slot whose record is oldest. -/
def placeRecord (r : RecordSlot) (l : List RecordSlot) : List RecordSlot :=
  if (l.filter fun x => x.reserve == r.reserve).length < (if r.reserve then 1024 else 8192) then l ++ [r]
  else match l.find? fun x => x.reserve == r.reserve && x.free with
    | some old => l.filter (·.seq != old.seq) ++ [r]
    | none => l ++ [r]

/-- Detail of logbook entry 0x0007 (R119). -/
def storeDetail (s : State) (exhausted : Bool) : Bytes := le 4 (8192 - regularUsed s) ++ le 4 (reserveUsed s) ++ le 1 (bit exhausted)

/-- A BOUND context that has never entered ENERGISING is held in AUTHORISED while R207 holds, and the bay of one in SUSPENDED_EVSE
says why it waits (R182, R207). -/
def holdSessions (s : State) : State :=
  (List.range 32).foldl (fun a b =>
    match (a.bay b).ctx with
    | some c =>
      if !heldByStore a (a.ctx c) then a
      else if (a.ctx c).hd.state == .bound then evaluateBay b (moveCtx c .authorised 14 [] errState a)
      else if (a.ctx c).hd.state == .suspendedEvse then evaluateBay b a
      else a
    | none => a) s

/-- The store becomes exhausted (R125). -/
def exhaustStore (s : State) : State :=
  if s.legal.exhausted then s
  else logbookNow 7 0xFF (storeDetail s true) { s with legal := { s.legal with exhausted := true } }

/-- The level of the store after a change: relieved with 64 free slots, reported at 90 % (R125). -/
def storeLevel (s : State) : State :=
  let used := regularUsed s
  let s1 :=
    if s.legal.exhausted && used + 64 ≤ 8192 then
      serveWaiting (logbookNow 7 0xFF (storeDetail s false) { s with legal := { s.legal with exhausted := false } })
    else s
  let high := 8192 * 9 ≤ 10 * used
  let s2 : State := { s1 with legal := { s1.legal with level90 := high } }
  if high && !s.legal.level90 then record 0x0205 0 1 (le 2 used ++ le 2 (reserveUsed s2)) s2 else s2

/-- A record waits for a slot or for a usable meter key: reported once (R121, R126). -/
def waitRecord (c : Nat) (s : State) : State :=
  if (s.ctx c).wk.recordWait then s
  else ntfCtx c 13 (le 4 (s.ctx c).hd.seq) (s.modWk c fun w => { w with recordWait := true })

/-- NTF_RECORD_READY (R294). -/
def ntfRecordReady (r : RecordSlot) (flags : Nat) (s : State) : State :=
  notify 0xF004 0 (le 4 r.seq ++ le 1 r.bay ++ le 1 r.ctx ++ le 2 flags ++ le 1 (1 + 2 * bit (!r.ocmf.isEmpty)) ++
    le 1 (bit r.reserve) ++ le 2 0) s

/-- Builds, signs and stores the record of a context in a slot of a kind; the context enters CLOSED (R121, R182). -/
def storeRecord (c b : Nat) (reserve : Bool) (s : State) : State :=
  let s1 := s.modHd c fun h => { h with flags := h.flags ||| (if reserve then 0x400 else 0) }
  let x := s1.ctx c
  let src : RecordSource := { ctx := c, bay := b, x := x, flags := bits x.hd.flags 0 13 }
  let key := (s.key (meterSlot b)).material
  let r : RecordSlot :=
    { seq := x.hd.seq, ctx := c, bay := b, signedAt := s.time.now, reserve := reserve, cose := coseRecord key src
      ocmf := if s.field 0x0405 16 1 == 1 then ocmfRecord s1 key src else [] }
  let s2 : State := { s1 with legal := { s1.legal with records := placeRecord r s1.legal.records } }
  let s3 := ntfRecordReady r src.flags s2
  let s4 := moveCtx c .closed 10 (le 4 r.seq) errState (s3.modWk c fun w => { w with recordWait := false })
  holdSessions (storeLevel s4)

/-- RECORD_SIGN (R121, R126): a record without a usable key or a free slot waits. -/
def execRecordSign (ctx : Nat) (s : State) : Out :=
  atCtx ctx s fun s =>
    let x := s.ctx ctx
    match x.hd.bay with
    | none => s
    | some b =>
      if x.hd.state != .finishing || x.wk.closing.isNone || !metersRun s then s
      else if !keyUsable s (meterSlot b) [3] 2 (.engine 0) then waitRecord ctx (askKey (meterSlot b) [3] 2 (.engine 0) s)
      else if regularUsed s < 8192 then storeRecord ctx b false s
      else
        let s1 := exhaustStore s
        if reserveUsed s1 < 1024 then storeRecord ctx b true s1 else holdSessions (waitRecord ctx s1)

/-- RECORD_SLOT_FREED (R125): RETAIN_DAYS have passed since an acknowledged record was signed. -/
def execRecordSlotFreed (seq : Nat) (s : State) : Out :=
  let days := s.field 0x0405 0 16
  let due (r : RecordSlot) : Bool := r.seq == seq && r.acked && !r.free && r.signedAt + days * 86400000000 ≤ s.time.now
  .next (if s.legal.records.any due then
      storeLevel { s with legal := { s.legal with records := s.legal.records.map fun r => if due r then { r with free := true } else r } }
    else s)

/-- RECORD_READ (R127, R318). -/
def cmdRecordRead : Command where
  op := 0x0507
  life := .notBlank
  len := exactly 8
  rsv := [(5, 3)]
  body _ pl s :=
    let rendering := fld pl 4 1
    if 1 < rendering then refuse s errParam
    else match s.legal.records.find? (·.seq == fld pl 0 4) with
    | none => refuse s errNotFound
    | some r =>
      let data := if rendering == 1 then r.ocmf else r.cose
      if data.isEmpty then refuse s errNotFound else okWith s (le 2 data.length ++ le 2 0 ++ data)

def execRecordRead (h : Hdr) (pl : Bytes) (s : State) : Out := hostCmd cmdRecordRead h pl s

end Sys2Proof.Machine
end

