-- ==== Sys2Proof/Machine/Display.lean ====
section
/-! DEFINITION. The legal display (R400 to R408): host drawing, blink rectangles, refresh passes with their checksums, and the
legal region. -/

namespace Sys2Proof.Machine

open Sys2Proof

/-! ### Geometry -/

/-- A field of the display configuration (R402). -/
def State.dispField (s : State) (lsb w : Nat) : Nat := s.field 0x0600 lsb w

/-- EN of the display. -/
def panelOn (s : State) : Bool := s.dispField 1 1 == 1

/-- WIDTH and HEIGHT. -/
def panelWidth (s : State) : Nat := s.dispField 16 16

@[inherit_doc panelWidth]
def panelHeight (s : State) : Nat := s.dispField 32 16

/-- Bits per pixel (R401). -/
def bitsPerPixel (s : State) : Nat := if s.dispField 0 1 == 1 then 3 else 1

/-- Bytes per row of the frame memory (R403). -/
def rowBytes (s : State) : Nat := panelWidth s * bitsPerPixel s / 8

/-- The first row of the legal region (R403). -/
def legalTop (s : State) : Nat := panelHeight s - 64

/-- Changes the display. -/
def State.modDisp (s : State) (f : Display → Display) : State := { s with disp := f s.disp }

/-! ### Commands -/

/-- DISP_CONFIGURE (R326). -/
def cmdDispConfigure : Command where
  op := 0x0C00
  life := .n
  sc := true
  len := exactly 16
  body c pl s := stageObject c 0x0600 pl s

def execDispConfigure (h : Hdr) (pl : Bytes) (s : State) : Out := hostCmd cmdDispConfigure h pl s

/-- Bit `i` of bytes, the first in bit 7 of the first byte (R403). -/
def msbBit (bs : Bytes) (i : Nat) : Bool := testBit (bs.getD (i / 8) 0).toNat (7 - i % 8)

/-- A byte of a row with the bits from `from_` to `to_` of the row replaced by a source's bits, its first at `from_`. -/
def blendByte (old : Byte) (col from_ to_ : Nat) (src : Bytes) (srcBit : Nat) : Byte :=
  byte ((List.range 8).foldl (fun a i =>
    let p := 8 * col + i
    2 * a + bit (if from_ ≤ p && p < to_ then msbBit src (srcBit + p - from_) else testBit old.toNat (7 - i))) 0)

/-- Draws one row of a rectangle: pixel data in whole bytes per row (R403). -/
def drawRow (s : State) (y from_ to_ : Nat) (data : Bytes) (m : List Host.Cell) : List Host.Cell :=
  (List.range ((to_ + 7) / 8 - from_ / 8)).foldl (fun a k =>
    let col := from_ / 8 + k
    let addr := y * rowBytes s + col
    writeMem a addr (blendByte (readMem a addr) col from_ to_ data 0)) m

/-- Draws a rectangle. -/
def drawRect (s : State) (x y w h : Nat) (data : Bytes) (m : List Host.Cell) : List Host.Cell :=
  let bpp := bitsPerPixel s
  let per := (w * bpp + 7) / 8
  (List.range h).foldl (fun a r => drawRow s (y + r) (x * bpp) ((x + w) * bpp) ((data.drop (r * per)).take per) a) m

/-- DISP_WRITE (R403). With no DISP image the area outside the legal region stays blank (R358). -/
def dispWriteBody (_ : Call) (pl : Bytes) (s : State) : Ans :=
  let x := fld pl 0 2
  let y := fld pl 2 2
  let w := fld pl 4 2
  let h := fld pl 6 2
  let data := pl.drop 8
  if data.length != h * ((w * bitsPerPixel s + 7) / 8) then refuse s errLength
  else if panelWidth s < x + w || panelHeight s < y + h then refuse s errParam
  else if legalTop s < y + h then refuse s errLegal
  else if s.power.failedKinds.getD 4 false then ok s
  else ok (s.modDisp fun d => { d with frame := drawRect s x y w h data d.frame })

/-- DISP_WRITE (R326). -/
def cmdDispWrite : Command where
  op := 0x0C01
  life := .notBlank
  sc := true
  len := between 9 65344
  body := dispWriteBody

def execDispWrite (h : Hdr) (pl : Bytes) (s : State) : Out := hostCmd cmdDispWrite h pl s

/-- One rectangle of DISP_BLINK, clipped to the area above the legal region (R408). -/
def blinkOf (s : State) (b : Bytes) : Blink :=
  let x := min (fld b 0 2) (panelWidth s)
  let y := min (fld b 2 2) (legalTop s)
  { x := x, y := y, w := min (fld b 4 2) (panelWidth s - x), h := min (fld b 6 2) (legalTop s - y), rate := fld b 8 2 }

/-- DISP_BLINK (R408). -/
def dispBlinkBody (_ : Call) (pl : Bytes) (s : State) : Ans :=
  let n := fld pl 0 1
  let entries := (List.range n).map fun k => slice pl (4 + 12 * k) 12
  let bad (b : Bytes) : Bool := fld b 8 2 < 5 || 40 < fld b 8 2 || !zeroAt b 10 2
  if 8 < n || entries.any bad then refuse s errParam
  else ok (s.modDisp fun d => { d with blinks := entries.map (blinkOf s) })

/-- DISP_BLINK (R326). -/
def cmdDispBlink : Command where
  op := 0x0C02
  life := .notBlank
  sc := true
  len pl := 4 ≤ pl.length && pl.length == 4 + 12 * fld pl 0 1
  rsv := [(1, 3)]
  body := dispBlinkBody

def execDispBlink (h : Hdr) (pl : Bytes) (s : State) : Out := hostCmd cmdDispBlink h pl s

/-! ### The frame as sent -/

/-- A byte of the legal region (R405, R407): the error pattern, a blank line, or a line's text in the mask-ROM font. -/
def legalByte (s : State) (row col : Nat) : Byte :=
  if s.disp.patternTo.isSome then Config.fontByte [0] row col
  else match s.disp.legalText.getD (row / 16) [] with
    | [] => 0
    | t => Config.fontByte t (row % 16) col

/-- The legal region, row by row. -/
def legalBytes (s : State) : Bytes := (List.range 64).flatMap fun r => (List.range (rowBytes s)).map (legalByte s r)

/-- The frame memory above the legal region. -/
def outsideBytes (s : State) : Bytes := readMemN s.disp.frame 0 (legalTop s * rowBytes s)

/-- A rectangle blinks in the alternate half-periods of its rate, 5 000 000 / rate µs each (R408). DESIGN CHOICE (log entry 170): the
half-periods count from the oscillator's instant 0. -/
def blinkOn (s : State) (b : Blink) : Bool := s.time.osc * b.rate / 5000000 % 2 == 1

/-- A pixel is sent inverted (R408): by each rectangle that covers it, in the area above the legal region, which stays blank without a DISP
image (R358). -/
def inverted (s : State) (x y : Nat) : Bool :=
  Nat.blt y (legalTop s) && !s.power.failedKinds.getD 4 false && s.disp.blinks.foldl (fun a b =>
    a != (blinkOn s b && b.x ≤ x && Nat.blt x (b.x + b.w) && b.y ≤ y && Nat.blt y (b.y + b.h))) false

/-- The `n` low bits of a number, the most significant first (R401). -/
def msbBits (n v : Nat) : List Bool := (List.range n).map fun i => testBit v (n - 1 - i)

/-- The row check (R401): CRC-8 with polynomial 0x07 and initial value 0. -/
def rowCheck (l : List Bool) : Nat :=
  l.foldl (fun c b => let d := 2 * c % 256; if (c / 128 % 2 == 1) != b then d ^^^ 7 else d) 0

/-- A row as DISP_DAT carries it (R401): row command, row number, pixels, row check. -/
def rowBits (s : State) (y : Nat) (row : Bytes) : List Bool :=
  let bpp := bitsPerPixel s
  let pixels := (List.range (panelWidth s * bpp)).map fun i => msbBit row i != inverted s (i / bpp) y
  let body := msbBits 4 6 ++ msbBits 12 y ++ pixels
  body ++ msbBits 8 (rowCheck body)

/-- The bits of a refresh pass on DISP_DAT (R401): start word, every row from the top, end word. -/
def passBits (s : State) : List Bool :=
  let frame := outsideBytes s ++ legalBytes s
  msbBits 16 0xD25A ++
    ((List.range (panelHeight s)).flatMap fun y => rowBits s y ((frame.drop (y * rowBytes s)).take (rowBytes s))) ++
    msbBits 16 (s.dispField 0 1)

/-- The checksum of the frame that a pass should find (R407). -/
def expectedCrc (s : State) : Nat := crc32c (outsideBytes s ++ legalBytes s)

/-- Bytes with one bit turned: 0 turns none, `n` + 1 turns bit `n`. -/
def flipBit (n : Nat) (bs : Bytes) : Bytes :=
  if n == 0 then bs else bs.modify ((n - 1) / 8) fun b => b ^^^ byte (2 ^ ((n - 1) % 8))

/-- DISP_GET_CHECK (R407). -/
def cmdDispGetCheck : Command where
  op := 0x0C03
  life := .notBlank
  len := exactly 0
  body _ _ s := okWith s (le 4 (expectedCrc s) ++ le 4 s.disp.lastCrc ++ le 4 s.disp.lastLegal ++ le 4 s.disp.passes)

def execDispGetCheck (h : Hdr) (pl : Bytes) (s : State) : Out := hostCmd cmdDispGetCheck h pl s

/-- The display engine runs: with the metrology domain (R441, R442). -/
def displayRuns (s : State) : Bool :=
  (s.power.state == .active || s.power.state == .quiet) && !s.power.flushing &&
    (s.power.starting == none || s.power.starting == some .w)

/-- A mismatch in the legal region (R407): the error pattern for 10 s, an event record, and a logbook entry for the first one or
after an hour without. -/
def legalMismatch (expected found : Nat) (s : State) : State :=
  let detail := le 4 s.disp.passes ++ le 4 expected ++ le 4 found
  let first := match s.disp.mismatchAt with | none => true | some t => t + 3600000000 ≤ s.time.osc
  let s1 := record 0x0C01 0 1 detail (s.modDisp fun d =>
    { d with patternTo := some (s.after 10000000), mismatchAt := some s.time.osc })
  if first then logbookNow 4 0xFF detail s1 else s1

/-- One refresh pass (R401, R407) over a frame as sent, with at most one wrong bit in each area. -/
def refreshPass (legalFlip outsideFlip : Nat) (s : State) : State :=
  let legal := flipBit legalFlip (legalBytes s)
  let found := crc32c legal
  let whole := crc32c (flipBit outsideFlip (outsideBytes s) ++ legal)
  let expectedLegal := crc32c (legalBytes s)
  let expected := expectedCrc s
  let s1 := s.modDisp fun d => { d with
    lastCrc := whole, lastLegal := found, passes := (d.passes + 1) % 2 ^ 32, lastPass := s.time.osc }
  if found != expectedLegal then legalMismatch expectedLegal found s1
  else if whole != expected then record 0x0C01 0 1 (le 4 s1.disp.passes ++ le 4 expected ++ le 4 whole) s1
  else s1

/-- REFRESH_PASS (R401): every 1 / REFRESH_HZ s. -/
def execRefreshPass (legalFlip outsideFlip : Nat) (s : State) : Out :=
  .next (if !displayRuns s || !panelOn s || s.time.osc < s.disp.lastPass + 1000000 / max 1 (s.dispField 48 8) then s
    else refreshPass legalFlip outsideFlip s)

/-! ### The legal region -/

/-- The register set shown (R402 LEGAL_BAY): of the used bays in turn, CYCLE_S each; the site where no bay is used. -/
def shownSet (s : State) : Nat :=
  let sel := s.dispField 8 8
  if sel ≤ 32 then sel
  else
    let used := (List.range 32).filter s.bayUsed
    let turn := s.time.now / (1000000 * max 1 (s.dispField 80 8))
    used.getD (turn % max 1 used.length) 32

/-- Energy of the display: kWh with three decimals, truncated (R8). -/
def kwhText (e : Nat) : Bytes := let m := mwh e / 1000; decimal 1 (m / 1000) ++ ascii "." ++ decimal 3 (m % 1000)

/-- The safety check value is shown (R405). -/
def checkShown (s : State) : Bool := s.dispField 2 1 == 1 || s.disp.scUntil.isSome

/-- The four lines (R405). -/
def legalLines (s : State) : List Bytes :=
  let k := shownSet s
  let r := s.regSet k
  let name := if k < 32 then ascii "BAY" ++ decimal 2 k else ascii "SITE"
  let sum := hexText (legalChecksum s)
  let check :=
    if !checkShown s then []
    else if s.safety.sc1Block != s.safety.sc2Block then ascii "SC MISMATCH"
    else ascii "SC " ++ hexText (beBytes 4 (safetyCheck s.safetyBlock))
  [name ++ ascii " A+ " ++ kwhText (r.acc.getD 0 0), ascii "A- " ++ kwhText (r.acc.getD 1 0), ascii "LC " ++ sum, check]

/-- The renderer draws the region from the registers committed last (R405). -/
def renderLegal (s : State) : State := s.modDisp fun d => { d with legalText := legalLines s, lastRender := s.time.osc }

/-- LEGAL_REGION_RENDER (R405): once per second. -/
def execLegalRegionRender (s : State) : Out :=
  .next (if displayRuns s && s.disp.lastRender + 1000000 ≤ s.time.osc then renderLegal s else s)

/-- ERROR_PATTERN_END (R407): after 10 s. -/
def execErrorPatternEnd (s : State) : Out :=
  .next (if s.dueOpt s.disp.patternTo then renderLegal (s.modDisp fun d => { d with patternTo := none }) else s)

/-- SC_DISPLAY_END (R405): 600 s after the load. -/
def execScDisplayEnd (s : State) : Out :=
  .next (if s.dueOpt s.disp.scUntil then s.modDisp fun d => { d with scUntil := none } else s)

/-- The time between two edges of DISP_VCOM in µs (R401, R406): at VCOM_HZ, and at 1 Hz from the always-on die. DESIGN CHOICE (log
entry 174): one edge per period. -/
def vcomPeriod (s : State) : Nat :=
  if s.power.state == .standby || s.power.state == .backup then 1000000 else 1000000 / max 1 (s.dispField 56 8)

/-- VCOM_TOGGLE (R401, R406): when an edge is due; low while EN is 0 and in OFF. -/
def execVcomToggle (s : State) : Out :=
  .next (if !panelOn s || s.power.state == .off then s.modDisp fun d => { d with vcom := false }
    else if s.time.osc < s.disp.vcomAt + vcomPeriod s then s
    else s.modDisp fun d => { d with vcom := !d.vcom, vcomAt := s.time.osc })

/-- The legal region drawn and one pass completed, before STANDBY and at PFAIL (R406). -/
def lastPassOf (s : State) : State :=
  let s1 := renderLegal s
  if panelOn s1 then refreshPass 0 0 s1 else s1

end Sys2Proof.Machine
end

