-- ==== Sys2Proof/Machine/Keys.lean ====
section
/-! DEFINITION. The key store (R334 to R345), the life-cycle (R324, R346, R347), attestation (R348) and the debug port. -/

namespace Sys2Proof.Machine

open Sys2Proof

/-! ### Slot records -/

/-- A slot record, 16 bytes (R334). -/
def slotBytes (k : KeySlot) : Bytes :=
  le 16 (pack [(0, k.parent), (10, k.state.code), (12, k.type), (16, k.usage), (22, bit k.classB), (24, k.worlds), (28, k.masters),
    (32, k.lifecycles), (40, k.engine), (64, k.created)])

/-- KEY_LIST (R323, R334): the list ends at slot 511. -/
def keyListBody (_ : Call) (pl : Bytes) (s : State) : Ans :=
  let first := fld pl 0 2
  if 511 < first then refuse s errParam
  else
    let l := (s.keys.drop first).take (min (fld pl 2 2) 4080)
    okWith s (le 2 l.length ++ le 2 0 ++ l.flatMap slotBytes)

/-- KEY_LIST (R323). -/
def cmdKeyList : Command where
  op := 0x0800
  life := .notBlank
  len := exactly 4
  body := keyListBody

def execKeyList (h : Hdr) (pl : Bytes) (s : State) : Out := hostCmd cmdKeyList h pl s

/-- A type of an ECC key: curve size, and whether it is public (R334). -/
def eccType : Nat → Option (Nat × Bool)
  | 3 => some (256, false)
  | 4 => some (384, false)
  | 5 => some (256, true)
  | 6 => some (384, true)
  | 7 => some (521, false)
  | 8 => some (521, true)
  | _ => none

/-- A slot that no key command may name: a number beyond the store, or a reserved one (R337). -/
def slotBad (n : Nat) : Bool := 511 < n || (8 ≤ n && n ≤ 15)

/-- KEY_GET_PUBLIC (R342): the point of a VALID ECC slot, without checks 3 and 4. -/
def keyGetPublicBody (_ : Call) (pl : Bytes) (s : State) : Ans :=
  let n := fld pl 0 2
  let k := s.key n
  if slotBad n then refuse s errParam
  else if k.state != .valid then refuse s errNotFound
  else match eccType k.type with
    | none => refuse s errAuth
    | some _ => okWith s (le 1 k.type ++ [0] ++ le 2 k.point.length ++ k.point)

/-- KEY_GET_PUBLIC (R323). -/
def cmdKeyGetPublic : Command where
  op := 0x0805
  life := .notBlank
  len := exactly 2
  body := keyGetPublicBody

def execKeyGetPublic (h : Hdr) (pl : Bytes) (s : State) : Out := hostCmd cmdKeyGetPublic h pl s

/-! ### Attributes -/

/-- The attributes of a command: a slot record with STATE and CREATED 0 (R334). -/
def attributes (b : Bytes) : KeySlot :=
  let n := num (b.take 16)
  { parent := bits n 0 10, type := bits n 12 4, usage := bits n 16 6, classB := bits n 22 1 == 1, worlds := bits n 24 4,
    masters := bits n 28 4, lifecycles := bits n 32 6, engine := bits n 40 3 }

/-- Usage bits that a type allows (R335). -/
def typeUsage (type : Nat) : Nat :=
  match type with
  | 1 => 0x3F
  | 2 => 0x1C
  | 3 | 4 | 7 => 0x0C
  | 5 | 6 | 8 => 0x08
  | _ => 0

/-- Attributes in range (R334, R335, R337): the parent is a slot that may be named, or the root; the record holds nothing else than its fields, class B has neither worlds nor masters,
class A no engine, and a P-521 private key belongs to the TLS engine. -/
def attributesOk (b : Bytes) : Bool :=
  let k := attributes b
  slotBytes k == b.take 16 && (!slotBad k.parent || k.parent == 0x3FF) && 1 ≤ k.type && k.type ≤ 8 &&
    k.usage &&& typeUsage k.type == k.usage &&
    (if k.classB then k.worlds == 0 && k.masters == 0 && k.engine ≤ 4 else k.engine == 0) &&
    (k.type != 7 || (k.classB && k.engine == 1))

/-- A slot of the metering identity: the meter parent and the meter keys (R337). -/
def isMeterSlot (n : Nat) : Bool := inBlock n 0x010 33

/-- WORLDS that a fixed slot asks for (R337). -/
def fixedWorlds (n : Nat) : Option Nat := if n == 4 then some 0x2 else if n == 6 then some 0x8 else none

/-- The attributes of a meter slot exactly (R337, R340). -/
def meterAttributes (n : Nat) : KeySlot :=
  if n == 0x010 then { parent := 0x3FF, type := 1, usage := 0x10, classB := true, lifecycles := 0x3C, engine := 0 }
  else { parent := 0x010, type := 3, usage := 0x04, classB := true, lifecycles := 0x18, engine := 0 }

/-- The parent stands: VALID, or the fused root (R338). -/
def parentOk (s : State) (parent : Nat) : Bool := parent == 0x3FF || (s.key parent).state == .valid

/-- The material that a child's wrapping key derives from (R336). -/
def parentMaterial (s : State) (parent : Nat) : Bytes := if parent == 0x3FF then rootMaterial else (s.key parent).material

/-- A slot becomes VALID with material and, for an ECC key, its public point; what is stored of it is wrapped (R336). -/
def fillSlot (n : Nat) (k : KeySlot) (material point : Bytes) (s : State) : State :=
  let stored := wrapMaterial (parentMaterial s k.parent) n (if material.isEmpty then point else material)
  s.modKey n fun _ => { k with state := .valid, created := s.time.now, material := material, point := point, wrapped := stored }

/-- Logbook entry 0x0006 for a meter slot (R119): bay 0xFF for the meter parent; action 0 generated, 1 invalidated. -/
def keyLogbook (world n action : Nat) (s : State) : State :=
  logbookNow 6 world (le 2 n ++ le 1 (if n == 0x010 then 0xFF else n - 0x011) ++ le 1 action) s

/-- Octets of secret material of a type (R339). -/
def materialLength (type : Nat) : Nat :=
  match type with
  | 4 => 48
  | 7 => 66
  | _ => 32

/-! ### Creating keys -/

/-- The public point of an ECC private key; other types have none. -/
def pointOf (type : Nat) (material : Bytes) : Bytes :=
  match eccType type with
  | some (n, false) => Config.ecPublic n material
  | _ => []

/-- KEY_GENERATE draws the material (R338). -/
def generateInto (n : Nat) (k : KeySlot) (s : State) : Ans :=
  let (m, s1) := s.random (materialLength k.type)
  ok (fillSlot n k m (pointOf k.type m) s1)

/-- KEY_GENERATE for the metering identity (R340): logbook entry 0x0006 comes first. -/
def generateMeter (call : Call) (n : Nat) (b : Bytes) (s : State) : Ans :=
  if call.world != 2 || s.life != .calibrated then refuse s errLegal
  else if !attributesOk b || attributes b != meterAttributes n then refuse s errParam
  else if (s.key n).state != .empty then refuse s errState
  else if !parentOk s (attributes b).parent then refuse s errAuth
  else if !logbookFree s then refuse s errLegal
  else generateInto n (attributes b) (keyLogbook call.world n 0 s)

/-- KEY_GENERATE (R337, R338). -/
def keyGenerateBody (call : Call) (pl : Bytes) (s : State) : Ans :=
  let n := fld pl 0 2
  let b := slice pl 4 16
  let k := attributes b
  if slotBad n || n < 4 then refuse s errParam
  else if isMeterSlot n then generateMeter call n b s
  else if !attributesOk b || k.type == 5 || k.type == 6 || k.type == 8 ||
      (match fixedWorlds n with | some w => k.worlds != w | none => false) then refuse s errParam
  else if (s.key n).state != .empty then refuse s errState
  else if !parentOk s k.parent then refuse s errAuth
  else generateInto n k s

/-- KEY_GENERATE (R323). -/
def cmdKeyGenerate : Command where
  op := 0x0801
  worlds := [1, 2]
  life := .n
  sc := true
  len := exactly 20
  rsv := [(2, 2)]
  body := keyGenerateBody

def execKeyGenerate (h : Hdr) (pl : Bytes) (s : State) : Out := hostCmd cmdKeyGenerate h pl s

/-- The length of an uncompressed point by curve (R339). -/
def pointLength (curve : Nat) : Nat := if curve == 256 then 65 else if curve == 384 then 97 else 133

/-- KEY_IMPORT from the wrapped or plain key on (R339). -/
def importKey (call : Call) (n unwrap : Nat) (k : KeySlot) (key : Bytes) (s : State) : Ans :=
  match eccType k.type with
  | some (curve, true) =>
    if unwrap != 0xFFFF then refuse s errParam
    else if key.length != pointLength curve || key.head? != some 4 || !Config.onCurve curve key then refuse s errAuth
    else ok (fillSlot n k [] key s)
  | _ =>
    if unwrap == 0xFFFF then refuse s errParam
    else
      let asker : Requester := .command call.port call.world
      match keyFailure s unwrap [1] 5 asker with
      | some f => refuse (recordKeyRefusal unwrap f.1 asker s) f.2
      | none =>
        match Config.aesUnwrap (s.key unwrap).material key with
        | some m => if m.length == materialLength k.type then ok (fillSlot n k m (pointOf k.type m) s) else refuse s errAuth
        | none => refuse s errAuth

/-- KEY_IMPORT (R337 to R340). -/
def keyImportBody (call : Call) (pl : Bytes) (s : State) : Ans :=
  let n := fld pl 0 2
  let b := slice pl 8 16
  let k := attributes b
  if slotBad n || n < 4 || n == 5 then refuse s errParam
  else if isMeterSlot n then refuse s errLegal
  else if !attributesOk b || (match fixedWorlds n with | some w => k.worlds != w | none => false) then refuse s errParam
  else if (match eccType k.type with | some (_, true) => fld pl 2 2 != 0xFFFF | _ => slotBad (fld pl 2 2)) then refuse s errParam
  else if (s.key n).state != .empty then refuse s errState
  else if !parentOk s k.parent then refuse s errAuth
  else importKey call n (fld pl 2 2) k (pl.drop 24) s

/-- KEY_IMPORT (R323). -/
def cmdKeyImport : Command where
  op := 0x0802
  worlds := [1]
  life := .n
  sc := true
  len := between 25 280
  rsv := [(4, 4)]
  body := keyImportBody

def execKeyImport (h : Hdr) (pl : Bytes) (s : State) : Out := hostCmd cmdKeyImport h pl s

/-- KEY_DERIVE (R336 to R338, R340): the parent must be a slot that permits derivation. -/
def keyDeriveBody (call : Call) (pl : Bytes) (s : State) : Ans :=
  let n := fld pl 0 2
  let b := slice pl 4 16
  let k := attributes b
  let asker : Requester := .command call.port call.world
  if slotBad n then refuse s errParam
  else if isMeterSlot n then refuse s errLegal
  else if !attributesOk b || !(k.type == 1 || k.type == 2) ||
      (match fixedWorlds n with | some w => k.worlds != w | none => false) then refuse s errParam
  else if (s.key n).state != .empty then refuse s errState
  else if k.parent == 0x3FF || !parentOk s k.parent then refuse s errAuth
  else match keyFailure s k.parent [1, 2] 4 asker with
    | some f => refuse (recordKeyRefusal k.parent f.1 asker s) errAuth
    | none => ok (fillSlot n k (hkdf (s.key k.parent).material (pl.drop 20)) [] s)

/-- KEY_DERIVE (R323). -/
def cmdKeyDerive : Command where
  op := 0x0803
  worlds := [1]
  life := .n
  sc := true
  len := between 21 84
  rsv := [(2, 2)]
  body := keyDeriveBody

def execKeyDerive (h : Hdr) (pl : Bytes) (s : State) : Out := hostCmd cmdKeyDerive h pl s

/-! ### Invalidation -/

/-- The VALID slots whose parent is one of a list. -/
def childSlots (s : State) (l : List Nat) : List Nat :=
  (List.range 512).filter fun n => (s.key n).state == .valid && l.contains (s.key n).parent && !l.contains n

/-- A list of slots with all their VALID descendants, over at most `fuel` generations. -/
def withDescendants (s : State) : Nat → List Nat → List Nat
  | 0, l => l
  | fuel + 1, l =>
    let c := childSlots s l
    if c.isEmpty then l else withDescendants s fuel (l ++ c)

/-- The VALID descendants of a slot (R343). -/
def descendants (s : State) (n : Nat) : List Nat := (withDescendants s 512 [n]).filter (· != n)

/-- A context of a bay in ENERGISING to FINISHING (R345). -/
def bayRuns (s : State) (b : Nat) : Bool :=
  s.ctxs.any fun x => x.hd.bay == some b && (running x.hd.state || x.hd.state == .finishing)

/-- The world whose key a slot holds (R342). -/
def worldOfSlot (n : Nat) : Option World := if n == 4 then some .service else if n == 5 then some .legal else if n == 6 then some .safety else none

/-- Closes a world on every port. -/
def closeWorldEverywhere (w : World) (s : State) : State :=
  [HostPort.spi, HostPort.uart].foldl (fun a p => if (a.port p).world == w then closeWorldOn p a else a) s

/-- Erases a slot and orphans its descendants; bays that lose their meter key are disabled (R343 to R345). -/
def invalidateSlot (n : Nat) (s : State) : State × Nat :=
  let l := if (s.key n).state == .valid then descendants s n else []
  let s1 := l.foldl (fun a k => a.modKey k fun x => { x with state := .orphaned, material := [] }) (s.modKey n fun _ => {})
  let s2 := match worldOfSlot n with | some w => closeWorldEverywhere w s1 | none => s1
  let hit := (List.range 32).filter fun b => n == 0x011 + b || l.contains (0x011 + b)
  (hit.foldl (fun a b => (disableBay b [] a).1) s2, l.length)

/-- KEY_INVALIDATE (R337, R343, R345). -/
def keyInvalidateBody (call : Call) (pl : Bytes) (s : State) : Ans :=
  let n := fld pl 0 2
  let done (x : State × Nat) : Ans := okWith x.1 (le 2 x.2 ++ le 2 0)
  if slotBad n || n < 4 then refuse s errParam
  else if n == 5 then refuse s errLegal
  else if isMeterSlot n then
    let bays := if n == 0x010 then (List.range 32).filter fun b => (s.key (0x011 + b)).state == .valid else [n - 0x011]
    if call.world != 2 || s.life == .manufactured || s.life == .blank then refuse s errLegal
    else if (s.key n).state == .empty then refuse s errNotFound
    else if bays.any (bayRuns s) || !logbookFree s then refuse s errLegal
    else done (invalidateSlot n (keyLogbook call.world n 1 s))
  else if (s.key n).state == .empty then refuse s errNotFound
  else done (invalidateSlot n s)

/-- KEY_INVALIDATE (R323). -/
def cmdKeyInvalidate : Command where
  op := 0x0804
  worlds := [1, 2]
  life := .notBlank
  sc := true
  len := exactly 4
  rsv := [(2, 2)]
  body := keyInvalidateBody

def execKeyInvalidate (h : Hdr) (pl : Bytes) (s : State) : Out := hostCmd cmdKeyInvalidate h pl s

/-! ### Attestation -/

/-- The attestation input behind its challenge, bytes 16 to 255 (R348). -/
def attestInput (s : State) : Bytes :=
  let c := s.cont
  let digests := (List.range 5).flatMap fun k => padTo 32 (s.images.kinds.getD k {}).active.digest
  le 8 serialNum ++ [0x45] ++ le 1 s.life.code ++
    le 1 (bitsOf [confirmedNow s, s.time.valid, s.power.debugOpen]) ++ [0] ++ (List.range 32).map Config.romId ++ digests ++
    padTo 4 (legalChecksum s) ++ le 4 (safetyCheck s.safetyBlock) ++ le 4 c.toMe ++ le 4 c.toCe ++ le 4 c.toDsp ++ le 4 c.toSc ++
    le 8 s.time.now ++ le 4 s.clk.cycle.toNat

/-- ATTEST (R348). -/
def attestBody (call : Call) (pl : Bytes) (s : State) : Ans :=
  let asker : Requester := .command call.port call.world
  match keyFailure s 7 [1, 2] 2 asker with
  | some f => refuse (recordKeyRefusal 7 f.1 asker s) f.2
  | none =>
    let input := attestInput s
    okWith s (hmac (s.key 7).material (pl ++ input) ++ input)

/-- ATTEST (R323). -/
def cmdAttest : Command where
  op := 0x0806
  life := .notBlank
  len := exactly 16
  body := attestBody

def execAttest (h : Hdr) (pl : Bytes) (s : State) : Out := hostCmd cmdAttest h pl s

/-! ### Life-cycle -/

/-- The life-cycle state of a code. -/
def Lifecycle.ofCode : Nat → Option Lifecycle
  | 0 => some .blank
  | 1 => some .manufactured
  | 2 => some .calibrated
  | 3 => some .provisioned
  | 4 => some .commissioned
  | 5 => some .retired
  | _ => none

/-- The world that a transition asks for, none where R324 has no such transition. -/
def transitionWorld (old new : Lifecycle) : Option Nat :=
  match old, new with
  | .manufactured, .calibrated => some 2
  | .calibrated, .provisioned => some 2
  | .provisioned, .commissioned => some 1
  | .manufactured, .retired | .calibrated, .retired | .provisioned, .retired | .commissioned, .retired => some 1
  | _, _ => none

/-- The further condition of a transition, as the status it is refused with (R324). -/
def transitionRefusal (s : State) (new : Lifecycle) : Option Nat :=
  match new with
  | .commissioned => if confirmedNow s then none else some errSafety
  | .retired =>
    if s.anyEnergised || s.ctxs.any fun x => running x.hd.state || x.hd.state == .finishing then some errState else none
  | _ => none

/-- A life-cycle state is entered: logbook entry 0x0005 first; at COMMISSIONED and RETIRED the debug port closes (R324, R346). -/
def enterLifecycle (new : Lifecycle) (world : Nat) (s : State) : State :=
  let s1 := logbookNow 5 world [byte s.life.code, byte new.code] s
  let shut := new == .commissioned || new == .retired
  { s1 with life := new, power := { s1.power with
      debugOpen := s1.power.debugOpen && !shut, debugChallenge := if shut then none else s1.power.debugChallenge } }

/-- SET_LIFECYCLE (R324). -/
def setLifecycleBody (call : Call) (pl : Bytes) (s : State) : Ans :=
  match Lifecycle.ofCode (fld pl 0 1) with
  | none => refuse s errLifecycle
  | some new =>
    match transitionWorld s.life new with
    | none => refuse s errLifecycle
    | some w =>
      if call.world != w then refuse s errWorld
      else match transitionRefusal s new with
        | some e => refuse s e
        | none => if logbookFree s then ok (enterLifecycle new call.world s) else refuse s errLegal

/-- SET_LIFECYCLE (R323). -/
def cmdSetLifecycle : Command where
  op := 0x0807
  life := .notBlank
  sc := true
  len := exactly 4
  rsv := [(1, 3)]
  body := setLifecycleBody

def execSetLifecycle (h : Hdr) (pl : Bytes) (s : State) : Out := hostCmd cmdSetLifecycle h pl s

/-- MANUFACTURED_FUSE (R347): at the factory, through the debug port of a BLANK module. Slots 0x000 to 0x005 are filled,
logbook entry 0 is written, the interval index starts at 0 and the event sequence at 1. -/
def execManufacturedFuse (s : State) : Out :=
  .next (if s.life != .blank then s
    else
      let s0 : State :=
        { s with
          keys := s.keys.mapIdx fun k x => if k < 6 then factorySlot k else x
          recorder := { s.recorder with nextSeq := 1 }
          intervals := { s.intervals with index := 0 } }
      enterLifecycle .manufactured 0xFF s0)

/-! ### The debug port -/

/-- The debug port answers (R346): open in BLANK, after a challenge-response in MANUFACTURED to PROVISIONED, never beyond. -/
def debugAnswers (s : State) : Bool :=
  match s.life with
  | .blank => true
  | .manufactured | .calibrated | .provisioned => s.power.debugOpen
  | _ => false

/-- The states in which the port can be opened by challenge-response. -/
def debugOpenable (s : State) : Bool := s.life == .manufactured || s.life == .calibrated || s.life == .provisioned

/-- DEBUG_PORT_ACCESS (R110, R346): a request gives a challenge, its HMAC under slot 0x004 opens the port; a write to the legal
domain, or to a partition of the storage die, none of which it may write (R99), is refused and recorded in every state in which the
port answers. -/
def execDebugPortAccess (a : DebugAccess) (s : State) : Out :=
  match a with
  | .openRequest =>
    .next (if debugOpenable s then
        let (c, s1) := s.random 16
        { s1 with power := { s1.power with debugChallenge := some c } }
      else s)
  | .answer mac =>
    .next (match s.power.debugChallenge with
      | some c =>
        let s1 : State := { s with power := { s.power with debugChallenge := none } }
        match slotFailure s 4 [1, 2] 3 with
        | some f => recordKeyRefusal 4 f.1 .controlEngine s1
        | none =>
          if debugOpenable s && mac == hmac (s.key 4).material c then { s1 with power := { s1.power with debugOpen := true } } else s1
      | none => s)
  | .writeLegal address => .next (if debugAnswers s then record 0x0204 0 2 (le 1 4 ++ le 3 0 ++ le 4 address) s else s)
  | .writeNand partition => .next (if debugAnswers s then record 0x0702 0 2 (le 1 partition ++ le 1 4) s else s)
  | .read => .next s
  | .writeOther => .next s

end Sys2Proof.Machine
end

