-- ==== Sys2Proof/Machine/Lsw.lean ====
section
/-! DEFINITION. Load channels, commands 0x0Bxx and their events (R326, R381 to R398): switching, protective offs and restarts,
clamp locks, group supply and shedding. -/

namespace Sys2Proof.Machine

open Sys2Proof

/-! ### Commands -/

/-- A command whose first byte names a load channel. -/
def withChan (pl : Bytes) (s : State) (f : Nat → Ans) : Ans :=
  let k := fld pl 0 1
  if k < 112 then f k else refuse s errParam

/-- LSW_CONFIGURE (R326). -/
def cmdLswConfigure : Command where
  op := 0x0B00
  life := .n
  sc := true
  len := exactly 20
  rsv := [(1, 3)]
  body c pl s := withChan pl s fun k => stageObject c (0x0200 + k) (pl.drop 4) s

def execLswConfigure (h : Hdr) (pl : Bytes) (s : State) : Out := hostCmd cmdLswConfigure h pl s

/-- LSW_SET (R396, R327, R35). -/
def lswSetBody (call : Call) (pl : Bytes) (s : State) : Ans :=
  withChan pl s fun k =>
    let on := fld pl 1 1
    let c := s.chan k
    match execPoint (pl.drop 8) with
    | none => refuse s errParam
    | some p =>
      if 1 < on then refuse s errParam
      else if (s.holder k).isSome then refuse s errState
      else if on == 1 && (chanType s k == 0 || c.clampLock || c.lockedOut) then refuse s errState
      else if !p.at_ then ok (if on == 1 then hostOn k s else commandOff k s)
      else match pointRefusal s k p.cycle p.cycle p.angle false with
        | some e => refuse s e
        | none =>
          pending (enqueue { chan := k, bay := none, kind := .lsw (on == 1), cycle := p.cycle, angle := p.angle,
                             cmd := some call.ref } s)

/-- LSW_SET (R326). -/
def cmdLswSet : Command where
  op := 0x0B01
  life := .n
  sc := true
  len := exactly 16
  rsv := [(2, 6)]
  body := lswSetBody

def execLswSet (h : Hdr) (pl : Bytes) (s : State) : Out := hostCmd cmdLswSet h pl s

/-- LSW_GET (R397): currents and temperatures are read anew. -/
def cmdLswGet : Command where
  op := 0x0B02
  life := .notBlank
  len := exactly 4
  rsv := [(2, 2)]
  body _ pl s :=
    let first := fld pl 0 1
    let n := fld pl 1 1
    if 112 < first + n then refuse s errParam
    else okWith { s with draws := s.draws + 1 } ((List.range n).flatMap fun k => chanStatus s (first + k))

def execLswGet (h : Hdr) (pl : Bytes) (s : State) : Out := hostCmd cmdLswGet h pl s

/-- A channel that is commanded on and that nothing holds off switches on (R383, R393). -/
def restartCommanded (k : Nat) (s : State) : State :=
  let c := s.chan k
  if c.cmd && !c.out && !c.retryWait && !c.shed && mayConduct s k then switchOn k s else s

/-- LSW_UNLOCK (R393). -/
def lswUnlockBody (k : Nat) (s : State) : Ans :=
  let c := s.chan k
  if !c.clampLock && !c.lockedOut then refuse s errState
  else
    let r := chanRetries s k
    ok (restartCommanded k (s.modChan k fun c =>
      { c with clampLock := false, lockedOut := false, retries := r, offs := 0, backoffTo := 0, retryWait := false }))

/-- LSW_UNLOCK (R326). -/
def cmdLswUnlock : Command where
  op := 0x0B03
  life := .n
  sc := true
  len := exactly 1
  body _ pl s := withChan pl s fun k => lswUnlockBody k s

def execLswUnlock (h : Hdr) (pl : Bytes) (s : State) : Out := hostCmd cmdLswUnlock h pl s

/-! ### Protective offs -/

/-- An event of a load channel while the drive die drives outputs. -/
def atLiveChan (k : Nat) (s : State) (f : State → State) : Out := atChan k s fun x => if outputsDriven x then f x else x

/-- The bridge that holds a solenoid lock has failed (R394): a failed drive. With the contactor closed the bay opens first, and the
session ends by a bay fault. -/
def heldLockFails (b : Nat) (s : State) : State :=
  let y := s.bay b
  if y.isEnergised then
    let s1 := s.modBay b fun z => { z with coil := { z.coil with faulting := some 4 } }
    match y.ctx with | some c => finishCtx c 6 7 0 errState s1 | none => s1
  else lockDriveFailed b { attempt := 1, locking := true, start := s.time.osc, pulse := false } s

/-- A lock half-bridge of a bay has a protective off (R394, R142): the drive under way has failed. DESIGN CHOICE (log entry 170): a
release drive that fails has no second attempt. -/
def lockChannelFails (b : Nat) (s : State) : State :=
  let l := (s.bay b).lock
  match l.drive with
  | some d => lockDriveFailed b (if d.locking then d else { d with attempt := 2 }) s
  | none => if l.held then heldLockFails b s else s

/-- What a channel's protective off, shedding or loss of supply does to the bay that holds it (R394): a trip of a coil channel's
bay, a failed lock drive of a lock channel's. -/
def holderReacts (k : Nat) (s : State) : State :=
  match s.coilBay k with
  | some b => coilFails b s
  | none => match s.lockBay k with | some b => lockChannelFails b s | none => s

/-- A protective off (R388, R390, R391): with retries left a restart waits for its back-off, 10 ms doubled for each further one;
without, the channel is locked out. -/
def protectiveOff (k event : Nat) (mark : Chan → Chan) (s : State) : State :=
  let left := retriesLeft s k
  let wait := 10000 * 2 ^ (s.chan k).offs
  let s1 := (switchOff k s).modChan k fun c => { mark c with
    offs := c.offs + 1, backoffTo := s.after wait, retryWait := c.cmd && 0 < left, lockedOut := c.lockedOut || left == 0 }
  let s2 := ntfLsw k event s1
  holderReacts k (if left == 0 then ntfLsw k 7 s2 else s2)

/-- A sample of a channel shows a short (R388): above A_INR inside the window and above 2 × I_LIM after
it, or Vds above 3 V from 10 µs after switch-on. -/
def shorted (s : State) (x : ShortSample) : Bool :=
  let c := s.chan x.ch
  let limit := chanLimit s x.ch
  (if c.inrush then inrushHalves (chanType s x.ch) limit < 2 * x.ma else 2 * limit < x.ma) ||
    (c.onAt + 10 ≤ s.time.osc && Nat.blt 3000 x.vds)

/-- SHORT (R388): a 1 µs sample. -/
def execShort (x : ShortSample) (s : State) : Out :=
  atLiveChan x.ch s fun s =>
    if (s.chan x.ch).out && shorted s x then protectiveOff x.ch 1 (fun c => { c with short := true }) s else s

/-- The charge of a channel over 1 s is above that of 1.1 × I_LIM (R388). -/
def overloaded (s : State) (x : SecondCharge) : Bool := 11 * chanLimit s x.ch * 1000000 < 10 * x.charge

/-- OVERLOAD (R388): after the inrush window, the charge of the last second. -/
def execOverload (x : SecondCharge) (s : State) : Out :=
  atLiveChan x.ch s fun s =>
    if (s.chan x.ch).out && !(s.chan x.ch).inrush && overloaded s x then
      protectiveOff x.ch 2 (fun c => { c with overload := true }) s
    else s

/-- THERMAL_LATCH_SET (R388): at or above 170 °C. -/
def execThermalLatchSet (ch tj : Nat) (s : State) : Out :=
  atLiveChan ch s fun s =>
    let c := s.chan ch
    if tj < 170 || c.thermal then s
    else if c.out then protectiveOff ch 5 (fun c => { c with thermal := true }) s
    else ntfLsw ch 5 (s.modChan ch fun c => { c with thermal := true })

/-- THERMAL_LATCH_CLEAR (R388, R391, R393): at or below 150 °C. -/
def execThermalLatchClear (ch tj : Nat) (s : State) : Out :=
  atLiveChan ch s fun s =>
    if 150 < tj || !(s.chan ch).thermal then s
    else restartCommanded ch (ntfLsw ch 11 (s.modChan ch fun c => { c with thermal := false }))

/-- What the values of 100 ms say of an open load (R388): in the on state currents in mA, all below OPEN_MA or all above it; in the
off state with OL_OFF output voltages, all above half of VLOAD. -/
def openLoadShown (s : State) (k : Nat) (w : LoadWindow) : Option Bool :=
  let least := s.chanField k 32 16
  if chanType s k == 0 || w.values.isEmpty then none
  else if (s.chan k).out then
    if w.values.all fun v => Nat.blt v least then some true else if w.values.all fun v => Nat.blt least v then some false else none
  else if s.chanField k 7 1 == 1 && w.values.all fun v => Nat.blt w.vload (2 * v) then some true else none

/-- OPEN_LOAD (R388): in the on state, or in the off state with OL_OFF. -/
def execOpenLoad (ch : Nat) (w : LoadWindow) (s : State) : Out :=
  atLiveChan ch s fun s =>
    match openLoadShown s ch w with
    | some set =>
      if (s.chan ch).openLoad == set then s
      else ntfLsw ch (if set then 3 else 4) (s.modChan ch fun c => { c with openLoad := set })
    | none => s

/-- RETRY (R390). -/
def execRetry (ch : Nat) (s : State) : Out :=
  atLiveChan ch s fun s =>
    let c := s.chan ch
    if !c.retryWait || !c.cmd || c.out || retriesLeft s ch == 0 || !s.due c.backoffTo || !mayConduct s ch then s
    else ntfLsw ch 6 (switchOn ch (s.modChan ch fun c => { c with retries := c.retries - 1 }))

/-- RETRIES_REFILL (R392): 60 s of conduction. -/
def execRetriesRefill (ch : Nat) (s : State) : Out :=
  atLiveChan ch s fun s =>
    let c := s.chan ch
    if c.out && c.onAt + 60000000 ≤ s.time.osc then
      let r := chanRetries s ch
      s.modChan ch fun c => { c with retries := r, offs := 0 }
    else s

/-- INRUSH_WINDOW_END (R386): VALVE and COIL pass to their PWM hold. -/
def execInrushWindowEnd (ch : Nat) (s : State) : Out :=
  atLiveChan ch s fun s =>
    let c := s.chan ch
    if !c.out || !c.inrush || !s.due c.windowTo then s
    else
      let ty := chanType s ch
      s.modChan ch fun c => { c with inrush := false, hold := ty == 4 || ty == 5 }

/-! ### Group supply and shedding -/

/-- The channels of a group. -/
def groupChans (g : Nat) : List Nat := (List.range 8).map (8 * g + ·)

/-- An event of a group. -/
def atLiveGroup (g : Nat) (s : State) (f : State → State) : Out :=
  atUnit "load group" 14 g s fun x => if outputsDriven x then f x else x

/-- Sets or clears a group's undervoltage. -/
def setUndervolt (g : Nat) (v : Bool) (s : State) : State :=
  { s with groups := s.groups.modify g fun x => { x with undervolt := v } }

/-- A channel whose group has lost its supply is off and held off (R383); the bay of a coil channel reacts in CLOSING as well
(R394). -/
def loseSupply (k : Nat) (s : State) : State :=
  if (s.chan k).out then holderReacts k (switchOff k s)
  else match s.coilBay k with | some b => coilFails b s | none => s

/-- VLOAD_UNDERVOLTAGE (R383, R394): below 7.0 V, reported on the group's lowest channel. -/
def execVloadUndervoltage (x : LoadSupply) (s : State) : Out :=
  atLiveGroup x.group s fun s =>
    if 7000 ≤ x.mv || (s.groups.getD x.group {}).undervolt then s
    else
      let s1 := ntfLsw (8 * x.group) 12 (setUndervolt x.group true s)
      (groupChans x.group).foldl (fun a k => loseSupply k a) s1

/-- VLOAD_RECOVERY (R383): above 8.0 V for 10 ms. -/
def execVloadRecovery (x : LoadSupply) (s : State) : Out :=
  atLiveGroup x.group s fun s =>
    if x.mv ≤ 8000 || x.us < 10000 || !(s.groups.getD x.group {}).undervolt then s
    else (groupChans x.group).foldl (fun a k => restartCommanded k a) (setUndervolt x.group false s)

/-- Twice the current budget of a group in mA (R395). -/
def groupBudget (s : State) (g : Nat) : Nat :=
  2 * groupLimit g + ((groupChans g).map fun k =>
    if (s.chan k).inrush then inrushHalves (chanType s k) (chanLimit s k) - 2 * chanLimit s k else 0).sum

/-- The current of a channel among those of its group, 0 while it is off. -/
def chanCurrent (s : State) (currents : List Nat) (k : Nat) : Nat := if (s.chan k).out then currents.getD (k % 8) 0 else 0

/-- The rank in which a channel is shed, none where it is not (R395): the lower goes first. -/
def shedRank (s : State) (currents : List Nat) (k : Nat) : Option Nat :=
  let c := s.chan k
  let prio := s.chanField k 8 3
  let order := 8 * prio + (7 - k % 8)
  let energised (b : Nat) : Bool := (s.bay b).isEnergised
  if !c.out || c.inrush then none
  else if c.short || c.overload then some order
  else if chanLimit s k < chanCurrent s currents k then some (64 + order)
  else match s.holder k with
    | none => some (128 + order)
    | some b => if s.coilBay k == some b && energised b then some (192 + (31 - b)) else none

/-- The channel to shed next. -/
def shedNext (s : State) (currents : List Nat) (g : Nat) : Option Nat :=
  ((groupChans g).foldl (fun best k => match shedRank s currents k, best with
    | some r, some (q, _) => if r < q then some (r, k) else best
    | some r, none => some (r, k)
    | none, _ => best) (none : Option (Nat × Nat))).map (·.2)

/-- A channel is shed (R395): off until it is commanded on again, without using a retry. -/
def shedChan (k : Nat) (s : State) : State :=
  holderReacts k (ntfLsw k 9 ((switchOff k s).modChan k fun c => { c with shed := true }))

/-- Sheds channels one after another until the group is within its budget. -/
def shedLoop (g : Nat) (currents : List Nat) : Nat → State → State
  | 0, s => s
  | n + 1, s =>
    if 2 * ((groupChans g).map (chanCurrent s currents)).sum ≤ groupBudget s g then s
    else match shedNext s currents g with
      | some k => shedLoop g currents n (shedChan k s)
      | none => s

/-- GROUP_OVERLOAD (R395): the currents of the group's eight channels, above the budget for 1 ms. -/
def execGroupOverload (group : Nat) (currents : List Nat) (s : State) : Out :=
  atLiveGroup group s fun s =>
    if 2 * ((groupChans group).map (chanCurrent s currents)).sum ≤ groupBudget s group then s
    else shedLoop group currents 8 (ntfLsw (8 * group) 10 s)

end Sys2Proof.Machine
end

