-- ==== Sys2Proof/Machine/Reader.lean ====
section
/-! DEFINITION. Card readers (R409 to R417): drizzle pings and their baseline, polls, selected cards, and the authorisation of a
card that a ping has found. -/

namespace Sys2Proof.Machine

open Sys2Proof

/-- A field of a reader port's object (R410). -/
def State.rdrField (s : State) (k lsb w : Nat) : Nat := s.field (0x0610 + k) lsb w

/-- A port is in use: EN, its image loaded, no antenna fault (R410, R358, R412). -/
def portWorks (s : State) (k : Nat) : Bool :=
  s.rdrField k 0 1 == 1 && !s.power.failedKinds.getD 3 false && !(s.reader k).stopped

/-! ### Commands -/

/-- A command whose first byte names a reader port. -/
def withReader (pl : Bytes) (s : State) (f : Nat → Ans) : Ans :=
  let k := fld pl 0 1
  if k < 4 then f k else refuse s errParam

/-- RDR_CONFIGURE (R326). -/
def cmdRdrConfigure : Command where
  op := 0x0D00
  life := .n
  sc := true
  len := exactly 20
  rsv := [(1, 3)]
  body c pl s := withReader pl s fun k => stageObject c (0x0610 + k) (pl.drop 4) s

def execRdrConfigure (h : Hdr) (pl : Bytes) (s : State) : Out := hostCmd cmdRdrConfigure h pl s

/-- A poll begins: a selected card is released (R412, R415). -/
def startPoll (k protos us : Nat) (cmd : Option CmdRef) (s : State) : State :=
  (releaseCard k s).modReader k fun r => { r with
    pollTo := some (s.after us), pollCmd := cmd, pollProto := if protos == 0 then s.rdrField k 8 3 else protos }

/-- RDR_POLL (R415). A port that an antenna fault or its image keeps off answers as one with EN 0. -/
def rdrPollBody (c : Call) (pl : Bytes) (s : State) : Ans :=
  withReader pl s fun k =>
    let mode := fld pl 1 1
    let ms := fld pl 2 2
    if 7 < mode || ms == 0 || 60000 < ms then refuse s errParam
    else if !portWorks s k then refuse s errState
    else if (s.reader k).pollTo.isSome then refuse s errBusy
    else pending (startPoll k mode (1000 * ms) (some c.ref) s)

/-- RDR_POLL (R326). -/
def cmdRdrPoll : Command where
  op := 0x0D01
  life := .notBlank
  sc := true
  len := exactly 4
  body := rdrPollBody

def execRdrPoll (h : Hdr) (pl : Bytes) (s : State) : Out := hostCmd cmdRdrPoll h pl s

/-- RDR_TRANSCEIVE (R415): the card's response is a free value, none within the timeout among them. -/
def rdrTransceiveBody (_ : Call) (pl : Bytes) (s : State) : Ans :=
  withReader pl s fun k =>
    let r := s.reader k
    if r.pollTo.isSome then refuse s errBusy
    else if r.card.isNone then refuse s errNotFound
    else
      let s1 : State := { s with draws := s.draws + 1 }
      match if fld pl 2 2 == 0 then none else Config.cardAnswer s.draws (pl.drop 4) with
      | none => refuse s1 errTime
      | some a =>
        let resp := a.take 1024
        okWith (s1.modReader k fun r => { r with releaseAt := s.after 2000000 }) (le 2 resp.length ++ le 2 0 ++ resp)

/-- RDR_TRANSCEIVE (R326). -/
def cmdRdrTransceive : Command where
  op := 0x0D02
  life := .notBlank
  sc := true
  len := between 5 260
  rsv := [(1, 1)]
  body := rdrTransceiveBody

def execRdrTransceive (h : Hdr) (pl : Bytes) (s : State) : Out := hostCmd cmdRdrTransceive h pl s

/-! ### Drizzle pings -/

/-- The ports ping: in ACTIVE, QUIET and STANDBY (R411). -/
def pingsRun (s : State) : Bool := outputsDriven s || (s.power.state == .standby && s.power.starting.isNone && !s.power.flushing)

/-- The antenna current at a ping is below 20 % or above 200 % of the baseline (R412). -/
def antennaFault (r : Reader) (amp : Int) : Bool :=
  let a := 65536 * amp
  5 * a < r.baseAmp || 2 * r.baseAmp < a

/-- A ping deviates from the baseline by DET_AMP in 0.1 % or by DET_PHASE in 0.01° (R412). -/
def deviates (s : State) (k : Nat) (amp phase : Int) : Bool :=
  let r := s.reader k
  s.rdrField k 80 8 * r.baseAmp.natAbs ≤ 1000 * (65536 * amp - r.baseAmp).natAbs ||
    65536 * s.rdrField k 88 8 ≤ (65536 * phase - r.basePhase).natAbs

/-- The baseline follows a ping that detects nothing: an exponential average over 60 s (R412). -/
def followBase (ms : Nat) (base v : Int) : Int := base + quot ((65536 * v - base) * ms) 60000

/-- One ping of the eight that make a baseline. -/
def basePing (amp phase : Int) (r : Reader) : Reader :=
  let n := r.basePings + 1
  let a := r.sumAmp + amp
  let p := r.sumPhase + phase
  if n < 8 then { r with basePings := n, sumAmp := a, sumPhase := p }
  else { r with basePings := 8, sumAmp := 0, sumPhase := 0, baseAmp := 8192 * a, basePhase := 8192 * p, deviating := 0 }

/-- A detection (R412): a poll over PROTO for up to 500 ms, or in STANDBY a wake with WAKE_CARD (R434). -/
def detect (k : Nat) (s : State) : State :=
  if s.power.state == .standby then
    if testBit s.power.wakeMask 1 then { s with power := { s.power with starting := some .s, wokenBy := 2 } } else s
  else startPoll k 0 500000 none (ntfRdr k 0 none s)

/-- PING_MS of a port in µs. -/
def pingPeriod (s : State) (k : Nat) : Nat := 1000 * max 1 (s.rdrField k 16 16)

/-- The µs since the oscillator's start from which port `k` counts its pings: n × 2.5 ms behind the start of each period (R411).
DESIGN CHOICE (log entry 175): the periods count from the oscillator's instant 0. -/
def pingClock (s : State) (k : Nat) : Nat := s.time.osc - 2500 * k

/-- Another port's field is on: it polls, or has a card selected (R411, R415). -/
def otherField (s : State) (k : Nat) : Bool :=
  (List.range 4).any fun j => j != k && ((s.reader j).pollTo.isSome || (s.reader j).card.isSome)

/-- A ping is due (R411): once in each period, at its place or up to 20 ms behind it while another port's field was on. -/
def pingDue (s : State) (k : Nat) : Bool :=
  2500 * k ≤ s.time.osc && (s.reader k).pingAt != some (pingClock s k / pingPeriod s k) &&
    pingClock s k % pingPeriod s k ≤ 20000 && !otherField s k

/-- What a ping finds (R412): it makes the baseline, shows an antenna fault, lets the baseline follow, or deviates. -/
def takePing (port : Nat) (amp phase : Int) (s : State) : State :=
  let r := s.reader port
  if r.basePings < 8 then s.modReader port (basePing amp phase)
  else if antennaFault r amp then ntfRdr port 6 none (s.modReader port fun r => { r with stopped := true })
  else if !deviates s port amp phase then
    let ms := s.rdrField port 16 16
    s.modReader port fun r => { r with
      deviating := 0, baseAmp := followBase ms r.baseAmp amp, basePhase := followBase ms r.basePhase phase }
  else if r.deviating == 0 then s.modReader port fun r => { r with deviating := 1 }
  else detect port (s.modReader port fun r => { r with deviating := 0 })

/-- DRIZZLE_PING (R411, R412). -/
def execDrizzlePing (port : Nat) (amp phase : Int) (s : State) : Out :=
  atUnit "reader port" 4 port s fun s =>
    let r := s.reader port
    if !pingsRun s || !portWorks s port || s.rdrField port 1 1 != 1 || r.pollTo.isSome || r.card.isSome || !pingDue s port then s
    else takePing port amp phase (s.modReader port fun r => { r with pingAt := some (pingClock s port / pingPeriod s port) })

/-! ### Polls -/

/-- POLL_COMPLETE (R412, R415): the poll has run its time without a card; the third empty detection in a row takes a new
baseline. -/
def execPollComplete (port : Nat) (s : State) : Out :=
  atUnit "reader port" 4 port s fun s =>
    let r := s.reader port
    if !outputsDriven s || !s.dueOpt r.pollTo then s
    else
      let done := s.modReader port fun r => { r with pollTo := none, pollCmd := none }
      if r.pollCmd.isSome then ntfRdrFull port 2 none 0xFF 0 0 0 r.pollCmd stOk done
      else
        ntfRdr port 3 none (done.modReader port fun r =>
          if r.empties < 2 then { r with empties := r.empties + 1 }
          else { r with empties := 0, basePings := 0, sumAmp := 0, sumPhase := 0 })

/-- CARD_RELEASE (R415, R414). -/
def execCardRelease (port : Nat) (s : State) : Out :=
  atUnit "reader port" 4 port s fun s =>
    if outputsDriven s && s.due (s.reader port).releaseAt then releaseCard port s else s

/-! ### Cards -/

/-- The PROTO bit of a card type (R410). -/
def protoBit : CardKind → Nat
  | .iso14443A => 0
  | .iso14443B => 1
  | .iso15693 => 2

/-- A UID as its card type has it (R191, R413). -/
def uidOk (kind : CardKind) (uid : Bytes) : Bool :=
  match kind with
  | .iso14443A => uid.length == 4 || uid.length == 7 || uid.length == 10
  | .iso14443B => uid.length == 4
  | .iso15693 => uid.length == 8

/-- The normalised identifier of a card (R191, R413). -/
def cardIdent (kind : CardKind) (uid : Bytes) : Bytes := (if kind == .iso15693 then 2 else 1) :: uid

/-- The oldest RESERVED context bound to a bay that the port serves (R193). -/
def cardContext (s : State) (port : Nat) : Option Nat :=
  earliest s ((List.range 256).filter fun c =>
    let h := (s.ctx c).hd
    h.state == .reserved && (match h.bay with | some b => readerServes s port b | none => false))

/-- The decision for a context, reported with event 4 (R414). -/
def decideCard (port c : Nat) (card : CardKind × Bytes) (s : State) : State :=
  let ident := cardIdent card.1 card.2
  let r := decide c port ident s
  let s1 := r.1.modReader port fun x => { x with lastIdent := ident, lastAt := some s.time.osc, releaseAt := s.after 100000 }
  ntfRdrFull port 4 (some card) c r.2 0 0 none 0 s1

/-- A card presented at a port (R193, R414): the waiting context, or an unbound one that the card opens. -/
def presentCard (port : Nat) (card : CardKind × Bytes) (s : State) : State :=
  let r := s.reader port
  let again := r.lastIdent == cardIdent card.1 card.2 && (match r.lastAt with | some t => s.time.osc < t + 5000000 | none => false)
  if again then ntfRdr port 5 (some card) s
  else match cardContext s port with
  | some c => decideCard port c card s
  | none =>
    let none_ (x : State) : State := ntfRdrFull port 4 (some card) 0xFF 0 0 0 none 0 (x.modReader port fun y =>
      { y with releaseAt := s.after 100000 })
    if storeBlocks s then none_ s
    else match freeCtx s with
      | none => none_ s
      | some c =>
        let s1 := (openCtx c true none (defClass s) (s.time.now + reserveUs s) s).modWk c fun w => { w with reader := some port }
        decideCard port c card (ntfCtxFull c .free .reserved 3 [] none 0 s1)

/-- CARD_FOUND (R413, R414): the card is selected; one that a ping has brought up is authorised when AUTO is 1. -/
def execCardFound (port : Nat) (kind : CardKind) (uid : Bytes) (s : State) : Out :=
  atUnit "reader port" 4 port s fun s =>
    let r := s.reader port
    if !outputsDriven s || r.pollTo.isNone || !testBit r.pollProto (protoBit kind) || !uidOk kind uid then s
    else
      let s1 := s.modReader port fun r => { r with
        pollTo := none, pollCmd := none, empties := 0, card := some (kind, uid), releaseAt := s.after 2000000 }
      let s2 := ntfRdrFull port 1 (some (kind, uid)) 0xFF 0 0 0 r.pollCmd stOk s1
      if r.pollCmd.isNone && s.rdrField port 2 1 == 1 then presentCard port (kind, uid) s2 else s2

end Sys2Proof.Machine
end

