-- ==== Sys2Proof/Machine/Tag.lean ====
section
/-! DEFINITION. The commissioning tag (R418 to R428): its memory of physical blocks behind two pointer copies, field commands and
authentication, the host's access, block 0 and the collapse of the field. -/

namespace Sys2Proof.Machine

open Sys2Proof

/-! ### Memory behind the pointers -/

/-- Changes the tag. -/
def State.modTag (s : State) (f : Tag → Tag) : State := { s with tag := f s.tag }

/-- A field of the tag's object (R422). -/
def State.tagField (s : State) (lsb w : Nat) : Nat := s.field 0x0620 lsb w

/-- The pointer copy that decides (R428): the good one with the higher sequence number. -/
def Tag.pointer (t : Tag) : TagPointer :=
  if t.ptrA.good && (!t.ptrB.good || t.ptrB.seq ≤ t.ptrA.seq) then t.ptrA else t.ptrB

/-- The committed content of a logical block. -/
def Tag.block (t : Tag) (n : Nat) : Bytes := readMemN t.phys (256 * t.pointer.map.getD n 0) 256

/-- The lowest physical block that neither the mapping nor a list names (R424). -/
def Tag.freeBlock (t : Tag) (taken : List Nat) : Nat :=
  ((List.range 260).find? fun k => !t.pointer.map.contains k && !taken.contains k).getD 0

/-- Shadow writes of logical blocks: the memory, and the mapping with the new blocks in it (R424 step 2). -/
def Tag.shadow (t : Tag) (blocks : List (Nat × Bytes)) : Tag × List Nat :=
  let r := blocks.foldl (fun (a : Tag × List Nat × List Nat) b =>
    let k := a.1.freeBlock a.2.2
    ({ a.1 with phys := writeMemN a.1.phys (256 * k) b.2 }, setAt a.2.1 b.1 k, k :: a.2.2)) (t, t.pointer.map, [])
  (r.1, r.2.1)

/-- The pointer copy that a write makes. -/
def Tag.nextPointer (t : Tag) (map : List Nat) : TagPointer := { seq := t.pointer.seq + 1, good := true, map := map }

/-- A write of logical blocks carried through (R424). -/
def Tag.commit (t : Tag) (blocks : List (Nat × Bytes)) : Tag :=
  let r := t.shadow blocks
  let p := t.nextPointer r.2
  { r.1 with ptrA := p, ptrB := p }

/-- A write as far as it had come when power went (R427). -/
def Tag.cutCommit (t : Tag) (blocks : List (Nat × Bytes)) : CutPhase → Tag
  | .beforeShadow => t
  | .afterShadow => (t.shadow blocks).1
  | .duringCopyA => let r := t.shadow blocks; { r.1 with ptrA := { t.nextPointer r.2 with good := false }, ptrB := t.pointer }
  | .duringCopyB => let r := t.shadow blocks; { r.1 with ptrA := t.nextPointer r.2, ptrB := { t.pointer with good := false } }
  | .afterCopyB => t.commit blocks

/-- The logical blocks, with their new content, of bytes written at an address of the 64 KiB. -/
def Tag.patched (t : Tag) (addr : Nat) (data : Bytes) : List (Nat × Bytes) :=
  let first := addr / 256
  let last := (addr + data.length - 1) / 256
  let old := (List.range (last - first + 1)).flatMap fun k => t.block (first + k)
  let new := overlay old (addr % 256) data
  (List.range (last - first + 1)).map fun k => (first + k, (new.drop (256 * k)).take 256)

/-! ### Host access -/

/-- The host reaches the tag while the RDR image runs (R358). -/
def tagReachable (s : State) : Bool := !s.power.failedKinds.getD 3 false

/-- A field command holds one of some blocks (R425). -/
def fieldHolds (s : State) (first n : Nat) : Bool := s.tag.fieldLocks.any fun k => first ≤ k && k < first + n

/-- An internal access to blocks waits up to 50 ms for the field to release them (R425): whether it does is open. The state behind the
wait, none where it is in vain. -/
def awaitBlocks (first n : Nat) (s : State) : State × Bool :=
  if !fieldHolds s first n then (s, true)
  else
    let (c, s1) := s.choice
    if c % 2 == 0 then (s1.modTag fun t => { t with fieldLocks := [] }, true) else (s1, false)

/-- TAG_READ (R426). -/
def tagReadBody (_ : Call) (pl : Bytes) (s : State) : Ans :=
  let first := fld pl 0 1
  let n := fld pl 1 1
  if 15 < n || 256 < first + n then refuse s errParam
  else if !tagReachable s then refuse s errState
  else
    let w := awaitBlocks first n s
    if w.2 then okWith w.1 ((List.range n).flatMap fun k => w.1.tag.block (first + k)) else refuse w.1 errBusy

/-- TAG_READ (R326). -/
def cmdTagRead : Command where
  op := 0x0D03
  life := .notBlank
  len := exactly 4
  rsv := [(2, 2)]
  body := tagReadBody

def execTagRead (h : Hdr) (pl : Bytes) (s : State) : Out := hostCmd cmdTagRead h pl s

/-- TAG_WRITE (R424, R426). -/
def tagWriteBody (_ : Call) (pl : Bytes) (s : State) : Ans :=
  let n := fld pl 0 1
  let off := fld pl 1 1
  if 256 < off + fld pl 2 2 then refuse s errLength
  else if n == 0 then refuse s errParam
  else if !tagReachable s then refuse s errState
  else
    let w := awaitBlocks n 1 s
    if w.2 then ok (w.1.modTag fun t => t.commit (t.patched (256 * n + off) (pl.drop 4))) else refuse w.1 errBusy

/-- TAG_WRITE (R326). -/
def cmdTagWrite : Command where
  op := 0x0D04
  life := .n
  sc := true
  len pl := 5 ≤ pl.length && pl.length == 4 + fld pl 2 2 && fld pl 2 2 ≤ 256
  body := tagWriteBody

def execTagWrite (h : Hdr) (pl : Bytes) (s : State) : Out := hostCmd cmdTagWrite h pl s

/-- TAG_CONFIGURE (R326). -/
def cmdTagConfigure : Command where
  op := 0x0D05
  life := .n
  sc := true
  len := exactly 16
  body c pl s := stageObject c 0x0620 pl s

def execTagConfigure (h : Hdr) (pl : Bytes) (s : State) : Out := hostCmd cmdTagConfigure h pl s

/-! ### Field commands -/

/-- A file (R419): its first address and its size. -/
def tagFile : Nat → Option (Nat × Nat)
  | 0xE103 => some (0, 15)
  | 0xE105 => some (16, 48)
  | 0xE104 => some (256, 32512)
  | 0xE106 => some (32768, 32768)
  | _ => none

/-- The field may read a file (R419). -/
def fieldReads (s : State) (file : Nat) : Bool := file != 0xE106 || s.tagField 4 1 == 0 || s.tag.authed

/-- The field may write a file (R419). -/
def fieldWrites (s : State) (file : Nat) : Bool :=
  match file with
  | 0xE104 => s.tagField 3 1 == 1 || s.tag.authed
  | 0xE106 => s.tagField 4 1 == 0 || s.tag.authed
  | _ => false

/-- What a write to a file is refused with, as a status word (R419, R418). -/
def writeRefusal (s : State) (file offset len : Nat) : Option Nat :=
  match tagFile file with
  | none => some 0x6A82
  | some f =>
    if !fieldWrites s file then some 0x6982
    else if f.2 < offset + len then some 0x6A82
    else if len == 0 || 0xF6 < len then some 0x6700
    else none

/-- What a read of a file is refused with. -/
def readRefusal (s : State) (file offset len : Nat) : Option Nat :=
  match tagFile file with
  | none => some 0x6A82
  | some f =>
    if !fieldReads s file then some 0x6982
    else if f.2 < offset + len then some 0x6A82
    else if 0xFF < len then some 0x6700
    else none

/-- A field stands at the antenna; its strength is a free value (R423). -/
def fieldAt (s : State) : State :=
  { s with draws := s.draws + 1 }.modTag fun t => { t with field := 1 + s.reading 0x4000 }

/-- A field command that the tag answers (R418, R422): its supply suffices, and the response to the one before has gone out, so that its
locks are free. -/
def fieldCmd (s : State) (f : State → State) : Out :=
  .next (if s.tagField 0 1 == 0 then fieldAt s
    else f ((fieldAt s).modTag fun t => { t with fieldLocks := [], supplyFrom := some (t.supplyFrom.getD s.time.osc) }))

/-! ### Energy harvesting -/

/-- VHARV is switched on (R423): HARV_EN, a field, and an internal supply that has been back for 1 ms. -/
def harvesting (s : State) : Bool :=
  s.tagField 2 1 == 1 && s.tag.field != 0 && (match s.tag.supplyFrom with | some t => t + 1000 ≤ s.time.osc | none => false)

/-- VHARV in mV (R423): 3.0 V ±5 % in a field of at least 3 A/m, less below it. Where in its range it lies is a free value. -/
def vharvMv (s : State) : Nat :=
  if !harvesting s then 0 else if 3000 ≤ s.tag.field then 2850 + s.reading 0x4001 % 301 else s.reading 0x4001 % 2850

/-- The response of a field command. -/
def respond (data : Bytes) (sw : Nat) (s : State) : State := s.modTag fun t => { t with response := some (data, sw) }

/-- A field command may still hold the locks of the blocks it touched: when its response goes out is open (R425). -/
def holdLocks (first last : Nat) (s : State) : State :=
  let c := s.choice
  if c.1 % 2 == 1 then c.2.modTag fun t => { t with fieldLocks := (List.range (last - first + 1)).map (first + ·) } else c.2

/-- NTF_RDR of the tag, raised while the module runs (R417). -/
def ntfTag (event first last : Nat) (s : State) : State :=
  if outputsDriven s then ntfRdrFull 4 event none 0xFF 0 first last none 0 s else s

/-- TAG_READ_BINARY (R419). -/
def execTagReadBinary (file offset len : Nat) (s : State) : Out :=
  fieldCmd s fun s =>
    match readRefusal s file offset len with
    | some sw => respond [] sw s
    | none =>
      let addr := ((tagFile file).map (·.1)).getD 0 + offset
      let first := addr / 256
      let last := (addr + len - 1) / 256
      let data := (List.range (last - first + 1)).flatMap fun k => s.tag.block (first + k)
      holdLocks first last (respond ((data.drop (addr % 256)).take len) 0x9000 s)

/-- The blocks of a field write to a file, first and last logical block included. -/
def fieldWrite (s : State) (file offset : Nat) (data : Bytes) : List (Nat × Bytes) :=
  s.tag.patched (((tagFile file).map (·.1)).getD 0 + offset) data

/-- TAG_UPDATE_BINARY (R424): both pointer copies carry the new mapping, and the write is reported. -/
def execTagUpdateBinary (file offset : Nat) (data : Bytes) (s : State) : Out :=
  fieldCmd s fun s =>
    match writeRefusal s file offset data.length with
    | some sw => respond [] sw s
    | none =>
      let blocks := fieldWrite s file offset data
      let first := ((blocks.head?).map (·.1)).getD 0
      let last := ((blocks.getLast?).map (·.1)).getD 0
      holdLocks first last (ntfTag 16 first last (respond [] 0x9000 (s.modTag fun t => t.commit blocks)))

/-- TAG_GET_CHALLENGE (R421). -/
def execTagGetChallenge (s : State) : Out :=
  fieldCmd s fun s =>
    let r := s.random 16
    respond r.1 0x9000 (r.2.modTag fun t => { t with challenge := some r.1 })

/-- The answer to a challenge (R421). -/
def tagAnswer (s : State) (challenge : Bytes) : Bytes :=
  (hmac (s.key (s.tagField 16 16)).material (challenge ++ le 8 serialNum)).take 16

/-- TAG_EXTERNAL_AUTHENTICATE (R421): the challenge is used once; three wrong answers close the way until the field is lost. -/
def execTagExternalAuthenticate (answer : Bytes) (s : State) : Out :=
  fieldCmd s fun s =>
    if 3 ≤ s.tag.wrong then respond [] 0x6983 s
    else
      let slot := s.tagField 16 16
      let used := s.modTag fun t => { t with challenge := none }
      let fail (x : State) : State := ntfTag 17 0 0 (respond [] 0x6300 (x.modTag fun t => { t with wrong := t.wrong + 1 }))
      if slot == 0xFFFF then fail used
      else match keyFailure s slot [1, 2] 3 (.engine 4), s.tag.challenge with
        | some f, _ => fail (recordKeyRefusal slot f.1 (.engine 4) used)
        | none, none => fail used
        | none, some ch =>
          if answer == tagAnswer s ch then respond [] 0x9000 (used.modTag fun t => { t with authed := true }) else fail used

/-- TAG_DESELECT (R421): authentication ends; the count of wrong answers stands until the field is lost once it has reached
three. -/
def execTagDeselect (s : State) : Out :=
  fieldCmd s fun s => s.modTag fun t => { t with authed := false, challenge := none, wrong := if 3 ≤ t.wrong then t.wrong else 0 }

/-- FIELD_COLLAPSE (R427, R423): the field session ends with its energy, and a write stands as far as it had come. -/
def execFieldCollapse (cut : Option CutWrite) (s : State) : Out :=
  let ended : Tag := { s.tag with authed := false, challenge := none, wrong := 0, fieldLocks := [], response := none, field := 0, supplyFrom := none }
  let quiet : State := { s with tag := ended }
  .next (match cut with
    | none => quiet
    | some w =>
      if s.tagField 0 1 == 0 || (writeRefusal s w.file w.offset w.data.length).isSome then quiet
      else
        let blocks := fieldWrite s w.file w.offset w.data
        let s1 := quiet.modTag fun t => t.cutCommit blocks w.phase
        if w.phase == .duringCopyB || w.phase == .afterCopyB then
          ntfTag 16 (((blocks.head?).map (·.1)).getD 0) (((blocks.getLast?).map (·.1)).getD 0) s1
        else s1)

/-- TAG_POWER_UP (R428, R423): the internal supply has recovered; both pointer copies agree on the deciding one, and blocks it does not
name are free. -/
def execTagPowerUp (s : State) : Out :=
  .next (s.modTag fun t => { t with ptrA := t.pointer, ptrB := t.pointer, supplyFrom := some s.time.osc })

/-! ### Block 0 -/

/-- The capability container (R420). -/
def capability (s : State) : Bytes :=
  le 2 0x000F ++ [0x20] ++ le 2 0x00FF ++ le 2 0x00F6 ++ [0x04, 0x06] ++ le 2 0xE104 ++ le 2 0x7F00 ++
    [0x00, if s.tagField 3 1 == 1 then 0x00 else 0xFF]

/-- Bytes 16 to 39 of block 0, which MIRROR keeps current (R420). -/
def mirrorIdentity (s : State) : Bytes :=
  le 8 serialNum ++ [0x45] ++ le 1 s.life.code ++ le 1 (bit (confirmedNow s)) ++ le 1 0 ++ legalChecksum s ++
    le 4 (safetyCheck s.safetyBlock) ++ le 4 (s.image .app).active.release

/-- Block 0 (R420). -/
def mirrorBlock (s : State) : Bytes := capability s ++ le 1 0 ++ mirrorIdentity s ++ le 8 s.time.now ++ le 208 0

/-- A write of block 0 is due (R420): at a start or an activation of APP, or when what it shows has changed. -/
def mirrorNeeded (s : State) : Bool := s.tag.mirrorDue || slice (s.tag.block 0) 16 24 != mirrorIdentity s

/-- A write of block 0 is due, and the field does not hold the block (R420). -/
def mirrorAllowed (s : State) : Bool := tagReachable s && s.tagField 5 1 == 1 && mirrorNeeded s && !fieldHolds s 0 1

/-- MIRROR_UPDATE (R420): made as soon as the field does not hold block 0. -/
def execMirrorUpdate (s : State) : Out :=
  .next (if !outputsDriven s || !mirrorAllowed s then s
    else s.modTag fun t => { t.commit [(0, mirrorBlock s)] with mirrorDue := false })

end Sys2Proof.Machine
end

