-- ==== Sys2Proof/Machine/Power.lean ====
section
/-! DEFINITION. Supplies and power states (R310, R429 to R443): RESET and SET_POWER_STATE, supply inputs, the hold-up capacitor,
power fail and its flush, STANDBY and its wake sources. START is the meaning of its own file. -/

namespace Sys2Proof.Machine

open Sys2Proof

/-- Changes the power part. -/
def State.modPower (s : State) (f : Power → Power) : State := { s with power := f s.power }

/-! ### Commands -/

/-- RESET (R310): the W begins behind the reply, and the event records are flushed before it (R372). -/
def resetBody (_ : Call) (pl : Bytes) (s : State) : Ans :=
  let mode := fld pl 0 1
  if 1 < mode then refuse s errParam
  else if mode == 0 && s.anyEnergised then refuse s errState
  else ok (beginReset true s)

/-- RESET (R309). -/
def cmdReset : Command where
  op := 0x0103
  life := .notBlank
  sc := true
  len := exactly 4
  rsv := [(1, 3)]
  body := resetBody

def execReset (h : Hdr) (pl : Bytes) (s : State) : Out := hostCmd cmdReset h pl s

/-- The module changes to a power state, and reports the state it has left (R433, R448). -/
def enterPower (p : PowerState) (s : State) : State :=
  ntfPower 0 (le 1 s.power.state.code) (s.modPower fun w => { w with state := p, quietExit := false })

/-- What keeps the module out of STANDBY (R434). -/
def standbyRefused (s : State) : Bool :=
  s.anyEnergised || s.ctxs.any (fun x => running x.hd.state || x.hd.state == .finishing) ||
    s.images.kinds.any (fun i => i.state == .activating || i.state == .trial) || s.met.test.isSome || recovering s || netEnabled s

/-- SET_POWER_STATE (R310, R433, R434). STANDBY is entered at the next boundary. -/
def setPowerStateBody (_ : Call) (pl : Bytes) (s : State) : Ans :=
  let state := fld pl 0 1
  let wake := fld pl 4 4
  if 2 < state || wake / 32 % 2048 != 0 || 1440 < wake / 65536 then refuse s errParam
  else if state == 0 then ok (if s.power.state == .quiet then enterPower .active s else s)
  else if state == 1 then
    if s.anyEnergised then refuse s errState
    else ok (if s.power.state == .active then enterPower .quiet s else s)
  else if wake == 0 then refuse s errParam
  else if standbyRefused s then refuse s errState
  else ok (s.modPower fun w => { w with standbyDue := true, wakeMask := wake % 32, wakeMin := wake / 65536 })

/-- SET_POWER_STATE (R309). -/
def cmdSetPowerState : Command where
  op := 0x0104
  life := .notBlank
  sc := true
  len := exactly 8
  rsv := [(1, 3)]
  body := setPowerStateBody

def execSetPowerState (h : Hdr) (pl : Bytes) (s : State) : Out := hostCmd cmdSetPowerState h pl s

/-- QUIET_EXIT (R433): a plug-in, or a context that has reached BOUND. -/
def execQuietExit (s : State) : Out :=
  .next (if outputsDriven s && s.power.state == .quiet && s.power.quietExit then
      enterPower .active s
    else s)

/-! ### Supply inputs -/

/-- The status of an input (R271). -/
def setInput (inputB present : Bool) (s : State) : State :=
  { s with cont := if inputB then { s.cont with vsupBOk := present } else { s.cont with vsupAOk := present } }

/-- VSUP is valid where it was not (R429, R433, R440): a start follows, at once or behind the flush. -/
def vsupReturns (s : State) : State :=
  let w := s.power
  if w.flushing then s.modPower fun w => { w with vsup := true, vsupBack := true }
  else if w.state == .backup || w.state == .off then
    s.modPower fun w => { w with vsup := true, starting := some (if w.mark then .p else .c) }
  else s.modPower fun w => { w with vsup := true }

/-- What the level that an input has kept for a time says of it (R429): below 7.5 V for 1 ms it is lost, at or above 8.5 V for 10 ms it
has returned. -/
def inputShown (x : InputLevel) : Option Bool :=
  if x.mv < 7500 && 1000 ≤ x.us then some false else if 8500 ≤ x.mv && 10000 ≤ x.us then some true else none

/-- An input is lost while the other carries the module, or has returned (R429). -/
def changeInput (inputB present : Bool) (s : State) : State :=
  let known := if inputB then s.cont.vsupBOk else s.cont.vsupAOk
  let other := if inputB then s.cont.vsupAOk else s.cont.vsupBOk
  let report (x : State) : State :=
    if outputsDriven x then ntfTakeover 8 (bit present) (bit inputB) 3 0 0 0 (ntfPower 2 (le 1 (bit inputB) ++ le 1 (bit present)) x) else x
  if present == known then s
  else if present then
    if s.power.vsup then report (setInput inputB true s) else vsupReturns (setInput inputB true s)
  else if !other then s
  else report (setInput inputB false s)

/-- VSUP_INPUT_CHANGE (R429). -/
def execVsupInputChange (inputB : Bool) (x : InputLevel) (s : State) : Out :=
  .next (match inputShown x with | some present => changeInput inputB present s | none => s)

/-! ### VHOLD -/

/-- A close that waited for VHOLD: on an AC bay the first later cycle whose issue point lies ahead enough, at the same target
angle; on a DC bay at once, when R155 holds (R430). -/
def reschedule (s : State) (q : QEntry) : QEntry :=
  match q.waitVhold, q.bay with
  | true, some b =>
    if s.isDc b then { q with waitVhold := false, asap := true, cycle := s.clk.cycle, angle := s.clk.angle }
    else
      let p := firstPoint s q.target (operateAu s b)
      { q with waitVhold := false, cycle := p.1, angle := p.2 }
  | _, _ => q

/-- VHOLD_READY (R430): VHOLD has reached 36 V. -/
def execVholdReady (s : State) : Out :=
  .next (if !s.power.vsup then s
    else (s.modPower fun w => { w with vholdOk := true }) |> fun x => { x with queue := x.queue.map (reschedule x) })

/-- VHOLD_LOW (R430): below 36 V, reported while a bay is energised. -/
def execVholdLow (mv : Nat) (s : State) : Out :=
  let s1 := s.modPower fun w => { w with vholdOk := false }
  .next (if 36000 ≤ mv then s else if outputsDriven s && s.anyEnergised then ntfPower 4 (le 4 mv) s1 else s1)

/-! ### Power fail -/

/-- The oscillator instant at which the cut cycle ends (R89): one strobe interval, 32 au at FREQ, after its last strobe. -/
def cutEnd (s : State) : Nat :=
  if s.met.strobes.isEmpty then s.time.cycleOsc else s.met.lastStrobe + quotN (32 * 1000000000) (4096 * max 1 s.clk.freq)

/-- The partial cycle is committed over the strobes it received (R89, R438). -/
def commitPartial (s : State) : State :=
  if !metersRun s || s.met.strobes.isEmpty then s else commitCycle (cutEnd s - s.time.cycleOsc) false s

/-- The readings of a bay after the PFAIL commit of a cycle that ended at oscillator instant `t` (R120). -/
def cutReading (t b : Nat) (s : State) : Reading :=
  { readings s b with time := s.time.now + t - s.time.osc, cycle := (s.clk.cycle + 1).toNat }

/-- PFAIL closes a session in FINISHING whose closing readings have not been taken (R120, R122, R123): its record carries the power
cut and is built at power return. -/
def closeAtCut (t b : Nat) (s : State) : State :=
  match (s.bay b).ctx with
  | some c =>
    if (s.ctx c).hd.state == .finishing && (s.ctx c).wk.closing.isNone then
      closeReadings b (cutReading t b s) ((s.modHd c fun h => { h with flags := h.flags ||| 2 }).modWk c fun w =>
        { w with closeDue := true, outages := w.outages + 1 })
    else s
  | none => s

/-- HEARTBEAT with RUN 0 to every converter (R438). -/
def stopHeartbeats (s : State) : State := (List.range 32).foldl (fun a b => if a.isDc b then sendHeartbeat b a else a) s

/-- The legal region pass at PFAIL runs only if VHOLD holds the energy for it (R439, R406), which is open. -/
def lastPassAtCut (s : State) : State :=
  let (n, s1) := s.choice
  if n % 2 == 0 then lastPassOf s1 else s1

/-- PFAIL in ACTIVE, QUIET or STANDBY (R438 to R440): outputs off, the partial cycle committed, the legal store written, the legal region
drawn, and the flush runs. -/
def powerFail (s : State) : State :=
  let hub := outputsDriven s
  let off := releaseOutputs s
  let s1 := if s.power.state == .standby then off
    else lastPassAtCut <| legalStore ((List.range 32).foldl (fun a b => closeAtCut (cutEnd s) b a) (commitPartial off))
  let s2 := (setInput true false (setInput false false s1)).modPower fun w => { w with
    flushing := true, vsup := false, vsupBack := false, pfailTime := s.time.now, standbyDue := false, starting := none }
  if hub then stopHeartbeats s2 else s2

/-- PFAIL (R429, R438): VSUP below 8.0 V for 20 µs. A module in a start from BACKUP or OFF goes back there. -/
def execPfail (s : State) : Out :=
  .next (if s.power.flushing || !s.power.vsup then s
    else if s.power.state == .backup || s.power.state == .off then
      (setInput true false (setInput false false s)).modPower fun w => { w with vsup := false, starting := none }
    else powerFail s)

/-- The flush writes records, oldest first; those left are lost (R372, R373). -/
def flushAtEnd (written : Nat) (s : State) : State :=
  let l := s.recorder.buffer
  let left := l.drop written
  let s1 := flushRecords (fun r => !(left.any fun x => x.seq == r.seq)) s
  { s1 with recorder := { s1.recorder with
      buffer := [], dropped := 0, flushAll := false
      lost := match left.head?, left.getLast? with | some a, some b => some (a.seq, b.seq) | _, _ => none } }

/-- A write of block 0 of the tag may be under way when power goes with VBACKUP absent: how far it has come is open (R427). -/
def cutMirror (s : State) : State :=
  if !mirrorAllowed s then s
  else
    let (n, s1) := s.choice
    let phase : CutPhase := [.beforeShadow, .afterShadow, .duringCopyA, .duringCopyB, .afterCopyB].getD (n % 5) .beforeShadow
    s1.modTag fun t => t.cutCommit [(0, mirrorBlock s)] phase

/-- FLUSH_END (R439, R440): BACKUP, or OFF without VBACKUP; with VSUP back, a P begins without BACKUP. -/
def execFlushEnd (written : Nat) (vbackupPresent : Bool) (s : State) : Out :=
  .next (if !s.power.flushing then s
    else
      let s1 := flushAtEnd written s
      (if s.power.vsupBack || vbackupPresent then s1 else cutMirror s1).modPower fun w =>
        if w.vsupBack then { w with flushing := false, vsupBack := false, starting := some .p, vholdOk := false }
        else { w with flushing := false, state := if vbackupPresent then .backup else .off, mark := vbackupPresent, vholdOk := false,
                      debugOpen := false, debugChallenge := none })

/-- VBACKUP_LOSS (R431, R433): below 2.0 V. -/
def execVbackupLoss (s : State) : Out :=
  .next (if s.power.state == .backup && s.power.starting.isNone then s.modPower fun w => { w with state := .off, mark := false } else s)

/-! ### Resets and STANDBY -/

/-- RESET_N (R443, R438): low for 10 µs causes a W; below 5 µs it is ignored, and in between either may happen. -/
def execResetN (lowUs : Nat) (s : State) : Out :=
  let w := s.power
  let live := (w.state == .active || w.state == .quiet || w.state == .standby) && w.starting.isNone && !w.flushing
  if !live || lowUs < 5 then .next s
  else if 10 ≤ lowUs then .next (beginReset false s)
  else
    let (n, s1) := s.choice
    .next (if n % 2 == 0 then s1 else beginReset false s1)

/-- A load channel in STANDBY, its output switched off: its command stays (R399). -/
def sleepingChan (c : Chan) : Chan := { c with inrush := false, hold := false, retryWait := false }

/-- A bay that holds no session goes to sleep: an enabled one shows steady +12 V, the others state F (R436). -/
def sleepingBay (y : Bay) : Bay :=
  let r := releasedBay y
  { r with pilot := { r.pilot with drive := if y.state == .idle || y.state == .occupied then .steady else .stateF } }

/-- The entry into STANDBY (R436): closes still queued go, so that no context is in ENERGISING (R208), the legal store copy, the legal region pass (R406), the clock in
DEAD_RECKON, and the hub domains off. -/
def enterStandby (s : State) : State :=
  let s0 := s.queue.foldl (fun a q => removeClose q a) s
  let s1 := (List.range 32).foldl (fun a b => leaveReady b 0 a) s0
  let s2 := legalStore (leaveLocked (deadReckon { s1 with clk := { s1.clk with transition := none, lockedCycle := false } }))
  let off := (List.range 112).foldl (fun a k => switchOff k a) s2
  let s3 := (enterPower .standby (lastPassOf off)).modPower fun w => { w with standbyDue := false }
  { s3 with
    chans := s3.chans.map sleepingChan
    bays := s3.bays.map sleepingBay
    met := { s3.met with strobes := [] }
    safety := { s3.safety with outA := List.replicate 4 false, outB := List.replicate 4 false } }

/-- STANDBY_ENTRY (R436): at the boundary behind the reply. -/
def execStandbyEntry (s : State) : Out :=
  .next (if outputsDriven s && s.power.standbyDue && !s.anyEnergised then enterStandby s else s)

/-- The whole multiple of WAKE_MIN minutes of module time falls in this second (R434). -/
def wakeMinute (s : State) : Bool :=
  s.power.wakeMin != 0 && s.time.now / 1000000 % (60 * s.power.wakeMin) == 0

/-- WAKE_SOURCE (R434): a source of the mask by its bit; number 16 is the real-time clock, which has a field and no bit, so
that what NTF_POWER reports as its bit is a free value. -/
def execWakeSource (source : Nat) (s : State) : Out :=
  let w := s.power
  let asleep := w.state == .standby && w.starting.isNone && !w.flushing
  .next (if !asleep then s
    else if source == 16 then
      if wakeMinute s then
        let (n, s1) := s.choice
        s1.modPower fun w => { w with starting := some .s, wokenBy := n % 2 ^ 32 }
      else s
    else if source < 5 && testBit w.wakeMask source then
      s.modPower fun w => { w with starting := some .s, wokenBy := 2 ^ source }
    else s)

end Sys2Proof.Machine
end

