-- ==== Sys2Proof/Machine/Recorder.lean ====
section
/-! DEFINITION. Event recorder and performance counters (R325, R366 to R380): reading, filtering and flushing of event records,
and the counters' configuration, windows and values. -/

namespace Sys2Proof.Machine

open Sys2Proof

/-! ### Reading records -/

/-- The bytes of a record (R366). -/
def recordBytes (r : EventRec) : Bytes :=
  le 2 (recLen r) ++ le 2 r.type ++ le 2 r.source ++ le 1 r.severity ++ le 1 (bit r.final + 2 * bit r.logFull) ++ le 4 r.seq ++
    le 8 r.time ++ le 2 r.repeats ++ r.payload

/-- Every record held, in the log and in the buffer. -/
def heldRecords (s : State) : List EventRec := s.recorder.log ++ s.recorder.buffer

/-- The newest sequence number given, 0 before the first (R369, R374). -/
def newestSeq (s : State) : Nat :=
  let n := s.recorder.nextSeq
  if n == 1 then (if (heldRecords s).isEmpty then 0 else 2 ^ 32 - 1) else n - 1

/-- How many numbers before the head a sequence number lies, 0 skipped (R369). -/
def seqAge (head seq : Nat) : Nat := (head + (2 ^ 32 - 1) - seq) % (2 ^ 32 - 1)

/-- The age of the oldest record held. -/
def oldestAge (s : State) : Nat := ((heldRecords s).map fun r => seqAge (newestSeq s) r.seq).foldl max 0

/-- Inserts a record before the first one that is younger. -/
def insertByAge (head : Nat) (r : EventRec) : List EventRec → List EventRec
  | [] => [r]
  | x :: l => if seqAge head x.seq < seqAge head r.seq then r :: x :: l else x :: insertByAge head r l

/-- Records in SEQ order. -/
def inSeqOrder (head : Nat) (l : List EventRec) : List EventRec := l.foldl (fun a r => insertByAge head r a) []

/-- The records at the front of a list that fit a number of bytes whole (R374). -/
def takeWhole (room : Nat) : List EventRec → List EventRec
  | [] => []
  | r :: l => if recLen r ≤ room then r :: takeWhole (room - recLen r) l else []

/-- EVENTS_READ (R374). A maximum of 0 asks for the snapshot head alone, whatever the first number. -/
def eventsReadBody (_ : Call) (pl : Bytes) (s : State) : Ans :=
  let first := fld pl 0 4
  let room := min (fld pl 4 2) 65334
  let head := newestSeq s
  let held := heldRecords s
  let reply (l : List EventRec) : Ans := okWith s (le 4 head ++ le 2 l.length ++ le 2 0 ++ l.flatMap recordBytes)
  if room == 0 then reply []
  else if first == nextSeq head then reply []
  else if held.isEmpty || first == 0 || oldestAge s < seqAge head first then refuse s errNotFound
  else reply (takeWhole room (inSeqOrder head (held.filter fun r => seqAge head r.seq ≤ seqAge head first)))

/-- EVENTS_READ (R325). -/
def cmdEventsRead : Command where
  op := 0x0A00
  life := .notBlank
  len := exactly 8
  rsv := [(6, 2)]
  body := eventsReadBody

def execEventsRead (h : Hdr) (pl : Bytes) (s : State) : Out := hostCmd cmdEventsRead h pl s

/-- The oldest sequence number held, 0 where no record is. -/
def oldestSeq (s : State) : Nat := ((inSeqOrder (newestSeq s) (heldRecords s)).head?.map (·.seq)).getD 0

/-- EVENTS_INFO (R325). -/
def cmdEventsInfo : Command where
  op := 0x0A01
  life := .notBlank
  len := exactly 0
  body _ _ s := okWith s (le 4 (oldestSeq s) ++ le 4 (newestSeq s) ++ le 4 (recBytes s.recorder.buffer) ++ le 4 s.recorder.repeatMs)

def execEventsInfo (h : Hdr) (pl : Bytes) (s : State) : Out := hostCmd cmdEventsInfo h pl s

/-- EVENTS_FILTER (R371): classes 0, 2, 3 and 4 stay recorded. -/
def eventsFilterBody (_ : Call) (pl : Bytes) (s : State) : Ans :=
  let n := num pl
  let ms := bits n 32 16
  if bits n 0 16 &&& 0x1D != 0x1D || bits n 18 14 != 0 || bits n 48 16 != 0 || ms < 100 || 60000 < ms then refuse s errParam
  else ok { s with recorder := { s.recorder with classMask := bits n 0 16, minSev := bits n 16 2, repeatMs := ms } }

/-- EVENTS_FILTER (R325). -/
def cmdEventsFilter : Command where
  op := 0x0A02
  worlds := [1]
  life := .notBlank
  sc := true
  len := exactly 8
  body := eventsFilterBody

def execEventsFilter (h : Hdr) (pl : Bytes) (s : State) : Out := hostCmd cmdEventsFilter h pl s

/-! ### Flushing -/

/-- The oldest records that must go until fewer than `keep` bytes are left. -/
def oldestBeyond (keep : Nat) : List EventRec → List Nat
  | [] => []
  | r :: l => if recBytes (r :: l) < keep then [] else r.seq :: oldestBeyond keep l

/-- EVENT_FLUSH (R372): every record after a takeover, shunt, safe stop or trip; at 75 % the FINAL ones and then the oldest, until
the buffer is below 50 %; every 60 s the FINAL ones. -/
def execEventFlush (s : State) : Out :=
  let finals (x : State) : State :=
    flushRecords (·.final) { x with recorder := { x.recorder with lastFlush := x.time.osc } }
  .next (if !outputsDriven s then s
    else if s.recorder.flushAll then flushAllRecords s
    else if 196608 ≤ recBytes s.recorder.buffer then
      let s1 := finals s
      let old := oldestBeyond 131072 s1.recorder.buffer
      flushRecords (fun r => old.contains r.seq) s1
    else if s.recorder.lastFlush + 60000000 ≤ s.time.osc then finals s
    else s)

/-- REPEAT_WINDOW_LAPSE (R370). -/
def execRepeatWindowLapse (seq : Nat) (s : State) : Out :=
  let one (r : EventRec) : EventRec :=
    if r.seq == seq && r.lastAt + 1000 * s.recorder.repeatMs ≤ s.time.osc then { r with final := true } else r
  .next { s with recorder := { s.recorder with buffer := s.recorder.buffer.map one } }

/-! ### Performance counters -/

/-- The event codes of R376. -/
def counterEvents : List Nat :=
  [0x10, 0x11, 0x12, 0x20, 0x21, 0x22, 0x23, 0x24, 0x30, 0x31, 0x32, 0x33, 0x34, 0x40, 0x41]

/-- A counter as PERF_CONFIGURE writes it, value and flags cleared, none where a field is out of range (R375). -/
def counterOf (k : Nat) (b : Bytes) (now : Nat) : Option Counter :=
  let n := num b
  let us := bits n 64 32
  let chain := bits n 26 1 == 1
  if !counterEvents.contains (bits n 0 16) || bits n 28 4 != 0 || bits n 96 16 != 0 || us < 1000 || 10000000 < us || (chain && k % 2 == 1) then none
  else some { event := bits n 0 16, inst := bits n 16 8, mode := bits n 24 2, chain := chain, enable := bits n 27 1 == 1,
              n := bits n 32 32, windowUs := us, windowEnd := now + us }

/-- Changes the counters. -/
def State.modPerf (s : State) (f : Perf → Perf) : State := { s with perf := f s.perf }

/-- PERF_CONFIGURE (R375). -/
def perfConfigureBody (_ : Call) (pl : Bytes) (s : State) : Ans :=
  let k := fld pl 0 1
  if 63 < k then refuse s errParam
  else match counterOf k (pl.drop 2) s.time.osc with
  | none => refuse s errParam
  | some c =>
    if chainHigh s.perf.counters k then refuse s errState
    else ok (s.modPerf fun p => { p with counters := setAt p.counters k c })

/-- PERF_CONFIGURE (R325). -/
def cmdPerfConfigure : Command where
  op := 0x0F00
  worlds := [1]
  life := .notBlank
  sc := true
  len := exactly 16
  rsv := [(1, 1)]
  body := perfConfigureBody

def execPerfConfigure (h : Hdr) (pl : Bytes) (s : State) : Out := hostCmd cmdPerfConfigure h pl s

/-- A value of PERF_READ (R378): the upper half of a chain reads bits [95:48] of its even counter. -/
def counterBytes (s : State) (k : Nat) : Bytes :=
  let l := s.perf.counters
  let c := l.getD k {}
  let high := chainHigh l k
  let v := if high then (l.getD (k - 1) {}).value / 2 ^ 48 else c.value % 2 ^ 48
  le 8 (pack [(0, v), (48, bit (c.ovf && !c.chain && !high)), (49, bit c.configReset), (50, bit high)])

/-- A self-test runs (R380). -/
def testRuns (s : State) : Bool := s.met.test.isSome || s.bays.any fun b => b.safety.selfTest.cmd.isSome

/-- PERF_READ (R378, R380). -/
def perfReadBody (c : Call) (pl : Bytes) (s : State) : Ans :=
  let first := fld pl 0 1
  let n := fld pl 1 1
  if c.world != 1 && (!s.perf.hostRead || testRuns s || recovering s) then refuse s errWorld
  else if 64 < first + n then refuse s errParam
  else okWith s ((List.range n).flatMap fun k => counterBytes s (first + k))

/-- PERF_READ (R325). -/
def cmdPerfRead : Command where
  op := 0x0F01
  life := .notBlank
  len := exactly 4
  rsv := [(2, 2)]
  body := perfReadBody

def execPerfRead (h : Hdr) (pl : Bytes) (s : State) : Out := hostCmd cmdPerfRead h pl s

/-- PERF_ACCESS (R325, R380). -/
def cmdPerfAccess : Command where
  op := 0x0F02
  worlds := [1]
  life := .notBlank
  sc := true
  len := exactly 4
  rsv := [(1, 3)]
  body _ pl s :=
    let v := fld pl 0 1
    if 1 < v then refuse s errParam else ok (s.modPerf fun p => { p with hostRead := v == 1 })

def execPerfAccess (h : Hdr) (pl : Bytes) (s : State) : Out := hostCmd cmdPerfAccess h pl s

/-- PERF_WINDOW_END (R377): mode 2 holds the count of the window, mode 3 the highest. -/
def execPerfWindowEnd (counter : Nat) (s : State) : Out :=
  atUnit "counter" 64 counter s fun s =>
    let c := s.perf.counters.getD counter {}
    if !c.enable || c.mode < 2 || !s.due c.windowEnd || chainHigh s.perf.counters counter then s
    else
      let v := c.part % c.limit
      let d : Counter := { c with
        value := if c.mode == 2 then v else max c.value v, part := 0, windowEnd := c.windowEnd + c.windowUs }
      s.modPerf fun p => { p with counters := setAt p.counters counter d }

end Sys2Proof.Machine
end

