-- ==== Sys2Proof/Machine/StartUp.lean ====
section
/-! DEFINITION. START (R442): what each start class keeps and loses, as R444 tabulates it, group by group; the images loaded
(R357, R358, R362), the units made active (R271), the bays, contexts and intervals that return (R134, R209, R210, R90, R437), and
what is reported. -/

namespace Sys2Proof.Machine

open Sys2Proof

/-- P and C: every bank has been cleared (R441). -/
def StartClass.cold : StartClass → Bool
  | .c | .p => true
  | .w | .s => false

/-! ### Ports, time and the clock -/

/-- A port after W, P or C is a new one; after S it keeps its world, its duplicate window and its outstanding tags (R285, R302,
R444). -/
def restartPort (cls : StartClass) (p : PortState) : PortState :=
  if cls == .s then
    let open_ := match p.reassembly with | some r => p.outstanding.filter (· != r.tag) | none => p.outstanding
    { world := p.world, worldIdle := p.worldIdle, refusals := p.refusals, lockouts := p.lockouts, outstanding := open_, dups := p.dups }
  else {}

/-- The UART rate after a start (R300). -/
def restartUart (s : State) : UartState :=
  { baud := s.field 0x0010 32 32, fallbackWait := some (s.after 10000000), fallenBack := false }

/-- Module time after a start (R98, R93, R444): loaded from the real-time clock, which C loses. -/
def restartTime (cls : StartClass) (rtc : Nat) (t : TimeBase) : TimeBase :=
  { t with
    now := if cls == .c then 0 else rtc % 2 ^ 64
    valid := t.valid && cls != .c
    slew := if cls == .c then 0 else t.slew
    slewPhase := if cls == .c then 0 else t.slewPhase
    nonce := if cls == .s then t.nonce else none
    step := if cls.cold then none else t.step }

/-- The phase clock (R27): count, angle and the stamp of the cycle in progress stay but on P and C, where the clock starts anew in
DEAD_RECKON with a cycle that begins at the start. After S the conditions of loss are counted anew. -/
def restartClock (cls : StartClass) (s : State) : State :=
  match cls with
  | .c | .p => { s with clk := { freq := s.nominalFreq, cycleStart := s.time.now }, time := { s.time with cycleOsc := s.time.osc } }
  | .s => { s with clk := { s.clk with lossVoltage := 0, lossFreq := 0, lossPhase := 0, goodCycles := 0 } }
  | .w => s

/-! ### Metering -/

/-- P and C: the legal domain takes the newer valid copy of its store (R101, R444). -/
def restoreStore (s : State) : State :=
  match validCopy s with
  | some c =>
    { s with
      met := { s.met with
        regs := c.regs, parked := c.parked, pulses := c.pulses.map fun p => { residue := p.1, backlog := p.2 : PulseOut } }
      intervals := { c.intervals with ring := s.intervals.ring } }
  | none => s

/-- The metering engines after their domain was off: nothing of the cycles before, but for the registers, residues and backlogs
of the legal domain (R441, R444); the energy of a cycle not yet spread joins the residue (R67). DESIGN CHOICE (log entry 158): a
harmonic block opens with the first cycle metered, wherever its count stands, and is reported SHORT (R55). -/
def restartMetering (s : State) : State :=
  let m := s.met
  { s with met := {
      regs := m.regs, test := m.test, tariff := m.tariff, lastTariff := m.lastTariff, lastStrobe := s.time.osc
      pulses := m.pulses.map fun p => { residue := p.residue + unspread p, backlog := p.backlog : PulseOut }, parked := m.parked
      harm := { first := s.clk.cycle.toNat, osc := s.time.osc } } }

/-- The 33 entries of the interval open at the entry into STANDBY that ended in it (R437). -/
def standbyEntries (s : State) : List Bytes :=
  let iv := s.intervals
  (List.range 33).map fun k =>
    let g := iv.sets.getD k {}
    let e := (List.range 6).map fun i => some (whole s k (if i < 2 then i else i + 6) - g.base.getD i 0)
    profileEntry iv.index iv.start ((entryStatus s iv.flags k ||| 0x400) &&& 0xFFFFBFFF) e (if k == 32 then none else g.iMax) g.uMin

/-- Entries of the intervals that lay wholly within STANDBY: energy 0, NOT_LOCKED (R437). -/
def sleptEntries : Nat → Nat → Nat → State → State
  | 0, _, _, s => s
  | n + 1, start, last, s =>
    if last ≤ start then s
    else
      let iv := s.intervals
      let dup : Bool := match iv.dupUntil with | some t => start ≤ t | none => false
      let e := profileEntry iv.index start (0x400 + if dup then 0x10 else 0) (List.replicate 6 (some 0)) none none
      let s1 := storeInterval iv.index (List.replicate 33 e) s
      let s2 : State := { s1 with intervals := { s1.intervals with index := iv.index + 1, latestStart := max iv.latestStart start } }
      sleptEntries n (start + intervalUs s) last s2

/-- The intervals at a wake from STANDBY (R437): those that ended are written and not evaluated; a tariff switch or a calendar
takes effect with the first cycle. Subintervals that ended in STANDBY close as any other does, and the window stays (R82). -/
def wakeIntervals (s : State) : State :=
  let now := s.clk.cycleStart
  let fuel := (now - s.intervals.subStart) / max 1 (subUs s) + 1
  let s1 :=
    if s.intervals.closed then s
    else if now < intervalEnd s then (if isSliding s then closeSubsTo fuel now s else s)
    else
      let w := storeInterval s.intervals.index (standbyEntries s) s
      let w0 : State := { w with intervals := { w.intervals with noEval := true } }
      let w1 := if isSliding s then closeSubsTo fuel now w0 else w0
      let w2 : State := { w1 with intervals := { w1.intervals with index := w.intervals.index + 1 } }
      let w3 := sleptEntries ((now - intervalEnd s) / max 1 (intervalUs s) + 1) (intervalEnd s) (nominalStart s (intervalUs s) now) w2
      legalStore (openInterval 0 (selectTariff w3))
  activateDue 3 (selectTariff s1)

/-- A metering pair is there again, and with it an open interval (R275, log entry 159). -/
def reopenInterval (s : State) : State := if s.intervals.closed then openInterval 2 (selectTariff s) else s

/-! ### Images -/

/-- An image kind at a start (R357, R358, R360, R362): `ok` and `prevOk` say whether the image active before and the previous one
verify. A kind on trial returns to the previous image, and where that one fails to the new one again; a kind without an image that
verifies has failed. -/
def startImage (k : ImageKind) (ok prevOk : Bool) (s : State) : State :=
  let i := s.image k
  let rest (x : State) : State :=
    x.modImage k fun y => { y with state := if stagedOfKind x k then .staged else .idle, trialEnd := none, pinged := false, struck := false,
                                   aborted := false, cmd := none, fromStaged := false, byRestart := false }
  let fail (x : State) (bad : Bool) : State :=
    x.modPower fun w => { w with failedKinds := setAt w.failedKinds k.code bad }
  if i.state == .trial && i.previous.isSome then
    let s1 := ntfFallback k 3 (returnBank k (s.modImage k fun y => { y with cmd := none }))
    if prevOk || !ok then fail s1 (!prevOk)
    else
      let s2 := returnBank k s1
      fail (ntfUpdate k 6 stOk (s2.image k).active.release [] none s2) false
  else if ok then
    fail (if i.byRestart then enterTrial k s else rest s) false
  else if prevOk && i.previous.isSome then
    let s1 := (returnBank k (rest s)).modImage k fun y => { y with state := .fallenBack }
    fail (ntfUpdate k 6 stOk (s1.image k).active.release [] none s1) false
  else fail (rest s) true

/-- Every kind, APP first (R357); an open transfer is discarded (R353). -/
def startImages (cls : StartClass) (m : StartConditions) (s : State) : State :=
  let s1 := match s.images.transfer with
    | some t => dropTransfer (if cls == StartClass.s then t else { t with cmd := none }) s
    | none => s
  let s2 := s1.modImages fun i => { i with forward := if cls == StartClass.s then i.forward else none }
  [ImageKind.app, .link, .safe, .rdr, .disp].foldl
    (fun a k => startImage k (m.activeOk.getD k.code false) (m.previousOk.getD k.code false) a) s2

/-! ### Engines and cores -/

/-- A pair of pairs at a start (R271, R273): the pair that takes the function, the state of its brake van, and whether both have
failed. After P and C pair A is wanted, after W and S the pair that was active. A pair that is out stays so through an S. -/
def startPair (cls : StartClass) (aOk bOk bActive : Bool) (van : VanState) : Bool × VanState × Bool :=
  let stays (b : Bool) : Bool := b != bActive && (van == .failed || (van == .out && cls == .s))
  let ok (b : Bool) : Bool := (if b then bOk else aOk) && !stays b
  let want := !cls.cold && bActive
  let vanOf (b : Bool) : VanState :=
    if stays b then van else if !ok b then .failed else if b != bActive && (van == .out || van == .recoupling) then .recoupling else .ready
  if ok want then (want, vanOf (!want), false) else if ok (!want) then (!want, .failed, false) else (want, .failed, true)

/-- The report of a unit that fails its start self-test (R270, R273). -/
def reportFailed (kind unit : Nat) (ok : Bool) (src : Nat) (s : State) : State :=
  if ok then s else ntfTakeover kind 4 unit 4 0 0 src s

/-- Instances that had stopped go to a cluster in service that carries none, four to a cluster (R158, R266). -/
def placeInstances : Nat → Continuity → Continuity
  | 0, c => c
  | n + 1, c =>
    let idle := (List.range 33).filter fun i => (c.cluster.getD i none).isNone
    let free := (List.range 10).find? fun k => c.dsp.getD k .out == .ready && !c.cluster.contains (some k)
    match free with
    | some k =>
      if idle.isEmpty then c
      else placeInstances n { c with cluster := c.cluster.mapIdx fun i x => if (idle.take 4).contains i then some k else x }
    | none => c

/-- A cluster at a start (R271, R273): one that fails its self-test has failed; one that was out has a new attempt but after S. -/
def startCluster (cls : StartClass) (ok : Bool) (v : VanState) : VanState :=
  if v == .failed || !ok then .failed else if v == .out && cls != .s then .recoupling else v

/-- The continuity status at a start (R271): pairs and clusters made active, a new attempt for each unit not failed for good but after
S, the spare read from the instance assignment. The journal's bank is a retained one (R261, R441); those of the
checkpoints are cleared with their domains. -/
def startContinuity (cls : StartClass) (m : StartConditions) (s : State) : State :=
  let c := s.cont
  let me := startPair cls m.meAOk m.meBOk c.meB c.meVan
  let ce := startPair cls m.ceAOk m.ceBOk c.ceB c.ceVan
  let dsp := c.dsp.mapIdx fun k v => startCluster cls (m.dspOk.getD k true) v
  let again := cls != .s
  let c1 := placeInstances 10 { c with
    cluster := c.cluster.map fun x => match x with | some k => if dsp.getD k .failed == .failed then none else some k | none => none
    meB := me.1, meVan := me.2.1, meLost := me.2.2, ceB := ce.1, ceVan := ce.2.1
    ceSilent := if ce.2.2 then some s.time.osc else none
    dsp := dsp, regLost := [], causes := if again then List.replicate 14 [] else c.causes
    testFails := if again then List.replicate 14 0 else c.testFails
    journal := if cls.cold then [] else c.journal, check := {}, checkpointAt := s.time.osc
    checkA := if cls == .w then c.checkA else {}, checkB := if cls == .w then c.checkB else {}, meFollowed := 0, ceFollowed := 0 }
  let free (k : Nat) : Bool := c1.dsp.getD k .out == .ready && !c1.cluster.contains (some k)
  let held := match c1.spare with | some k => if free k then some k else none | none => none
  let spare := held.orElse fun _ => (List.range 10).find? free
  let s0 : State := { s with cont := { c1 with spare := spare } }
  let s1 := (List.range 10).foldl (fun a k => reportFailed 2 k (m.dspOk.getD k true) (source 5 k) a) s0
  reportFailed 0 0 m.meAOk (source 6 0) s1 |> reportFailed 0 1 m.meBOk (source 6 1) |> reportFailed 1 0 m.ceAOk (source 6 2)
    |> reportFailed 1 1 m.ceBOk (source 6 3)

/-- Instants from which a core runs alone after a start: 72 h have passed after C with a core failed (R246). -/
def aloneAfter (cls : StartClass) (both : Bool) (s : State) : Nat :=
  if both then 0 else if cls == .c then 4320 * 60000000 else aloneTime s

/-- A core at a start (R247, R270, R273): a failed one is reported, newly failed ones as such, and one that is healthy again has
rejoined. -/
def reportCore (n : Nat) (before now : Bool) (s : State) : State :=
  let src := source 6 (n + 3)
  if now then (if before then s else ntfTakeover 3 1 n 0 0 0 src (ntfSafety 5 n 0 s))
  else
    let s1 := ntfTakeover 3 4 n 4 0 0 src s
    if before then ntfSafety 4 n 0 { s1 with cont := { s1.cont with toSc := s1.cont.toSc + 1 } } else s1

/-- The safety cores and their inputs at a start (R236, R240, R244 to R249, R444). -/
def startSafety (cls : StartClass) (m : StartConditions) (s : State) : State :=
  let f := s.safety
  let ok1 := m.sc1Ok && !(cls == .s && !f.sc1Ok && 3 ≤ f.sc1Tries)
  let ok2 := m.sc2Ok && !(cls == .s && !f.sc2Ok && 3 ≤ f.sc2Tries)
  let keep := cls != .c
  let pressed := f.estopA || f.estopB
  let latched := keep && f.estopLatch
  let none4 : List Bool := [false, false, false, false]
  let g : Safety :=
    { confirmed := f.confirmed, sc1Block := f.sc1Block, sc2Block := f.sc2Block, stored := f.stored, sc1Ok := ok1, sc2Ok := ok2
      sc1Tries := if ok1 then 0 else 3, sc2Tries := if ok2 then 0 else 3
      aloneUs := aloneAfter cls (ok1 && ok2) s, aloneSince := if ok1 == ok2 then none else some s.time.osc
      newBlocked := !(ok1 && ok2) && (cls == .c || f.newBlocked)
      estop := pressed, estopLatch := latched || pressed, estopA := f.estopA, estopB := f.estopB
      doorA := f.doorA, doorB := f.doorB, doorOpen := f.doorA && !f.doorB
      invalidSince := if f.doorA == f.doorB then some s.time.osc else none
      outFault := if keep then f.outFault else none4, siteEstop := if keep then f.siteEstop else none4
      siteOrigin := if keep then f.siteOrigin else [0, 0, 0, 0]
      peers := f.peers.map fun _ => { lastAt := s.time.osc }
      allLost := !ok1 && !ok2
      faultN := (!ok1 && !ok2) || s.cont.meLost || s.power.failedKinds.any id }
  let s1 : State := { s with safety := g }
  let s2 := reportCore 1 f.sc1Ok ok1 s1 |> reportCore 2 f.sc2Ok ok2
  let s2 := if cls == .c && ok1 != ok2 then ntfSafety 6 0 0 s2 else s2
  let s3 := if pressed && !latched then ntfSafety 2 0 2 s2 else s2
  refreshSafeOut (if f.sc1Block != f.sc2Block then ntfSafety 9 0 0 s3 else s3)

/-! ### Bays -/

/-- The state in which a bay restarts (R134): DISABLED, or IDLE where BAY_ENABLE was in effect; a WELDED latch stays. After S a
FAULT stays as well. Without an APP image no bay is enabled (R358). -/
def restartState (cls : StartClass) (noApp : Bool) (y : Bay) : BayState :=
  if y.safety.weldLatch then .welded
  else if cls == .s && y.state == .fault then .fault
  else if y.enabled && !y.coil.disabling && !noApp then .idle
  else .disabled

/-- A bay at a start: its inputs are read again, its outputs are released, and what R444 keeps stays. `off` says that the
metering domain was off. -/
def restartBay (cls : StartClass) (noApp off : Bool) (lockType osc : Nat) (y : Bay) : Bay :=
  let st := restartState cls noApp y
  let keep := !cls.cold
  let g := y.guards
  let latches := cls != .c
  { state := st
    enabled := y.enabled && !y.coil.disabling && !noApp
    ctx := y.ctx
    limitCap := if keep then y.limitCap else 0
    pilot := { cp := y.pilot.cp, pp := y.pilot.pp, drive := if st == .idle then .steady else .stateF, awaitA := y.pilot.awaitA,
               awaitFirst := st == .idle }
    guards := { aClosed := g.aClosed, bClosed := g.bClosed, diffSince := if g.aClosed == g.bClosed then none else some osc,
                lastPair := if keep then g.lastPair else none, gstOk := keep && g.gstOk }
    lock := { feedback := y.lock.feedback, locked := y.lock.feedback && lockType != 0, weldPassed := !y.safety.weldLatch,
              wasEnergised := y.lock.wasEnergised }
    coil := { operate := y.coil.operate, release := y.coil.release, onInCycle := !off && y.coil.onInCycle
              galeA := !off && y.coil.galeA, galeB := !off && y.coil.galeB }
    safety := { timers := if off then [0, 0, 0] else y.safety.timers, sdeFirst := latches && y.safety.sdeFirst,
                sdeLatch := latches && y.safety.sdeLatch, sdeLast := if latches then y.safety.sdeLast else none,
                weldLatch := y.safety.weldLatch
                selfTest := if cls == .s then { y.safety.selfTest with passUntil := none } else {} }
    meter := if off then {} else y.meter
    conv := { faultCode := y.conv.faultCode }
    link := if keep then { framesOk := y.link.framesOk, framesBad := y.link.framesBad, erasures := y.link.erasures } else {} }

/-- CONFIG goes to the converter of every DC bay (R152). After S a CONVERTER_CONFIGURE that is outstanding waits on. -/
def configureConverters (cls : StartClass) (old : List Bay) (s : State) : State :=
  (List.range 32).foldl (fun a b =>
    if a.isDc b then sendConfig b (if cls == .s then (old.getD b {}).conv.configCmds else []) a else a) s

/-! ### Contexts -/

/-- A context at W, P or C (R209, R210): a running session is suspended, a BOUND context is AUTHORISED again, one in FINISHING
closes. CTX_START and CTX_RESUME that were outstanding end (R467, R285). -/
def restartCtx (cls : StartClass) (c : Nat) (s : State) : State :=
  let x := s.ctx c
  let letter := [byte cls.letter]
  let s0 := s.modWk c fun w => { w with resumeCmds := [], cuts := if cls.cold then [] else w.cuts }
  let cut (y : State) : State :=
    if cls.cold then
      (y.modHd c fun h => { h with flags := h.flags ||| 2, iGrant := 0 }).modWk c fun w => { w with outages := w.outages + 1 }
    else y
  match x.hd.state with
  | .energising | .charging | .suspendedEv =>
    let s1 := moveCtx c .suspendedEvse 9 letter errState (cut s0)
    if cls.cold then s1.modWk c fun w => { w with afterPower := true } else s1
  | .suspendedEvse => if cls.cold then (cut s0).modWk c fun w => { w with afterPower := true } else s0
  | .bound => moveCtx c .authorised 9 letter errState s0
  | .finishing => if x.wk.closing.isSome then s0 else (cut s0).modWk c fun w => { w with closeDue := true }
  | _ => s0

/-- A discarded entry of the timed-action queue is reported with the notification of its command's class (R37, R467): a close
whose CTX_START was outstanding has been reported with its context. `started` holds the contexts of those. -/
def reportDiscarded (started : List Nat) (q : QEntry) (s : State) : State :=
  match q.kind, q.bay with
  | .close c, _ => if started.contains c then s else completeStart c errState (s.ctx c).hd.state s
  | .normalOpen, some b => ntfBay b 0 [byte BayState.opening.code, byte (s.bay b).state.code, 0] s
  | .lsw _, _ => ntfLswFull q.chan 0 q.cmd errState s
  | .normalOpen, none => s

/-! ### Channels, display, recorder and counters -/

/-- A load channel at a start (R397, R399, R444): off, its command cleared but on S; latches, retries and clamp energies stay on W and S. -/
def restartChan (cls : StartClass) (refill : Nat) (c : Chan) : Chan :=
  if cls.cold then { retries := refill }
  else { thermal := c.thermal, clampLock := c.clampLock, lockedOut := c.lockedOut, retries := c.retries, offs := c.offs, clamps := c.clamps,
         backoffTo := c.backoffTo, cmd := cls == .s && c.cmd }

/-- The channels (R399): on S those that no bay holds take up their command again. -/
def startChans (cls : StartClass) (s : State) : State :=
  let s1 : State := { s with chans := s.chans.mapIdx fun k c => restartChan cls (chanRetries s k) c }
  if cls != .s then s1
  else (List.range 112).foldl (fun a k =>
    if (a.holder k).isSome then a.modChan k fun c => { c with cmd := false }
    else if (a.chan k).cmd then commandOn k a else a) s1

/-- The display (R404, R407, R408): the frame memory and the blink set are cleared; the passes count on over an S. -/
def restartDisplay (cls : StartClass) (d : Display) : Display :=
  { vcom := d.vcom, vcomAt := d.vcomAt
    lastCrc := if cls == .s then d.lastCrc else 0, lastLegal := if cls == .s then d.lastLegal else 0
    passes := if cls == .s then d.passes else 0
    legalText := if cls.cold then [] else d.legalText, lastRender := if cls.cold then 0 else d.lastRender
    lastPass := d.lastPass }

/-- A counter at W (R379): its value and flags stay, its configuration is the default again. -/
def defaultCounter (k : Nat) (value : Nat) (c : Counter) : Counter :=
  let d := Counter.defaultOf k
  let same := c.event == d.event && c.inst == d.inst && c.mode == d.mode && c.chain == d.chain && c.enable == d.enable &&
    c.n == d.n && c.windowUs == d.windowUs
  { d with value := value % 2 ^ 48, ovf := c.ovf, configReset := c.configReset || !same }

/-- The counters and PERF_ACCESS at a start (R379, R444); a chain's upper half keeps its bits. -/
def restartPerf (cls : StartClass) (p : Perf) : Perf :=
  match cls with
  | .s => p
  | .w =>
    { counters := p.counters.mapIdx fun k c =>
        defaultCounter k (if chainHigh p.counters k then (p.counters.getD (k - 1) {}).value / 2 ^ 48 else c.value) c }
  | _ => { counters := (List.range 64).map Counter.defaultOf }

/-- The recorder's next number at C comes from the log (R369). -/
def startSeq (cls : StartClass) (r : Recorder) : Nat :=
  if cls == .c then (match r.log.getLast? with | some e => nextSeq e.seq | none => 1) else r.nextSeq

/-- The first records after a start (R372, R373): lost records, then the start; what W and S left in the buffer is flushed. -/
def startRecords (cls : StartClass) (s : State) : State :=
  let r := s.recorder
  let s1 : State := { s with recorder := { r with nextSeq := startSeq cls r, lost := none, lastFlush := s.time.osc, flushAll := !cls.cold } }
  let s2 := match r.lost with
    | some (a, b) => if cls.cold then record 0x0002 0 1 (le 4 a ++ le 4 b) s1 else s1
    | none => s1
  record 0x0001 0 0 [byte cls.letter, 0] s2

/-- NTF_POWER events 0 and 1 (R448). -/
def reportStart (old : PowerState) (s : State) : State :=
  let detail := match s.power.lastClass with
    | .s => le 4 s.power.wokenBy ++ le 4 0
    | .p => le 8 s.power.pfailTime
    | _ => le 8 0
  ntfPower 1 detail (if old == .active then s else ntfPower 0 (le 1 old.code) s)

/-! ### START -/

/-- The power part after a start. -/
def startedPower (cls : StartClass) (w : Power) : Power :=
  { w with state := .active, lastClass := cls, starting := none, flushing := false, vsupBack := false, mark := true, standbyDue := false,
           quietExit := false, debugOpen := false, debugChallenge := none }

/-- What a start loses at once (R441, R444). -/
def clearVolatile (cls : StartClass) (rtc : Nat) (off : Bool) (s : State) : State :=
  let s1 := applyCommits (fun _ => true) { s with
    power := startedPower cls s.power
    spi := restartPort cls s.spi
    uart := restartPort cls s.uart
    queue := []
    time := restartTime cls rtc s.time
    perf := restartPerf cls s.perf
    budget := { dirty := true, ownSeq := s.budget.ownSeq, siteSeen := some s.time.osc }
    mains := { (if cls.cold then {} else
      { framesOk := s.mains.framesOk, framesBad := s.mains.framesBad, erasures := s.mains.erasures } : Mains) with
      link := if s.field 0x0501 0 2 == 0 then 0 else 1 }
    sitePeers := []
    canOut := []
    disp := restartDisplay cls s.disp
    readers := s.readers.map fun _ => {}
    tag := { s.tag with mirrorDue := true } }
  let s2 := restartClock cls { s1 with uartRate := restartUart s1 }
  if off then restartMetering (if cls.cold then restoreStore s2 else s2) else s2

/-- A start of a class (R442). -/
def startModule (cls : StartClass) (m : StartConditions) (s : State) : State :=
  let old := s.power.state
  let asleep := old == .standby
  let off := cls.cold || asleep
  let lastStart := s.clk.cycleStart
  let started := (List.range 256).filter fun c => (s.ctx c).wk.startCmd.isSome
  let s1 := reportStart old (startRecords cls (clearVolatile cls m.rtc off s))
  let s2 := startSafety cls m (startContinuity cls m (startImages cls m s1))
  let s3 := abortTest s2
  let noApp := s3.power.failedKinds.getD 0 false
  let s4 : State := { s3 with bays := s3.bays.mapIdx fun b y => restartBay cls noApp off (s3.lockType b) s3.time.osc y }
  let s5 := if cls == .s then s4 else (List.range 256).foldl (fun a c => restartCtx cls c a) s4
  let s6 := s.queue.foldl (fun a q => reportDiscarded started q a) s5
  let s7 := configureConverters cls s3.bays (startChans cls s6)
  let s8 := if cls == .s then { s7 with creds := { s7.creds with batch := none, cache := [] } }
    else askAgain (restartCreds cls.cold { s7 with creds := { s7.creds with cache := [] } })
  let s9 := if cls.cold then returnIntervals (cls == .c) s8.power.pfailTime lastStart s8 else if asleep then wakeIntervals s8 else s8
  refreshSafeOut (markDirty (reopenInterval s9))

/-- START (R442). -/
def execStart (m : StartConditions) (s : State) : Out :=
  .next (match s.power.starting with
    | some cls => startModule cls m s
    | none => s)

end Sys2Proof.Machine
end

