-- ==== Sys2Proof/Machine/ProtocolEvents.lean ====
section
/-! DEFINITION. What the host ports do besides taking whole commands (R281 to R300): discarded packets, fragments and their
reassembly, SPI transactions, the sending of notifications, and the UART's fallback rate. -/

namespace Sys2Proof.Machine

open Sys2Proof

/-! ### The opcodes -/

/-- Commands of the table, part 1. -/
def commands1 : List Command :=
  [cmdPing, cmdGetIdentity, cmdGetStatus, cmdReset, cmdSetPowerState, cmdGetParam, cmdSetParam, cmdCommitParams,
   cmdOpenWorld, cmdCloseWorld, cmdGetTime, cmdSetTime, cmdAdjustTime, cmdGetHealth, cmdBayConfigure, cmdBayGetState,
   cmdBayEnable, cmdBayDisable]

/-- Commands of the table, part 2. -/
def commands2 : List Command :=
  [cmdBaySetLimit, cmdBayUnlock, cmdBayTestResidual, cmdConverterConfigure, cmdCtxOpen, cmdCtxAuthorise, cmdCtxBind,
   cmdCtxStart, cmdCtxSuspend, cmdCtxResume, cmdCtxStop, cmdCtxSetQuota, cmdCtxSetProfile, cmdCtxGet, cmdCtxList,
   cmdCtxAckRecord, cmdCtxRelease, cmdSiteSetBudget]

/-- Commands of the table, part 3. -/
def commands3 : List Command :=
  [cmdSiteGetAllocation, cmdCtxSetPriority, cmdMeterReadInstant, cmdMeterReadRegisters, cmdMeterReadHarmonics,
   cmdPulseAssign, cmdLegalParamRead, cmdLegalParamWrite, cmdMeterSelftest, cmdTariffLoadCalendar, cmdTariffGet,
   cmdTariffCancelPending, cmdProfileRead, cmdProfileConfigure, cmdDemandRead, cmdLogbookRead, cmdRecordRead,
   cmdCredLookup]

/-- Commands of the table, part 4. -/
def commands4 : List Command :=
  [cmdCredUpdateBegin, cmdCredUpdateData, cmdCredUpdateCommit, cmdCredStats, cmdPncVerify, cmdSafetyGetState,
   cmdSafetyLoadParams, cmdSafetyGetCheck, cmdSafetyConfirm, cmdSafetyResetFault, cmdSiteSafetyConfigure, cmdKeyList,
   cmdKeyGenerate, cmdKeyImport, cmdKeyDerive, cmdKeyInvalidate, cmdKeyGetPublic, cmdAttest]

/-- Commands of the table, part 5. -/
def commands5 : List Command :=
  [cmdSetLifecycle, cmdUpdateBegin, cmdUpdateData, cmdUpdateEnd, cmdUpdateActivate, cmdUpdateStatus, cmdUpdateAbort,
   cmdConsistConfigure, cmdUpdateForward, cmdEventsRead, cmdEventsInfo, cmdEventsFilter, cmdPerfConfigure, cmdPerfRead,
   cmdPerfAccess, cmdLswConfigure, cmdLswSet, cmdLswGet]

/-- Commands of the table, part 6. -/
def commands6 : List Command :=
  [cmdLswUnlock, cmdDispConfigure, cmdDispWrite, cmdDispBlink, cmdDispGetCheck, cmdRdrConfigure, cmdRdrPoll,
   cmdRdrTransceive, cmdTagRead, cmdTagWrite, cmdTagConfigure, cmdPlcConfigure, cmdPlcGetLink, cmdPlcTonemapInfo,
   cmdV2gConfigure, cmdSiteConfigure, cmdSiteGetPeers]

/-- The command of an opcode (R281 step 8). -/
def commandOf (op : Nat) : Option Command :=
  (commands1 ++ commands2 ++ commands3 ++ commands4 ++ commands5 ++ commands6).find? (·.op == op)

/-! ### Discarded packets -/

/-- HOST_PACKET_DISCARDED (R281 steps 1 and 2): framing fails without a reply; a wrong trailer is answered ERR_CRC. Both are
counted (R376). -/
def execHostPacketDiscarded (p : HostPort) (crcOnly : Bool) (world op tag : Nat) (s : State) : Out :=
  let s1 := count 0x12 p.code 1 s
  .next (if !hostReady s then s
    else if crcOnly then replyStatus p world op tag errCrc s1
    else match p with
      | .spi => s1.modPort .spi fun q => { q with framingFail := true }
      | .uart => s1)

/-! ### Fragments -/

/-- The open reassembly ends: its tag is free again. -/
def dropReassembly (p : HostPort) (s : State) : State :=
  s.modPort p fun q => { q with
    reassembly := none
    outstanding := match q.reassembly with | some r => q.outstanding.filter (· != r.tag) | none => q.outstanding }

/-- A packet belongs to the port's open reassembly (R281 step 6). -/
def continues (h : Hdr) (op : Nat) (s : State) : Option Reassembly :=
  (s.port h.port).reassembly.filter fun r => r.tag == h.tag && r.op == op && r.world == h.world

/-- A fragment of the wrong length or beyond FRAG 15 (R286). -/
def wrongLength (frag : Nat) (mf : Bool) (pl : Bytes) : Bool := 16 ≤ frag || (mf && pl.length != 4084)

/-- FRAG 0 of a fragmented command opens a reassembly (R286). -/
def firstFragment (h : Hdr) (op : Nat) (pl : Bytes) (s : State) : State :=
  if (s.port h.port).reassembly.isSome then replyStatus h.port h.world op h.tag errBusy s
  else if wrongLength 0 true pl then replyStatus h.port h.world op h.tag errLength s
  else
    let r : Reassembly := { tag := h.tag, op := op, world := h.world, next := 1, data := pl, deadline := s.after 1000000 }
    s.modPort h.port fun q => { q with reassembly := some r, outstanding := h.tag :: q.outstanding.filter (· != h.tag) }

/-- The last fragment completes the command, which is checked from step 8 of R281. The duplicate window compares FRAG 0. -/
def completeFragments (h : Hdr) (op : Nat) (data : Bytes) (s : State) : State :=
  let s1 := dropReassembly h.port s
  match commandOf op with
  | some c =>
    runCommand c { port := h.port, world := h.world, op := op, tag := h.tag } data 4084 (trailerOf h op 0 true (data.take 4084)) s1
  | none => replyStatus h.port h.world op h.tag errOpcode s1

/-- A fragment with FRAG above 0 (R286). One that does not belong to the open reassembly leaves that one open. -/
def laterFragment (h : Hdr) (op frag : Nat) (mf : Bool) (pl : Bytes) (s : State) : State :=
  match continues h op s with
  | none => replyStatus h.port h.world op h.tag (if wrongLength frag mf pl then errLength else errParam) s
  | some r =>
    if wrongLength frag mf pl then replyStatus h.port h.world op h.tag errLength (dropReassembly h.port s)
    else if frag != r.next then replyStatus h.port h.world op h.tag errParam (dropReassembly h.port s)
    else if mf then
      s.modPort h.port fun q => { q with
        reassembly := some { r with next := frag + 1, data := r.data ++ pl, deadline := s.after 1000000 } }
    else completeFragments h op (r.data ++ pl) s

/-- FRAGMENT (R286): a packet with MF set or FRAG above 0; one with neither is a whole command of its opcode. -/
def execFragment (h : Hdr) (op frag : Nat) (mf : Bool) (pl : Bytes) (s : State) : Out :=
  let came (x : State) : State := touchWorld { port := h.port, world := h.world, op := op, tag := h.tag } (arrived h.port pl.length x)
  .next (if !hostReady s || !answers s op then s
    else if 4084 < pl.length then count 0x12 h.port.code 1 s
    else
      let t := trailerOf h op frag mf pl
      if frag == 0 && !mf then
        match commandOf op with
        | some c => receive c h pl s
        | none => screen h op 0 pl.length t false (replyStatus h.port h.world op h.tag errOpcode) (came s)
      else if frag == 0 then screen h op 0 pl.length t false (firstFragment h op pl) (came s)
      else screen h op frag pl.length t (continues h op s).isSome (laterFragment h op frag mf pl) (came s))

/-- REASSEMBLY_TIMEOUT (R286): 1 000 ms without the next fragment. -/
def execReassemblyTimeout (p : HostPort) (s : State) : Out :=
  .next (match (s.port p).reassembly with
    | some r => if s.due r.deadline && hostReady s then replyStatus p r.world r.op r.tag errLength (dropReassembly p s) else s
    | none => s)

/-! ### Transports -/

/-- IRQ_N: low while a packet is queued for the SPI port (R297). -/
def irqN (s : State) : Bool := s.spi.txQueue.isEmpty

/-- RDY_N: low while the module can take a packet (R297). -/
def rdyN (s : State) : Bool := !hostReady s

/-- The length of a packet on the wire. -/
def packetLen (k : OutPkt) : Nat := 16 + k.payload.length

/-- SPI_TRANSACTION (R296 to R298): the module sends the length of its next packet and its status byte, then the packet; a
transaction cut short leaves the packet for the next one. A host length outside 0 and 16 to 4 100, and a packet cut short, fail
framing. The host's packet itself is a row of its own. -/
def execSpiTransaction (hostLen : Nat) (aborted : Bool) (s : State) : Out :=
  let q := s.spi
  let started := s.power.state == .active || s.power.state == .quiet
  let open_ := hostReady s || (started && s.power.starting.isSome && !s.power.flushing && !q.txQueue.isEmpty)
  let bad := hostLen != 0 && (aborted || hostLen < 16 || 4100 < hostLen)
  let head := ((q.txQueue.head?.map packetLen).getD 0, bit q.framingFail)
  let s1 := if bad then count 0x12 0 1 s else s
  .next (if !open_ then s
    else if aborted then s1.modPort .spi fun q => { q with lastHead := head, framingFail := bad }
    else
      count 0x11 0 head.1 (s1.modPort .spi fun q => { q with
        lastHead := head, framingFail := bad, lastTx := q.txQueue.take 1, wire := misoBytes hostLen head.2 q.txQueue.head?
        txQueue := q.txQueue.drop 1 }))

/-- The packets of a notification (R278, R288). -/
def ntfPackets (n : Ntf) : List OutPkt :=
  let payload := le 2 n.nseq ++ le 2 n.cmdTag ++ le 2 n.cmdOp ++ le 2 n.cmdStatus ++ n.payload
  (replyPackets 0 n.op 0 false payload).map fun k => OutPkt.sealed { k with ntf := true }

/-- NOTIFICATION_SEND (R289): the oldest queued notification of a port. -/
def execNotificationSend (p : HostPort) (s : State) : Out :=
  .next (if !hostReady s then s
    else match (s.port p).ntfQueue with
      | n :: rest => send p (ntfPackets n) (s.modPort p fun q => { q with ntfQueue := rest })
      | [] => s)

/-- UART_BAUD_FALLBACK (R300). -/
def execUartBaudFallback (s : State) : Out :=
  .next (if s.dueOpt s.uartRate.fallbackWait then
      { s with uartRate := { baud := 115200, fallbackWait := none, fallenBack := true } }
    else s)

end Sys2Proof.Machine
end

