-- ==== Sys2Proof/Machine/Dispatch.lean ====
section
/-! DEFINITION. The meaning of every command and event, one arm per row of spec/opcode_table.json. -/

namespace Sys2Proof.Machine

open Sys2Proof

def exec (i : Instr) (s : State) : Host.Outcome State Fault Refusal :=
  match i with
  | .ping h pl => Sys2Proof.Machine.execPing h pl s
  | .getIdentity h pl => Sys2Proof.Machine.execGetIdentity h pl s
  | .getStatus h pl => Sys2Proof.Machine.execGetStatus h pl s
  | .reset h pl => Sys2Proof.Machine.execReset h pl s
  | .setPowerState h pl => Sys2Proof.Machine.execSetPowerState h pl s
  | .getParam h pl => Sys2Proof.Machine.execGetParam h pl s
  | .setParam h pl => Sys2Proof.Machine.execSetParam h pl s
  | .commitParams h pl => Sys2Proof.Machine.execCommitParams h pl s
  | .openWorld h pl => Sys2Proof.Machine.execOpenWorld h pl s
  | .closeWorld h pl => Sys2Proof.Machine.execCloseWorld h pl s
  | .getTime h pl => Sys2Proof.Machine.execGetTime h pl s
  | .setTime h pl => Sys2Proof.Machine.execSetTime h pl s
  | .adjustTime h pl => Sys2Proof.Machine.execAdjustTime h pl s
  | .getHealth h pl => Sys2Proof.Machine.execGetHealth h pl s
  | .bayConfigure h pl => Sys2Proof.Machine.execBayConfigure h pl s
  | .bayGetState h pl => Sys2Proof.Machine.execBayGetState h pl s
  | .bayEnable h pl => Sys2Proof.Machine.execBayEnable h pl s
  | .bayDisable h pl => Sys2Proof.Machine.execBayDisable h pl s
  | .baySetLimit h pl => Sys2Proof.Machine.execBaySetLimit h pl s
  | .bayUnlock h pl => Sys2Proof.Machine.execBayUnlock h pl s
  | .bayTestResidual h pl => Sys2Proof.Machine.execBayTestResidual h pl s
  | .converterConfigure h pl => Sys2Proof.Machine.execConverterConfigure h pl s
  | .ctxOpen h pl => Sys2Proof.Machine.execCtxOpen h pl s
  | .ctxAuthorise h pl => Sys2Proof.Machine.execCtxAuthorise h pl s
  | .ctxBind h pl => Sys2Proof.Machine.execCtxBind h pl s
  | .ctxStart h pl => Sys2Proof.Machine.execCtxStart h pl s
  | .ctxSuspend h pl => Sys2Proof.Machine.execCtxSuspend h pl s
  | .ctxResume h pl => Sys2Proof.Machine.execCtxResume h pl s
  | .ctxStop h pl => Sys2Proof.Machine.execCtxStop h pl s
  | .ctxSetQuota h pl => Sys2Proof.Machine.execCtxSetQuota h pl s
  | .ctxSetProfile h pl => Sys2Proof.Machine.execCtxSetProfile h pl s
  | .ctxGet h pl => Sys2Proof.Machine.execCtxGet h pl s
  | .ctxList h pl => Sys2Proof.Machine.execCtxList h pl s
  | .ctxAckRecord h pl => Sys2Proof.Machine.execCtxAckRecord h pl s
  | .ctxRelease h pl => Sys2Proof.Machine.execCtxRelease h pl s
  | .siteSetBudget h pl => Sys2Proof.Machine.execSiteSetBudget h pl s
  | .siteGetAllocation h pl => Sys2Proof.Machine.execSiteGetAllocation h pl s
  | .ctxSetPriority h pl => Sys2Proof.Machine.execCtxSetPriority h pl s
  | .meterReadInstant h pl => Sys2Proof.Machine.execMeterReadInstant h pl s
  | .meterReadRegisters h pl => Sys2Proof.Machine.execMeterReadRegisters h pl s
  | .meterReadHarmonics h pl => Sys2Proof.Machine.execMeterReadHarmonics h pl s
  | .pulseAssign h pl => Sys2Proof.Machine.execPulseAssign h pl s
  | .legalParamRead h pl => Sys2Proof.Machine.execLegalParamRead h pl s
  | .legalParamWrite h pl => Sys2Proof.Machine.execLegalParamWrite h pl s
  | .meterSelftest h pl => Sys2Proof.Machine.execMeterSelftest h pl s
  | .tariffLoadCalendar h pl => Sys2Proof.Machine.execTariffLoadCalendar h pl s
  | .tariffGet h pl => Sys2Proof.Machine.execTariffGet h pl s
  | .tariffCancelPending h pl => Sys2Proof.Machine.execTariffCancelPending h pl s
  | .profileRead h pl => Sys2Proof.Machine.execProfileRead h pl s
  | .profileConfigure h pl => Sys2Proof.Machine.execProfileConfigure h pl s
  | .demandRead h pl => Sys2Proof.Machine.execDemandRead h pl s
  | .logbookRead h pl => Sys2Proof.Machine.execLogbookRead h pl s
  | .recordRead h pl => Sys2Proof.Machine.execRecordRead h pl s
  | .credLookup h pl => Sys2Proof.Machine.execCredLookup h pl s
  | .credUpdateBegin h pl => Sys2Proof.Machine.execCredUpdateBegin h pl s
  | .credUpdateData h pl => Sys2Proof.Machine.execCredUpdateData h pl s
  | .credUpdateCommit h pl => Sys2Proof.Machine.execCredUpdateCommit h pl s
  | .credStats h pl => Sys2Proof.Machine.execCredStats h pl s
  | .pncVerify h pl => Sys2Proof.Machine.execPncVerify h pl s
  | .safetyGetState h pl => Sys2Proof.Machine.execSafetyGetState h pl s
  | .safetyLoadParams h pl => Sys2Proof.Machine.execSafetyLoadParams h pl s
  | .safetyGetCheck h pl => Sys2Proof.Machine.execSafetyGetCheck h pl s
  | .safetyConfirm h pl => Sys2Proof.Machine.execSafetyConfirm h pl s
  | .safetyResetFault h pl => Sys2Proof.Machine.execSafetyResetFault h pl s
  | .siteSafetyConfigure h pl => Sys2Proof.Machine.execSiteSafetyConfigure h pl s
  | .keyList h pl => Sys2Proof.Machine.execKeyList h pl s
  | .keyGenerate h pl => Sys2Proof.Machine.execKeyGenerate h pl s
  | .keyImport h pl => Sys2Proof.Machine.execKeyImport h pl s
  | .keyDerive h pl => Sys2Proof.Machine.execKeyDerive h pl s
  | .keyInvalidate h pl => Sys2Proof.Machine.execKeyInvalidate h pl s
  | .keyGetPublic h pl => Sys2Proof.Machine.execKeyGetPublic h pl s
  | .attest h pl => Sys2Proof.Machine.execAttest h pl s
  | .setLifecycle h pl => Sys2Proof.Machine.execSetLifecycle h pl s
  | .updateBegin h pl => Sys2Proof.Machine.execUpdateBegin h pl s
  | .updateData h pl => Sys2Proof.Machine.execUpdateData h pl s
  | .updateEnd h pl => Sys2Proof.Machine.execUpdateEnd h pl s
  | .updateActivate h pl => Sys2Proof.Machine.execUpdateActivate h pl s
  | .updateStatus h pl => Sys2Proof.Machine.execUpdateStatus h pl s
  | .updateAbort h pl => Sys2Proof.Machine.execUpdateAbort h pl s
  | .consistConfigure h pl => Sys2Proof.Machine.execConsistConfigure h pl s
  | .updateForward h pl => Sys2Proof.Machine.execUpdateForward h pl s
  | .eventsRead h pl => Sys2Proof.Machine.execEventsRead h pl s
  | .eventsInfo h pl => Sys2Proof.Machine.execEventsInfo h pl s
  | .eventsFilter h pl => Sys2Proof.Machine.execEventsFilter h pl s
  | .perfConfigure h pl => Sys2Proof.Machine.execPerfConfigure h pl s
  | .perfRead h pl => Sys2Proof.Machine.execPerfRead h pl s
  | .perfAccess h pl => Sys2Proof.Machine.execPerfAccess h pl s
  | .lswConfigure h pl => Sys2Proof.Machine.execLswConfigure h pl s
  | .lswSet h pl => Sys2Proof.Machine.execLswSet h pl s
  | .lswGet h pl => Sys2Proof.Machine.execLswGet h pl s
  | .lswUnlock h pl => Sys2Proof.Machine.execLswUnlock h pl s
  | .dispConfigure h pl => Sys2Proof.Machine.execDispConfigure h pl s
  | .dispWrite h pl => Sys2Proof.Machine.execDispWrite h pl s
  | .dispBlink h pl => Sys2Proof.Machine.execDispBlink h pl s
  | .dispGetCheck h pl => Sys2Proof.Machine.execDispGetCheck h pl s
  | .rdrConfigure h pl => Sys2Proof.Machine.execRdrConfigure h pl s
  | .rdrPoll h pl => Sys2Proof.Machine.execRdrPoll h pl s
  | .rdrTransceive h pl => Sys2Proof.Machine.execRdrTransceive h pl s
  | .tagRead h pl => Sys2Proof.Machine.execTagRead h pl s
  | .tagWrite h pl => Sys2Proof.Machine.execTagWrite h pl s
  | .tagConfigure h pl => Sys2Proof.Machine.execTagConfigure h pl s
  | .plcConfigure h pl => Sys2Proof.Machine.execPlcConfigure h pl s
  | .plcGetLink h pl => Sys2Proof.Machine.execPlcGetLink h pl s
  | .plcTonemapInfo h pl => Sys2Proof.Machine.execPlcTonemapInfo h pl s
  | .v2gConfigure h pl => Sys2Proof.Machine.execV2gConfigure h pl s
  | .siteConfigure h pl => Sys2Proof.Machine.execSiteConfigure h pl s
  | .siteGetPeers h pl => Sys2Proof.Machine.execSiteGetPeers h pl s
  | .hostPacketDiscarded p crcOnly world op tag => Sys2Proof.Machine.execHostPacketDiscarded p crcOnly world op tag s
  | .fragment h op frag mf pl => Sys2Proof.Machine.execFragment h op frag mf pl s
  | .reassemblyTimeout p => Sys2Proof.Machine.execReassemblyTimeout p s
  | .spiTransaction hostLen aborted => Sys2Proof.Machine.execSpiTransaction hostLen aborted s
  | .notificationSend p => Sys2Proof.Machine.execNotificationSend p s
  | .worldIdleTimeout p => Sys2Proof.Machine.execWorldIdleTimeout p s
  | .openWorldLockoutEnd p w => Sys2Proof.Machine.execOpenWorldLockoutEnd p w s
  | .sampleStrobe x => Sys2Proof.Machine.execSampleStrobe x s
  | .pulseEnd out => Sys2Proof.Machine.execPulseEnd out s
  | .cycleBoundary freqMhz phaseErr => Sys2Proof.Machine.execCycleBoundary freqMhz phaseErr s
  | .streamFault stream => Sys2Proof.Machine.execStreamFault stream s
  | .streamFaultClear stream => Sys2Proof.Machine.execStreamFaultClear stream s
  | .lossOfReference cause => Sys2Proof.Machine.execLossOfReference cause s
  | .residualTierTrip bay tier => Sys2Proof.Machine.execResidualTierTrip bay tier s
  | .galeTrip bay engineB earlier sample => Sys2Proof.Machine.execGaleTrip bay engineB earlier sample s
  | .galeTripRelease bay w => Sys2Proof.Machine.execGaleTripRelease bay w s
  | .cpStateChange bay plateauMv negMv => Sys2Proof.Machine.execCpStateChange bay plateauMv negMv s
  | .ppChange bay ohms => Sys2Proof.Machine.execPpChange bay ohms s
  | .guardChange bay chB closed => Sys2Proof.Machine.execGuardChange bay chB closed s
  | .guardDiscrepancy bay => Sys2Proof.Machine.execGuardDiscrepancy bay s
  | .lockConfirmed bay => Sys2Proof.Machine.execLockConfirmed bay s
  | .lockTimeout bay => Sys2Proof.Machine.execLockTimeout bay s
  | .closureDetected bay w => Sys2Proof.Machine.execClosureDetected bay w s
  | .releaseDetected bay w => Sys2Proof.Machine.execReleaseDetected bay w s
  | .weldCheck bay uoMv => Sys2Proof.Machine.execWeldCheck bay uoMv s
  | .weldOpenDetect bay => Sys2Proof.Machine.execWeldOpenDetect bay s
  | .dcClosureTimeout bay => Sys2Proof.Machine.execDcClosureTimeout bay s
  | .dcOpenCurrentLow bay iDcMa => Sys2Proof.Machine.execDcOpenCurrentLow bay iDcMa s
  | .suspendOpenTimeout bay => Sys2Proof.Machine.execSuspendOpenTimeout bay s
  | .heartbeat can => Sys2Proof.Machine.execHeartbeat can s
  | .converterStatus can node data => Sys2Proof.Machine.execConverterStatus can node data s
  | .converterStatusTimeout bay => Sys2Proof.Machine.execConverterStatusTimeout bay s
  | .isoMonitor can node data => Sys2Proof.Machine.execIsoMonitor can node data s
  | .isoMonitorTimeout bay => Sys2Proof.Machine.execIsoMonitorTimeout bay s
  | .capability can node data => Sys2Proof.Machine.execCapability can node data s
  | .capabilityTimeout bay => Sys2Proof.Machine.execCapabilityTimeout bay s
  | .converterFault can node data => Sys2Proof.Machine.execConverterFault can node data s
  | .residualSelftestDone bay core => Sys2Proof.Machine.execResidualSelftestDone bay core s
  | .permissionLapse bay => Sys2Proof.Machine.execPermissionLapse bay s
  | .slcExcess bay => Sys2Proof.Machine.execSlcExcess bay s
  | .sdiExportStop bay => Sys2Proof.Machine.execSdiExportStop bay s
  | .lockFeedbackLoss bay => Sys2Proof.Machine.execLockFeedbackLoss bay s
  | .doorChange a b => Sys2Proof.Machine.execDoorChange a b s
  | .estopChange a b => Sys2Proof.Machine.execEstopChange a b s
  | .safetyInputDiscrepancy estop => Sys2Proof.Machine.execSafetyInputDiscrepancy estop s
  | .safeOutReadback pair lineB readOk => Sys2Proof.Machine.execSafeOutReadback pair lineB readOk s
  | .safetyFrameReceived siteB frame => Sys2Proof.Machine.execSafetyFrameReceived siteB frame s
  | .peerConnectionLost peer => Sys2Proof.Machine.execPeerConnectionLost peer s
  | .redundancyLost peer => Sys2Proof.Machine.execRedundancyLost peer s
  | .feederOverloadTrip group => Sys2Proof.Machine.execFeederOverloadTrip group s
  | .feederOverloadBitEnd group => Sys2Proof.Machine.execFeederOverloadBitEnd group s
  | .coreLoss core confirmed => Sys2Proof.Machine.execCoreLoss core confirmed s
  | .safetyCoreFailure core fault => Sys2Proof.Machine.execSafetyCoreFailure core fault s
  | .coreRejoin core passed => Sys2Proof.Machine.execCoreRejoin core passed s
  | .meteringValuesMissing bay => Sys2Proof.Machine.execMeteringValuesMissing bay s
  | .meTakeover cause durationUs => Sys2Proof.Machine.execMeTakeover cause durationUs s
  | .ceTakeover cause durationUs => Sys2Proof.Machine.execCeTakeover cause durationUs s
  | .dspShunt cluster cause => Sys2Proof.Machine.execDspShunt cluster cause s
  | .bankReplace bank number => Sys2Proof.Machine.execBankReplace bank number s
  | .nandBlockFault block partition kind => Sys2Proof.Machine.execNandBlockFault block partition kind s
  | .reCoupling unit passed => Sys2Proof.Machine.execReCoupling unit passed s
  | .regulatorPhaseLost phase => Sys2Proof.Machine.execRegulatorPhaseLost phase s
  | .cutReservationEnd ctx => Sys2Proof.Machine.execCutReservationEnd ctx s
  | .timeLimitExpiry ctx => Sys2Proof.Machine.execTimeLimitExpiry ctx s
  | .reservationExpiry ctx => Sys2Proof.Machine.execReservationExpiry ctx s
  | .hostWaitExpiry ctx => Sys2Proof.Machine.execHostWaitExpiry ctx s
  | .pncChainReceived bay chain => Sys2Proof.Machine.execPncChainReceived bay chain s
  | .recordSign ctx => Sys2Proof.Machine.execRecordSign ctx s
  | .recordSlotFreed seq => Sys2Proof.Machine.execRecordSlotFreed seq s
  | .slacParmReq bay sounds => Sys2Proof.Machine.execSlacParmReq bay sounds s
  | .slacTimeout bay => Sys2Proof.Machine.execSlacTimeout bay s
  | .v2gMessage bay m => Sys2Proof.Machine.execV2gMessage bay m s
  | .greenPhyFrame inst samples decoded station => Sys2Proof.Machine.execGreenPhyFrame inst samples decoded station s
  | .beacon heard => Sys2Proof.Machine.execBeacon heard s
  | .ccoElection lowerSerialSeen => Sys2Proof.Machine.execCcoElection lowerSerialSeen s
  | .toneMapRefresh station sounding => Sys2Proof.Machine.execToneMapRefresh station sounding s
  | .neighbourLost station => Sys2Proof.Machine.execNeighbourLost station s
  | .curtailmentFrame frame => Sys2Proof.Machine.execCurtailmentFrame frame s
  | .coordinatorFrame f => Sys2Proof.Machine.execCoordinatorFrame f s
  | .siteLimitLapse src => Sys2Proof.Machine.execSiteLimitLapse src s
  | .drizzlePing port amp phase => Sys2Proof.Machine.execDrizzlePing port amp phase s
  | .pollComplete port => Sys2Proof.Machine.execPollComplete port s
  | .cardFound port kind uid => Sys2Proof.Machine.execCardFound port kind uid s
  | .cardRelease port => Sys2Proof.Machine.execCardRelease port s
  | .tagExternalAuthenticate answer => Sys2Proof.Machine.execTagExternalAuthenticate answer s
  | .tagUpdateBinary file offset data => Sys2Proof.Machine.execTagUpdateBinary file offset data s
  | .tagReadBinary file offset len => Sys2Proof.Machine.execTagReadBinary file offset len s
  | .fieldCollapse cut => Sys2Proof.Machine.execFieldCollapse cut s
  | .refreshPass legalFlip outsideFlip => Sys2Proof.Machine.execRefreshPass legalFlip outsideFlip s
  | .short x => Sys2Proof.Machine.execShort x s
  | .overload x => Sys2Proof.Machine.execOverload x s
  | .thermalLatchSet ch tj => Sys2Proof.Machine.execThermalLatchSet ch tj s
  | .thermalLatchClear ch tj => Sys2Proof.Machine.execThermalLatchClear ch tj s
  | .openLoad ch w => Sys2Proof.Machine.execOpenLoad ch w s
  | .retry ch => Sys2Proof.Machine.execRetry ch s
  | .retriesRefill ch => Sys2Proof.Machine.execRetriesRefill ch s
  | .groupOverload group currents => Sys2Proof.Machine.execGroupOverload group currents s
  | .vloadUndervoltage x => Sys2Proof.Machine.execVloadUndervoltage x s
  | .vloadRecovery x => Sys2Proof.Machine.execVloadRecovery x s
  | .vsupInputChange inputB x => Sys2Proof.Machine.execVsupInputChange inputB x s
  | .flushEnd written vbackupPresent => Sys2Proof.Machine.execFlushEnd written vbackupPresent s
  | .start m => Sys2Proof.Machine.execStart m s
  | .resetN lowUs => Sys2Proof.Machine.execResetN lowUs s
  | .vholdLow mv => Sys2Proof.Machine.execVholdLow mv s
  | .wakeSource source => Sys2Proof.Machine.execWakeSource source s
  | .repeatWindowLapse seq => Sys2Proof.Machine.execRepeatWindowLapse seq s
  | .perfWindowEnd counter => Sys2Proof.Machine.execPerfWindowEnd counter s
  | .activationComplete kind => Sys2Proof.Machine.execActivationComplete kind s
  | .imageConfirmed kind => Sys2Proof.Machine.execImageConfirmed kind s
  | .imageFallback kind fault => Sys2Proof.Machine.execImageFallback kind fault s
  | .consistImageReceived sender kind image => Sys2Proof.Machine.execConsistImageReceived sender kind image s
  | .inrushWindowEnd ch => Sys2Proof.Machine.execInrushWindowEnd ch s
  | .lockPulseEnd bay => Sys2Proof.Machine.execLockPulseEnd bay s
  | .lockRelease bay => Sys2Proof.Machine.execLockRelease bay s
  | .vehicleLinkLost bay => Sys2Proof.Machine.execVehicleLinkLost bay s
  | .forwardDelivered serial => Sys2Proof.Machine.execForwardDelivered serial s
  | .debugPortAccess a => Sys2Proof.Machine.execDebugPortAccess a s
  | .uartBaudFallback => Sys2Proof.Machine.execUartBaudFallback s
  | .halfCycleTick => Sys2Proof.Machine.execHalfCycleTick s
  | .paramsTakeEffect => Sys2Proof.Machine.execParamsTakeEffect s
  | .legalParamTakesEffect => Sys2Proof.Machine.execLegalParamTakesEffect s
  | .clockStepTakesEffect => Sys2Proof.Machine.execClockStepTakesEffect s
  | .intervalClose => Sys2Proof.Machine.execIntervalClose s
  | .subintervalClose => Sys2Proof.Machine.execSubintervalClose s
  | .calendarActivation => Sys2Proof.Machine.execCalendarActivation s
  | .harmonicBlockEnd => Sys2Proof.Machine.execHarmonicBlockEnd s
  | .legalStoreWrite => Sys2Proof.Machine.execLegalStoreWrite s
  | .referenceValid => Sys2Proof.Machine.execReferenceValid s
  | .acquirePullIn => Sys2Proof.Machine.execAcquirePullIn s
  | .lockEntry => Sys2Proof.Machine.execLockEntry s
  | .holdoverExpiry => Sys2Proof.Machine.execHoldoverExpiry s
  | .timedAction => Sys2Proof.Machine.execTimedAction s
  | .aloneLimit => Sys2Proof.Machine.execAloneLimit s
  | .controlCheckpoint => Sys2Proof.Machine.execControlCheckpoint s
  | .meteringLost => Sys2Proof.Machine.execMeteringLost s
  | .moduleWatchdog => Sys2Proof.Machine.execModuleWatchdog s
  | .allocatorRecompute => Sys2Proof.Machine.execAllocatorRecompute s
  | .allocationTakesEffect => Sys2Proof.Machine.execAllocationTakesEffect s
  | .credBatchTimeout => Sys2Proof.Machine.execCredBatchTimeout s
  | .credCommitDurable => Sys2Proof.Machine.execCredCommitDurable s
  | .coordinatorSend => Sys2Proof.Machine.execCoordinatorSend s
  | .coordinatorLost => Sys2Proof.Machine.execCoordinatorLost s
  | .tagGetChallenge => Sys2Proof.Machine.execTagGetChallenge s
  | .tagPowerUp => Sys2Proof.Machine.execTagPowerUp s
  | .mirrorUpdate => Sys2Proof.Machine.execMirrorUpdate s
  | .legalRegionRender => Sys2Proof.Machine.execLegalRegionRender s
  | .errorPatternEnd => Sys2Proof.Machine.execErrorPatternEnd s
  | .scDisplayEnd => Sys2Proof.Machine.execScDisplayEnd s
  | .pfail => Sys2Proof.Machine.execPfail s
  | .vholdReady => Sys2Proof.Machine.execVholdReady s
  | .vbackupLoss => Sys2Proof.Machine.execVbackupLoss s
  | .standbyEntry => Sys2Proof.Machine.execStandbyEntry s
  | .quietExit => Sys2Proof.Machine.execQuietExit s
  | .eventFlush => Sys2Proof.Machine.execEventFlush s
  | .updateTransferTimeout => Sys2Proof.Machine.execUpdateTransferTimeout s
  | .imageVerified => Sys2Proof.Machine.execImageVerified s
  | .forwardRetry => Sys2Proof.Machine.execForwardRetry s
  | .selftestStepEnd => Sys2Proof.Machine.execSelftestStepEnd s
  | .tagDeselect => Sys2Proof.Machine.execTagDeselect s
  | .vcomToggle => Sys2Proof.Machine.execVcomToggle s
  | .manufacturedFuse => Sys2Proof.Machine.execManufacturedFuse s

end Sys2Proof.Machine
end

