-- ==== Sys2Proof/Safety.lean ====
section
/-! DEFINITION. The terms that claims are stated in: the shape of a state, the invariant, when a host command is accepted,
the state its own rules run in and the state after its answer, and what two states may differ in. -/

namespace Sys2Proof.Machine

open Sys2Proof

/-! ### The invariant -/

/-- Every list of like units has the number of units that the manual gives the module (R4, R6, R14). -/
def State.Shaped (s : State) : Prop :=
  s.bays.length = 32 ∧ s.ctxs.length = 256 ∧ s.chans.length = 112 ∧ s.keys.length = 512 ∧ s.readers.length = 4 ∧
    s.images.kinds.length = 5 ∧ s.safety.peers.length = 8

/-- The invariant of the machine: its shape, and both memories in their canonical form. -/
def State.Inv (s : State) : Prop := s.Shaped ∧ Memory.wf s.disp.frame ∧ Memory.wf s.tag.phys

/-- The commands waiting, and nothing else, are those of another state. -/
def State.queueing (s : State) (l : List Instr) : State := { s with pending := l }

/-! ### Host commands -/

/-- Who calls, of a command's packet. -/
def callOf (c : Command) (h : Hdr) : Call := { port := h.port, world := h.world, op := c.op, tag := h.tag }

/-- A command passes every check of R281: the port takes packets and the boot loader answers the opcode; version, flags, tag
and length are right; the tag is neither in the window nor outstanding and fewer than 64 are; the world is open and one of
its Use, the life-cycle state too; the door is open where its Use needs it; the payload has its length and zero reserved
bytes. -/
def Accepted (c : Command) (h : Hdr) (pl : Bytes) (s : State) : Prop :=
  hostReady s = true ∧ answers s c.op = true ∧ pl.length ≤ 4084 ∧
  h.version = 1 ∧ h.flags = 0 ∧ h.tag ≠ 0 ∧
  dupOf (s.port h.port) h.tag = none ∧ (s.port h.port).outstanding.contains h.tag = false ∧
  (s.port h.port).outstanding.length < 64 ∧
  (h.world = 0 ∨ h.world = (s.port h.port).world.code) ∧ c.worlds.contains h.world = true ∧
  c.life.ok s.life = true ∧ (c.door = true → doorShowsOpen s = true) ∧
  c.len pl = true ∧ (c.rsv.all fun r => zeroAt pl r.1 r.2) = true

/-- The command, the header and the payload of a row that is a host command: none for the rows that are events. -/
def hostRow : Instr → Option (Command × Hdr × Bytes)
  | .ping h pl => some (cmdPing, h, pl)
  | .getIdentity h pl => some (cmdGetIdentity, h, pl)
  | .getStatus h pl => some (cmdGetStatus, h, pl)
  | .reset h pl => some (cmdReset, h, pl)
  | .setPowerState h pl => some (cmdSetPowerState, h, pl)
  | .getParam h pl => some (cmdGetParam, h, pl)
  | .setParam h pl => some (cmdSetParam, h, pl)
  | .commitParams h pl => some (cmdCommitParams, h, pl)
  | .openWorld h pl => some (cmdOpenWorld, h, pl)
  | .closeWorld h pl => some (cmdCloseWorld, h, pl)
  | .getTime h pl => some (cmdGetTime, h, pl)
  | .setTime h pl => some (cmdSetTime, h, pl)
  | .adjustTime h pl => some (cmdAdjustTime, h, pl)
  | .getHealth h pl => some (cmdGetHealth, h, pl)
  | .bayConfigure h pl => some (cmdBayConfigure, h, pl)
  | .bayGetState h pl => some (cmdBayGetState, h, pl)
  | .bayEnable h pl => some (cmdBayEnable, h, pl)
  | .bayDisable h pl => some (cmdBayDisable, h, pl)
  | .baySetLimit h pl => some (cmdBaySetLimit, h, pl)
  | .bayUnlock h pl => some (cmdBayUnlock, h, pl)
  | .bayTestResidual h pl => some (cmdBayTestResidual, h, pl)
  | .converterConfigure h pl => some (cmdConverterConfigure, h, pl)
  | .ctxOpen h pl => some (cmdCtxOpen, h, pl)
  | .ctxAuthorise h pl => some (cmdCtxAuthorise, h, pl)
  | .ctxBind h pl => some (cmdCtxBind, h, pl)
  | .ctxStart h pl => some (cmdCtxStart, h, pl)
  | .ctxSuspend h pl => some (cmdCtxSuspend, h, pl)
  | .ctxResume h pl => some (cmdCtxResume, h, pl)
  | .ctxStop h pl => some (cmdCtxStop, h, pl)
  | .ctxSetQuota h pl => some (cmdCtxSetQuota, h, pl)
  | .ctxSetProfile h pl => some (cmdCtxSetProfile, h, pl)
  | .ctxGet h pl => some (cmdCtxGet, h, pl)
  | .ctxList h pl => some (cmdCtxList, h, pl)
  | .ctxAckRecord h pl => some (cmdCtxAckRecord, h, pl)
  | .ctxRelease h pl => some (cmdCtxRelease, h, pl)
  | .siteSetBudget h pl => some (cmdSiteSetBudget, h, pl)
  | .siteGetAllocation h pl => some (cmdSiteGetAllocation, h, pl)
  | .ctxSetPriority h pl => some (cmdCtxSetPriority, h, pl)
  | .meterReadInstant h pl => some (cmdMeterReadInstant, h, pl)
  | .meterReadRegisters h pl => some (cmdMeterReadRegisters, h, pl)
  | .meterReadHarmonics h pl => some (cmdMeterReadHarmonics, h, pl)
  | .pulseAssign h pl => some (cmdPulseAssign, h, pl)
  | .legalParamRead h pl => some (cmdLegalParamRead, h, pl)
  | .legalParamWrite h pl => some (cmdLegalParamWrite, h, pl)
  | .meterSelftest h pl => some (cmdMeterSelftest, h, pl)
  | .tariffLoadCalendar h pl => some (cmdTariffLoadCalendar, h, pl)
  | .tariffGet h pl => some (cmdTariffGet, h, pl)
  | .tariffCancelPending h pl => some (cmdTariffCancelPending, h, pl)
  | .profileRead h pl => some (cmdProfileRead, h, pl)
  | .profileConfigure h pl => some (cmdProfileConfigure, h, pl)
  | .demandRead h pl => some (cmdDemandRead, h, pl)
  | .logbookRead h pl => some (cmdLogbookRead, h, pl)
  | .recordRead h pl => some (cmdRecordRead, h, pl)
  | .credLookup h pl => some (cmdCredLookup, h, pl)
  | .credUpdateBegin h pl => some (cmdCredUpdateBegin, h, pl)
  | .credUpdateData h pl => some (cmdCredUpdateData, h, pl)
  | .credUpdateCommit h pl => some (cmdCredUpdateCommit, h, pl)
  | .credStats h pl => some (cmdCredStats, h, pl)
  | .pncVerify h pl => some (cmdPncVerify, h, pl)
  | .safetyGetState h pl => some (cmdSafetyGetState, h, pl)
  | .safetyLoadParams h pl => some (cmdSafetyLoadParams, h, pl)
  | .safetyGetCheck h pl => some (cmdSafetyGetCheck, h, pl)
  | .safetyConfirm h pl => some (cmdSafetyConfirm, h, pl)
  | .safetyResetFault h pl => some (cmdSafetyResetFault, h, pl)
  | .siteSafetyConfigure h pl => some (cmdSiteSafetyConfigure, h, pl)
  | .keyList h pl => some (cmdKeyList, h, pl)
  | .keyGenerate h pl => some (cmdKeyGenerate, h, pl)
  | .keyImport h pl => some (cmdKeyImport, h, pl)
  | .keyDerive h pl => some (cmdKeyDerive, h, pl)
  | .keyInvalidate h pl => some (cmdKeyInvalidate, h, pl)
  | .keyGetPublic h pl => some (cmdKeyGetPublic, h, pl)
  | .attest h pl => some (cmdAttest, h, pl)
  | .setLifecycle h pl => some (cmdSetLifecycle, h, pl)
  | .updateBegin h pl => some (cmdUpdateBegin, h, pl)
  | .updateData h pl => some (cmdUpdateData, h, pl)
  | .updateEnd h pl => some (cmdUpdateEnd, h, pl)
  | .updateActivate h pl => some (cmdUpdateActivate, h, pl)
  | .updateStatus h pl => some (cmdUpdateStatus, h, pl)
  | .updateAbort h pl => some (cmdUpdateAbort, h, pl)
  | .consistConfigure h pl => some (cmdConsistConfigure, h, pl)
  | .updateForward h pl => some (cmdUpdateForward, h, pl)
  | .eventsRead h pl => some (cmdEventsRead, h, pl)
  | .eventsInfo h pl => some (cmdEventsInfo, h, pl)
  | .eventsFilter h pl => some (cmdEventsFilter, h, pl)
  | .perfConfigure h pl => some (cmdPerfConfigure, h, pl)
  | .perfRead h pl => some (cmdPerfRead, h, pl)
  | .perfAccess h pl => some (cmdPerfAccess, h, pl)
  | .lswConfigure h pl => some (cmdLswConfigure, h, pl)
  | .lswSet h pl => some (cmdLswSet, h, pl)
  | .lswGet h pl => some (cmdLswGet, h, pl)
  | .lswUnlock h pl => some (cmdLswUnlock, h, pl)
  | .dispConfigure h pl => some (cmdDispConfigure, h, pl)
  | .dispWrite h pl => some (cmdDispWrite, h, pl)
  | .dispBlink h pl => some (cmdDispBlink, h, pl)
  | .dispGetCheck h pl => some (cmdDispGetCheck, h, pl)
  | .rdrConfigure h pl => some (cmdRdrConfigure, h, pl)
  | .rdrPoll h pl => some (cmdRdrPoll, h, pl)
  | .rdrTransceive h pl => some (cmdRdrTransceive, h, pl)
  | .tagRead h pl => some (cmdTagRead, h, pl)
  | .tagWrite h pl => some (cmdTagWrite, h, pl)
  | .tagConfigure h pl => some (cmdTagConfigure, h, pl)
  | .plcConfigure h pl => some (cmdPlcConfigure, h, pl)
  | .plcGetLink h pl => some (cmdPlcGetLink, h, pl)
  | .plcTonemapInfo h pl => some (cmdPlcTonemapInfo, h, pl)
  | .v2gConfigure h pl => some (cmdV2gConfigure, h, pl)
  | .siteConfigure h pl => some (cmdSiteConfigure, h, pl)
  | .siteGetPeers h pl => some (cmdSiteGetPeers, h, pl)
  | _ => none

/-- The checks of R281 before the opcode: the port takes packets and the boot loader answers the opcode, and version, flags,
tag and length are right. -/
def Screened (c : Command) (h : Hdr) (pl : Bytes) (s : State) : Prop :=
  hostReady s = true ∧ answers s c.op = true ∧ pl.length ≤ 4084 ∧ h.version = 1 ∧ h.flags = 0 ∧ h.tag ≠ 0

/-- A tag is neither outstanding nor are 64 others (R281 step 6). -/
def TagFree (h : Hdr) (s : State) : Prop :=
  (s.port h.port).outstanding.contains h.tag = false ∧ (s.port h.port).outstanding.length < 64

/-- The state in which an accepted command's own rules run: its packet counted, its world kept open, its tag outstanding. -/
def begun (c : Command) (h : Hdr) (pl : Bytes) (s : State) : State :=
  (touchWorld (callOf c h) (arrived h.port pl.length s)).modPort h.port fun p =>
    { p with outstanding := h.tag :: p.outstanding.filter (· != h.tag) }

/-- The state after the answer of an accepted command (R282 to R284). -/
def completed (c : Command) (h : Hdr) (pl : Bytes) (s : State) (a : Ans) : State :=
  answer c (callOf c h) pl pl.length (trailerOf h c.op 0 false pl) s.time.now a

/-- Row `i` on `s` carries out an accepted command and answers what `a` says of the state the command's rules run in. -/
def Completes (i : Instr) (c : Command) (h : Hdr) (pl : Bytes) (s : State) (a : State → Ans) : Prop :=
  exec i s = .next (completed c h pl s (a (begun c h pl s)))

/-! ### What may differ -/

/-- Two states are equal but for host traffic: the ports and their rate, the performance counters, the recorder and the
journal. -/
def TrafficOnly (s t : State) : Prop :=
  t = { s with spi := t.spi, uart := t.uart, uartRate := t.uartRate, perf := t.perf, recorder := t.recorder,
               cont := { s.cont with journal := t.cont.journal } }

/-- Two states are equal but for what raising notifications and event records touches. -/
def ReportsOnly (s t : State) : Prop :=
  t = { s with spi := t.spi, uart := t.uart, perf := t.perf, recorder := t.recorder }

/-! ### Safe runs -/

/-- A run is safe as long as no step stops: no event names a unit that the module does not have. -/
def StepSafe (s : State) : Prop := ∃ t, step s = .next t

end Sys2Proof.Machine
end

