-- ==== Sys2Proof/Certificates/Slice0/Obligations.lean ====
section
/-! DEFINITION. The statements about the block. Those of sections A to U say, family by family, that a command or event completes and
with what state; the last section says what holds of the whole machine: the queue, replies, duplicates, queries, the stores and the
invariant. `Completes i c h pl s f` says that `exec` answers the next state that `f` gives and that the host's reply leaves, under
`Accepted`, which is about the state and the operands alone. -/

open Sys2Proof Sys2Proof.Machine

/-! ### System commands (0x01xx), worlds, parameters -/

/-- PING, GET_IDENTITY, GET_STATUS, GET_HEALTH and GET_TIME answer OK with the fields of their rows (R309). PING, an accepted
one being a condition of a trial (R361), marks the kinds on trial and nothing else; GET_TIME replaces the nonce (R93).
It rests on the choices of the model in log entries 40, 42 and 148. -/
def Obligations.SystemQueriesAnswer : Prop :=
  ∀ (h : Hdr) (pl : Bytes) (s : State),
    (Accepted cmdPing h pl s → Completes (.ping h pl) cmdPing h pl s fun u =>
      okWith (notePing u) (le 4 s.clk.cycle.toNat ++ le 2 s.clk.angle ++ le 1 s.clk.state.code ++ [0])) ∧
    (Accepted cmdGetIdentity h pl s → Completes (.getIdentity h pl) cmdGetIdentity h pl s fun u =>
      okWith u (le 8 serialNum ++ [0x45] ++ le 1 s.life.code ++ le 2 0 ++ (List.range 32).map Config.romId ++
        (List.range 5).flatMap fun k => le 4 (s.images.kinds.getD k {}).active.release)) ∧
    (Accepted cmdGetStatus h pl s → Completes (.getStatus h pl) cmdGetStatus h pl s fun u =>
      okWith u (le 1 s.power.state.code ++ le 1 s.life.code ++ le 1 (s.port h.port).world.code ++
        le 1 (bitsOf [s.time.valid, s.safety.faultN, confirmedNow s, !(s.port h.port).staging.isEmpty]) ++
        le 1 ((s.port h.port).outstanding.length + 1) ++ [0] ++ le 2 (s.port h.port).ntfQueue.length ++
        le 2 (s.port h.port).dropped ++ le 2 0)) ∧
    (Accepted cmdGetHealth h pl s → Completes (.getHealth h pl) cmdGetHealth h pl s fun u =>
      okWith { u with draws := u.draws + 1 }
        (continuityStatus s ++ le 2 s.legal.logbook.length ++ le 2 (recordSlotsUsed s) ++ le 2 (reserveUsed s) ++
          le 2 (s.reading 0x2000) ++ le 4 (s.reading 0x2001) ++ le 4 (s.reading 0x2002) ++ le 2 (s.reading 0x2003) ++ le 2 0)) ∧
    (Accepted cmdGetTime h pl s → Completes (.getTime h pl) cmdGetTime h pl s fun u =>
      let nonce := (List.range 16).map (Config.random s.draws)
      okWith { u with draws := u.draws + 1, time := { u.time with nonce := some nonce } }
        (le 8 s.time.now ++ le 1 (bit s.time.valid) ++ le 3 0 ++ le 4 (pattern 32 s.time.slew) ++ nonce))

/-- The life of a world on a port: OPEN_WORLD phase 0 gives a challenge of 16 free bytes that lasts 30 s, phase 1 with the right
answer in time to one that stands opens the world and uses that one up, any other answer is refused, CLOSE_WORLD closes it, 900 s without a packet close it, and 60 s
after the third refusal the lockout ends (R301, R302).
It rests on the choices of the model in log entries 4, 40, 123 and 173. -/
def Obligations.WorldsOpenAndClose : Prop :=
  ∀ (h : Hdr) (pl : Bytes) (s : State) (w : World), w ≠ .host →
    (Accepted cmdOpenWorld h pl s → fld pl 1 1 = w.code →
      ((s.port h.port).lockouts.getD w.code none = none ∨ s.dueOpt ((s.port h.port).lockouts.getD w.code none) = true) →
      keyFailure s (worldSlot w) [1, 2] 3 (.command h.port w.code) = none →
      let right (x : Challenge) : Bool := x.world == w && s.time.osc ≤ x.deadline && slice pl 4 16 ==
        (hmac (s.key (worldSlot w)).material (x.value ++ [byte w.code, byte h.port.code] ++ le 8 serialNum)).take 16
      (fld pl 0 1 = 0 → Completes (.openWorld h pl) cmdOpenWorld h pl s fun u =>
        let ch := (List.range 16).map (Config.random s.draws)
        okWith (({ u with draws := u.draws + 1 } : State).modPort h.port fun p =>
          { p with challenges := { world := w, value := ch, deadline := s.time.osc + 30000000 } ::
              p.challenges.filter fun x => s.time.osc ≤ x.deadline }) ch) ∧
      (∀ ch, fld pl 0 1 = 1 → (s.port h.port).challenges.find? right = some ch →
        Completes (.openWorld h pl) cmdOpenWorld h pl s fun u => ok (u.modPort h.port fun p =>
          { p with challenges := p.challenges.filter (· != ch), world := w, worldIdle := s.time.osc + 900000000,
                   refusals := setAt p.refusals w.code 0 })) ∧
      (fld pl 0 1 = 1 → (s.port h.port).challenges.find? right = none →
        Completes (.openWorld h pl) cmdOpenWorld h pl s fun u => refuseWorld (callOf cmdOpenWorld h) w (u.modPort h.port fun p =>
          { p with challenges := p.challenges.filter (·.world != w) }))) ∧
    (Accepted cmdCloseWorld h pl s → Completes (.closeWorld h pl) cmdCloseWorld h pl s fun u =>
      ok (u.modPort h.port fun p => { p with world := .host, worldIdle := 0 })) ∧
    (∀ p, (s.port p).world ≠ .host → (s.port p).worldIdle ≤ s.time.osc →
      exec (.worldIdleTimeout p) s = .next (s.modPort p fun q => { q with world := .host, worldIdle := 0 })) ∧
    (∀ p, s.dueOpt ((s.port p).lockouts.getD w.code none) = true →
      exec (.openWorldLockoutEnd p w) s = .next (s.modPort p fun q => { q with lockouts := setAt q.lockouts w.code none }))

/-- Parameters travel from the staging set to force: GET_PARAM reads the active object; SET_PARAM of an ordinary object whose
bytes fit, are in range and leave reserved bits 0 stages them; COMMIT_PARAMS commits them and empties the set when every staged
object passes its checks and the parameter partition takes writes, and otherwise answers ERR_STORAGE and leaves the set; PARAMS_TAKE_EFFECT empties the area of committed objects (R309, R331, R332).
It rests on the choices of the model in log entries 6, 147 and 154. -/
def Obligations.ParametersReadAndWritten : Prop :=
  ∀ (h : Hdr) (pl : Bytes) (s : State),
    (∀ l bs, Accepted cmdGetParam h pl s → fld pl 2 1 = 0 → layout (fld pl 0 2) = some l →
      objectSlice (objectBytes s (fld pl 0 2)) (fld pl 4 2) (fld pl 6 2) = some bs →
      Completes (.getParam h pl) cmdGetParam h pl s fun u =>
        okWith u (le 2 (fld pl 0 2) ++ le 2 l.size ++ le 4 (objectVersion s (fld pl 0 2)) ++ bs)) ∧
    (∀ l new, Accepted cmdSetParam h pl s → layout (fld pl 0 2) = some l →
      isSafetyObj (fld pl 0 2) = false → isLegalObj (fld pl 0 2) = false → inBlock (fld pl 0 2) 0x0540 32 = false →
      fld pl 0 2 ≠ 0x0021 → fld pl 0 2 ≠ 0x0027 → (writeWorlds (fld pl 0 2)).contains h.world = true →
      fld pl 2 2 + (pl.length - 8) ≤ l.size →
      overlay (stageBase s h.port (fld pl 0 2)) (fld pl 2 2) (pl.drop 8) = new →
      objectOk l (stageBase s h.port (fld pl 0 2)) new = true →
      ((stagedOf (s.port h.port) (fld pl 0 2)).isSome = true ∨ (s.port h.port).staging.length < 64) →
      Completes (.setParam h pl) cmdSetParam h pl s fun u => ok (stage h.port (fld pl 0 2) new u)) ∧
    (Accepted cmdCommitParams h pl s → fld pl 0 1 = 0 →
      (∀ g ∈ (s.port h.port).staging, commitRefusal s (callOf cmdCommitParams h) g = none) →
      ((s.port h.port).staging = [] ∨ s.takesWrites paramPartition = true) →
      Completes (.commitParams h pl) cmdCommitParams h pl s fun u =>
        okWith (applyCommits effectAtReply
            (((s.port h.port).staging.foldl (fun a g => commitObject g a) u).modPort h.port fun p => { p with staging := [] }))
          (le 2 (s.port h.port).staging.length ++ le 2 0)) ∧
    (Accepted cmdCommitParams h pl s → fld pl 0 1 = 0 →
      (∀ g ∈ (s.port h.port).staging, commitRefusal s (callOf cmdCommitParams h) g = none) →
      (s.port h.port).staging ≠ [] → s.takesWrites paramPartition = false →
      Completes (.commitParams h pl) cmdCommitParams h pl s fun u =>
        { state := applyCommits effectAtReply u, status := errStorage, data := le 2 0 ++ le 2 0 }) ∧
    exec .paramsTakeEffect s = .next (s.commits.foldl (fun a o => applyObject o a) { s with commits := [] })

/-- SET_TIME and ADJUST_TIME: within 9 s of valid module time the difference is slewed; a larger step, forward or from LEGAL
with a free logbook entry, is accepted and waits for its boundary; ADJUST_TIME slews what it names, at most 9 s (R92, R93, R95).
It rests on the choices of the model in log entries 6 and 123. -/
def Obligations.ModuleTimeSet : Prop :=
  ∀ (h : Hdr) (pl : Bytes) (s : State),
    (Accepted cmdSetTime h pl s → s.time.valid = true → ((fld pl 0 8 : Int) - s.time.now).natAbs ≤ 9000000 →
      Completes (.setTime h pl) cmdSetTime h pl s fun u =>
        ok { u with time := { u.time with slew := (fld pl 0 8 : Int) - s.time.now } }) ∧
    (Accepted cmdSetTime h pl s → 9000000 < ((fld pl 0 8 : Int) - s.time.now).natAbs →
      -3600000000 ≤ (fld pl 0 8 : Int) - s.time.now → s.legal.logbook.length < 4096 → h.world = 2 →
      Completes (.setTime h pl) cmdSetTime h pl s fun u =>
        ok { u with time := { u.time with step := some {
            newTime := fld pl 0 8, oldTime := s.time.now, world := 2, keySlot := 0xFFFF } } }) ∧
    (Accepted cmdAdjustTime h pl s → (signed 32 (fld pl 0 4)).natAbs ≤ 9000000 →
      Completes (.adjustTime h pl) cmdAdjustTime h pl s fun u =>
        ok { u with time := { u.time with slew := signed 32 (fld pl 0 4) } })

/-! ### Bays -/

/-- Bay commands that settle at once: BAY_CONFIGURE stages BAY_CONFIG, BAY_GET_STATE gives the status of the bays asked for,
BAY_SET_LIMIT sets the cap, BAY_UNLOCK releases a lock that may be released, BAY_TEST_RESIDUAL starts a self-test on an AC bay
whose coil is off and stays outstanding (R219, R311, R313, R143).
It rests on the choices of the model in log entries 29, 30, 72, 147 and 161. -/
def Obligations.BayCommandsSettle : Prop :=
  ∀ (h : Hdr) (pl : Bytes) (s : State) (b : Nat), b < 32 → fld pl 0 1 = b →
    (∀ l new, Accepted cmdBayConfigure h pl s → layout (0x0100 + b) = some l →
      overlay (stageBase s h.port (0x0100 + b)) 0 (pl.drop 4) = new → pl.length - 4 ≤ l.size →
      objectOk l (stageBase s h.port (0x0100 + b)) new = true →
      ((stagedOf (s.port h.port) (0x0100 + b)).isSome = true ∨ (s.port h.port).staging.length < 64) →
      Completes (.bayConfigure h pl) cmdBayConfigure h pl s fun u => ok (stage h.port (0x0100 + b) new u)) ∧
    (Accepted cmdBayGetState h pl s → Completes (.bayGetState h pl) cmdBayGetState h pl s fun u =>
      okWith u (le 1 ((List.range 32).filter fun k => testBit (fld pl 0 4) k).length ++ le 3 0 ++
        ((List.range 32).filter fun k => testBit (fld pl 0 4) k).flatMap (bayStatus s))) ∧
    (Accepted cmdBaySetLimit h pl s → (fld pl 4 4 = 0 ∨ (6000 ≤ fld pl 4 4 ∧ fld pl 4 4 ≤ 80000)) →
      Completes (.baySetLimit h pl) cmdBaySetLimit h pl s fun u =>
        ok (markDirty (u.modBay b fun y => { y with limitCap := fld pl 4 4 }))) ∧
    (Accepted cmdBayUnlock h pl s → mayUnlock s b = true →
      Completes (.bayUnlock h pl) cmdBayUnlock h pl s fun u => ok (releaseLock b u)) ∧
    (Accepted cmdBayTestResidual h pl s → s.kind b ≠ 2 → (s.bay b).coil.on = false →
      (s.bay b).safety.selfTest.runningTo = none →
      Completes (.bayTestResidual h pl) cmdBayTestResidual h pl s fun u =>
        pending (startSelfTest b (some (callOf cmdBayTestResidual h).ref) u))

/-- BAY_ENABLE, BAY_DISABLE and CONVERTER_CONFIGURE: a DISABLED or FAULT bay that nothing refuses is enabled into IDLE, the
converter's fault acknowledged before; an enabled bay answers OK as it is; a bay without an open to wait for is disabled at once;
an energised one is opened and the command stays outstanding, after any other that waits for the same open; a DISABLED bay's converter is configured and asked for its
capability, several such commands being outstanding together (R312, R150, R152, R154).
It rests on the choices of the model in log entries 29, 30, 63, 69 and 72. -/
def Obligations.BaysEnableAndDisable : Prop :=
  ∀ (h : Hdr) (pl : Bytes) (s : State) (b : Nat), b < 32 → fld pl 0 1 = b →
    (Accepted cmdBayEnable h pl s →
      ((s.bay b).state = .disabled ∨ (s.bay b).state = .fault → enableRefusal s b = none →
        Completes (.bayEnable h pl) cmdBayEnable h pl s fun u => ok (toIdle b (ackConverter b u))) ∧
      ((s.bay b).state ≠ .disabled → (s.bay b).state ≠ .fault → (s.bay b).state ≠ .welded →
        Completes (.bayEnable h pl) cmdBayEnable h pl s fun u => ok u)) ∧
    (Accepted cmdBayDisable h pl s → (s.bay b).state ≠ .welded → openNotOver (s.bay b) = false →
      Completes (.bayDisable h pl) cmdBayDisable h pl s fun u => ok (disableNow b [] u)) ∧
    (∀ c, Accepted cmdBayDisable h pl s → (s.bay b).state = .energised → (s.bay b).coil.openAt = none → (s.bay b).ctx = some c →
      Completes (.bayDisable h pl) cmdBayDisable h pl s fun u =>
        pending (normalOpen b 0 (finishCtx c 1 0 0 errState (u.modBay b fun z =>
          { z with coil := { z.coil with disabling := true, disableCmds := z.coil.disableCmds ++ [(callOf cmdBayDisable h).ref] } })))) ∧
    (Accepted cmdConverterConfigure h pl s → objectInRange convConfigLayout (pl.drop 4) = true →
      (∀ k ∈ convertersOn s b (fieldOf (pl.drop 4) 0 1), s.field (0x0540 + k) 8 5 ≠ fieldOf (pl.drop 4) 8 5) →
      (convertersOn s b (fieldOf (pl.drop 4) 0 1)).length < 16 → (s.bay b).state = .disabled →
      Completes (.converterConfigure h pl) cmdConverterConfigure h pl s fun u =>
        pending (sendConfig b ((s.bay b).conv.configCmds ++ [(callOf cmdConverterConfigure h).ref]) (u.putParam (0x0540 + b) (pl.drop 4))))

/-- What the vehicle's pins do to a bay while outputs are driven: CP is classified by the plateaus of R136 and takes effect when
it changes and state F is not driven; PP by the resistances of R139; a guard channel takes a new level, a guard pair that differs
for more than 50 ms fails its test (R137, R139 to R141). On an energised bay a PP that changes is a trip, and so is a guard that
opens on a socket bay.
It rests on the choices of the model in log entries 5, 8, 63, 149, 161 and 167. -/
def Obligations.BayInputsTakeEffect : Prop :=
  ∀ (s : State) (b : Nat), b < 32 → outputsDriven s = true →
    (∀ pos neg st, (s.bay b).pilot.drive ≠ .stateF → cpRead (s.bay b).pilot.drive pos neg = st →
      (st ≠ (s.bay b).pilot.cp ∨ (s.bay b).pilot.awaitFirst = true) →
      exec (.cpStateChange b pos neg) s = .next (filteredCp b st s)) ∧
    (∀ ohms u, s.tethered b = false → ppClass ohms ≠ (s.bay b).pilot.pp →
      u = ntfBay b 1 [byte (reportedCp (s.bay b).pilot).code, byte (reportedCp (s.bay b).pilot).code,
            byte (s.bay b).pilot.pp.code, byte (ppClass ohms).code]
          (markDirty (s.modBay b fun y => { y with pilot := { y.pilot with pp := ppClass ohms } })) →
      exec (.ppChange b ohms) s = .next (if (s.bay b).isEnergised then inputTrip b 10 2 4 7 u
        else if (s.bay b).state = .closing then evaluateBay b (noteReasons b (blockReasons u b) u) else evaluateBay b u)) ∧
    (∀ chB closed u, (if chB then (s.bay b).guards.bClosed else (s.bay b).guards.aClosed) ≠ closed →
      u = s.modBay b (fun y => { y with guards := guardLevel s y.guards chB closed }) →
      exec (.guardChange b chB closed) s = .next
        (if closed = false ∧ s.tethered b = false ∧ (s.bay b).isEnergised = true then inputTrip b 4 3 4 7 u else evaluateBay b u)) ∧
    (∀ t u, (s.bay b).guards.diffSince = some t → t + 50000 < s.time.osc →
      u = s.modBay b (fun y => { y with guards := { y.guards with gstOk := false, lastPair := none } }) →
      exec (.guardDiscrepancy b) s = .next
        (if s.tethered b = false ∧ (s.bay b).isEnergised = true then safeStop b 4 3 false u else evaluateBay b u))

/-- The lock of a bay while outputs are driven: LKF within the timeout confirms a locking drive; the pulse of a locking drive
ends; a drive not confirmed in time fails; a lock no session wants is released when it may be, while a control pair runs; LKF lost
unlocks the bay, and is a safe stop of an energised bay that must be locked (R142, R143, R226).
It rests on the choices of the model in log entries 4, 8, 64, 161 and 170. -/
def Obligations.BayLocksRun : Prop :=
  ∀ (s : State) (b : Nat), b < 32 → outputsDriven s = true →
    (∀ d, (s.bay b).lock.drive = some d → d.locking = true → s.time.osc ≤ d.start + 1000 * s.bayField b 112 16 →
      exec (.lockConfirmed b) s = .next (evaluateBay b (s.modBay b fun y => { y with
        lock := { y.lock with feedback := true, locked := true, drive := if d.pulse then some d else none } }))) ∧
    (∀ d, (s.bay b).lock.drive = some d → d.pulse = true → d.locking = true → (s.bay b).lock.locked = false →
      d.start + 1000 * s.bayField b 96 16 ≤ s.time.osc →
      exec (.lockPulseEnd b) s = .next ((bridgeOff b s).modBay b fun y => { y with
        lock := { y.lock with drive := some { d with pulse := false } } })) ∧
    (∀ d, (s.bay b).lock.drive = some d → d.locking = true → (s.bay b).lock.locked = false →
      d.start + 1000 * s.bayField b 112 16 ≤ s.time.osc →
      exec (.lockTimeout b) s = .next (lockDriveFailed b d s)) ∧
    (lockWanted s b = false → controlRuns s = true → ((s.bay b).lock.locked = true ∨ (s.bay b).lock.held = true) → mayUnlock s b = true →
      exec (.lockRelease b) s = .next (releaseLock b s)) ∧
    (∀ u, u = s.modBay b (fun y => { y with lock := { y.lock with feedback := false, locked := false } }) →
      exec (.lockFeedbackLoss b) s = .next
        (if (s.bay b).isEnergised = true ∧ s.lockReq b = true then safeStop b 3 4 false u else evaluateBay b u))

/-- Contactors while outputs are driven: a closure seen in CLOSING energises the bay, an AC bay learns its operate time from it, and
the context enters CHARGING; a release makes the cycle one in which contacts open, is learned on AC bays and closes the books of a
finishing session; where no edge is found nothing changes. UO below 30 V within 200 ms of the open passes the weld check, later it
fails it; UO high for 200 ms on an open AC bay is a weld; the earliest due entry of the queue executes (R36, R58, R145, R147, R149,
R227).
It rests on the choices of the model in log entries 4, 8, 58, 65, 155, 162 and 171. -/
def Obligations.ContactorsFollowTheirCoils : Prop :=
  ∀ (s : State) (b : Nat), b < 32 → outputsDriven s = true →
    (∀ w t u, (s.bay b).state = .closing → (s.bay b).coil.on = true → closureAt s b w = some t →
      u = setBay b .energised 0
        ((if s.kind b = 2 then s else learnOperate b (t - (s.bay b).coil.closeAt.getD t) s).modBay b fun y => { y with
          coil := { y.coil with closeAt := none, ua50At := none }
          lock := { y.lock with wasEnergised := true, weldPassed := false, uoLowSince := none }
          safety := { y.safety with exportE := 0, exportUs := 0, uoHighUs := 0, permitUntil := none } }) →
      exec (.closureDetected b w) s = .next (match (s.bay b).ctx with | some c => confirmCharging c u | none => u)) ∧
    (∀ w, closureAt s b w = none → exec (.closureDetected b w) s = .next s) ∧
    (∀ w t o, (s.bay b).coil.openAt = some o → releaseAt s b w = some t →
      exec (.releaseDetected b w) s = .next (contactorOpened b
        ((if s.kind b = 2 then s else learnRelease b (measuredRelease (s.bay b) t) s).modBay b fun z => { z with
          coil := { z.coil with onInCycle := true } }))) ∧
    (∀ w, releaseAt s b w = none → exec (.releaseDetected b w) s = .next s) ∧
    (∀ mv t, (s.bay b).coil.openAt = some t →
      (mv < 30000 → s.time.osc ≤ t + 200000 → exec (.weldCheck b mv) s = .next (weldPassed b s)) ∧
      (30000 ≤ mv → t + 200000 ≤ s.time.osc → exec (.weldCheck b mv) s = .next (enterWelded b s))) ∧
    (s.kind b ≠ 2 → (s.bay b).coil.on = false → (s.bay b).coil.openAt = none → (s.bay b).state ≠ .welded →
      200000 ≤ (s.bay b).safety.uoHighUs → exec (.weldOpenDetect b) s = .next (enterWelded b s)) ∧
    (∀ q, nextEntry s = some q → exec .timedAction s = .next (executeEntry q s))

/-- The timers of a contactor complete in every state: a residual self-test that is over passes for 60 s and the bay is looked at
again, fails a first time and is run once more, or fails a second time, which refuses the close that waited and puts the bay in
FAULT; a permission that lapses withdraws both enables and refuses a DC close that still waits; a DC bay that does not follow its
converter within 50 ms of 50 V ends its session and trips with its setpoint at zero, and opens once its current is below 5 A or 1 s
is over; a bay suspended for 6 s opens while a control pair runs. A timer that is not set or not over changes nothing
(R155, R203, R219, R222, R467).
It rests on the choices of the model in log entries 4, 8, 71 and 162. -/
def Obligations.ContactorTimersAct : Prop :=
  ∀ (s : State) (b : Nat), b < 32 → outputsDriven s = true →
    (∀ core t hold, coreOk s core = true → (s.bay b).safety.selfTest.runningTo = some t → t ≤ s.time.osc →
      7 ≤ (s.bay b).safety.selfTest.values.length →
      hold = s.modBay b (fun y => { y with safety := { y.safety with dc1HoldTo := s.after (testCycles s 2) } }) →
      (selfTestPasses (s.bay b).safety.selfTest.values = true →
        exec (.residualSelftestDone b core) s = .next (evaluateBay b (resumeStart b
          ((reportSelfTest b true ((s.bay b).safety.selfTest.failures + 1) hold).modTest b fun x => { x with
            runningTo := none, rts := false, passUntil := some (s.time.osc + 60000000), cmd := none })))) ∧
      (selfTestPasses (s.bay b).safety.selfTest.values = false → (s.bay b).safety.selfTest.failures = 0 →
        exec (.residualSelftestDone b core) s = .next (runSelfTest b 1 s)) ∧
      (∀ x c p, selfTestPasses (s.bay b).safety.selfTest.values = false → (s.bay b).safety.selfTest.failures ≠ 0 →
        x = (reportSelfTest b false 2 hold).modTest b (fun x => { x with
          runningTo := none, rts := false, passUntil := none, failures := 0, cmd := none }) →
        (((s.bay b).ctx = none ∨ (s.bay b).coil.startWait = none) →
          exec (.residualSelftestDone b core) s = .next (ntfSafety 1 b 0 (faultBay b 7
            (x.modBay b fun y => { y with coil := { y.coil with startWait := none } })))) ∧
        ((s.bay b).ctx = some c → (s.bay b).coil.startWait = some p →
          exec (.residualSelftestDone b core) s = .next (ntfSafety 1 b 0 (faultBay b 7
            ((completeStart c errSafety (s.ctx c).hd.state x).modBay b fun y => { y with
              coil := { y.coil with startWait := none } })))))) ∧
    (∀ core, (coreOk s core = false ∨ s.dueOpt (s.bay b).safety.selfTest.runningTo = false) →
      exec (.residualSelftestDone b core) s = .next s) ∧
    (∀ t u, (s.bay b).safety.permitUntil = some t → t ≤ s.time.osc → (s.bay b).coil.on = false → u = withdrawEnables b s →
      ((∀ q ∈ s.queue, q.bay = some b → q.asap = false) → exec (.permissionLapse b) s = .next u) ∧
      (∀ q c, s.queue.find? (fun q => q.bay == some b && q.asap) = some q → (s.bay b).ctx = some c →
        exec (.permissionLapse b) s = .next (refuseClose b c errSafety (dropEntries (· == q) u)))) ∧
    ((s.dueOpt (s.bay b).safety.permitUntil = false ∨ (s.bay b).coil.on = true) → exec (.permissionLapse b) s = .next s) ∧
    (∀ t, (s.bay b).coil.ua50At = some t → t + 50000 ≤ s.time.osc → s.kind b = 2 → (s.bay b).state = .closing →
      exec (.dcClosureTimeout b) s = .next (trip b 6 true (setpointZero b true
        (match (s.bay b).ctx with | some c => finishCtx c 6 7 0 errState s | none => s)))) ∧
    (((s.bay b).coil.ua50At = none ∨ s.kind b ≠ 2 ∨ (s.bay b).state ≠ .closing) → exec (.dcClosureTimeout b) s = .next s) ∧
    (∀ t ma, (s.bay b).coil.dcOpenAt = some t → (ma.natAbs < 5000 ∨ t + 1000000 ≤ s.time.osc) →
      exec (.dcOpenCurrentLow b ma) s = .next (coilOff b (s.bay b).coil.openCause s)) ∧
    (∀ ma, (s.bay b).coil.dcOpenAt = none → exec (.dcOpenCurrentLow b ma) s = .next s) ∧
    (∀ t, (s.bay b).coil.suspendAt = some t → t ≤ s.time.osc → controlRuns s = true →
      exec (.suspendOpenTimeout b) s = .next (normalOpen b 0 s)) ∧
    ((s.dueOpt (s.bay b).coil.suspendAt = false ∨ controlRuns s = false) → exec (.suspendOpenTimeout b) s = .next s)

/-- Converters on a CAN port: HEARTBEAT and SETPOINT go to every converter of the port; a valid STATUS, ISO_MONITOR, CAPABILITY
or FAULT frame of the bay's converter sets the alive counter and its values; STATUS silent for 60 ms, ISO_MONITOR silent for
300 ms and CAPABILITY silent for 500 ms are acted on (R150 to R154, R220).
It rests on the choices of the model in log entries 4, 8, 67 and 68. -/
def Obligations.ConvertersReport : Prop :=
  ∀ (s : State), outputsDriven s = true →
    (∀ can, can < 2 → exec (.heartbeat can) s = .next ((canBays s can).foldl (fun a b => sendSetpoint b (sendHeartbeat b a)) s)) ∧
    (∀ can node b data, can < 2 → converterBay s can node = some b →
      let heard (m : Nat) : State := (count 0x10 (4 + can) 16 s).modConv b fun v =>
        { v with alive := v.alive.modify m fun _ => some (fld data 0 1) }
      (canValid 4 node ((s.bay b).conv.alive.getD 0 none) data = true →
        exec (.converterStatus can node data) s = .next (evaluateBay b ((heard 0).modConv b fun v => { v with
          status := fld data 1 1, outMv := fld data 2 4, outMa := signed 32 (fld data 6 4),
          temp := signed 16 (fld data 10 2), flags := fld data 12 2, statusAt := some s.time.osc }))) ∧
      (canValid 5 node ((s.bay b).conv.alive.getD 1 none) data = true → fld data 1 1 = 0 →
        exec (.isoMonitor can node data) s = .next (evaluateBay b ((heard 1).modConv b fun v => { v with
          iso := 0, isoOhm := fld data 2 4, isoMv := fld data 6 4, isoAt := some s.time.osc }))) ∧
      (∀ u, canValid 6 node ((s.bay b).conv.alive.getD 2 none) data = true →
        u = markDirty ((heard 2).modConv b fun v => { v with
          capKnown := true, capFailed := false, capExport := testBit (fld data 1 1) 0,
          capMv := fld data 2 4, capMa := fld data 6 4, capMw := fld data 10 4, configAt := none, configCmds := [] }) →
        exec (.capability can node data) s = .next (if (s.bay b).conv.configAt.isSome
          then ntfConfigured b 0 (s.bay b).conv.configCmds stOk u else u)) ∧
      (canValid 7 node ((s.bay b).conv.alive.getD 3 none) data = true → fld data 2 1 = 0 →
        exec (.converterFault can node data) s = .next (ntfConverter b 4 (fld data 1 1) none 0 (heard 3)))) ∧
    (∀ b t, b < 32 → s.kind b = 2 → (s.bay b).state ≠ .disabled → (s.bay b).state ≠ .fault → (s.bay b).state ≠ .welded →
      (s.bay b).conv.statusAt = some t → t + 60000 ≤ s.time.osc →
      exec (.converterStatusTimeout b) s = .next (converterTrip b (ntfConverter b 3 0 none 0
        (s.modConv b fun v => { v with statusAt := none, alive := v.alive.modify 0 fun _ => none })))) ∧
    (∀ b t, b < 32 → s.kind b = 2 → (s.bay b).isEnergised = true → (s.bay b).conv.isoAt = some t → t + 300000 ≤ s.time.osc →
      exec (.isoMonitorTimeout b) s = .next (sdeTrip b
        (s.modConv b fun v => { v with isoAt := none, alive := v.alive.modify 1 fun _ => none }))) ∧
    (∀ b t, b < 32 → (s.bay b).conv.configAt = some t → t + 500000 ≤ s.time.osc →
      exec (.capabilityTimeout b) s = .next (ntfConfigured b 1 (s.bay b).conv.configCmds errState
        (s.modConv b fun v => { v with capKnown := false, capFailed := true, configAt := none, configCmds := [],
                                       alive := v.alive.modify 2 fun _ => none })))

/-! ### Contexts -/

/-- A session opens and starts: CTX_OPEN takes the lowest FREE context, CTX_AUTHORISE allows a RESERVED one, CTX_BIND binds it to a
bay with a vehicle and no context, CTX_START of a BOUND one whose close may be queued and is permitted grants the permission,
queues the close and stays outstanding (R144, R188, R189, R193, R222, R467).
It rests on the choices of the model in log entries 29, 30 and 167. -/
def Obligations.SessionsOpenAndStart : Prop :=
  ∀ (h : Hdr) (pl : Bytes) (s : State) (c : Nat),
    (Accepted cmdCtxOpen h pl s → (fld pl 0 1 < 32 ∨ fld pl 0 1 = 0xFF) → fld pl 1 1 ≤ 7 → storeBlocks s = false →
      freeCtx s = some c →
      Completes (.ctxOpen h pl) cmdCtxOpen h pl s fun u =>
        okWith (markDirty (ntfCtxFull c .free .reserved 0 [] none 0
          (openCtx c false (if fld pl 0 1 = 0xFF then none else some (fld pl 0 1)) (fld pl 1 1)
            (if fld pl 4 8 = 0 then s.time.now + reserveUs s else fld pl 4 8) u))) (le 1 c ++ le 3 0)) ∧
    (Accepted cmdCtxAuthorise h pl s → fld pl 0 1 = c → fld pl 1 1 = 1 → fld pl 2 1 ≤ 7 →
      limitOk (fld pl 4 4) 1000 500000 = true → limitOk (fld pl 8 4) 6000 80000 = true → limitOk (fld pl 12 4) 60 604800 = true →
      (s.ctx c).wk.offline = none → (s.ctx c).wk.hostWait = none → (s.ctx c).hd.state = .reserved →
      Completes (.ctxAuthorise h pl) cmdCtxAuthorise h pl s fun u =>
        ok (allowCtx c (List.replicate 12 0) 2 (fld pl 2 1) (attrOf true (fld pl 2 1) 0 0) (fld pl 4 4) (fld pl 8 4) (fld pl 12 4)
          (1000 * fld pl 16 4) none u)) ∧
    (∀ b, Accepted cmdCtxBind h pl s → fld pl 0 1 = c → fld pl 1 1 = b → b < 32 →
      ((s.ctx c).hd.state = .reserved ∨ (s.ctx c).hd.state = .authorised) → (s.ctx c).hd.bay = none →
      ((s.bay b).state = .occupied ∨ (s.bay b).state = .ready) → (s.bay b).ctx = none →
      (s.bay b).meter.underTest = false → (s.bay b).pilot.awaitA = false →
      Completes (.ctxBind h pl) cmdCtxBind h pl s fun u =>
        ok (evaluateBay b (ntfCtxFull c (s.ctx c).hd.state (s.ctx c).hd.state 0 [] none 0 (bindTo c b u)))) ∧
    (∀ b p, Accepted cmdCtxStart h pl s → fld pl 0 1 = c → execPoint (slice pl 8 8) = some p → p.at_ = true →
      heldByStore s (s.ctx c) = false → (s.ctx c).hd.state = .bound → (s.ctx c).wk.startCmd = none → (s.ctx c).hd.bay = some b →
      pointRefusal s (s.coilLsw b) p.cycle (issuePoint s b p.cycle p.angle).1 (issuePoint s b p.cycle p.angle).2 (!s.isDc b) = none →
      permits s b = true →
      Completes (.ctxStart h pl) cmdCtxStart h pl s fun u =>
        pending (queueClose b c (closeEntry s b c (issuePoint s b p.cycle p.angle) p.angle false) 0 0
          (grantPermission b (u.modWk c fun w => { w with startCmd := some (callOf cmdCtxStart h).ref }))))

/-- A session pauses and ends: CTX_SUSPEND suspends a running session until the host resumes it, CTX_RESUME binds it again when
its bay is READY and the store admits it, and stays outstanding otherwise, after any other that waits, CTX_STOP and CTX_RELEASE end it, CTX_ACK_RECORD acknowledges the record and
frees a CLOSED context, the time limit ends a session, the expiry frees a reservation, and OFFLINE decides when the host has not
answered in time (R182, R184, R187 to R189, R192).
It rests on the choices of the model in log entries 4, 29, 30 and 167. -/
def Obligations.SessionsPauseAndEnd : Prop :=
  ∀ (h : Hdr) (pl : Bytes) (s : State) (c : Nat), c < 256 → fld pl 0 1 = c →
    (Accepted cmdCtxSuspend h pl s → ((s.ctx c).hd.state = .bound ∨ (s.ctx c).hd.state = .energising ∨
        (s.ctx c).hd.state = .charging ∨ (s.ctx c).hd.state = .suspendedEv) →
      Completes (.ctxSuspend h pl) cmdCtxSuspend h pl s fun u =>
        ok (suspendCtx c 0 [] (u.modWk c fun w => { w with byHost := true }))) ∧
    (∀ b, Accepted cmdCtxResume h pl s → (s.ctx c).hd.state = .suspendedEvse → (s.ctx c).hd.bay = some b →
      ((s.bay b).state = .ready → heldByStore s (s.ctx c) = false → Completes (.ctxResume h pl) cmdCtxResume h pl s fun u =>
        ok (evaluateCtx c (moveCtx c .bound 0 [] stOk (u.modWk c fun w => { w with byHost := false })))) ∧
      ((s.bay b).state ≠ .ready ∨ heldByStore s (s.ctx c) = true → Completes (.ctxResume h pl) cmdCtxResume h pl s fun u =>
        pending (evaluateCtx c (markDirty ((u.modWk c fun w => { w with byHost := false }).modWk c fun w =>
          { w with resumeCmds := w.resumeCmds ++ [(callOf cmdCtxResume h).ref] }))))) ∧
    (Accepted cmdCtxStop h pl s → (s.ctx c).hd.state ≠ .free → (s.ctx c).hd.state ≠ .finishing → (s.ctx c).hd.state ≠ .closed →
      Completes (.ctxStop h pl) cmdCtxStop h pl s fun u => ok (stopCtx c u)) ∧
    (Accepted cmdCtxRelease h pl s → unstarted (s.ctx c).hd.state = true →
      Completes (.ctxRelease h pl) cmdCtxRelease h pl s fun u => ok (stopCtx c u)) ∧
    (Accepted cmdCtxAckRecord h pl s → (s.ctx c).hd.state = .closed → fld pl 4 4 = (s.ctx c).hd.seq →
      Completes (.ctxAckRecord h pl) cmdCtxAckRecord h pl s fun u =>
        let acked := s.legal.records.map fun r => if r.seq == (s.ctx c).hd.seq then { r with acked := true } else r
        ok (freeContext c 0 [] { u with legal := { u.legal with records := acked } })) ∧
    (∀ t, (s.ctx c).wk.chargingAt = some t → (s.ctx c).hd.timeLimit ≠ 0 → endable (s.ctx c) = true →
      t + 1000000 * (s.ctx c).hd.timeLimit ≤ s.time.osc →
      exec (.timeLimitExpiry c) s = .next (endSession c 3 6 s)) ∧
    ((s.ctx c).hd.expiry ≠ 0 → (s.ctx c).hd.expiry ≤ s.time.now → unstarted (s.ctx c).hd.state = true →
      (s.ctx c).wk.energised = false →
      exec (.reservationExpiry c) s = .next
        (match (s.ctx c).hd.bay with | some b => evaluateBay b (freeContext c 8 [] s) | none => freeContext c 8 [] s)) ∧
    (∀ w, (s.ctx c).wk.hostWait = some w → w.deadline ≤ s.time.osc → (s.ctx c).hd.state = .reserved →
      exec (.hostWaitExpiry c) s = .next (if s.field 0x0025 2 2 = 1 then allowDefault c (credHash w.ident) 0 (some true) s
        else denyCtx c (some false) s))

/-- The terms of a session: CTX_SET_QUOTA changes the quota with its history and marks the end when it is used up already,
CTX_SET_PROFILE and CTX_SET_PRIORITY replace profile and class, CTX_GET reads the context, CTX_LIST the contexts in the states
asked for (R185, R186, R206, R314).
It rests on the choice of the model in log entry 29. -/
def Obligations.SessionTermsSetAndRead : Prop :=
  ∀ (h : Hdr) (pl : Bytes) (s : State) (c : Nat), fld pl 0 1 = c →
    (Accepted cmdCtxSetQuota h pl s → fld pl 8 8 ≠ 0 → limitable (s.ctx c).hd.state = true → (s.ctx c).hd.quota ≠ fld pl 8 8 →
      Completes (.ctxSetQuota h pl) cmdCtxSetQuota h pl s fun u =>
        let cut : Bool := fld pl 8 8 ≤ mwh (s.ctx c).hd.sesImp
        ok (markDirty (((limitChange c 0 (s.ctx c).hd.quota (fld pl 8 8) u).modHd c fun k => { k with
          quota := fld pl 8 8, quotaOrig := if k.quotaOrig == 0 then fld pl 8 8 else k.quotaOrig,
          flags := if cut then k.flags ||| 0x20 else k.flags }).modWk c fun w => { w with quotaEnd := cut }))) ∧
    (Accepted cmdCtxSetProfile h pl s → 1 ≤ fld pl 1 1 → fld pl 1 1 ≤ 24 →
      (∀ k, k < fld pl 1 1 → zeroAt pl (16 + 16 * k) 4 = true) → fld pl 4 4 = 0 → ascending (profilePeriods pl) = true →
      limitable (s.ctx c).hd.state = true →
      Completes (.ctxSetProfile h pl) cmdCtxSetProfile h pl s fun u =>
        ok (markDirty (u.modWk c fun w => { w with profile := profilePeriods pl }))) ∧
    (Accepted cmdCtxSetPriority h pl s → fld pl 1 1 ≤ 7 → limitable (s.ctx c).hd.state = true →
      Completes (.ctxSetPriority h pl) cmdCtxSetPriority h pl s fun u =>
        ok (markDirty (u.modHd c fun k => { k with priority := fld pl 1 1 }))) ∧
    (Accepted cmdCtxGet h pl s → (s.ctx c).hd.state ≠ .free →
      Completes (.ctxGet h pl) cmdCtxGet h pl s fun u => okWith u (ctxBytes (s.ctx c))) ∧
    (Accepted cmdCtxList h pl s → Completes (.ctxList h pl) cmdCtxList h pl s fun u =>
      let l := (List.range 256).filter fun k => testBit (fld pl 0 2) (s.ctx k).hd.state.code
      okWith u (le 2 l.length ++ le 2 0 ++ l.flatMap fun k =>
        le 1 k ++ le 1 (s.ctx k).hd.state.code ++ le 1 (idx (s.ctx k).hd.bay) ++ le 1 (s.ctx k).hd.priority))

/-! ### Site budget -/

/-- Limit sources: SITE_SET_BUDGET sets the host's limits and a member of the mains network sends them on, SITE_GET_ALLOCATION
reads the last result, a lapsed limit gives way to the fallback set, a received curtailment frame is counted and an authentic and
newer one applied and, below hop 3, sent on, a coordinator sends its limits in force every second, a member takes the frames of its
coordinator and loses it after 3 s of silence (R173, R199, R314, R330).
It rests on the choices of the model in log entries 4, 44, 82 and 177. -/
def Obligations.SiteLimitsArriveAndLapse : Prop :=
  ∀ (h : Hdr) (pl : Bytes) (s : State),
    (Accepted cmdSiteSetBudget h pl s → s.time.now < fld pl 0 8 →
      Completes (.siteSetBudget h pl) cmdSiteSetBudget h pl s fun u =>
        ok (originate (fld pl 0 8) (limitsAt pl 8)
          (markDirty { u with budget := { u.budget with host := some (limitsAt pl 8, fld pl 0 8), hostLapsed := false } }))) ∧
    (Accepted cmdSiteGetAllocation h pl s → Completes (.siteGetAllocation h pl) cmdSiteGetAllocation h pl s fun u =>
      okWith u (le 4 s.budget.lastCycle ++ le 2 s.budget.last.length ++ le 2 0 ++ s.budget.last.flatMap fun g =>
        le 1 g.ctx ++ le 1 g.bay ++ le 1 (bit g.broken + 2 * bit g.reserved) ++ le 1 0 ++ le 4 g.ma)) ∧
    (∀ l t, s.budget.host = some (l, t) → t ≤ s.time.now → s.budget.hostLapsed = false →
      exec (.siteLimitLapse .hostBudget) s = .next (markDirty { s with budget := { s.budget with hostLapsed := true } })) ∧
    (∀ frame key v, linkKey s 3 = some key → linkKey s 2 = some key → mainsCarries s = true → hostReady s = true → frame.length = 96 →
      slice frame 80 16 = (hmac key (frame.take 80)).take 16 →
      (∀ k ∈ s.budget.curtail, k.origin = fld frame 0 8 → k.seq < fld frame 8 4) → s.time.now < fld frame 24 8 →
      (let u := count 0x10 6 96 s
       let k : Curtailment := { origin := fld frame 0 8, seq := fld frame 8 4, limits := limitsAt frame 32, fromT := fld frame 16 8, until_ := fld frame 24 8 }
       v = markDirty { u with budget := { u.budget with curtail := s.budget.curtail.filter (·.origin != fld frame 0 8) ++ [k] } }) →
      let body := frame.take 12 ++ le 1 (fld frame 12 1 + 1) ++ slice frame 13 67
      exec (.curtailmentFrame frame) s = .next
        (if fld frame 12 1 < 3 then relayFrame (body ++ (hmac key body).take 16) v else v)) ∧
    (∀ key, siteKey s 2 = some key → siteRole s = 2 → controlRuns s = true → siteCarries s = true →
      (∀ t, s.budget.sentAt = some t → t + 1000000 ≤ s.time.osc) →
      let l := limitsInForce s
      let t := s.time.now + 3000000
      let site := s.field 0x0510 128 32
      exec .coordinatorSend s = .next (countSite 0x11 (siteLinks s) { s with budget := { s.budget with
        sent := some { sender := serialNum, siteId := site, limits := l, validUntil := t, mac := Config.coordMac key serialNum site t (limitList l) },
        sentAt := some s.time.osc } })) ∧
    (∀ (f : CoordFrame) key links u, siteKey s 3 = some key → siteRole s = 1 → controlRuns s = true → siteCarries s = true →
      f.siteId = s.field 0x0510 128 32 → f.sender = s.field 0x0510 32 64 →
      f.mac = Config.coordMac key f.sender f.siteId f.validUntil (limitList f.limits) → s.time.now < f.validUntil →
      ((siteLinks s = 4 ∧ links = 4 ∧ u = countSite 0x10 4 s) ∨
        (siteLinks s ≠ 4 ∧ links = 1 + Config.openChoice s.draws % 3 ∧ u = countSite 0x10 links { s with draws := s.draws + 1 })) →
      let share := s.field 0x0510 96 16
      let l : Limits := { f.limits with siteP := shareOf share f.limits.siteP (2 ^ 64 - 1), phase := f.limits.phase.map fun v => shareOf share v 0xFFFFFFFF }
      let v := markDirty { heardPeer f.sender 2 links u with
        budget := { u.budget with site := some (l, f.validUntil), siteSeen := some s.time.osc, siteLost := false } }
      exec (.coordinatorFrame f) s = .next (if links = 4 then v else originate f.validUntil l v)) ∧
    (siteRole s = 1 → controlRuns s = true → s.budget.siteLost = false → (∀ t, s.budget.siteSeen = some t → t + 3000000 ≤ s.time.osc) →
      exec .coordinatorLost s = .next (markDirty { s with budget := { s.budget with siteLost := true } }))

/-- The allocator, while a control pair runs: it recomputes after a change, in a new second or under limits that time has changed,
and its result waits for the next boundary; at that boundary every grant is applied, contexts that are no longer counted lose theirs,
bays drive what they offer and are looked at again; the reservations of cuts end when their time is over or the draw has followed
(R200, R203, R204).
It rests on the choices of the model in log entries 6 and 155. -/
def Obligations.AllocatorRuns : Prop :=
  ∀ (s : State), controlRuns s = true →
    ((s.budget.dirty = true ∨ s.time.now / 1000000 ≠ s.budget.lastSecond ∨ s.budget.used ≠ some (limitsInForce s)) →
      exec .allocatorRecompute s = .next { notePhases s with budget := { (notePhases s).budget with
        next := some (allocate (notePhases s)), nextCycle := (notePhases s).clk.cycle.toNat, dirty := false,
        lastSecond := s.time.now / 1000000, used := some (limitsInForce (notePhases s)) } }) ∧
    (∀ gs, s.budget.next = some gs → s.budget.nextCycle ≠ s.clk.cycle.toNat →
      let taken : State := { s with budget := { s.budget with next := none, last := gs, lastCycle := s.clk.cycle.toNat } }
      let cleared := (List.range 256).foldl (fun a c =>
        if (a.ctx c).hd.iGrant != 0 && !counted a c then a.modHd c fun h => { h with iGrant := 0 } else a) taken
      let applied := gs.foldl (fun a g => applyGrant g a) cleared
      exec .allocationTakesEffect s = .next ((List.range 32).foldl (fun a b => evaluateBay b a)
        ((List.range 32).foldl (fun a b => offer b (offeredTo a b) a) applied))) ∧
    (∀ c b rest, c < 256 → (s.ctx c).hd.bay = some b →
      rest = (if withinBand (drawMa s b) (s.ctx c).hd.iGrant then [] else (s.ctx c).wk.cuts.filter fun k => !s.due k.1) →
      exec (.cutReservationEnd c) s = .next
        (if rest = (s.ctx c).wk.cuts then s else markDirty (s.modWk c fun w => { w with cuts := rest })))

/-- The states of the phase clock: a lost reference takes ACQUIRE to DEAD_RECKON and LOCKED to HOLDOVER, which is reported and
drops the queued AC closes; four good cycles bring back ACQUIRE; eight cycles of pull-in mark the cycle that begins as the
transition cycle, whose end enters LOCKED and has every bay looked at again; ten cycles of HOLDOVER end in DEAD_RECKON at the nominal rate (R22 to R26).
It rests on the choices of the model in log entries 50, 51, 52 and 53. -/
def Obligations.ClockChangesState : Prop :=
  ∀ (s : State), clockRuns s = true →
    (∀ cause, lossHolds cause s = true → s.clk.state = .locked →
      exec (.lossOfReference cause) s = .next (leaveLocked (reportClock .locked .holdover
        { s with clk := { s.clk with state := .holdover, holdCycles := 0, goodCycles := 0, lockedCycle := false } }))) ∧
    (∀ cause, lossHolds cause s = true → s.clk.state = .acquire →
      exec (.lossOfReference cause) s = .next { s with clk := { s.clk with
        transition := none, pullInCycles := 0, goodCycles := 0, state := .deadReckon, freq := s.nominalFreq } }) ∧
    (4 ≤ s.clk.goodCycles → s.clk.state = .holdover ∨ s.clk.state = .deadReckon →
      exec .referenceValid s = .next { s with clk := { s.clk with state := .acquire, pullInCycles := 0, transition := none } }) ∧
    (8 ≤ s.clk.pullInCycles → s.clk.state = .acquire → s.clk.transition = none → s.clk.angle = 0 →
      exec .acquirePullIn s = .next { s with clk := { s.clk with transition := some s.clk.cycle } }) ∧
    (∀ c, s.clk.state = .acquire → s.clk.transition = some c → s.clk.cycle = c + 1 →
      exec .lockEntry s = .next ((List.range 32).foldl (fun a b => evaluateBay b a) (reportClock .acquire .locked
        { s with clk := { s.clk with state := .locked, transition := none, pullInCycles := 0,
                                     relockCount := min 65535 (s.clk.relockCount + 1), lockedCycle := true } }))) ∧
    (10 ≤ s.clk.holdCycles → s.clk.state = .holdover →
      exec .holdoverExpiry s = .next { s with clk := { s.clk with state := .deadReckon, freq := s.nominalFreq } })

/-- Cycles and strobes: a strobe that is due latches the 260 values of the cycle and every pulse output takes its part; a pulse goes
low at its end; a boundary that is due, the samples of a whole cycle being there, opens the next cycle at angle 0 with its stamp; the block of harmonics that ended becomes readable as the means
over its cycles; angle 2 048 sends what falls due at half a cycle, once in the cycle, and in STANDBY as well (R24, R30, R45, R55, R68,
R74, R436).
It rests on the choices of the model in log entries 3, 6, 92, 157, 158 and 171. -/
def Obligations.CyclesRun : Prop :=
  ∀ (s : State),
    (∀ x u, metersRun s = true → s.met.strobes.length < 128 →
      (32 * s.met.strobes.length ≤ s.clk.angle ∨ (s.clk.state = .acquire ∧ s.clk.transition = some s.clk.cycle)) →
      (let xs := (List.range 260).map (latched s x)
       u = { s with met := { s.met with
         strobes := xs :: s.met.strobes, lastStrobe := s.time.osc,
         overSeen := (List.range 260).map fun j => s.met.overSeen.getD j false || latchedOver s x (xs.getD j 0) j } }) →
      exec (.sampleStrobe x) s = .next ((List.range 5).foldl (fun a k => strobePulse k a) u)) ∧
    (∀ k, k < 5 → (s.met.pulses.getD k {}).high = true → (s.met.pulses.getD k {}).endAt ≤ s.time.osc →
      exec (.pulseEnd k) s = .next { s with met := { s.met with
        pulses := s.met.pulses.modify k fun p => { p with high := false } } }) ∧
    (∀ f e, clockRuns s = true → boundaryDue s.clk = true →
      (metersRun s = true → s.met.whole = true → s.met.strobes.length = 128) → ∃ t, exec (.cycleBoundary f e) s = .next t ∧
      t.clk.cycle = s.clk.cycle + 1 ∧ t.clk.angle = 0 ∧ t.clk.phaseErr = e ∧ t.clk.cycleStart = s.time.now ∧
      t.clk.state = s.clk.state ∧ t.time = { s.time with cycleOsc := s.time.osc } ∧ t.pending = s.pending ∧
      t.disp.frame = s.disp.frame ∧ t.tag.phys = s.tag.phys ∧ t.keys.length = s.keys.length) ∧
    (s.met.harm.ended = true → s.met.harm.cycles = 0 → exec .harmonicBlockEnd s = .next { s with met := { s.met with
      harm := { first := s.clk.cycle.toNat, osc := s.time.cycleOsc } } }) ∧
    (s.met.harm.ended = true → 0 < s.met.harm.cycles → ∃ t, exec .harmonicBlockEnd s = .next t ∧
      t = { s with met := { s.met with harm := { first := s.clk.cycle.toNat, osc := s.time.cycleOsc }, blocks := t.met.blocks } } ∧
      t.met.blocks.length = s.met.harm.sums.length ∧
      ∀ (k : Nat) (l : List Nat), s.met.harm.sums[k]? = some l → ∃ g : HarmonicBlock, t.met.blocks[k]? = some (some g) ∧ g.first = s.met.harm.first ∧
        g.cycles = s.met.harm.cycles ∧ g.x = l.map fun v => rootQ v (s.met.harm.cycles * 2 ^ 32)) ∧
    (∀ u, s.power.state ≠ .standby → 2048 ≤ s.clk.angle → s.clk.halfDone = false →
      u = { s with clk := { s.clk with halfDone := true } } →
      exec .halfCycleTick s = .next (toggleAlive (if outputsDriven s then sendSafetyFrames u else u))) ∧
    (s.power.state ≠ .standby → (s.clk.angle < 2048 ∨ s.clk.halfDone = true) → exec .halfCycleTick s = .next s) ∧
    (s.power.state = .standby → exec .halfCycleTick s = .next (toggleAlive s))

/-- Intervals and what takes effect at a boundary: an interval closes at the first boundary at or after its nominal end and the
next opens; a subinterval likewise; the legal store is written at least every 15 min, over the older of its two copies; an accepted clock step closes the interval,
is written to the logbook and sets module time; pending calendars whose instant has come are activated in order (R77, R79, R82,
R84, R95, R97, R101).
It rests on the choices of the model in log entries 6, 54, 55, 87, 159 and 160. -/
def Obligations.BoundariesTakeEffect : Prop :=
  ∀ (s : State),
    (metersRun s = true → s.intervals.closed = false → intervalEnd s ≤ s.clk.cycleStart →
      exec .intervalClose s = .next (openInterval 0 (closeInterval 0 false s))) ∧
    (metersRun s = true → isSliding s = true → s.intervals.closed = false → s.intervals.subStart + subUs s ≤ s.clk.cycleStart →
      exec .subintervalClose s = .next (openSub (closeSub s))) ∧
    (metersRun s = true → s.legal.storedAt + 900000000 ≤ s.time.osc →
      exec .legalStoreWrite s = .next { s with legal := { s.legal with 
        storedAt := s.time.osc, storedCycle := s.clk.cycle.toNat, stores := legalCopy s :: s.legal.stores.take 1 } }) ∧
    (∀ p, s.time.step = some p → s.intervals.closed = false → ∃ t, exec .clockStepTakesEffect s = .next t ∧
      t.time.now = p.newTime ∧ t.time.valid = true ∧ t.time.slew = 0 ∧ t.time.step = none ∧ t.clk.cycleStart = p.newTime ∧
      t.intervals.index = s.intervals.index + 1 ∧ t.cals = s.cals) ∧
    (metersRun s = true → exec .calendarActivation s = .next (activateDue 3 s)) ∧
    (∀ c, s.cals.pending = [c] → activateAt c ≤ s.clk.cycleStart →
      (activateDue 3 s).cals = { active := some c, pending := [] })

/-- Billing commands: a correct calendar at least 1 s ahead takes its place among at most three; calendars, profile entries,
demand and the logbook are read; a calendar is cancelled a cycle before its instant; PROFILE_CONFIGURE is in force at once
(R85, R86, R107, R108, R119, R318).
It rests on the choice of the model in log entry 88. -/
def Obligations.BillingCommandsAnswer : Prop :=
  ∀ (h : Hdr) (pl : Bytes) (s : State),
    (Accepted cmdTariffLoadCalendar h pl s → calendarOk pl = true → s.time.now + 1000000 ≤ activateAt pl →
      (∀ c ∈ s.cals.pending, activateAt c ≠ activateAt pl) → s.cals.pending.length < 3 →
      Completes (.tariffLoadCalendar h pl) cmdTariffLoadCalendar h pl s fun u =>
        let before := s.cals.pending.filter fun c => activateAt c < activateAt pl
        okWith { u with cals := { s.cals with
            pending := before ++ [pl] ++ s.cals.pending.filter fun c => activateAt pl < activateAt c } }
          (le 1 (before.length + 1) ++ le 3 0)) ∧
    (∀ c, Accepted cmdTariffGet h pl s → fld pl 0 1 ≤ 3 →
      (if fld pl 0 1 = 0 then s.cals.active else s.cals.pending[fld pl 0 1 - 1]?) = some c →
      Completes (.tariffGet h pl) cmdTariffGet h pl s fun u => okWith u c) ∧
    (∀ c, Accepted cmdTariffCancelPending h pl s →
      s.cals.pending.find? (fun c => calId c == fld pl 0 4 && activateAt c == fld pl 8 8) = some c →
      1000000000 ≤ (activateAt c - s.time.now) * s.clk.freq →
      Completes (.tariffCancelPending h pl) cmdTariffCancelPending h pl s fun u => ok { u with cals := { s.cals with
        pending := s.cals.pending.filter fun c => !(calId c == fld pl 0 4 && activateAt c == fld pl 8 8) } }) ∧
    (∀ newest oldest, Accepted cmdProfileRead h pl s → fld pl 0 1 ≤ 32 → 0 < fld pl 2 2 →
      s.intervals.ring.head? = some newest → s.intervals.ring.getLast? = some oldest →
      oldest.index ≤ fld pl 4 4 → fld pl 4 4 ≤ newest.index →
      Completes (.profileRead h pl) cmdProfileRead h pl s fun u =>
        let l := ((s.intervals.ring.reverse.filter fun i => fld pl 4 4 ≤ i.index).take (min (fld pl 2 2) 53)).map fun i =>
          i.entries.getD (fld pl 0 1) []
        okWith u (le 1 (fld pl 0 1) ++ le 1 (intervalMin s) ++ le 2 76 ++ le 4 oldest.index ++ le 4 newest.index ++
          le 4 l.length ++ le 8 0 ++ l.flatten)) ∧
    (Accepted cmdProfileConfigure h pl s → objectInRange profileNotifyLayout pl = true → s.takesWrites paramPartition = true →
      Completes (.profileConfigure h pl) cmdProfileConfigure h pl s fun u =>
        ok (commitObject { id := 0x0024, version := objectVersion s 0x0024, data := pl } u)) ∧
    (Accepted cmdDemandRead h pl s → fld pl 0 1 ≤ 32 →
      Completes (.demandRead h pl) cmdDemandRead h pl s fun u =>
        let d := s.intervals.last.getD (fld pl 0 1) {}
        let e := (energies s (·.base)).getD (fld pl 0 1) (0, 0)
        okWith u (le 4 s.intervals.index ++ le 4 0 ++ le 8 e.1 ++ le 8 e.2 ++ le 8 d.imp ++ le 8 d.exp ++ le 8 d.endTime)) ∧
    (Accepted cmdLogbookRead h pl s → 0 < fld pl 4 1 → fld pl 4 1 ≤ 31 → fld pl 0 4 < s.legal.logbook.length →
      Completes (.logbookRead h pl) cmdLogbookRead h pl s fun u =>
        let l := (s.legal.logbook.drop (fld pl 0 4)).take (fld pl 4 1)
        okWith u (le 2 s.legal.logbook.length ++ le 1 l.length ++ le 1 0 ++ l.flatMap logEntryBytes))

/-- METER_READ_INSTANT, METER_READ_REGISTERS and METER_READ_HARMONICS answer the last committed values of a bay or of the
site; PULSE_ASSIGN stages the object of its output; LEGAL_PARAM_READ answers a slice of a legal object (R55, R70, R316, R317).
It rests on the choices of the model in log entries 36, 84, 147, 154 and 158. -/
def Obligations.MetersAnswer : Prop :=
  ∀ (h : Hdr) (pl : Bytes) (s : State),
    (Accepted cmdMeterReadInstant h pl s → fld pl 0 1 ≤ 32 →
      Completes (.meterReadInstant h pl) cmdMeterReadInstant h pl s fun u =>
        okWith u (if fld pl 0 1 = 32 then instantSite s else instantBay (s.bay (fld pl 0 1)).meter.q)) ∧
    (Accepted cmdMeterReadRegisters h pl s → fld pl 0 1 ≤ 32 →
      Completes (.meterReadRegisters h pl) cmdMeterReadRegisters h pl s fun u =>
        okWith u (le 4 s.met.lastCycle ++ le 4 0 ++ regSetBytes (s.regSet (fld pl 0 1)))) ∧
    (∀ j k, Accepted cmdMeterReadHarmonics h pl s → harmonicIndex s (fld pl 0 1) (fld pl 1 1) = some j →
      s.met.blocks.getD j none = some k →
      Completes (.meterReadHarmonics h pl) cmdMeterReadHarmonics h pl s fun u =>
        okWith u (le 4 k.first ++ le 1 (bit k.short + 2 * bit k.notLocked) ++ le 1 k.cycles ++ le 2 0 ++ le 4 k.fBlock ++ le 2 k.thd ++
          le 2 0 ++ (List.range 31).flatMap fun h => le 4 (k.x.getD h 0))) ∧
    (∀ l new, Accepted cmdPulseAssign h pl s → fld pl 0 1 ≤ 3 → layout (0x0030 + fld pl 0 1) = some l →
      (writeWorlds (0x0030 + fld pl 0 1)).contains h.world = true →
      overlay (stageBase s h.port (0x0030 + fld pl 0 1)) 0 (slice pl 4 8) = new → (slice pl 4 8).length ≤ l.size →
      objectOk l (stageBase s h.port (0x0030 + fld pl 0 1)) new = true →
      ((stagedOf (s.port h.port) (0x0030 + fld pl 0 1)).isSome = true ∨ (s.port h.port).staging.length < 64) →
      Completes (.pulseAssign h pl) cmdPulseAssign h pl s fun u => ok (stage h.port (0x0030 + fld pl 0 1) new u)) ∧
    (∀ bs, Accepted cmdLegalParamRead h pl s → isLegalObj (fld pl 0 2) = true →
      objectSlice (s.param (fld pl 0 2)) (fld pl 2 2) (fld pl 4 2) = some bs →
      Completes (.legalParamRead h pl) cmdLegalParamRead h pl s fun u =>
        okWith u (le 2 (fld pl 0 2) ++ le 2 (s.param (fld pl 0 2)).length ++ bs))

/-- A LEGAL_PARAM_WRITE that passes its checks, the logbook having room and its partition taking writes, is stored for the next cycle and enters the logbook
with the old and the new bytes; the writes stored are in force when they take effect, the area left empty (R112 to R116).
It rests on the choices of the model in log entries 6, 49 and 161. -/
def Obligations.LegalParametersWritten : Prop :=
  ∀ (h : Hdr) (pl : Bytes) (s : State),
    (∀ l data old new, Accepted cmdLegalParamWrite h pl s → s.legal.logbook.length < 4096 → 8 ≤ pl.length →
      isLegalObj (fld pl 0 2) = true → layout (fld pl 0 2) = some l → pl.drop 8 = data → 0 < data.length → data.length ≤ 32 →
      fld pl 4 1 = data.length → zeroAt pl 5 3 = true → legalContent s (fld pl 0 2) = old → fld pl 2 2 + data.length ≤ old.length →
      overlay old (fld pl 2 2) data = new → objectOk l old new = true → legalRule s (fld pl 0 2) new = none →
      s.takesWrites legalPartition = true →
      Completes (.legalParamWrite h pl) cmdLegalParamWrite h pl s fun u =>
        let stored : State := { u with legal := { s.legal with
          pending := s.legal.pending ++ [{ id := fld pl 0 2, offset := fld pl 2 2, data := data }] } }
        ok (logbook 1 h.world (checksumAfter stored) (le 2 (fld pl 0 2) ++ le 2 (fld pl 2 2) ++ le 2 data.length ++ le 2 0 ++
          le 4 (s.clk.cycle + 1).toNat ++ padTo 32 (slice old (fld pl 2 2) data.length) ++ padTo 32 data) stored)) ∧
    (metersRun s = true → s.legal.pending ≠ [] → (∀ w ∈ s.legal.pending, w.id ≠ 0x0404 ∧ w.id ≠ 0x0401) →
      exec .legalParamTakesEffect s = .next (s.legal.pending.foldl
        (fun a w =>
          let put := markCalibration w.id (a.putParam w.id (overlay (a.param w.id) w.offset w.data))
          if w.id = 0x0403 then reassignPulse 4 (a.param w.id) (overlay (a.param w.id) w.offset w.data) put else put)
        { s with legal := { s.legal with pending := [] } })) ∧
    (metersRun s = true → s.intervals.closed = false → (∃ w ∈ s.legal.pending, w.id = 0x0404) → ∃ t, exec .legalParamTakesEffect s = .next t ∧
      (let x := breakInterval 0 0 applyLegal s
       t = { x with intervals := { x.intervals with flags := x.intervals.flags ||| 0x2000 } }) ∧
      t.intervals.index = s.intervals.index + 1 ∧ t.intervals.flags &&& 0x2000 = 0x2000 ∧ t.intervals.window = [])

/-- The meter self-test takes bays that are not energised, bound or enabled, clears their test registers and runs its first step;
each step's end reports a verdict for every bay, and the last completes the command and gives the bays back; a stream fault is
recorded and stops an energised bay, and after eight clean cycles it clears, on the references too (R43, R60 to R63).
It rests on the choices of the model in log entries 4, 89, 104, 155, 156 and 158. -/
def Obligations.MeterChecksRun : Prop :=
  ∀ (s : State),
    (∀ (h : Hdr) (pl : Bytes), Accepted cmdMeterSelftest h pl s → maskBays (fld pl 0 4) ≠ [] → s.met.test = none →
      (∀ b ∈ maskBays (fld pl 0 4), (s.bay b).isEnergised = false ∧ (s.bay b).ctx = none ∧ (s.bay b).enabled = false) →
      Completes (.meterSelftest h pl) cmdMeterSelftest h pl s fun u =>
        pending (beginStep (maskBays (fld pl 0 4)) 1 (callOf cmdMeterSelftest h).ref
          ((maskBays (fld pl 0 4)).foldl (fun a b => a.modBay b fun y => { y with meter := { y.meter with
            testRegs := List.replicate 45 0 } }) u))) ∧
    (∀ t, s.met.test = some t → t.stepEnd ≤ s.time.osc → outputsDriven s = true → t.step < 4 → t.bays ≠ [] →
      exec .selftestStepEnd s = .next (beginStep t.bays (t.step + 1) t.cmd (t.bays.foldl (fun a b =>
        ntfBayFull b 6 (le 1 t.step ++ le 1 (bit (stepPass s b t.step)) ++ le 2 0 ++ le 8 (pattern 64 (stepValue s b t.step)))
          none 0 a) s))) ∧
    (∀ t, s.met.test = some t → t.stepEnd ≤ s.time.osc → outputsDriven s = true → t.step = 5 →
      let bays := t.bays.filter fun b => s.meterMode b != 2
      exec .selftestStepEnd s = .next (endTest t.bays (bays.foldl (fun a b =>
        ntfBayFull b 6 (le 1 5 ++ le 1 (bit (stepPass s b 5)) ++ le 2 0 ++ le 8 (pattern 64 (stepValue s b 5)))
          (if bays.getLast? = some b then some t.cmd else none) (if bays.getLast? = some b then stOk else 0) a) s))) ∧
    (∀ b k marked u, b < 32 → k < 8 → metersRun s = true → (usedStreams (s.meterMode b)).contains k = true →
      (s.bay b).meter.faults.getD k false = false →
      marked = s.modBay b (fun y => { y with meter := { y.meter with
        faults := setAt y.meter.faults k true, faultClear := setAt y.meter.faultClear k 0, faultSeen := setAt y.meter.faultSeen k true } }) →
      u = record 0x0202 (source 1 b) 1 (le 4 s.clk.cycle.toNat ++ le 4 (statusBase marked b))
          (ntfBay b 3 ([byte k, 1, 0, 0] ++ le 4 s.clk.cycle.toNat) marked) →
      exec (.streamFault (8 * b + k)) s = .next
        (if (s.bay b).isEnergised = true ∧ outputsDriven s = true then safeStop b 9 5 false u else evaluateBay b u)) ∧
    (∀ k, k < 4 → metersRun s = true → ∃ t, exec (.streamFault (256 + k)) s = .next t ∧
      t = { s with met := { s.met with refFaults := setAt s.met.refFaults k true, refClear := setAt s.met.refClear k 0,
                                       refSeen := setAt s.met.refSeen k true }, clk := t.clk } ∧
      (k = 0 → t.clk = { s.clk with refFault := true, goodCycles := 0 }) ∧ (k ≠ 0 → t.clk = s.clk)) ∧
    (∀ b k, b < 32 → k < 8 → (s.bay b).meter.faults.getD k false = true → 8 ≤ (s.bay b).meter.faultClear.getD k 0 →
      exec (.streamFaultClear (8 * b + k)) s = .next (evaluateBay b (ntfBay b 3 ([byte k, 0, 0, 0] ++ le 4 s.clk.cycle.toNat)
        (s.modBay b fun y => { y with meter := { y.meter with faults := setAt y.meter.faults k false } })))) ∧
    (∀ k, k < 4 → 8 ≤ s.met.refClear.getD k 0 → ∃ t, exec (.streamFaultClear (256 + k)) s = .next t ∧
      t = { s with met := { s.met with refFaults := setAt s.met.refFaults k false }, clk := t.clk } ∧
      (k = 0 → t.clk = { s.clk with refFault := false }) ∧ (k ≠ 0 → t.clk = s.clk))

/-- Records: with a usable meter key and a free regular slot the closed session's record is signed and stored, with none free the
store is exhausted and the reserve is used; an acknowledged record's slot is freed after RETAIN_DAYS; RECORD_READ answers the
rendering asked for (R121, R124 to R127).
It rests on the choices of the model in log entries 41, 115, 116, 118 and 167. -/
def Obligations.RecordsSignedAndRead : Prop :=
  ∀ (s : State),
    (∀ c b, c < 256 → (s.ctx c).hd.bay = some b → (s.ctx c).hd.state = .finishing → (s.ctx c).wk.closing.isSome = true →
      metersRun s = true → keyUsable s (meterSlot b) [3] 2 (.engine 0) = true →
      (regularUsed s < 8192 → exec (.recordSign c) s = .next (storeRecord c b false s)) ∧
      (8192 ≤ regularUsed s → reserveUsed (exhaustStore s) < 1024 →
        exec (.recordSign c) s = .next (storeRecord c b true (exhaustStore s)))) ∧
    (∀ seq r, r ∈ s.legal.records → r.seq = seq → r.acked = true → r.free = false →
      r.signedAt + s.field 0x0405 0 16 * 86400000000 ≤ s.time.now →
      let days := s.field 0x0405 0 16
      let freed := s.legal.records.map fun q =>
        if q.seq = seq ∧ q.acked = true ∧ q.free = false ∧ q.signedAt + days * 86400000000 ≤ s.time.now
        then { q with free := true } else q
      exec (.recordSlotFreed seq) s = .next (storeLevel { s with legal := { s.legal with records := freed } })) ∧
    (∀ (h : Hdr) (pl : Bytes) r, Accepted cmdRecordRead h pl s → fld pl 4 1 ≤ 1 →
      s.legal.records.find? (·.seq == fld pl 0 4) = some r →
      (if fld pl 4 1 = 1 then r.ocmf else r.cose) ≠ [] →
      Completes (.recordRead h pl) cmdRecordRead h pl s fun u =>
        let data := if fld pl 4 1 = 1 then r.ocmf else r.cose
        okWith u (le 2 data.length ++ le 2 0 ++ data))

/-- Credentials: a lookup answers the entry of the hash and counts; the statistics are read; a batch begun on the present
version takes changes in order, is committed in one step that raises the version and completes when durable, and lapses after
600 s without data (R196 to R198, R319, R320).
It rests on the choices of the model in log entries 33, 45, 49, 119, 120 and 121. -/
def Obligations.CredentialsUpdated : Prop :=
  ∀ (h : Hdr) (pl : Bytes) (s : State),
    (∀ e, Accepted cmdCredLookup h pl s → 2 ≤ fld pl 0 1 → fld pl 0 1 ≤ 65 → findCred s (credHash (pl.drop 1)) = some e →
      Completes (.credLookup h pl) cmdCredLookup h pl s fun u => okWith (countLookup u) (credBytes e)) ∧
    (Accepted cmdCredStats h pl s → Completes (.credStats h pl) cmdCredStats h pl s fun u =>
      let n := s.creds.live.entries.length
      okWith u (le 4 s.creds.version ++ le 4 n ++ le 4 (min 65536 (min n (Config.stashEntries n))) ++ le 8 s.creds.lookups ++
        le 2 (sat 16 s.creds.chain) ++ le 2 0)) ∧
    (Accepted cmdCredUpdateBegin h pl s → fld pl 0 4 = s.creds.version → fld pl 4 4 ≤ 1048576 → fld pl 8 1 ≤ 1 →
      (s.creds.batch = none ∨ fld pl 8 1 = 1) →
      Completes (.credUpdateBegin h pl) cmdCredUpdateBegin h pl s fun u => ok { u with creds := { s.creds with
        batch := some { size := fld pl 4 4, staged := 0, data := s.creds.live, deadline := s.time.osc + 600000000 } } }) ∧
    (∀ b, Accepted cmdCredUpdateData h pl s → s.creds.batch = some b → (changesOf pl).length ≤ 203 → fld pl 0 4 = b.staged →
      (∀ c ∈ changesOf pl, changeReserved c = true) →
      Completes (.credUpdateData h pl) cmdCredUpdateData h pl s fun u =>
        let r := stageChanges b 0 (changesOf pl)
        { state := { u with creds := { s.creds with batch := some { r.1 with deadline := s.time.osc + 600000000 } } },
          status := r.2.2, data := le 2 r.2.1 ++ le 2 0 }) ∧
    (∀ b, Accepted cmdCredUpdateCommit h pl s → s.creds.batch = some b → b.staged = b.size → s.takesWrites credPartition = true →
      Completes (.credUpdateCommit h pl) cmdCredUpdateCommit h pl s fun u => pending { u with creds := { s.creds with
        live := b.data, version := (s.creds.version + 1) % 2 ^ 32, batch := none, chain := Config.relocationChain b.size,
        commits := s.creds.commits ++ [(s.creds.live, s.creds.version, (callOf cmdCredUpdateCommit h).ref)] } }) ∧
    (∀ d v cmd l, s.creds.commits = (d, v, cmd) :: l →
      exec .credCommitDurable s = .next (notifyFull 0xF001 0 0 ([0xFF, 0, 0, 12, 0xFF, 0, 0, 0] ++ padTo 8 (le 4 ((v + 1) % 2 ^ 32)))
        (some cmd) stOk { s with creds := { s.creds with commits := l } })) ∧
    (∀ b, s.creds.batch = some b → b.deadline ≤ s.time.osc →
      exec .credBatchTimeout s = .next { s with creds := { s.creds with batch := none } })

/-- Plug & Charge: a chain that verifies and whose certificates all have a good response is decided by its EMAID, one that lacks
responses asks the host for them, one that fails a check, a response that is not good included, is denied; PNC_VERIFY decides with the responses supplied, or denies (R162, R194, R195).
It rests on the choices of the model in log entries 41 and 122. -/
def Obligations.PlugAndChargeDecides : Prop :=
  ∀ (s : State),
    (∀ b c chain, b < 32 → outputsDriven s = true → (s.bay b).ctx = some c → (s.bay b).link.link = 3 →
      bits (s.bay b).link.config 3 1 = 1 → (s.ctx c).hd.state = .reserved →
      (chainOk s chain = false ∨ ocspGood s chain (cachedOcsp s chain) = false → exec (.pncChainReceived b chain) s = .next (denyCtx c none s)) ∧
      (chainOk s chain = true → ocspGood s chain (cachedOcsp s chain) = true → ocspMissing s chain (cachedOcsp s chain) = [] →
        exec (.pncChainReceived b chain) s = .next (decideEmaid c chain none (cacheChain chain (cachedOcsp s chain) s))) ∧
      (chainOk s chain = true → ocspGood s chain (cachedOcsp s chain) = true → ocspMissing s chain (cachedOcsp s chain) ≠ [] →
        exec (.pncChainReceived b chain) s = .next (askOcsp c chain (ocspMissing s chain (cachedOcsp s chain))
          ((cacheChain chain (cachedOcsp s chain) s).modWk c fun w => { w with pnc := some { chain := chain } })))) ∧
    (∀ (h : Hdr) (pl : Bytes) w rs, Accepted cmdPncVerify h pl s → (s.ctx (fld pl 0 1)).hd.state ≠ .free →
      (s.ctx (fld pl 0 1)).wk.pnc = some w → ((ocspResponses (fld pl 1 1) (pl.drop 4)).getD []) ++ cachedOcsp s w.chain = rs →
      Completes (.pncVerify h pl) cmdPncVerify h pl s fun u =>
        pending (if chainOk s w.chain = true ∧ ocspGood s w.chain rs = true ∧ ocspMissing s w.chain rs = []
          then decideEmaid (fld pl 0 1) w.chain (some (callOf cmdPncVerify h).ref) (cacheChain w.chain rs u)
          else denyCtxFor (fld pl 0 1) none (some (callOf cmdPncVerify h).ref) (cacheChain w.chain rs u)))

/-- Keys: slots are listed and public points read; KEY_GENERATE draws material, KEY_IMPORT takes a public point or unwraps under
a usable wrapping key, KEY_DERIVE derives from a usable parent, each into an empty slot under a standing parent; KEY_INVALIDATE
erases and orphans; ATTEST answers the HMAC of challenge and input under slot 7 (R334 to R345, R348).
It rests on the choices of the model in log entries 34, 40, 41, 154 and 177. -/
def Obligations.KeysManaged : Prop :=
  ∀ (h : Hdr) (pl : Bytes) (s : State),
    (Accepted cmdKeyList h pl s → fld pl 0 2 ≤ 511 → Completes (.keyList h pl) cmdKeyList h pl s fun u =>
      let l := (s.keys.drop (fld pl 0 2)).take (min (fld pl 2 2) 4080)
      okWith u (le 2 l.length ++ le 2 0 ++ l.flatMap slotBytes)) ∧
    (Accepted cmdKeyGetPublic h pl s → slotBad (fld pl 0 2) = false → (s.key (fld pl 0 2)).state = .valid →
      (eccType (s.key (fld pl 0 2)).type).isSome = true →
      Completes (.keyGetPublic h pl) cmdKeyGetPublic h pl s fun u =>
        let k := s.key (fld pl 0 2)
        okWith u (le 1 k.type ++ [0] ++ le 2 k.point.length ++ k.point)) ∧
    (∀ k, Accepted cmdKeyGenerate h pl s → 4 ≤ fld pl 0 2 → slotBad (fld pl 0 2) = false → isMeterSlot (fld pl 0 2) = false →
      attributes (slice pl 4 16) = k → attributesOk (slice pl 4 16) = true → k.type ≠ 5 → k.type ≠ 6 → k.type ≠ 8 →
      (∀ w, fixedWorlds (fld pl 0 2) = some w → k.worlds = w) → (s.key (fld pl 0 2)).state = .empty → parentOk s k.parent = true →
      Completes (.keyGenerate h pl) cmdKeyGenerate h pl s fun u =>
        let m := (List.range (materialLength k.type)).map (Config.random s.draws)
        ok (fillSlot (fld pl 0 2) k m (pointOf k.type m) { u with draws := s.draws + 1 })) ∧
    (∀ k curve, Accepted cmdKeyImport h pl s → 4 ≤ fld pl 0 2 → fld pl 0 2 ≠ 5 → slotBad (fld pl 0 2) = false →
      isMeterSlot (fld pl 0 2) = false → attributes (slice pl 8 16) = k → attributesOk (slice pl 8 16) = true →
      (∀ w, fixedWorlds (fld pl 0 2) = some w → k.worlds = w) → (s.key (fld pl 0 2)).state = .empty → parentOk s k.parent = true →
      eccType k.type = some (curve, true) → fld pl 2 2 = 0xFFFF → (pl.drop 24).length = pointLength curve →
      (pl.drop 24).head? = some 4 → Config.onCurve curve (pl.drop 24) = true →
      Completes (.keyImport h pl) cmdKeyImport h pl s fun u => ok (fillSlot (fld pl 0 2) k [] (pl.drop 24) u)) ∧
    (∀ k m, Accepted cmdKeyImport h pl s → 4 ≤ fld pl 0 2 → fld pl 0 2 ≠ 5 → slotBad (fld pl 0 2) = false →
      isMeterSlot (fld pl 0 2) = false → attributes (slice pl 8 16) = k → attributesOk (slice pl 8 16) = true →
      (∀ w, fixedWorlds (fld pl 0 2) = some w → k.worlds = w) → (s.key (fld pl 0 2)).state = .empty → parentOk s k.parent = true →
      (∀ curve, eccType k.type ≠ some (curve, true)) → slotBad (fld pl 2 2) = false →
      keyFailure s (fld pl 2 2) [1] 5 (.command h.port h.world) = none →
      Config.aesUnwrap (s.key (fld pl 2 2)).material (pl.drop 24) = some m → m.length = materialLength k.type →
      Completes (.keyImport h pl) cmdKeyImport h pl s fun u => ok (fillSlot (fld pl 0 2) k m (pointOf k.type m) u)) ∧
    (∀ k, Accepted cmdKeyDerive h pl s → slotBad (fld pl 0 2) = false → isMeterSlot (fld pl 0 2) = false →
      attributes (slice pl 4 16) = k → attributesOk (slice pl 4 16) = true → (k.type = 1 ∨ k.type = 2) →
      (∀ w, fixedWorlds (fld pl 0 2) = some w → k.worlds = w) → (s.key (fld pl 0 2)).state = .empty → k.parent ≠ 0x3FF →
      (s.key k.parent).state = .valid → keyFailure s k.parent [1, 2] 4 (.command h.port h.world) = none →
      Completes (.keyDerive h pl) cmdKeyDerive h pl s fun u =>
        ok (fillSlot (fld pl 0 2) k (hkdf (s.key k.parent).material (pl.drop 20)) [] u)) ∧
    (Accepted cmdKeyInvalidate h pl s → 4 ≤ fld pl 0 2 → fld pl 0 2 ≠ 5 → slotBad (fld pl 0 2) = false →
      isMeterSlot (fld pl 0 2) = false → (s.key (fld pl 0 2)).state ≠ .empty →
      Completes (.keyInvalidate h pl) cmdKeyInvalidate h pl s fun u =>
        okWith (invalidateSlot (fld pl 0 2) u).1 (le 2 (invalidateSlot (fld pl 0 2) u).2 ++ le 2 0)) ∧
    (Accepted cmdAttest h pl s → keyFailure s 7 [1, 2] 2 (.command h.port h.world) = none →
      Completes (.attest h pl) cmdAttest h pl s fun u => okWith u (hmac (s.key 7).material (pl ++ attestInput u) ++ attestInput u))

/-- The life cycle moves only along its transitions, in the world and under the condition of each, with a logbook entry first;
the fuse makes a BLANK module MANUFACTURED with its factory keys; the debug port opens by the right answer to its challenge
and a write to the legal domain through it is refused and recorded (R110, R324, R346, R347).
It rests on the choices of the model in log entries 34, 124, 154 and 177. -/
def Obligations.LifecycleMoves : Prop :=
  ∀ (s : State),
    (∀ (h : Hdr) (pl : Bytes) new, Accepted cmdSetLifecycle h pl s → Lifecycle.ofCode (fld pl 0 1) = some new →
      transitionWorld s.life new = some h.world → transitionRefusal s new = none → s.legal.logbook.length < 4096 →
      Completes (.setLifecycle h pl) cmdSetLifecycle h pl s fun u => ok (enterLifecycle new h.world u)) ∧
    (∀ new w t, enterLifecycle new w s = t → t.life = new ∧
      (new = .commissioned ∨ new = .retired → t.power.debugOpen = false ∧ t.power.debugChallenge = none) ∧
      (s.legal.logbook.length < 4096 → t.legal.logbook.length = s.legal.logbook.length + 1)) ∧
    (s.life = .blank → ∃ t, exec .manufacturedFuse s = .next t ∧ t.life = .manufactured ∧ t.intervals.index = 0 ∧
      (t.keys = s.keys.mapIdx fun k x => if k < 6 then factorySlot k else x) ∧ t.bays = s.bays ∧ t.ctxs = s.ctxs ∧
      t.met = s.met ∧ t.params = s.params ∧ t.disp = s.disp ∧ t.chans = s.chans) ∧
    (debugOpenable s = true → exec (.debugPortAccess .openRequest) s = .next { s with
      draws := s.draws + 1, power := { s.power with debugChallenge := some ((List.range 16).map (Config.random s.draws)) } }) ∧
    (∀ c, s.power.debugChallenge = some c → debugOpenable s = true → slotFailure s 4 [1, 2] 3 = none →
      exec (.debugPortAccess (.answer (hmac (s.key 4).material c))) s =
        .next { s with power := { s.power with debugChallenge := none, debugOpen := true } }) ∧
    (∀ a, debugAnswers s = true →
      exec (.debugPortAccess (.writeLegal a)) s = .next (record 0x0204 0 2 (le 1 4 ++ le 3 0 ++ le 4 a) s)) ∧
    exec (.debugPortAccess .read) s = .next s ∧ exec (.debugPortAccess .writeOther) s = .next s

/-- Safety commands: state and check values are read; a load of correct entries with no bay energised replaces both copies in
one step; SAFETY_CONFIRM of the value both copies have confirms the block and every bay is looked at again; a latch whose
condition is gone is cleared (R232 to R236, R248, R249, R321, R322).
It rests on the choices of the model in log entries 107 and 154. -/
def Obligations.SafetyCommandsAnswer : Prop :=
  ∀ (h : Hdr) (pl : Bytes) (s : State),
    (Accepted cmdSafetyGetState h pl s → Completes (.safetyGetState h pl) cmdSafetyGetState h pl s fun u =>
      okWith u (safetyState s)) ∧
    (Accepted cmdSafetyGetCheck h pl s → Completes (.safetyGetCheck h pl) cmdSafetyGetCheck h pl s fun u =>
      okWith u (le 4 (safetyCheck s.safety.sc1Block) ++ le 4 (safetyCheck s.safety.sc2Block) ++ le 1 (bit (confirmedNow s)) ++ le 3 0)) ∧
    (∀ l, Accepted cmdSafetyLoadParams h pl s → loadEntries (fld pl 0 1) (pl.drop 4) = some l → l ≠ [] →
      (∀ e ∈ l, sizeFits e = true ∧ isSafetyObj e.1 = true ∧ safetyObjOk e.1 e.2.2 = true) → namedTwice l = false →
      s.anyEnergised = false →
      Completes (.safetyLoadParams h pl) cmdSafetyLoadParams h pl s fun u => ok (loadBlock l u)) ∧
    (Accepted cmdSiteSafetyConfigure h pl s → safetyObjOk 0x0302 pl = true → s.anyEnergised = false →
      Completes (.siteSafetyConfigure h pl) cmdSiteSafetyConfigure h pl s fun u => ok (loadBlock [(0x0302, 144, pl)] u)) ∧
    (∀ l, (loadBlock l s).safety.sc1Block = s.safety.sc1Block.map (fun o =>
        match l.find? (·.1 == o.id) with | some e => { o with data := e.2.2 } | none => o) ∧
      (s.safety.sc1Block = s.safety.sc2Block → (loadBlock l s).safety.sc1Block = (loadBlock l s).safety.sc2Block)) ∧
    (Accepted cmdSafetyConfirm h pl s → fld pl 0 4 = safetyCheck s.safety.sc1Block → fld pl 0 4 = safetyCheck s.safety.sc2Block →
      Completes (.safetyConfirm h pl) cmdSafetyConfirm h pl s fun u => ok ((List.range 32).foldl (fun a b => evaluateBay b a)
        { u with safety := { s.safety with confirmed := true } })) ∧
    (Accepted cmdSafetyResetFault h pl s → fld pl 0 1 = 2 → fld pl 1 1 = 0 → s.safety.estop = false → s.safety.estopLatch = true →
      Completes (.safetyResetFault h pl) cmdSafetyResetFault h pl s fun u => ok (evaluateAll (ntfSafety 3 0 2
        (refreshSafeOut { u with safety := { s.safety with estopLatch := false } })))) ∧
    (Accepted cmdSafetyResetFault h pl s → fld pl 0 1 = 0 → fld pl 1 1 < 32 → tripLine (s.bay (fld pl 1 1)) = false →
      (s.isDc (fld pl 1 1) = true → (s.bay (fld pl 1 1)).conv.iso < 2) → (s.bay (fld pl 1 1)).safety.sdeLatch = true →
      Completes (.safetyResetFault h pl) cmdSafetyResetFault h pl s fun u =>
        ok (evaluateBay (fld pl 1 1) (ntfSafety 3 (fld pl 1 1) 0 (ackConverter (fld pl 1 1)
          (u.modBay (fld pl 1 1) fun z => { z with safety := { z.safety with sdeLatch := false } })))))

/-- Trips and safe stops on a bay: a tier's timer trips the bay's residual function, whether the contactor is closed or not, and
asserts its line only while the meter tests itself; a gale path whose window of samples reaches a threshold trips it too, and on an open
contactor is recorded; a path is given back after a window of calm samples; excess current, export without permission and
missing metering values stop it safely; a feeder group above its limit for 1 s stops its bays and sets its bit for 2 s (R216
to R218, R224 to R226, R242, R267).
It rests on the choices of the model in log entries 8, 101, 102, 103, 104 and 155. -/
def Obligations.SafetyStopsBays : Prop :=
  ∀ (s : State) (b : Nat), b < 32 → outputsDriven s = true →
    (∀ tier u, residualArmed s b = true → (s.bay b).coil.residual = false →
      tierReached (s.bay b).safety.timers (tierIndex tier) = true →
      u = s.modBay b (fun y => { y with coil := { y.coil with residual := true } }) →
      exec (.residualTierTrip b tier) s = .next (if (s.bay b).meter.underTest then u else sdeTrip b u)) ∧
    (∀ tier, (residualArmed s b = false ∨ (s.bay b).coil.residual = true ∨
        tierReached (s.bay b).safety.timers (tierIndex tier) = false) → exec (.residualTierTrip b tier) s = .next s) ∧
    (∀ e earlier x l, residualArmed s b = true → galePath (s.bay b) e = false →
      l = galeSamples s b ((x :: earlier).take (galeSize s)) → l.length = galeSize s →
      galeAbove 180000 135000 (galeSize s) (sumOf l) (squaresOf l) = true →
      exec (.galeTrip b e earlier x) s = .next (if (s.bay b).coil.on then sdeTrip b (setGale b e true s)
        else record 0x0401 (source 1 b) 3 ([0, byte b, 0, 0] ++ safetyState (setGale b e true s)) (setGale b e true s))) ∧
    (∀ w l, l = galeSamples s b (w.samples.take (2 * galeSize s - 1)) → l.length = 2 * galeSize s - 1 →
      exec (.galeTripRelease b w) s = .next
        (if galeCalm (galeSize s) (sumOf (l.take (galeSize s))) (squaresOf (l.take (galeSize s))) (l.zip (l.drop (galeSize s)))
          then evaluateBay b (setGale b w.engineB false s) else s)) ∧
    ((s.bay b).isEnergised = true → (s.bay b).safety.cutExcess = true ∨ (∃ x ∈ (s.bay b).safety.excess, 1000000 ≤ x) →
      exec (.slcExcess b) s = .next (safeStop b 1 5 false s)) ∧
    ((s.bay b).isEnergised = true → 200000 ≤ (s.bay b).safety.exportUs ∨ 1000 * 2 ^ 32 ≤ (s.bay b).safety.exportE →
      exec (.sdiExportStop b) s = .next (safeStop b 2 5 false s)) ∧
    (s.bayUsed b = true → s.time.cycleOsc + 3000 ≤ s.time.osc →
      exec (.meteringValuesMissing b) s = .next (safeStop b 9 5 false s)) ∧
    (∀ g, g < 4 → 1000000 ≤ s.safety.feederUs.getD g 0 →
      exec (.feederOverloadTrip g) s = .next (stopBays 8 (fun b => s.feeder b == g) { s with safety := { s.safety with
        feederUs := setAt s.safety.feederUs g 0, feederBit := setAt s.safety.feederBit g (some (s.time.osc + 2000000)) } })) ∧
    (∀ g t, g < 4 → s.safety.feederBit.getD g none = some t → t ≤ s.time.osc →
      exec (.feederOverloadBitEnd g) s = .next (evaluateAll { s with safety := { s.safety with
        feederBit := setAt s.safety.feederBit g none } }))

/-- Door, emergency stop and safe outputs: high and low is an open door, low and high a closed one, an equal pair waits and is a
fault after 50 ms; a pressed or discrepant emergency stop latches, drops its pairs and stops every bay; a readback mismatch of
either line latches the pair, energised or not, and a pass of both lines after the reset clears it (R228 to R230, R249).
It rests on the choices of the model in log entries 8, 101, 108 and 163. -/
def Obligations.SafetyInputsAct : Prop :=
  ∀ (s : State), outputsDriven s = true →
    (∀ a, (s.safety.doorOpen ≠ a ∨ s.safety.doorFault = true) →
      exec (.doorChange a (!a)) s = .next (doorReacts (doorStops s) { s with safety := { s.safety with
        doorA := a, doorB := !a, doorOpen := a, doorFault := false, invalidSince := none } })) ∧
    (∀ a, s.safety.invalidSince = none → exec (.doorChange a a) s = .next { s with safety := { s.safety with
      doorA := a, doorB := a, invalidSince := some s.time.osc } }) ∧
    (∀ a b, (a || b) = true → s.safety.estop = false →
      let pressed := refreshSafeOut { s with
        safety := { s.safety with estopA := a, estopB := b, estop := true, estopLatch := true } }
      exec (.estopChange a b) s = .next (stopAll 6 (if s.safety.estopLatch then pressed else ntfSafety 2 0 2 pressed))) ∧
    (exec (.estopChange false false) s = .next (refreshSafeOut { s with
      safety := { s.safety with estopA := false, estopB := false, estop := false } })) ∧
    (∀ t, s.safety.invalidSince = some t → t + 50000 < s.time.osc → s.safety.doorFault = false →
      exec (.safetyInputDiscrepancy false) s = .next (doorReacts (doorStops s) { s with safety := { s.safety with doorFault := true } })) ∧
    (s.safety.estopA ≠ s.safety.estopB → s.safety.estop = false →
      exec (.safetyInputDiscrepancy true) s = .next (pressEstop s)) ∧
    (∀ g line, g < 4 → s.safety.outFault.getD g false = false →
      exec (.safeOutReadback g line false) s = .next (ntfSafety 2 g 4 (ntfSafety 10 g 0 (refreshSafeOut { s with
        safety := { s.safety with outFault := setAt s.safety.outFault g true } })))) ∧
    (∀ g line, g < 4 → s.safety.outFault.getD g false = true →
      exec (.safeOutReadback g line false) s = .next { s with
        safety := { s.safety with outRetest := setAt s.safety.outRetest g 0 } }) ∧
    (∀ g line left, g < 4 → s.safety.outRetest.getD g 0 ≠ 0 →
      left = (s.safety.outRetest.getD g 0 &&& (if line then 1 else 2)) →
      exec (.safeOutReadback g line true) s = .next (if left ≠ 0
        then { s with safety := { s.safety with outRetest := setAt s.safety.outRetest g left } }
        else evaluateAll (ntfSafety 3 g 4 (refreshSafeOut { s with
          safety := { s.safety with outFault := setAt s.safety.outFault g false, outRetest := setAt s.safety.outRetest g 0 } })))) ∧
    (∀ g line, g < 4 → s.safety.outRetest.getD g 0 = 0 → exec (.safeOutReadback g line true) s = .next s)

/-- Peers and cores: a correct frame with the next sequence numbers is accepted, a silent connection to a peer in use is lost, one port
alone for 100 ms is reported; an unconfirmed loss of the cores' enables trips every closed bay; a failed core leaves the other alone or
stops everything, decisions that differ stop the bay and fail the core whose self-test fails, a core rejoins with the block of the
parameter partition, and after 72 h alone new sessions are blocked (R212, R240 to R246, R251, R270).
It rests on the choices of the model in log entries 8, 105, 106, 163, 164 and 177. -/
def Obligations.PeersAndCores : Prop :=
  ∀ (s : State), outputsDriven s = true →
    (∀ b frame key k, netEnabled s = true → safetyKey s 3 = some key → frameSender s key frame = some k →
      let got := count 0x10 (2 + bit b) frame.length s
      ((s.peer k).rxSeq = none → exec (.safetyFrameReceived b frame) s = .next (notePort k b (acceptFrame k (fld frame 12 4) frame got))) ∧
      (∀ last, (s.peer k).rxSeq = some last → 0 < (fld frame 12 4 + 2 ^ 32 - last) % 2 ^ 32 →
        (fld frame 12 4 + 2 ^ 32 - last) % 2 ^ 32 ≤ 64 →
        exec (.safetyFrameReceived b frame) s = .next (notePort k b (acceptFrame k (fld frame 12 4) frame got)))) ∧
    (∀ k, k < 8 → netEnabled s = true → k < peersInUse s → (s.peer k).lost = false →
      (s.peer k).lastAt + 1000 * s.field 0x0302 16 16 ≤ s.time.osc →
      exec (.peerConnectionLost k) s = .next (losePeer k s)) ∧
    (∀ k lost, k < 8 → (s.peer k).up = true → (s.peer k).onePort = false →
      (let quiet (t : Option Nat) : Bool := t.getD (s.peer k).upAt + 100000 ≤ s.time.osc
       quiet (s.peer k).lastA ≠ quiet (s.peer k).lastB ∧ lost = bit (quiet (s.peer k).lastB)) →
      exec (.redundancyLost k) s = .next (ntfTakeover 6 0 lost 2 0 0 (source 7 (2 + lost))
        (ntfSafety 7 k 0 (s.modPeer k fun p => { p with onePort := true })))) ∧
    (∀ c, coreOk s (otherCore c) = true → exec (.coreLoss c true) s = .next s) ∧
    (∀ c, exec (.coreLoss c false) s = .next ((List.range 32).foldl (fun a b => if (a.bay b).coil.on then
      ntfSafety 0 b 0 (trip b 5 false (match (a.bay b).ctx with | some k => finishCtx k 4 7 0x80 errSafety a | none => a)) else a) s)) ∧
    (∀ c cause, coreOk s c = true → coreOk s (otherCore c) = true → ∃ t, exec (.safetyCoreFailure c (.failed cause)) s = .next t ∧
      coreOk t c = false ∧ coreOk t (otherCore c) = true ∧ t.safety.aloneSince = some s.time.osc ∧ t.cont.toSc = s.cont.toSc + 1 ∧
      t = failCore c cause s) ∧
    (∀ c cause, coreOk s c = true → coreOk s (otherCore c) = false → ∃ t, exec (.safetyCoreFailure c (.failed cause)) s = .next t ∧
      t.safety.allLost = true ∧ t.safety.faultN = true ∧ t = failCore c cause s) ∧
    (∀ c b fn p1 p2 u, s.safety.sc1Ok = true → s.safety.sc2Ok = true → u = safeStop b fn 5 (fn == 0) s →
      exec (.safetyCoreFailure c (.differs b fn p1 p2)) s = .next
        (match p1, p2 with
         | true, true => u
         | false, true => failCore .sc1 .selfTest u
         | true, false => failCore .sc2 .selfTest u
         | false, false => failCore .sc2 .selfTest (failCore .sc1 .selfTest u))) ∧
    (∀ c, coreOk s c = false → coreOk s (otherCore c) = true → coreTries s c < 3 →
      let n := coreNumber c
      exec (.coreRejoin c true) s = .next (evaluateAll (ntfTakeover 3 1 n 0 0 0 (source 6 (n + 3)) (ntfSafety 5 n 0 { s with
        safety := { s.safety with sc1Ok := true, sc2Ok := true, sc1Tries := 0, sc2Tries := 0,
                                  sc1Block := if n = 1 then s.safety.stored else s.safety.sc1Block,
                                  sc2Block := if n = 2 then s.safety.stored else s.safety.sc2Block, aloneSince := none, aloneUs := 0, newBlocked := false } })))) ∧
    (s.safety.sc1Ok ≠ s.safety.sc2Ok → s.safety.newBlocked = false → 259200000000 < aloneTime s →
      exec .aloneLimit s = .next (ntfSafety 6 0 0 { s with safety := { s.safety with newBlocked := true } }))

/-- Link commands: PLC_CONFIGURE, V2G_CONFIGURE and SITE_CONFIGURE stage their object when its bytes pass; PLC_GET_LINK answers
the records of the instances named, PLC_TONEMAP_INFO the neighbours asked for, SITE_GET_PEERS the peers heard (R179, R180,
R326, R327, R331).
It rests on the choices of the model in log entries 114 and 147. -/
def Obligations.LinkCommandsAnswer : Prop :=
  ∀ (h : Hdr) (pl : Bytes) (s : State),
    (∀ id l, layout id = some l → (writeWorlds id).contains h.world = true → pl.length ≤ l.size →
      objectOk l (stageBase s h.port id) (overlay (stageBase s h.port id) 0 pl) = true →
      ((stagedOf (s.port h.port) id).isSome = true ∨ (s.port h.port).staging.length < 64) →
      let staged (u : State) : Ans := ok (stage h.port id (overlay (stageBase s h.port id) 0 pl) u)
      (id = 0x0501 → Accepted cmdPlcConfigure h pl s → Completes (.plcConfigure h pl) cmdPlcConfigure h pl s staged) ∧
      (id = 0x0500 → Accepted cmdV2gConfigure h pl s → Completes (.v2gConfigure h pl) cmdV2gConfigure h pl s staged) ∧
      (id = 0x0510 → Accepted cmdSiteConfigure h pl s → Completes (.siteConfigure h pl) cmdSiteConfigure h pl s staged)) ∧
    (Accepted cmdPlcGetLink h pl s → fld pl 0 5 < 2 ^ 33 → Completes (.plcGetLink h pl) cmdPlcGetLink h pl s fun u =>
      let l := (List.range 33).filter fun i => testBit (fld pl 0 5) i
      okWith u (le 1 l.length ++ le 3 0 ++ l.flatMap (linkRecord s))) ∧
    (Accepted cmdPlcTonemapInfo h pl s → Completes (.plcTonemapInfo h pl) cmdPlcTonemapInfo h pl s fun u =>
      let l := (s.mains.neighbours.drop (fld pl 0 1)).take (fld pl 1 1)
      okWith u (le 1 (sat 8 s.mains.neighbours.length) ++ le 3 0 ++ l.flatMap (neighbourEntry s))) ∧
    (Accepted cmdSiteGetPeers h pl s → Completes (.siteGetPeers h pl) cmdSiteGetPeers h pl s fun u =>
      okWith u (le 1 (sat 8 s.sitePeers.length) ++ le 3 0 ++ s.sitePeers.flatMap fun p =>
        le 8 p.serial ++ le 1 p.role ++ le 1 p.links ++ le 2 0 ++ le 4 ((s.time.osc - p.lastAt) / 1000)))

/-- The mains network: a frame counts for its instance and, on mains, for its neighbour; a beacon period begins on every instance at
angle 0 of an even cycle; without beacons for ten periods the lowest serial becomes CCo; a refresh gives a new map, and its third failure in a row
holds the neighbour on ROBO; a neighbour silent for 25 periods goes (R167 to R169, R174 to R178).
It rests on the choices of the model in log entries 8, 113, 168 and 177. -/
def Obligations.MainsNetworkRuns : Prop :=
  ∀ (s : State), outputsDriven s = true →
    (∀ k xs ok st, k < 32 → instanceRuns s k = true → ∃ t, exec (.greenPhyFrame k xs ok st) s = .next t ∧
      (let r := squall s k (s.bay k).link.rms xs
       t = { s with perf := t.perf, bays := s.bays.modify k fun y => { y with link := { y.link with
        rms := r.1, framesOk := y.link.framesOk + bit ok, framesBad := y.link.framesBad + (1 - bit ok),
        erasures := y.link.erasures + r.2.2, retries := (retransmits (s.bay k).link.retries (if ok then st.acks else []).reverse).1 } } })) ∧
    (∀ xs ok st, instanceRuns s 32 = true → s.mains.link ≠ 0 → ∃ t, exec (.greenPhyFrame 32 xs ok st) s = .next t ∧
      t.mains.framesOk = s.mains.framesOk + bit ok ∧ t.mains.framesBad = s.mains.framesBad + (1 - bit ok) ∧
      ReportsOnly { s with mains := t.mains } t) ∧
    (∀ u : State, s.clk.cycle.toNat % 2 = 0 → s.clk.angle = 0 → s.mains.beaconCycle ≠ some s.clk.cycle.toNat →
      u = (List.range 32).foldl (fun a k => if instanceRuns a k
        then a.modBay k fun y => { y with link := { y.link with beacons := y.link.beacons + 1 } } else a)
        (s.modMains fun m => { m with beaconCycle := some s.clk.cycle.toNat }) →
      ((instanceRuns u 32 = false ∨ u.mains.link = 0) → ∀ heard, exec (.beacon heard) s = .next u) ∧
      (instanceRuns u 32 = true → u.mains.link ≠ 0 →
        exec (.beacon none) s = .next (mapsInForce (u.modMains fun m => { m with periods := m.periods + 1 })) ∧
        ∀ b, b.cco = true → u.mains.link ≠ 3 → ∃ t, exec (.beacon (some b)) s = .next t ∧
          t.mains.link = 2 ∧ t.mains.ccoSerial = b.station ∧ t.mains.periods = u.mains.periods + 1 ∧
          ReportsOnly { u with mains := t.mains } t)) ∧
    (∀ lower, instanceRuns s 32 = true → s.mains.link ≠ 0 → s.mains.link ≠ 3 → s.mains.ccoHeard + 10 ≤ s.mains.periods →
      (linkKey s 3).isSome = true →
      exec (.ccoElection lower) s = .next (if s.field 0x0501 3 1 = 1 ∧ lower = false
        then { s with mains := { s.mains with link := 3, ccoSerial := serialNum, offsets := [], outOfTol := false } }
        else { s with mains := { s.mains with link := 1, offsets := [], outOfTol := false, ccoHeard := s.mains.periods } })) ∧
    (∀ st n, s.mains.neighbours.find? (·.serial == st) = some n → instanceRuns s 32 = true → extended s = true →
      n.mapped = true → refreshDue s n = true →
      (∀ x, exec (.toneMapRefresh st (some x)) s = .next (s.modNeighbour st fun n => { n with
        fails := 0, pending := some ((soundedMaps s x).1, (soundedMaps s x).2, max x.period (s.mains.periods + 1)) })) ∧
      (n.fails < 2 → exec (.toneMapRefresh st none) s = .next (s.modNeighbour st fun n => { n with fails := n.fails + 1 })) ∧
      (2 ≤ n.fails → exec (.toneMapRefresh st none) s = .next (ntfLink 32 3 st (record 0x0801 (source 4 32) 1 (le 8 st ++ le 1 1)
        (s.modNeighbour st fun n => { n with fails := 0, robo := true }))))) ∧
    (∀ st n, s.mains.neighbours.find? (·.serial == st) = some n → n.lastPeriod + 25 ≤ s.mains.periods →
      exec (.neighbourLost st) s = .next (record 0x0801 (source 4 32) 1 (le 8 st ++ le 1 0)
        { s with mains := { s.mains with neighbours := s.mains.neighbours.filter (·.serial != st) } }))

/-- The vehicle link of a bay: SLAC is answered on a plugged bay without a match, its timeout and a lost link are reported, and
a message that fits the state of the link acts: the application protocol opens a session, its set-up gives a SessionID, a
pause or a stop ends it, and a DC session gives the converter its setpoints (R155, R160, R162 to R166, R169, R182).
It rests on the choices of the model in log entries 8, 109, 110, 112, 168 and 177. -/
def Obligations.VehicleLinksRun : Prop :=
  ∀ (s : State) (b : Nat), b < 32 → outputsDriven s = true →
    ((s.bay b).link.link ≠ 0 → (s.bay b).link.link ≠ 4 → exec (.vehicleLinkLost b) s = .next (loseLink b 2 s)) ∧
    (∀ sounds, (reportedCp (s.bay b).pilot = .b ∨ reportedCp (s.bay b).pilot = .c ∨ reportedCp (s.bay b).pilot = .d) →
      ((s.bay b).state = .occupied ∨ (s.bay b).state = .ready) → (s.bay b).link.link ≠ 2 → (s.bay b).link.link ≠ 3 →
      instanceRuns s b = true →
      exec (.slacParmReq b sounds) s = .next (({ s with draws := s.draws + 1 } : State).modLink b fun l => { l with
        link := 1, nmk := s.draws, profile := attenProfile sounds,
        atten := quotN (attenProfile sounds).sum (max 1 (attenProfile sounds).length), config := num (s.param 0x0500), part := 0 })) ∧
    ((s.bay b).link.link = 1 → exec (.slacTimeout b) s = .next (ntfLink b 1 0 (s.modLink b fun l => { l with link := 0 }))) ∧
    (instanceRuns s b = true → s.cont.ceSilent = none →
      ((s.bay b).link.link = 1 → exec (.v2gMessage b .slacMatch) s = .next (s.modLink b fun l => { l with link := 2 })) ∧
      (∀ curves, (s.bay b).link.link = 2 → curves.any (seccUsable s b) = true →
        exec (.v2gMessage b (.tlsHandshake curves)) s = .next (s.modLink b fun l => { l with tls := true })) ∧
      (∀ curves, (s.bay b).link.link = 2 → curves.any (seccUsable s b) = false →
        exec (.v2gMessage b (.tlsHandshake curves)) s = .next (ntfLink b 0 0 ((refuseSecc b s).modLink b fun l => { l with tls := false }))) ∧
      (∀ iso2, ((s.bay b).link.link = 2 ∨ (s.bay b).link.link = 3) → v2gSetting s b 1 = true → (s.bay b).link.tls = true →
        exec (.v2gMessage b (.appProtocol iso2 true)) s =
          .next (markDirty (s.modLink b fun l => { l with link := 3, part := 20, told := some (s.bay b).pilot.offered }))) ∧
      (∀ m, exec (.v2gMessage b m) s = .next (if messageFits (s.bay b).link.link m then onMessage b m s else s)) ∧
      (∀ c sid, (s.bay b).link.link = 3 → (s.bay b).ctx = some c → (s.ctx c).wk.sessionId ≠ sid →
        exec (.v2gMessage b (.sessionSetup sid)) s = .next (({ s with draws := s.draws + 1 } : State).modWk c fun w =>
          { w with sessionId := (List.range 8).map (Config.random s.draws) })) ∧
      (∀ mv, (s.bay b).link.link = 3 → dcSession s b = true →
        exec (.v2gMessage b (.cableCheck mv)) s = .next (sendSetpoint b (s.modConv b fun v => { v with
          setMode := 1, setMv := mv, setMa := 2000, setMw := sessionMw s b }))) ∧
      ((s.bay b).link.link = 3 → (s.bay b).ctx = none →
        exec (.v2gMessage b .stop) s = .next (markDirty (s.modLink b fun l => { l with
          link := 2, part := 0, tls := false, bpt := false, reqMa := 0, reqMw := 0, told := none }))))

/-- Images come in by UPDATE_BEGIN, UPDATE_DATA and UPDATE_END on one port and world; 600 s without data end the transfer; a
verified image is staged and reported, a refused one is reported with the first check that fails; UPDATE_STATUS answers the
records of all kinds; UPDATE_ABORT takes back a transfer, a staged image or a trial (R353 to R356, R362, R363).
It rests on the choices of the model in log entries 32, 49, 125 and 177. -/
def Obligations.ImagesTransferred : Prop :=
  ∀ (h : Hdr) (pl : Bytes) (s : State),
    (∀ k, Accepted cmdUpdateBegin h pl s → ImageKind.ofCode (fld pl 0 1) = some k → fld pl 4 4 ≤ 33554432 →
      fld pl 4 4 ≤ imageRegion k → s.images.transfer = none → s.images.staged = none →
      Completes (.updateBegin h pl) cmdUpdateBegin h pl s fun u => ok { u with images := { s.images with
        transfer := some { port := some h.port, world := h.world, kind := k, size := fld pl 4 4, data := [],
                           deadline := s.time.osc + 600000000 } } }) ∧
    (∀ t, Accepted cmdUpdateData h pl s → s.images.transfer = some t → t.port = some h.port → t.world = h.world →
      t.verifying = false → fld pl 0 4 = t.data.length → t.data.length + (pl.drop 4).length ≤ t.size →
      Completes (.updateData h pl) cmdUpdateData h pl s fun u => ok { u with images := { s.images with
        transfer := some { t with data := t.data ++ pl.drop 4, deadline := s.time.osc + 600000000 } } }) ∧
    (∀ t, Accepted cmdUpdateEnd h pl s → s.images.transfer = some t → t.port = some h.port → t.world = h.world →
      t.verifying = false →
      Completes (.updateEnd h pl) cmdUpdateEnd h pl s fun u => pending { u with images := { s.images with
        transfer := some { t with verifying := true, cmd := some (callOf cmdUpdateEnd h).ref } } }) ∧
    (∀ t, s.images.transfer = some t → t.verifying = false → t.deadline ≤ s.time.osc →
      exec .updateTransferTimeout s = .next { s with images := { s.images with transfer := none } }) ∧
    (∀ t, s.images.transfer = some t → t.verifying = true → t.sender = none →
      let status := verifyImage s t.kind t.size t.data
      let taken := (askImageKeys s t.kind t.size t.data).modImages fun i => { i with transfer := none }
      exec .imageVerified s = .next (ntfUpdate t.kind 0 status (imageMeta t.data).release [] t.cmd
        (if status = stOk then stageImage t.kind t.data taken else taken))) ∧
    (∀ t, s.images.transfer = some t → t.verifying = true → t.sender.isSome = true → verifyImage s t.kind t.size t.data ≠ stOk →
      exec .imageVerified s = .next ((askImageKeys s t.kind t.size t.data).modImages fun i => { i with transfer := none })) ∧
    (∀ t, s.images.transfer = some t → t.verifying = true → t.sender.isSome = true → verifyImage s t.kind t.size t.data = stOk →
      let taken := ntfUpdate t.kind 5 stOk (imageMeta t.data).release [] none
        (stageImage t.kind t.data ((askImageKeys s t.kind t.size t.data).modImages fun i => { i with transfer := none }))
      exec .imageVerified s = .next (match successor taken with
        | some k => if taken.images.forward = none then startForward t.kind k none taken else taken
        | none => taken)) ∧
    (Accepted cmdUpdateStatus h pl s → Completes (.updateStatus h pl) cmdUpdateStatus h pl s fun u =>
      okWith u ([ImageKind.app, .link, .safe, .rdr, .disp].flatMap (imageRecord s))) ∧
    (∀ k, Accepted cmdUpdateAbort h pl s → ImageKind.ofCode (fld pl 0 1) = some k →
      ((s.image k).state = .trial →
        Completes (.updateAbort h pl) cmdUpdateAbort h pl s fun u => ok (u.modImage k fun i => { i with aborted := true })) ∧
      ((s.image k).state = .idle → s.images.transfer = none → stagedOfKind s k = true →
        Completes (.updateAbort h pl) cmdUpdateAbort h pl s fun u => ok { u with images := { s.images with staged := none } }) ∧
      (∀ t, (s.image k).state = .idle → s.images.transfer = some t → t.kind = k → t.cmd = none →
        Completes (.updateAbort h pl) cmdUpdateAbort h pl s fun u => ok { u with images := { s.images with transfer := none } }))

/-- Activation: a kind with a candidate image, no other kind busy, fitting releases and its procedure's condition is activating;
when its procedure has run it is on trial; a trial pinged and not struck is confirmed and raises the floor; a cause of R362
brings the previous image back (R359 to R363).
It rests on the choices of the model in log entries 32, 98, 126, 127 and 166. -/
def Obligations.ImagesActivated : Prop :=
  ∀ (s : State),
    (∀ (h : Hdr) (pl : Bytes) k m, Accepted cmdUpdateActivate h pl s → ImageKind.ofCode (fld pl 0 1) = some k →
      candidateImage s k = some m → (s.image k).state ≠ .activating → otherKindBusy s k = false → releasesFit s k m = true →
      k ≠ .app → kindRefusal s k = none →
      Completes (.updateActivate h pl) cmdUpdateActivate h pl s fun u => pending (u.modImage k fun x => { x with
        state := .activating, cmd := some (callOf cmdUpdateActivate h).ref, fromStaged := stagedOfKind s k, trialEnd := none })) ∧
    (∀ (h : Hdr) (pl : Bytes) m, Accepted cmdUpdateActivate h pl s → fld pl 0 1 = 0 → candidateImage s .app = some m →
      (s.image .app).state ≠ .activating → otherKindBusy s .app = false → releasesFit s .app m = true →
      m.stateFmt = (s.image .app).active.stateFmt → s.cont.ceVan = .ready →
      Completes (.updateActivate h pl) cmdUpdateActivate h pl s fun u => pending (isolateVan (u.modImage .app fun x => { x with
        state := .activating, cmd := some (callOf cmdUpdateActivate h).ref, fromStaged := stagedOfKind s .app, trialEnd := none }))) ∧
    (∀ k m, controlRuns s = true → (s.image k).state = .activating → (s.image k).byRestart = false → activatedImage s k = some m →
      (k = .app → m.stateFmt = (s.image k).active.stateFmt ∧ 8 ≤ s.cont.ceFollowed ∧ plannedDue s = true) →
      (k ≠ .app → kindRefusal s k = none) →
      exec (.activationComplete k) s = .next (enterTrial k (runProcedure k .ready (switchBank k m s)))) ∧
    (∀ m, controlRuns s = true → (s.image .app).state = .activating → (s.image .app).byRestart = false →
      activatedImage s .app = some m → m.stateFmt ≠ (s.image .app).active.stateFmt → s.anyEnergised = false →
      exec (.activationComplete .app) s = .next (beginReset false
        ((switchBank .app m s).modImage .app fun x => { x with byRestart := true, cmd := none }))) ∧
    (∀ k, controlRuns s = true → (s.image k).state = .trial → (s.image k).pinged = true → (s.image k).struck = false →
      (s.image k).aborted = false → s.dueOpt (s.image k).trialEnd = false → k ≠ .app →
      exec (.imageConfirmed k) s = .next (ntfUpdate k 2 stOk (s.image k).active.release [] none
        (s.modImage k fun x => { x with state := .idle, trialEnd := none, floor := max x.floor x.active.secVer }))) ∧
    (controlRuns s = true → (s.image .app).state = .trial → (s.image .app).pinged = true → (s.image .app).struck = false →
      (s.image .app).aborted = false → s.dueOpt (s.image .app).trialEnd = false → s.cont.ceVan = .ready →
      exec (.imageConfirmed .app) s = .next (ntfUpdate .app 2 stOk (s.image .app).active.release [] none
        ((s.modImage .app fun x => { x with state := .idle, trialEnd := none, floor := max x.floor x.active.secVer }).modCont fun c =>
          { c with ceVan := .recoupling, ceFollowed := 0 }))) ∧
    (∀ k fault cause, controlRuns s = true → fallbackCause s k fault = some cause → kindRefusal s k = none →
      exec (.imageFallback k fault) s = .next (ntfFallback k cause (runProcedure k .recoupling (returnBank k s))))

/-- The update consist: the list of serials is set; a staged image goes to the successor one forward at a time; delivery
completes it, every 30 s it is tried again, after 120 s the serial is skipped; an image that comes in from a sender is taken up
for verification where none is open or staged (R364, R365).
It rests on the choices of the model in log entries 125 and 177. -/
def Obligations.ImagesForwarded : Prop :=
  ∀ (s : State),
    (∀ (h : Hdr) (pl : Bytes), Accepted cmdConsistConfigure h pl s → 1 ≤ fld pl 0 1 → fld pl 0 1 ≤ 64 →
      Completes (.consistConfigure h pl) cmdConsistConfigure h pl s fun u => ok { u with images := { s.images with
        consist := (List.range (fld pl 0 1)).map fun k => fld pl (4 + 8 * k) 8 } }) ∧
    (∀ (h : Hdr) (pl : Bytes) k t, Accepted cmdUpdateForward h pl s → ImageKind.ofCode (fld pl 0 1) = some k →
      successor s = some t → stagedOfKind s k = true → s.images.forward = none →
      Completes (.updateForward h pl) cmdUpdateForward h pl s fun u => pending { u with images := { s.images with
        forward := some { kind := k, target := t, started := s.time.osc, lastTry := s.time.osc,
                          cmd := some (callOf cmdUpdateForward h).ref } } }) ∧
    (∀ f serial, s.images.forward = some f → s.images.consist[f.target]? = some serial → siteCarries s = true →
      exec (.forwardDelivered serial) s = .next (ntfUpdate f.kind 4 stOk (stagedRelease s) (le 8 serial) f.cmd
        (countSite 0x11 (siteLinks s) { s with images := { s.images with forward := none } }))) ∧
    (∀ f, s.images.forward = some f → s.time.osc < f.started + 120000000 → f.lastTry + 30000000 ≤ s.time.osc →
      exec .forwardRetry s = .next { s with images := { s.images with forward := some { f with lastTry := s.time.osc } } }) ∧
    (∀ f, s.images.forward = some f → f.started + 120000000 ≤ s.time.osc → f.target + 1 < s.images.consist.length →
      exec .forwardRetry s = .next (startForward f.kind (f.target + 1) f.cmd
        (ntfUpdate f.kind 4 errState (stagedRelease s) (le 8 (s.images.consist.getD f.target 0)) none s))) ∧
    (∀ sender k d, controlRuns s = true → siteCarries s = true → siteRole s ≠ 0 → (siteKey s 3).isSome = true → s.images.transfer = none →
      s.images.staged = none → d.length ≤ imageRegion k →
      let t : Transfer := { port := none, world := 0, kind := k, size := d.length, data := d,
                            deadline := s.time.osc + 600000000, verifying := true, sender := some sender }
      exec (.consistImageReceived sender k d) s = .next (countSite 0x10 (siteLinks s) { s with
        images := { s.images with transfer := some t } }))

/-- Engine pairs: a takeover of the metering pair lets the brake van replay the cycle, the last pair lost stops metering with
FAULT_N; a takeover of the control pair replays the journal, which a checkpoint empties every 10 ms and after a TLS record; with no control pair left
the watchdog resets the module after 100 ms (R259, R262, R263, R275, R276).
It rests on the choices of the model in log entries 25, 92, 96, 98 and 165. -/
def Obligations.PairsTakeOver : Prop :=
  ∀ (s : State),
    (∀ cause us, metersRun s = true → s.cont.meVan = .ready → ∃ t, exec (.meTakeover cause us) s = .next t ∧
      t.cont.meB = (!s.cont.meB) ∧ t.cont.toMe = s.cont.toMe + 1 ∧ t.met.takenOver = true ∧ t.met.regs = s.met.regs ∧
      t = takeMetering cause.code us s) ∧
    (metersRun s = true → exec .meteringLost s = .next (loseMetering (s.choice.1 % 5) { s with draws := s.draws + 1 })) ∧
    (∀ us, controlRuns s = true → s.cont.ceVan = .ready → s.clk.angle = 0 → s.cont.journal = [] →
      ∃ t, exec (.ceTakeover .planned us) s = .next t ∧ t.cont.ceB = (!s.cont.ceB) ∧ t.cont.ceVan = .ready ∧
        t.cont.toCe = s.cont.toCe + 1 ∧ t = swapControl 5 us .ready s) ∧
    (∀ cause us, cause ≠ .planned → controlRuns s = true →
      exec (.ceTakeover cause us) s = .next (failControl cause.code us s)) ∧
    (∀ cause us, shadowing s = false → s.cont.ceVan ≠ .ready → cause ≠ .planned → controlRuns s = true →
      exec (.ceTakeover cause us) s = .next { s with cont := { s.cont with ceSilent := some s.time.osc } }) ∧
    (controlRuns s = true → (s.cont.checkpointAt + 10000 ≤ s.time.osc ∨ ∃ y ∈ s.bays, y.link.link = 3 ∧ y.link.tls = true) →
      exec .controlCheckpoint s = .next { s with cont := { s.cont with
        journal := [], check := controlCheckpoint s, checkpointAt := s.time.osc
        ceFollowed := if s.cont.ceVan = .recoupling then s.cont.ceFollowed + 1 else 0 } }) ∧
    (∀ t, s.cont.ceSilent = some t → outputsDriven s = true → t + 100000 ≤ s.time.osc →
      exec .moduleWatchdog s = .next (beginReset true s))

/-- Units of the module: a failed cluster's instances move to the spare; a replaced SRAM bank takes a spare of its domain, or
where none is left its engine fails; a faulty NAND block is recorded and retired, and an uncorrectable sector damages the profile ring
alone; a unit that passes its test re-couples, a pair after eight checkpoints, the third failure in a row
leaves it out; a lost regulator phase is reported once (R100, R254, R265, R268, R272, R273).
It rests on the choices of the model in log entries 49, 97, 99, 100, 165 and 169. -/
def Obligations.UnitsFailAndRecouple : Prop :=
  ∀ (s : State), outputsDriven s = true →
    (∀ k cause, k < 10 → gated s k = false → exec (.dspShunt k cause) s = .next (failCluster k cause.code s)) ∧
    (∀ k sp cause, k < 10 → gated s k = false → s.cont.dsp.getD k .out = .ready → s.cont.spare = some sp → sp ≠ k →
      ∃ t, exec (.dspShunt k cause) s = .next t ∧ t.cont.spare = none ∧
        t.cont.cluster = s.cont.cluster.map fun x => if x = some k then some sp else x) ∧
    (∀ bank n, bankRead bank s = true → 0 < s.cont.spares.getD (bankDomain bank) 0 → bank ≠ .sampleBuffer → bank ≠ .checkpoint →
      exec (.bankReplace bank n) s = .next (ntfTakeover 4 0 n 1 0 0 0 { s with cont := { s.cont with
        spares := setAt s.cont.spares (bankDomain bank) (s.cont.spares.getD (bankDomain bank) 0 - 1) } })) ∧
    (∀ n, metersRun s = true → 0 < s.cont.spares.getD 0 0 →
      exec (.bankReplace .checkpoint n) s = .next (ntfTakeover 4 0 n 1 0 0 0 { s with cont := { s.cont with
        spares := setAt s.cont.spares 0 (s.cont.spares.getD 0 0 - 1)
        checkA := if n % 2 = 0 then s.cont.checkB else s.cont.checkA
        checkB := if n % 2 = 0 then s.cont.checkB else s.cont.checkA } })) ∧
    (∀ bank n, bankRead bank s = true → s.cont.spares.getD (bankDomain bank) 0 = 0 →
      exec (.bankReplace bank n) s = .next (bankEngineFault bank s)) ∧
    (∀ n, metersRun s = true → 0 < s.cont.spares.getD 0 0 →
      exec (.bankReplace .sampleBuffer n) s = .next (ntfTakeover 4 0 n 1 0 0 0 { s with
        cont := { s.cont with spares := setAt s.cont.spares 0 (s.cont.spares.getD 0 0 - 1) }, met := { s.met with buffer := [] } })) ∧
    (∀ block part kind, block ∉ s.cont.nandRetired → kind ≠ .uncorrectable →
      ∃ t, exec (.nandBlockFault block part kind) s = .next t ∧ ReportsOnly { s with cont := { s.cont with
        nandRetired := block :: s.cont.nandRetired, nandSpares := s.cont.nandSpares - 1
        nandFailed := if s.cont.nandSpares = 0 then part :: s.cont.nandFailed else s.cont.nandFailed } } t) ∧
    (∀ block part, block ∉ s.cont.nandRetired → part ≠ profilePartition →
      ∃ t, exec (.nandBlockFault block part .uncorrectable) s = .next t ∧ ReportsOnly s t) ∧
    (∀ block, block ∉ s.cont.nandRetired → ∃ t, exec (.nandBlockFault block profilePartition .uncorrectable) s = .next t ∧
      t.intervals.ring.length = s.intervals.ring.length ∧
      ReportsOnly { s with draws := s.draws + 3, intervals := { s.intervals with ring := t.intervals.ring } } t) ∧
    (s.cont.meVan = .recoupling → 8 ≤ s.cont.meFollowed → ∃ t, exec (.reCoupling .me true) s = .next t ∧ ReportsOnly { s with cont := { s.cont with
      meVan := .ready, testFails := setAt s.cont.testFails (bit (!s.cont.meB)) 0 } } t) ∧
    (s.cont.ceVan = .recoupling → shadowing s = false → 8 ≤ s.cont.ceFollowed → ∃ t, exec (.reCoupling .ce true) s = .next t ∧
      ReportsOnly { s with cont := { s.cont with
        ceVan := .ready, testFails := setAt s.cont.testFails (2 + bit (!s.cont.ceB)) 0 } } t) ∧
    (∀ k, k < 10 → s.cont.dsp.getD k .ready = .recoupling → ∃ t, exec (.reCoupling (.cluster k) true) s = .next t ∧
      ReportsOnly { s with cont := { s.cont with dsp := setAt s.cont.dsp k .ready, spare := some (s.cont.spare.getD k),
                                                 testFails := setAt s.cont.testFails (4 + k) 0 } } t) ∧
    (s.cont.meVan = .recoupling → 2 ≤ s.cont.testFails.getD (bit (!s.cont.meB)) 0 →
      ∃ t, exec (.reCoupling .me false) s = .next t ∧ ReportsOnly { s with cont := { s.cont with
        meVan := .out, testFails := t.cont.testFails, meFollowed := 0 } } t) ∧
    (∀ p, p ∉ s.cont.regLost → exec (.regulatorPhaseLost p) s = .next (ntfTakeover 7 0 p 3 0 0 0 (ntfPower 3 (le 1 p)
      { s with cont := { s.cont with regLost := p :: s.cont.regLost } })))

/-- Event records are read from a number on, in the order of their numbers; EVENTS_INFO answers what is held; EVENTS_FILTER sets
the filter with its fixed classes; a record's repeat window ends with FINAL; after a trip everything is flushed, and every 60 s
the final records (R366, R369 to R372, R374).
It rests on the choices of the model in log entries 128 and 139. -/
def Obligations.EventRecordsAnswered : Prop :=
  ∀ (h : Hdr) (pl : Bytes) (s : State),
    (∀ head, Accepted cmdEventsRead h pl s → newestSeq s = head → 0 < fld pl 4 2 → fld pl 0 4 ≠ nextSeq head →
      heldRecords s ≠ [] → fld pl 0 4 ≠ 0 → seqAge head (fld pl 0 4) ≤ oldestAge s →
      Completes (.eventsRead h pl) cmdEventsRead h pl s fun u =>
        let l := takeWhole (min (fld pl 4 2) 65334)
          (inSeqOrder head ((heldRecords s).filter fun r => seqAge head r.seq ≤ seqAge head (fld pl 0 4)))
        okWith u (le 4 head ++ le 2 l.length ++ le 2 0 ++ l.flatMap recordBytes)) ∧
    (Accepted cmdEventsInfo h pl s → Completes (.eventsInfo h pl) cmdEventsInfo h pl s fun u =>
      okWith u (le 4 (oldestSeq s) ++ le 4 (newestSeq s) ++ le 4 (recBytes s.recorder.buffer) ++ le 4 s.recorder.repeatMs)) ∧
    (Accepted cmdEventsFilter h pl s → bits (num pl) 0 16 &&& 0x1D = 0x1D → bits (num pl) 18 14 = 0 → bits (num pl) 48 16 = 0 →
      100 ≤ bits (num pl) 32 16 → bits (num pl) 32 16 ≤ 60000 →
      Completes (.eventsFilter h pl) cmdEventsFilter h pl s fun u => ok { u with recorder := { s.recorder with
        classMask := bits (num pl) 0 16, minSev := bits (num pl) 16 2, repeatMs := bits (num pl) 32 16 } }) ∧
    (∀ seq, exec (.repeatWindowLapse seq) s = .next { s with recorder := { s.recorder with
      buffer := s.recorder.buffer.map fun r =>
        if r.seq = seq ∧ r.lastAt + 1000 * s.recorder.repeatMs ≤ s.time.osc then { r with final := true } else r } }) ∧
    (outputsDriven s = true → s.recorder.flushAll = true → exec .eventFlush s = .next (flushAllRecords s)) ∧
    (outputsDriven s = true → s.recorder.flushAll = false → recBytes s.recorder.buffer < 196608 →
      s.recorder.lastFlush + 60000000 ≤ s.time.osc →
      exec .eventFlush s = .next (flushRecords (·.final) { s with recorder := { s.recorder with lastFlush := s.time.osc } }))

/-- Counters: PERF_CONFIGURE sets one with its value cleared, unless it is the upper half of a chain; PERF_READ answers them to
the service world, and to others while host reading is on and nothing is tested or recovering; PERF_ACCESS sets that; a
window's end takes its count or its maximum (R375, R377, R378, R380).
It rests on the choice of the model in log entry 129. -/
def Obligations.CountersRun : Prop :=
  ∀ (s : State),
    (∀ (h : Hdr) (pl : Bytes) c, Accepted cmdPerfConfigure h pl s → fld pl 0 1 ≤ 63 →
      counterOf (fld pl 0 1) (pl.drop 2) s.time.osc = some c → chainHigh s.perf.counters (fld pl 0 1) = false →
      Completes (.perfConfigure h pl) cmdPerfConfigure h pl s fun u => ok { u with perf := { u.perf with
        counters := setAt u.perf.counters (fld pl 0 1) c } }) ∧
    (∀ (h : Hdr) (pl : Bytes), Accepted cmdPerfRead h pl s → fld pl 0 1 + fld pl 1 1 ≤ 64 →
      (h.world = 1 ∨ (s.perf.hostRead = true ∧ testRuns s = false ∧ recovering s = false)) →
      Completes (.perfRead h pl) cmdPerfRead h pl s fun u =>
        okWith u ((List.range (fld pl 1 1)).flatMap fun k => counterBytes u (fld pl 0 1 + k))) ∧
    (∀ (h : Hdr) (pl : Bytes), Accepted cmdPerfAccess h pl s → fld pl 0 1 ≤ 1 →
      Completes (.perfAccess h pl) cmdPerfAccess h pl s fun u => ok { u with perf := { u.perf with hostRead := fld pl 0 1 == 1 } }) ∧
    (∀ k c, k < 64 → s.perf.counters.getD k {} = c → c.enable = true → 2 ≤ c.mode → c.windowEnd ≤ s.time.osc →
      chainHigh s.perf.counters k = false →
      exec (.perfWindowEnd k) s = .next { s with perf := { s.perf with counters := setAt s.perf.counters k { c with
        value := if c.mode = 2 then c.part % c.limit else max c.value (c.part % c.limit),
        part := 0, windowEnd := c.windowEnd + c.windowUs } } })

/-- Load channels on command and by group: LSW_CONFIGURE stages the channel's object; LSW_SET switches a channel that no bay
holds at once or queues it for its point; LSW_GET answers states; LSW_UNLOCK clears the locks with fresh retries; a group's
undervoltage switches its channels off and its recovery restarts them; an overloaded group sheds (R383, R393 to R397).
It rests on the choices of the model in log entries 8, 131, 132, 161 and 170. -/
def Obligations.LoadsSwitchOnCommand : Prop :=
  ∀ (s : State),
    (∀ (h : Hdr) (pl : Bytes) l id, Accepted cmdLswConfigure h pl s → fld pl 0 1 < 112 → id = 0x0200 + fld pl 0 1 → layout id = some l →
      (writeWorlds id).contains h.world = true → (pl.drop 4).length ≤ l.size →
      objectOk l (stageBase s h.port id) (overlay (stageBase s h.port id) 0 (pl.drop 4)) = true →
      ((stagedOf (s.port h.port) id).isSome = true ∨ (s.port h.port).staging.length < 64) →
      Completes (.lswConfigure h pl) cmdLswConfigure h pl s fun u =>
        ok (stage h.port id (overlay (stageBase s h.port id) 0 (pl.drop 4)) u)) ∧
    (∀ (h : Hdr) (pl : Bytes) p k, Accepted cmdLswSet h pl s → fld pl 0 1 = k → k < 112 → execPoint (pl.drop 8) = some p →
      s.holder k = none →
      (fld pl 1 1 = 0 → p.at_ = false → Completes (.lswSet h pl) cmdLswSet h pl s fun u => ok (commandOff k u)) ∧
      (fld pl 1 1 = 1 → p.at_ = false → chanType s k ≠ 0 → (s.chan k).clampLock = false → (s.chan k).lockedOut = false →
        Completes (.lswSet h pl) cmdLswSet h pl s fun u => ok (hostOn k u)) ∧
      (fld pl 1 1 = 0 → p.at_ = true → pointRefusal s k p.cycle p.cycle p.angle false = none →
        let q : QEntry := { chan := k, bay := none, kind := .lsw false, cycle := p.cycle, angle := p.angle,
                            cmd := some (callOf cmdLswSet h).ref }
        Completes (.lswSet h pl) cmdLswSet h pl s fun u => pending (enqueue q u))) ∧
    (∀ (h : Hdr) (pl : Bytes), Accepted cmdLswGet h pl s → fld pl 0 1 + fld pl 1 1 ≤ 112 →
      Completes (.lswGet h pl) cmdLswGet h pl s fun u =>
        okWith { u with draws := s.draws + 1 } ((List.range (fld pl 1 1)).flatMap fun k => chanStatus s (fld pl 0 1 + k))) ∧
    (∀ (h : Hdr) (pl : Bytes) k, Accepted cmdLswUnlock h pl s → fld pl 0 1 = k → k < 112 →
      (s.chan k).clampLock = true ∨ (s.chan k).lockedOut = true →
      Completes (.lswUnlock h pl) cmdLswUnlock h pl s fun u => ok (restartCommanded k (u.modChan k fun c =>
        { c with clampLock := false, lockedOut := false, retries := chanRetries s k, offs := 0, backoffTo := 0, retryWait := false }))) ∧
    (∀ g, g < 14 → outputsDriven s = true →
      (∀ mv us, mv < 7000 → (s.groups.getD g {}).undervolt = false → exec (.vloadUndervoltage { group := g, mv := mv, us := us }) s = .next ((groupChans g).foldl
        (fun a k => loseSupply k a) (ntfLsw (8 * g) 12 (setUndervolt g true s)))) ∧
      (∀ mv us, 8000 < mv → 10000 ≤ us → (s.groups.getD g {}).undervolt = true → exec (.vloadRecovery { group := g, mv := mv, us := us }) s = .next ((groupChans g).foldl
        (fun a k => restartCommanded k a) (setUndervolt g false s))) ∧
      (∀ l, groupBudget s g < 2 * ((groupChans g).map (chanCurrent s l)).sum →
        exec (.groupOverload g l) s = .next (shedLoop g l 8 (ntfLsw (8 * g) 10 s))))

/-- Load channels protect themselves: a current above A_INR in the inrush window or 2 × I_LIM behind it, or Vds above
3 V, is a short, a mean of 1 s above 1.1 × I_LIM behind the window an overload, and each switches off with its status and a back-off restart; the thermal latch sets at 170 °C and clears at 150 °C; 100 ms below OPEN_MA, or with the channel off above half of VLOAD, show an open load,
and 100 ms above OPEN_MA end it; a due restart
uses a retry, 60 s of conduction refill them; the inrush window ends in its hold (R386, R388, R390 to R392).
It rests on the choices of the model in log entries 8, 28, 38, 130, 132 and 170. -/
def Obligations.LoadsProtectThemselves : Prop :=
  ∀ (s : State) (k : Nat), k < 112 → outputsDriven s = true →
    (∀ ma vds, (s.chan k).out = true →
      ((s.chan k).inrush = true ∧ inrushHalves (chanType s k) (chanLimit s k) < 2 * ma) ∨
        ((s.chan k).inrush = false ∧ 2 * chanLimit s k < ma) ∨ ((s.chan k).onAt + 10 ≤ s.time.osc ∧ 3000 < vds) →
      exec (.short { ch := k, ma := ma, vds := vds }) s = .next (protectiveOff k 1 (fun c => { c with short := true }) s)) ∧
    (∀ charge, (s.chan k).out = true → (s.chan k).inrush = false → 11 * chanLimit s k * 1000000 < 10 * charge →
      exec (.overload { ch := k, charge := charge }) s = .next (protectiveOff k 2 (fun c => { c with overload := true }) s)) ∧
    (∀ tj, 170 ≤ tj → (s.chan k).thermal = false → exec (.thermalLatchSet k tj) s = .next (if (s.chan k).out
      then protectiveOff k 5 (fun c => { c with thermal := true }) s
      else ntfLsw k 5 (s.modChan k fun c => { c with thermal := true }))) ∧
    (∀ tj, tj ≤ 150 → (s.chan k).thermal = true → exec (.thermalLatchClear k tj) s = .next (restartCommanded k
      (ntfLsw k 11 (s.modChan k fun c => { c with thermal := false })))) ∧
    (∀ l vload, chanType s k ≠ 0 → l ≠ [] → (s.chan k).openLoad = false →
      ((s.chan k).out = true ∧ ∀ v ∈ l, v < s.chanField k 32 16) ∨
        ((s.chan k).out = false ∧ s.chanField k 7 1 = 1 ∧ ∀ v ∈ l, vload < 2 * v) →
      exec (.openLoad k { values := l, vload := vload }) s = .next (ntfLsw k 3 (s.modChan k fun c => { c with openLoad := true }))) ∧
    (∀ l vload, chanType s k ≠ 0 → l ≠ [] → (s.chan k).openLoad = true → (s.chan k).out = true →
      (∀ v ∈ l, s.chanField k 32 16 < v) →
      exec (.openLoad k { values := l, vload := vload }) s = .next (ntfLsw k 4 (s.modChan k fun c => { c with openLoad := false }))) ∧
    ((s.chan k).retryWait = true → (s.chan k).cmd = true → (s.chan k).out = false → 0 < retriesLeft s k →
      (s.chan k).backoffTo ≤ s.time.osc → mayConduct s k = true →
      exec (.retry k) s = .next (ntfLsw k 6 (switchOn k (s.modChan k fun c => { c with retries := c.retries - 1 })))) ∧
    ((s.chan k).out = true → (s.chan k).onAt + 60000000 ≤ s.time.osc →
      exec (.retriesRefill k) s = .next (s.modChan k fun c => { c with retries := chanRetries s k, offs := 0 })) ∧
    ((s.chan k).out = true → (s.chan k).inrush = true → (s.chan k).windowTo ≤ s.time.osc →
      exec (.inrushWindowEnd k) s = .next (s.modChan k fun c => { c with
        inrush := false, hold := chanType s k == 4 || chanType s k == 5 }))

/-- The display: DISP_CONFIGURE stages its object; DISP_WRITE draws above the legal region only; DISP_BLINK sets its
rectangles; DISP_GET_CHECK answers the checksums; a pass without a wrong bit counts and keeps the region; the region is drawn
once a second, the error pattern and the check value end in their time, and VCOM toggles while the panel is on (R401 to R408).
It rests on the choices of the model in log entries 43, 133, 170 and 174. -/
def Obligations.DisplayDraws : Prop :=
  ∀ (s : State),
    (∀ (h : Hdr) (pl : Bytes) l, Accepted cmdDispConfigure h pl s → layout 0x0600 = some l →
      (writeWorlds 0x0600).contains h.world = true → pl.length ≤ l.size →
      objectOk l (stageBase s h.port 0x0600) (overlay (stageBase s h.port 0x0600) 0 pl) = true →
      ((stagedOf (s.port h.port) 0x0600).isSome = true ∨ (s.port h.port).staging.length < 64) →
      Completes (.dispConfigure h pl) cmdDispConfigure h pl s fun u =>
        ok (stage h.port 0x0600 (overlay (stageBase s h.port 0x0600) 0 pl) u)) ∧
    (∀ (h : Hdr) (pl : Bytes) x y w ht, Accepted cmdDispWrite h pl s → fld pl 0 2 = x → fld pl 2 2 = y → fld pl 4 2 = w →
      fld pl 6 2 = ht → (pl.drop 8).length = ht * ((w * bitsPerPixel s + 7) / 8) → x + w ≤ panelWidth s → y + ht ≤ legalTop s →
      s.power.failedKinds.getD 4 false = false →
      Completes (.dispWrite h pl) cmdDispWrite h pl s fun u =>
        ok { u with disp := { s.disp with frame := drawRect s x y w ht (pl.drop 8) s.disp.frame } }) ∧
    (∀ (h : Hdr) (pl : Bytes), Accepted cmdDispBlink h pl s → fld pl 0 1 ≤ 8 →
      (∀ k < fld pl 0 1, 5 ≤ fld (slice pl (4 + 12 * k) 12) 8 2 ∧ fld (slice pl (4 + 12 * k) 12) 8 2 ≤ 40 ∧
        zeroAt (slice pl (4 + 12 * k) 12) 10 2 = true) →
      Completes (.dispBlink h pl) cmdDispBlink h pl s fun u => ok { u with disp := { s.disp with
        blinks := (List.range (fld pl 0 1)).map fun k => blinkOf s (slice pl (4 + 12 * k) 12) } }) ∧
    (∀ (h : Hdr) (pl : Bytes), Accepted cmdDispGetCheck h pl s → Completes (.dispGetCheck h pl) cmdDispGetCheck h pl s fun u =>
      okWith u (le 4 (expectedCrc s) ++ le 4 s.disp.lastCrc ++ le 4 s.disp.lastLegal ++ le 4 s.disp.passes)) ∧
    (displayRuns s = true → panelOn s = true → s.disp.lastPass + 1000000 / max 1 (s.dispField 48 8) ≤ s.time.osc →
      (∀ a b, exec (.refreshPass a b) s = .next (refreshPass a b s)) ∧
      exec (.refreshPass 0 0) s = .next { s with disp := { s.disp with
        lastCrc := expectedCrc s, lastLegal := crc32c (legalBytes s), passes := (s.disp.passes + 1) % 2 ^ 32, lastPass := s.time.osc } }) ∧
    (displayRuns s = true → s.disp.lastRender + 1000000 ≤ s.time.osc → exec .legalRegionRender s = .next { s with
      disp := { s.disp with legalText := legalLines s, lastRender := s.time.osc } }) ∧
    (s.dueOpt s.disp.patternTo = true →
      exec .errorPatternEnd s = .next (renderLegal { s with disp := { s.disp with patternTo := none } })) ∧
    (s.dueOpt s.disp.scUntil = true → exec .scDisplayEnd s = .next { s with disp := { s.disp with scUntil := none } }) ∧
    (panelOn s = false ∨ s.power.state = .off → exec .vcomToggle s = .next { s with disp := { s.disp with vcom := false } }) ∧
    (panelOn s = true → s.power.state ≠ .off → s.disp.vcomAt + vcomPeriod s ≤ s.time.osc →
      exec .vcomToggle s = .next { s with disp := { s.disp with vcom := !s.disp.vcom, vcomAt := s.time.osc } })

/-- Card readers: RDR_CONFIGURE stages its port's object; RDR_POLL starts a poll, RDR_TRANSCEIVE answers a selected card's
response; pings build the baseline, follow it, and detect after a second deviation; a poll ends without a card or with one,
which a ping's poll authorises with AUTO; a card is released in time (R410 to R415).
It rests on the choices of the model in log entries 38, 134, 170 and 175. -/
def Obligations.ReadersFindCards : Prop :=
  ∀ (s : State),
    (∀ (h : Hdr) (pl : Bytes) l id, Accepted cmdRdrConfigure h pl s → fld pl 0 1 < 4 → id = 0x0610 + fld pl 0 1 → layout id = some l →
      (writeWorlds id).contains h.world = true → (pl.drop 4).length ≤ l.size →
      objectOk l (stageBase s h.port id) (overlay (stageBase s h.port id) 0 (pl.drop 4)) = true →
      ((stagedOf (s.port h.port) id).isSome = true ∨ (s.port h.port).staging.length < 64) →
      Completes (.rdrConfigure h pl) cmdRdrConfigure h pl s fun u =>
        ok (stage h.port id (overlay (stageBase s h.port id) 0 (pl.drop 4)) u)) ∧
    (∀ (h : Hdr) (pl : Bytes) k, Accepted cmdRdrPoll h pl s → fld pl 0 1 = k → k < 4 → fld pl 1 1 ≤ 7 → 1 ≤ fld pl 2 2 →
      fld pl 2 2 ≤ 60000 → portWorks s k = true → (s.reader k).pollTo = none →
      Completes (.rdrPoll h pl) cmdRdrPoll h pl s fun u =>
        pending (startPoll k (fld pl 1 1) (1000 * fld pl 2 2) (some (callOf cmdRdrPoll h).ref) u)) ∧
    (∀ (h : Hdr) (pl : Bytes) k card a, Accepted cmdRdrTransceive h pl s → fld pl 0 1 = k → k < 4 → (s.reader k).pollTo = none →
      (s.reader k).card = some card → 0 < fld pl 2 2 → Config.cardAnswer s.draws (pl.drop 4) = some a →
      Completes (.rdrTransceive h pl) cmdRdrTransceive h pl s fun u =>
        okWith (({ u with draws := s.draws + 1 } : State).modReader k fun r => { r with releaseAt := s.time.osc + 2000000 })
          (le 2 (a.take 1024).length ++ le 2 0 ++ a.take 1024)) ∧
    (∀ k amp phase u, k < 4 → pingsRun s = true → portWorks s k = true → s.rdrField k 1 1 = 1 → (s.reader k).pollTo = none →
      (s.reader k).card = none → pingDue s k = true → u = s.modReader k (fun r => { r with pingAt := some (pingClock s k / pingPeriod s k) }) →
      ((u.reader k).basePings < 8 → exec (.drizzlePing k amp phase) s = .next (u.modReader k (basePing amp phase))) ∧
      (8 ≤ (u.reader k).basePings → antennaFault (u.reader k) amp = true →
        exec (.drizzlePing k amp phase) s = .next (ntfRdr k 6 none (u.modReader k fun r => { r with stopped := true }))) ∧
      (8 ≤ (u.reader k).basePings → antennaFault (u.reader k) amp = false → deviates u k amp phase = true →
        exec (.drizzlePing k amp phase) s = .next (if (u.reader k).deviating = 0
          then u.modReader k fun r => { r with deviating := 1 }
          else detect k (u.modReader k fun r => { r with deviating := 0 })))) ∧
    (∀ k cmd, k < 4 → outputsDriven s = true → s.dueOpt (s.reader k).pollTo = true → (s.reader k).pollCmd = some cmd →
      exec (.pollComplete k) s = .next (ntfRdrFull k 2 none 0xFF 0 0 0 (some cmd) stOk
        (s.modReader k fun r => { r with pollTo := none, pollCmd := none }))) ∧
    (∀ k, k < 4 → outputsDriven s = true → (s.reader k).releaseAt ≤ s.time.osc →
      exec (.cardRelease k) s = .next (releaseCard k s)) ∧
    (∀ k kind uid, k < 4 → outputsDriven s = true → (s.reader k).pollTo.isSome = true →
      testBit (s.reader k).pollProto (protoBit kind) = true → uidOk kind uid = true →
      let found := ntfRdrFull k 1 (some (kind, uid)) 0xFF 0 0 0 (s.reader k).pollCmd stOk (s.modReader k fun r => { r with
        pollTo := none, pollCmd := none, empties := 0, card := some (kind, uid), releaseAt := s.time.osc + 2000000 })
      exec (.cardFound k kind uid) s = .next (if (s.reader k).pollCmd = none ∧ s.rdrField k 2 1 = 1
        then presentCard k (kind, uid) found else found))

/-- The tag and the host: TAG_READ answers blocks that no field command holds, or holds no longer within 50 ms, TAG_WRITE commits its bytes through both pointer
copies, TAG_CONFIGURE stages the object; block 0 is written anew when what it mirrors has changed, and at power-up both
pointer copies agree on the deciding one (R420, R424 to R426, R428).
It rests on the choices of the model in log entries 39, 47 and 135. -/
def Obligations.TagServesTheHost : Prop :=
  ∀ (h : Hdr) (pl : Bytes) (s : State),
    (Accepted cmdTagRead h pl s → fld pl 1 1 ≤ 15 → fld pl 0 1 + fld pl 1 1 ≤ 256 → tagReachable s = true →
      fieldHolds s (fld pl 0 1) (fld pl 1 1) = false →
      Completes (.tagRead h pl) cmdTagRead h pl s fun u =>
        okWith u ((List.range (fld pl 1 1)).flatMap fun k => s.tag.block (fld pl 0 1 + k))) ∧
    (Accepted cmdTagRead h pl s → fld pl 1 1 ≤ 15 → fld pl 0 1 + fld pl 1 1 ≤ 256 → tagReachable s = true →
      fieldHolds s (fld pl 0 1) (fld pl 1 1) = true →
      Completes (.tagRead h pl) cmdTagRead h pl s fun u =>
        if Config.openChoice s.draws % 2 = 0 then okWith { u with draws := s.draws + 1, tag := { s.tag with fieldLocks := [] } }
          ((List.range (fld pl 1 1)).flatMap fun k => s.tag.block (fld pl 0 1 + k))
        else refuse { u with draws := s.draws + 1 } errBusy) ∧
    (Accepted cmdTagWrite h pl s → fld pl 1 1 + fld pl 2 2 ≤ 256 → 0 < fld pl 0 1 → tagReachable s = true →
      fieldHolds s (fld pl 0 1) 1 = false →
      Completes (.tagWrite h pl) cmdTagWrite h pl s fun u =>
        ok { u with tag := s.tag.commit (s.tag.patched (256 * fld pl 0 1 + fld pl 1 1) (pl.drop 4)) }) ∧
    (∀ l, Accepted cmdTagConfigure h pl s → layout 0x0620 = some l →
      (writeWorlds 0x0620).contains h.world = true → pl.length ≤ l.size →
      objectOk l (stageBase s h.port 0x0620) (overlay (stageBase s h.port 0x0620) 0 pl) = true →
      ((stagedOf (s.port h.port) 0x0620).isSome = true ∨ (s.port h.port).staging.length < 64) →
      Completes (.tagConfigure h pl) cmdTagConfigure h pl s fun u =>
        ok (stage h.port 0x0620 (overlay (stageBase s h.port 0x0620) 0 pl) u)) ∧
    (outputsDriven s = true → tagReachable s = true → s.tagField 5 1 = 1 → mirrorNeeded s = true → fieldHolds s 0 1 = false →
      exec .mirrorUpdate s = .next { s with tag := { s.tag.commit [(0, mirrorBlock s)] with mirrorDue := false } }) ∧
    exec .tagPowerUp s = .next { s with tag := { s.tag with
      ptrA := s.tag.pointer, ptrB := s.tag.pointer, supplyFrom := some s.time.osc } } ∧
    (∀ l, (s.tag.commit l).ptrA = (s.tag.commit l).ptrB ∧ (s.tag.commit l).ptrA.seq = s.tag.pointer.seq + 1 ∧
      (s.tag.commit l).ptrA.good = true)

/-- The tag and the field, while it answers: a file that may be read answers its bytes, one that may be written is committed
and reported, with a status word where not; a challenge of 16 bytes is answered once, the right answer authenticates and a
wrong one counts; an answered command shows the field and its supply; deselecting and a collapse of the field end the session (R418 to R421, R423 to R425, R427).
It rests on the choices of the model in log entries 39, 40, 46, 135 and 170. -/
def Obligations.TagServesTheField : Prop :=
  ∀ (s : State), s.tagField 0 1 ≠ 0 →
    let free : State := { s with draws := s.draws + 1, tag := { s.tag with
      fieldLocks := [], field := 1 + s.reading 0x4000, supplyFrom := some (s.tag.supplyFrom.getD s.time.osc) } }
    (∀ file off len sw, readRefusal s file off len = some sw →
      exec (.tagReadBinary file off len) s = .next (respond [] sw free)) ∧
    (∀ file off len f size, readRefusal s file off len = none → tagFile file = some (f, size) → ∃ t,
      exec (.tagReadBinary file off len) s = .next t ∧ t.tag.response = some
        ((((List.range ((f + off + len - 1) / 256 - (f + off) / 256 + 1)).flatMap fun k =>
          s.tag.block ((f + off) / 256 + k)).drop ((f + off) % 256)).take len, 0x9000) ∧
      t = { free with draws := s.draws + 2, tag := { free.tag with fieldLocks := t.tag.fieldLocks, response := t.tag.response } }) ∧
    (∀ file off data sw, writeRefusal s file off data.length = some sw →
      exec (.tagUpdateBinary file off data) s = .next (respond [] sw free)) ∧
    (∀ file off data f size, writeRefusal s file off data.length = none → tagFile file = some (f, size) → ∃ t,
      exec (.tagUpdateBinary file off data) s = .next t ∧ t.tag.response = some ([], 0x9000) ∧
      t.tag.ptrA = (free.tag.commit (s.tag.patched (f + off) data)).ptrA ∧
      t.tag.phys = (free.tag.commit (s.tag.patched (f + off) data)).phys ∧
      ReportsOnly { s with draws := s.draws + 2, tag := t.tag } t) ∧
    (let c := (List.range 16).map (Config.random (s.draws + 1))
     exec .tagGetChallenge s = .next { s with draws := s.draws + 2, tag := { free.tag with
      challenge := some c, response := some (c, 0x9000) } }) ∧
    (3 ≤ s.tag.wrong → ∀ a, exec (.tagExternalAuthenticate a) s = .next (respond [] 0x6983 free)) ∧
    (∀ c, s.tag.wrong < 3 → s.tagField 16 16 ≠ 0xFFFF → keyFailure s (s.tagField 16 16) [1, 2] 3 (.engine 4) = none →
      s.tag.challenge = some c → exec (.tagExternalAuthenticate (tagAnswer s c)) s = .next { free with tag := { free.tag with
        challenge := none, authed := true, response := some ([], 0x9000) } }) ∧
    exec .tagDeselect s = .next { free with tag := { free.tag with
      authed := false, challenge := none, wrong := if 3 ≤ s.tag.wrong then s.tag.wrong else 0 } } ∧
    exec (.fieldCollapse none) s = .next { s with tag := { s.tag with
      authed := false, challenge := none, wrong := 0, fieldLocks := [], response := none, field := 0, supplyFrom := none } }

/-- Power states: RESET begins a W behind its reply; SET_POWER_STATE goes to ACTIVE, QUIET or, at the next boundary, STANDBY;
a plug-in leaves QUIET; a wake source of the mask begins an S; a supply input below 7.5 V for 1 ms while the other carries the module
is reported, and one at or above 8.5 V for 10 ms that returns to a module in BACKUP begins a P (R310, R429, R433, R434, R436).
It rests on the choices of the model in log entries 35, 136, 138 and 169. -/
def Obligations.PowerStatesChange : Prop :=
  ∀ (s : State),
    (∀ (h : Hdr) (pl : Bytes), Accepted cmdReset h pl s → fld pl 0 1 = 1 ∨ (fld pl 0 1 = 0 ∧ s.anyEnergised = false) →
      Completes (.reset h pl) cmdReset h pl s fun u => ok (beginReset true u)) ∧
    (∀ (h : Hdr) (pl : Bytes), Accepted cmdSetPowerState h pl s → fld pl 4 4 / 32 % 2048 = 0 → fld pl 4 4 / 65536 ≤ 1440 →
      (fld pl 0 1 = 0 → s.power.state = .quiet →
        Completes (.setPowerState h pl) cmdSetPowerState h pl s fun u => ok (enterPower .active u)) ∧
      (fld pl 0 1 = 1 → s.power.state = .active → s.anyEnergised = false →
        Completes (.setPowerState h pl) cmdSetPowerState h pl s fun u => ok (enterPower .quiet u)) ∧
      (fld pl 0 1 = 2 → fld pl 4 4 ≠ 0 → standbyRefused s = false →
        Completes (.setPowerState h pl) cmdSetPowerState h pl s fun u => ok { u with power := { s.power with
          standbyDue := true, wakeMask := fld pl 4 4 % 32, wakeMin := fld pl 4 4 / 65536 } })) ∧
    (outputsDriven s = true → s.power.state = .quiet → s.power.quietExit = true →
      ∃ t, exec .quietExit s = .next t ∧
        ReportsOnly { s with power := { s.power with state := .active, quietExit := false } } t) ∧
    (outputsDriven s = true → s.power.standbyDue = true → s.anyEnergised = false →
      exec .standbyEntry s = .next (enterStandby s)) ∧
    (∀ k, s.power.state = .standby → s.power.starting = none → s.power.flushing = false → k < 5 → testBit s.power.wakeMask k = true →
      exec (.wakeSource k) s = .next { s with power := { s.power with starting := some .s, wokenBy := 2 ^ k } }) ∧
    (∀ mv us, mv < 7500 → 1000 ≤ us → s.power.vsup = true → outputsDriven s = true → s.cont.vsupAOk = true → s.cont.vsupBOk = true →
      exec (.vsupInputChange true { mv := mv, us := us }) s = .next (ntfTakeover 8 0 1 3 0 0 0
        (ntfPower 2 (le 1 1 ++ le 1 0) { s with cont := { s.cont with vsupBOk := false } }))) ∧
    (∀ mv us, 8500 ≤ mv → 10000 ≤ us → s.power.vsup = false → s.power.flushing = false → s.power.state = .backup → s.power.mark = true →
      s.cont.vsupAOk = false →
      exec (.vsupInputChange false { mv := mv, us := us }) s = .next { s with
        power := { s.power with vsup := true, starting := some .p }, cont := { s.cont with vsupAOk := true } })

/-- Power fail and starts: VHOLD at 36 V lets the waiting closes go, below 36 V it holds them; PFAIL begins the flush, whose end is
BACKUP or OFF; a lost VBACKUP is OFF; RESET_N low for 10 µs begins a W, below 5 µs nothing; START carries out the start that is due
(R430, R431, R433, R438 to R445).
It rests on the choices of the model in log entries 137, 139, 140, 141, 146 and 176. -/
def Obligations.PowerFailsAndStarts : Prop :=
  ∀ (s : State),
    (s.power.vsup = true → exec .vholdReady s = .next { s with
      power := { s.power with vholdOk := true }
      queue := s.queue.map (reschedule { s with power := { s.power with vholdOk := true } }) }) ∧
    (∀ mv, mv < 36000 → outputsDriven s = false ∨ s.anyEnergised = false →
      exec (.vholdLow mv) s = .next { s with power := { s.power with vholdOk := false } }) ∧
    (∀ mv, mv < 36000 → outputsDriven s = true → s.anyEnergised = true →
      exec (.vholdLow mv) s = .next (ntfPower 4 (le 4 mv) { s with power := { s.power with vholdOk := false } })) ∧
    (s.power.flushing = false → s.power.vsup = true → s.power.state ≠ .backup → s.power.state ≠ .off →
      exec .pfail s = .next (powerFail s)) ∧
    (∀ n back, s.power.flushing = true → s.power.vsupBack = false → ∃ t, exec (.flushEnd n back) s = .next t ∧
      t.power.flushing = false ∧ t.power.state = (if back then .backup else .off) ∧ t.power.mark = back ∧
      t.recorder.buffer = [] ∧ (back = true → t.tag = s.tag) ∧
      ReportsOnly { s with power := t.power, tag := t.tag, draws := t.draws } t) ∧
    (s.power.state = .backup → s.power.starting = none → exec .vbackupLoss s = .next { s with power := { s.power with
      state := .off, mark := false } }) ∧
    (∀ us, s.power.state = .active ∨ s.power.state = .quiet ∨ s.power.state = .standby → s.power.starting = none →
      s.power.flushing = false →
      (us < 5 → exec (.resetN us) s = .next s) ∧ (10 ≤ us → exec (.resetN us) s = .next (beginReset false s))) ∧
    (∀ m cls, s.power.starting = some cls → exec (.start m) s = .next (startModule cls m s)) ∧
    (∀ m, s.power.starting = none → exec (.start m) s = .next s)

/-- What the host ports do besides whole commands: a packet with a wrong trailer is answered ERR_CRC and one that fails framing
is counted and dropped; a fragmented command's fragments are gathered in order, the last one runs the command from step 8 of
R281, a fragment out of order drops the reassembly with ERR_PARAM, and 1 000 ms without the next one drop it with ERR_LENGTH; an
SPI transaction takes the oldest waiting packet and a cut one leaves it; the oldest notification is sent; the UART falls back
to 115 200 Bd (R281, R286, R289, R296 to R298, R300).
It rests on the choices of the model in log entries 14, 15, 19, 20, 22, 24 and 178. -/
def Obligations.HostTransportsRun : Prop :=
  ∀ (s : State),
    (∀ p w op tag, hostReady s = true → exec (.hostPacketDiscarded p true w op tag) s =
      .next (replyStatus p w op tag errCrc (count 0x12 p.code 1 s))) ∧
    (∀ w op tag, hostReady s = true → ∃ t, exec (.hostPacketDiscarded .spi false w op tag) s = .next t ∧
      t.spi.framingFail = true ∧ t.spi.outstanding = s.spi.outstanding ∧ t.spi.txQueue = s.spi.txQueue ∧ t.uart = s.uart ∧ TrafficOnly s t) ∧
    (∀ w op tag, exec (.hostPacketDiscarded .uart false w op tag) s =
      .next (if hostReady s then count 0x12 1 1 s else s)) ∧
    (∀ (h : Hdr) op (pl : Bytes), hostReady s = true → answers s op = true → pl.length = 4084 → h.version = 1 → h.flags = 0 →
      h.tag ≠ 0 → dupOf (s.port h.port) h.tag = none → (s.port h.port).outstanding.contains h.tag = false →
      (s.port h.port).outstanding.length < 64 → (s.port h.port).reassembly = none →
      ∃ t, exec (.fragment h op 0 true pl) s = .next t ∧
        (t.port h.port).reassembly = some { tag := h.tag, op := op, world := h.world, next := 1, data := pl,
                                            deadline := s.after 1000000 } ∧
        h.tag ∈ (t.port h.port).outstanding ∧ (t.port h.port).lastTx = (s.port h.port).lastTx ∧
        (t.port h.port).txQueue = (s.port h.port).txQueue ∧ TrafficOnly s t) ∧
    (∀ (h : Hdr) op frag (pl : Bytes) (r : Reassembly), hostReady s = true → answers s op = true → h.version = 1 → h.flags = 0 →
      h.tag ≠ 0 → 0 < frag → frag < 16 → (s.port h.port).reassembly = some r → r.tag = h.tag → r.op = op → r.world = h.world →
      let u := touchWorld { port := h.port, world := h.world, op := op, tag := h.tag } (arrived h.port pl.length s)
      (pl.length = 4084 → frag = r.next →
        ∃ t, exec (.fragment h op frag true pl) s = .next t ∧
          (t.port h.port).reassembly = some { r with next := frag + 1, data := r.data ++ pl, deadline := s.after 1000000 } ∧
          (t.port h.port).outstanding = (s.port h.port).outstanding ∧ TrafficOnly s t) ∧
      (pl.length ≤ 4084 → frag = r.next →
        exec (.fragment h op frag false pl) s = .next (completeFragments h op (r.data ++ pl) u)) ∧
      (pl.length = 4084 → frag ≠ r.next →
        exec (.fragment h op frag true pl) s = .next (replyStatus h.port h.world op h.tag errParam (dropReassembly h.port u)))) ∧
    (∀ p (r : Reassembly), hostReady s = true → (s.port p).reassembly = some r → s.due r.deadline = true →
      exec (.reassemblyTimeout p) s = .next (replyStatus p r.world r.op r.tag errLength (dropReassembly p s))) ∧
    (∀ n, hostReady s = true → n = 0 ∨ (16 ≤ n ∧ n ≤ 4100) → ∃ t, exec (.spiTransaction n false) s = .next t ∧
      t.spi.lastTx = s.spi.txQueue.take 1 ∧ t.spi.txQueue = s.spi.txQueue.drop 1 ∧ t.spi.framingFail = false ∧
      t.spi.lastHead = ((s.spi.txQueue.head?.map packetLen).getD 0, bit s.spi.framingFail) ∧
      t.spi.wire = misoBytes n (bit s.spi.framingFail) s.spi.txQueue.head? ∧ TrafficOnly s t) ∧
    (∀ n, hostReady s = true → ∃ t, exec (.spiTransaction n true) s = .next t ∧ t.spi.txQueue = s.spi.txQueue ∧
      t.spi.framingFail = (n != 0) ∧ TrafficOnly s t) ∧
    (∀ p (n : Ntf) rest, hostReady s = true → (s.port p).ntfQueue = n :: rest → ∃ t, exec (.notificationSend p) s = .next t ∧
      (t.port p).ntfQueue = rest ∧
      (p = .uart → t.uart.lastTx = ntfPackets n ∧ t.uart.wire = (ntfPackets n).flatMap uartBytes) ∧ (p = .spi → t.spi.txQueue = s.spi.txQueue ++ ntfPackets n) ∧ TrafficOnly s t) ∧
    (∀ d, s.uartRate.fallbackWait = some d → s.due d = true → exec .uartBaudFallback s =
      .next { s with uartRate := { baud := 115200, fallbackWait := none, fallenBack := true } })

/-- The block takes the command at the front of its queue and answers what its meaning answers on the queue's rest. With none
waiting one microsecond passes: that is the model's choice (log entry 2), not a rule of the spec. -/
def Obligations.StepsTakeTheFront : Prop :=
  ∀ (s : State),
    (∀ c rest, s.pending = c :: rest → step s = exec c (s.queueing rest)) ∧
    (s.pending = [] → ∃ t, step s = .next t ∧ t.time.osc = s.time.osc + 1 ∧
      t = { s with time := t.time, clk := { s.clk with
        angle := t.clk.angle, cycle := t.clk.cycle, angleRem := t.clk.angleRem
        cycleStart := t.clk.cycleStart, halfDone := t.clk.halfDone } }) ∧
    (∀ nbits w, decodeTableWord nbits w = none ∧ s.withFetchWord nbits w = s)

/-- The state right after reset, that of a cold start: every unit that the module has, both memories in canonical form and
empty, cycle 0 and angle 0 in DEAD_RECKON, ACTIVE with no start under way, both ports in world HOST with nothing outstanding,
queued or in their windows, every bay DISABLED with its coil off, every context FREE, every channel off and its command clear,
nothing waiting (R27, R285, R302, R399, R404, R441, R442).
It rests on the choices of the model in log entries 9, 10 and 48. -/
def Obligations.ResetIsAColdStart : Prop :=
  State.reset.Inv ∧ State.reset.disp.frame = [] ∧ State.reset.tag.phys = [] ∧ State.reset.pending = [] ∧
    State.reset.clk.cycle = 0 ∧ State.reset.clk.angle = 0 ∧ State.reset.clk.state = .deadReckon ∧
    State.reset.power.state = .active ∧ State.reset.power.starting = none ∧
    (∀ p, (State.reset.port p).world = .host ∧ (State.reset.port p).outstanding = [] ∧ (State.reset.port p).dups = [] ∧
      (State.reset.port p).ntfQueue = [] ∧ (State.reset.port p).nseq = 0 ∧ (State.reset.port p).reassembly = none) ∧
    (∀ b, (State.reset.bay b).state = .disabled ∧ (State.reset.bay b).coil.on = false) ∧
    (∀ c, (State.reset.ctx c).hd.state = .free) ∧
    (∀ k, (State.reset.chan k).out = false ∧ (State.reset.chan k).cmd = false)

/-- Every step keeps the number of units of each kind and the canonical form of the frame memory and of the tag memory.
It rests on the choice of the model in log entry 48. -/
def Obligations.StepsKeepTheInvariant : Prop :=
  ∀ (s t : State), s.Inv → step s = .next t → t.Inv

/-- Replies: an accepted host command sends one reply on its own port, its status code and then its reply fields, in the fragments
of R287; its tag stays outstanding exactly where the status is PENDING; a state-changing command heads the duplicate window with
its reply and is the newest entry of the journal, another leaves both; nothing else differs from what the command's own rules
leave, but traffic. A command whose world, life-cycle state or door is wrong is answered with that error alone and changes
traffic alone (R280, R281 steps 8 and 9, R282, R284).
It rests on the choices of the model in log entries 16, 17 and 24. -/
def Obligations.CommandsAreAnswered : Prop :=
  ∀ (i : Instr) (c : Command) (h : Hdr) (pl : Bytes) (s : State), hostRow i = some (c, h, pl) →
    (Accepted c h pl s →
      let a := c.body (callOf c h) pl (begun c h pl s)
      let payload := le 2 a.status ++ a.data
      let d : DupEntry := { tag := h.tag, op := c.op, world := h.world, len := pl.length, trailer := trailerOf h c.op 0 false pl,
                            reply := payload }
      let j : JournalEntry := { port := h.port, world := h.world, op := c.op, tag := h.tag, payload := pl, instant := s.time.now,
                                reply := payload }
      ∃ t, exec i s = .next t ∧ TrafficOnly a.state t ∧
        (h.port = .spi → t.spi.txQueue = a.state.spi.txQueue ++ replyPackets h.world c.op h.tag false payload) ∧
        (h.port = .uart → t.uart.lastTx = replyPackets h.world c.op h.tag false payload) ∧
        (a.status ≠ stPending → (t.port h.port).outstanding = (a.state.port h.port).outstanding.filter (· != h.tag)) ∧
        (a.status = stPending → (t.port h.port).outstanding = (a.state.port h.port).outstanding) ∧
        (c.sc = true → (t.port h.port).dups = (d :: (a.state.port h.port).dups).take 256 ∧
          t.cont.journal = a.state.cont.journal ++ [j]) ∧
        (c.sc = false → (t.port h.port).dups = (a.state.port h.port).dups ∧ t.cont.journal = a.state.cont.journal)) ∧
    (∀ e, Screened c h pl s → TagFree h s → dupOf (s.port h.port) h.tag = none → useRefusal c (callOf c h) s = some e →
      ∃ t, exec i s = .next t ∧ TrafficOnly s t ∧
        (h.port = .spi → t.spi.txQueue = s.spi.txQueue ++ replyPackets h.world c.op h.tag false (le 2 e)) ∧
        (h.port = .uart → t.uart.lastTx = replyPackets h.world c.op h.tag false (le 2 e)))

/-- The duplicate window: a packet whose tag, opcode, world, length and trailer equal an entry is answered from the entry, with
DUP set, and nothing is executed; one that differs is a new command, whose old entry leaves the window; the tag of a command
still executing and not yet answered is dropped; a read-only command leaves no entry and no outstanding tag, so that it is
executed anew; the window holds the last 256 (R284). -/
def Obligations.DuplicatesAreAnsweredFromTheWindow : Prop :=
  ∀ (i : Instr) (c : Command) (h : Hdr) (pl : Bytes) (s : State), hostRow i = some (c, h, pl) → Screened c h pl s →
    let came := touchWorld (callOf c h) (arrived h.port pl.length s)
    (∀ d, dupOf (s.port h.port) h.tag = some d → d.op = c.op → d.world = h.world → d.len = pl.length →
      d.trailer = trailerOf h c.op 0 false pl →
      exec i s = .next (reply h.port h.world c.op h.tag true d.reply came)) ∧
    (∀ d, dupOf (s.port h.port) h.tag = some d →
      d.op ≠ c.op ∨ d.world ≠ h.world ∨ d.len ≠ pl.length ∨ d.trailer ≠ trailerOf h c.op 0 false pl →
      exec i s = exec i (s.modPort h.port fun q => { q with dups := q.dups.filter (·.tag != h.tag) })) ∧
    (dupOf (s.port h.port) h.tag = none → (s.port h.port).outstanding.contains h.tag = true →
      exec i s = .next came) ∧
    (Accepted c h pl s → c.sc = true →
      let a := c.body (callOf c h) pl (begun c h pl s)
      ∃ t, exec i s = .next t ∧ (t.port h.port).dups.length ≤ 256 ∧ dupOf (t.port h.port) h.tag =
        some { tag := h.tag, op := c.op, world := h.world, len := pl.length, trailer := trailerOf h c.op 0 false pl,
               reply := le 2 a.status ++ a.data }) ∧
    (Accepted c h pl s → c.sc = false → ∃ t, exec i s = .next t ∧ dupOf (t.port h.port) h.tag = none ∧
      (t.port h.port).outstanding.contains h.tag = false)

/-- Queries only read: a host command that is not state-changing, whatever its packet and its state, changes only traffic and
the model's count of free values; besides, PING marks images on trial, CRED_LOOKUP counts itself, GET_TIME draws a nonce,
TAG_READ outwaits the field's locks (R284, R304, R309 to R317, R425).
It rests on the choices of the model in log entries 11 and 135. -/
def Obligations.QueriesOnlyRead : Prop :=
  ∀ (i : Instr) (c : Command) (h : Hdr) (pl : Bytes) (s : State), hostRow i = some (c, h, pl) → c.sc = false →
    ∃ t, exec i s = .next t ∧
      TrafficOnly { s with
        draws := t.draws
        images := { s.images with kinds := t.images.kinds }
        creds := { s.creds with lookups := t.creds.lookups }
        time := { s.time with nonce := t.time.nonce }
        tag := { s.tag with fieldLocks := t.tag.fieldLocks } } t ∧
      (c.op ≠ cmdPing.op → t.images = s.images) ∧
      (c.op ≠ cmdCredLookup.op → t.creds = s.creds) ∧
      (c.op ≠ cmdGetTime.op → t.time = s.time) ∧
      (c.op ≠ cmdTagRead.op → t.tag = s.tag)

/-- Stores stay inside: DISP_WRITE changes the bytes of its rectangle's rows only, where each bit of the rectangle is the bit of
the data and every other bit is as before; TAG_WRITE changes the 256 bytes of one free physical block only, and the logical block
then reads as before but for the bytes written, while no other logical block changes (R401, R403, R404, R419, R423 to R425).
It rests on the choices of the model in log entries 48 and 135. -/
def Obligations.StoresStayInside : Prop :=
  ∀ (s : State), s.Inv →
    (∀ (h : Hdr) (pl : Bytes), Accepted cmdDispWrite h pl s →
      let x := fld pl 0 2
      let y := fld pl 2 2
      let w := fld pl 4 2
      let n := fld pl 6 2
      let bpp := bitsPerPixel s
      let per := (w * bpp + 7) / 8
      s.power.failedKinds.getD 4 false = false → pl.length - 8 = n * per → x + w ≤ panelWidth s →
      y + n ≤ panelHeight s → y + n ≤ legalTop s → panelWidth s * bpp % 8 = 0 →
      ∃ t, exec (.dispWrite h pl) s = .next t ∧
        (∀ a, (∀ r k, r < n → x * bpp / 8 ≤ k → k < ((x + w) * bpp + 7) / 8 → a ≠ (y + r) * rowBytes s + k) →
          readMem t.disp.frame a = readMem s.disp.frame a) ∧
        (∀ r k, r < n → x * bpp / 8 ≤ k → k < ((x + w) * bpp + 7) / 8 →
          readMem t.disp.frame ((y + r) * rowBytes s + k) =
            blendByte (readMem s.disp.frame ((y + r) * rowBytes s + k)) k (x * bpp) ((x + w) * bpp)
              (((pl.drop 8).drop (r * per)).take per) 0) ∧
        t.tag = s.tag) ∧
    (∀ (h : Hdr) (pl : Bytes), Accepted cmdTagWrite h pl s →
      let n := fld pl 0 1
      let off := fld pl 1 1
      let k := s.tag.freeBlock []
      off + fld pl 2 2 ≤ 256 → n ≠ 0 → tagReachable s = true → fieldHolds s n 1 = false → n < s.tag.pointer.map.length →
      ∃ t, exec (.tagWrite h pl) s = .next t ∧
        (∀ a, a < 256 * k ∨ 256 * k + 256 ≤ a → readMem t.tag.phys a = readMem s.tag.phys a) ∧
        t.tag.block n = overlay (s.tag.block n) off (pl.drop 4) ∧
        (∀ m, m ≠ n → s.tag.pointer.map.getD m 0 ≠ k → t.tag.block m = s.tag.block m) ∧
        t.disp = s.disp)

/-- No command in any world, accepted or not, writes, presets or clears an energy register or a maximum-demand record (R75). -/
def Obligations.CommandsLeaveEnergyRegisters : Prop :=
  ∀ (i : Instr) (c : Command) (h : Hdr) (pl : Bytes) (s : State), hostRow i = some (c, h, pl) →
    ∃ t, exec i s = .next t ∧ t.met.regs = s.met.regs

/-- LSW_UNLOCK: CLAMP_LOCK and LOCKED_OUT are clear afterwards and the retry counter is full; the thermal latch is as before; a
channel that is commanded on is on where its latch is clear, and one whose latch is set is not switched on; with neither flag set
the command is refused with ERR_STATE and changes nothing (R393). -/
def Obligations.UnlockRestoresTheChannel : Prop :=
  ∀ (s : State) (h : Hdr) (pl : Bytes) (k : Nat), Accepted cmdLswUnlock h pl s → fld pl 0 1 = k → k < 112 → s.chans.length = 112 →
    let c := s.chan k
    (c.clampLock = true ∨ c.lockedOut = true →
      ∃ t, exec (.lswUnlock h pl) s = .next t ∧ (t.chan k).clampLock = false ∧ (t.chan k).lockedOut = false ∧
        (t.chan k).retries = chanRetries s k ∧ (t.chan k).thermal = c.thermal ∧
        (c.thermal = true → (t.chan k).out = c.out) ∧
        (c.cmd = true → c.shed = false →
          mayConduct (s.modChan k fun c => { c with clampLock := false, lockedOut := false, thermal := false }) k = true →
          (c.thermal = false → (t.chan k).out = true) ∧
          (c.thermal = true → ∀ tj, tj ≤ 150 → ∃ u, exec (.thermalLatchClear k tj) t = .next u ∧ (u.chan k).out = true)) ∧
        (∀ j, j ≠ k → t.chan j = s.chan j)) ∧
    (c.clampLock = false → c.lockedOut = false →
      Completes (.lswUnlock h pl) cmdLswUnlock h pl s fun u => refuse u errState)
end

