-- ==== Sys2Proof/Laws/State.lean ====
section
/-! SUPPORT. What each named update leaves alone: one lemma per update and field, true by definition. A proof then never unfolds
an update of the state. -/

namespace Sys2Proof.Machine

open Sys2Proof

/-! ### modBay -/

@[simp] theorem State.modBay_life (s : State) (b : Nat) (f : Bay → Bay) : (s.modBay b f).life = s.life := rfl
@[simp] theorem State.modBay_clk (s : State) (b : Nat) (f : Bay → Bay) : (s.modBay b f).clk = s.clk := rfl
@[simp] theorem State.modBay_time (s : State) (b : Nat) (f : Bay → Bay) : (s.modBay b f).time = s.time := rfl
@[simp] theorem State.modBay_power (s : State) (b : Nat) (f : Bay → Bay) : (s.modBay b f).power = s.power := rfl
@[simp] theorem State.modBay_spi (s : State) (b : Nat) (f : Bay → Bay) : (s.modBay b f).spi = s.spi := rfl
@[simp] theorem State.modBay_uart (s : State) (b : Nat) (f : Bay → Bay) : (s.modBay b f).uart = s.uart := rfl
@[simp] theorem State.modBay_uartRate (s : State) (b : Nat) (f : Bay → Bay) : (s.modBay b f).uartRate = s.uartRate := rfl
@[simp] theorem State.modBay_params (s : State) (b : Nat) (f : Bay → Bay) : (s.modBay b f).params = s.params := rfl
@[simp] theorem State.modBay_commits (s : State) (b : Nat) (f : Bay → Bay) : (s.modBay b f).commits = s.commits := rfl
@[simp] theorem State.modBay_ctxs (s : State) (b : Nat) (f : Bay → Bay) : (s.modBay b f).ctxs = s.ctxs := rfl
@[simp] theorem State.modBay_queue (s : State) (b : Nat) (f : Bay → Bay) : (s.modBay b f).queue = s.queue := rfl
@[simp] theorem State.modBay_met (s : State) (b : Nat) (f : Bay → Bay) : (s.modBay b f).met = s.met := rfl
@[simp] theorem State.modBay_intervals (s : State) (b : Nat) (f : Bay → Bay) : (s.modBay b f).intervals = s.intervals := rfl
@[simp] theorem State.modBay_cals (s : State) (b : Nat) (f : Bay → Bay) : (s.modBay b f).cals = s.cals := rfl
@[simp] theorem State.modBay_legal (s : State) (b : Nat) (f : Bay → Bay) : (s.modBay b f).legal = s.legal := rfl
@[simp] theorem State.modBay_creds (s : State) (b : Nat) (f : Bay → Bay) : (s.modBay b f).creds = s.creds := rfl
@[simp] theorem State.modBay_budget (s : State) (b : Nat) (f : Bay → Bay) : (s.modBay b f).budget = s.budget := rfl
@[simp] theorem State.modBay_safety (s : State) (b : Nat) (f : Bay → Bay) : (s.modBay b f).safety = s.safety := rfl
@[simp] theorem State.modBay_cont (s : State) (b : Nat) (f : Bay → Bay) : (s.modBay b f).cont = s.cont := rfl
@[simp] theorem State.modBay_keys (s : State) (b : Nat) (f : Bay → Bay) : (s.modBay b f).keys = s.keys := rfl
@[simp] theorem State.modBay_images (s : State) (b : Nat) (f : Bay → Bay) : (s.modBay b f).images = s.images := rfl
@[simp] theorem State.modBay_recorder (s : State) (b : Nat) (f : Bay → Bay) : (s.modBay b f).recorder = s.recorder := rfl
@[simp] theorem State.modBay_perf (s : State) (b : Nat) (f : Bay → Bay) : (s.modBay b f).perf = s.perf := rfl
@[simp] theorem State.modBay_chans (s : State) (b : Nat) (f : Bay → Bay) : (s.modBay b f).chans = s.chans := rfl
@[simp] theorem State.modBay_groups (s : State) (b : Nat) (f : Bay → Bay) : (s.modBay b f).groups = s.groups := rfl
@[simp] theorem State.modBay_disp (s : State) (b : Nat) (f : Bay → Bay) : (s.modBay b f).disp = s.disp := rfl
@[simp] theorem State.modBay_readers (s : State) (b : Nat) (f : Bay → Bay) : (s.modBay b f).readers = s.readers := rfl
@[simp] theorem State.modBay_tag (s : State) (b : Nat) (f : Bay → Bay) : (s.modBay b f).tag = s.tag := rfl
@[simp] theorem State.modBay_mains (s : State) (b : Nat) (f : Bay → Bay) : (s.modBay b f).mains = s.mains := rfl
@[simp] theorem State.modBay_sitePeers (s : State) (b : Nat) (f : Bay → Bay) : (s.modBay b f).sitePeers = s.sitePeers := rfl
@[simp] theorem State.modBay_canOut (s : State) (b : Nat) (f : Bay → Bay) : (s.modBay b f).canOut = s.canOut := rfl
@[simp] theorem State.modBay_draws (s : State) (b : Nat) (f : Bay → Bay) : (s.modBay b f).draws = s.draws := rfl
@[simp] theorem State.modBay_pending (s : State) (b : Nat) (f : Bay → Bay) : (s.modBay b f).pending = s.pending := rfl

/-! ### modCtx -/

@[simp] theorem State.modCtx_life (s : State) (c : Nat) (f : Ctx → Ctx) : (s.modCtx c f).life = s.life := rfl
@[simp] theorem State.modCtx_clk (s : State) (c : Nat) (f : Ctx → Ctx) : (s.modCtx c f).clk = s.clk := rfl
@[simp] theorem State.modCtx_time (s : State) (c : Nat) (f : Ctx → Ctx) : (s.modCtx c f).time = s.time := rfl
@[simp] theorem State.modCtx_power (s : State) (c : Nat) (f : Ctx → Ctx) : (s.modCtx c f).power = s.power := rfl
@[simp] theorem State.modCtx_spi (s : State) (c : Nat) (f : Ctx → Ctx) : (s.modCtx c f).spi = s.spi := rfl
@[simp] theorem State.modCtx_uart (s : State) (c : Nat) (f : Ctx → Ctx) : (s.modCtx c f).uart = s.uart := rfl
@[simp] theorem State.modCtx_uartRate (s : State) (c : Nat) (f : Ctx → Ctx) : (s.modCtx c f).uartRate = s.uartRate := rfl
@[simp] theorem State.modCtx_params (s : State) (c : Nat) (f : Ctx → Ctx) : (s.modCtx c f).params = s.params := rfl
@[simp] theorem State.modCtx_commits (s : State) (c : Nat) (f : Ctx → Ctx) : (s.modCtx c f).commits = s.commits := rfl
@[simp] theorem State.modCtx_bays (s : State) (c : Nat) (f : Ctx → Ctx) : (s.modCtx c f).bays = s.bays := rfl
@[simp] theorem State.modCtx_queue (s : State) (c : Nat) (f : Ctx → Ctx) : (s.modCtx c f).queue = s.queue := rfl
@[simp] theorem State.modCtx_met (s : State) (c : Nat) (f : Ctx → Ctx) : (s.modCtx c f).met = s.met := rfl
@[simp] theorem State.modCtx_intervals (s : State) (c : Nat) (f : Ctx → Ctx) : (s.modCtx c f).intervals = s.intervals := rfl
@[simp] theorem State.modCtx_cals (s : State) (c : Nat) (f : Ctx → Ctx) : (s.modCtx c f).cals = s.cals := rfl
@[simp] theorem State.modCtx_legal (s : State) (c : Nat) (f : Ctx → Ctx) : (s.modCtx c f).legal = s.legal := rfl
@[simp] theorem State.modCtx_creds (s : State) (c : Nat) (f : Ctx → Ctx) : (s.modCtx c f).creds = s.creds := rfl
@[simp] theorem State.modCtx_budget (s : State) (c : Nat) (f : Ctx → Ctx) : (s.modCtx c f).budget = s.budget := rfl
@[simp] theorem State.modCtx_safety (s : State) (c : Nat) (f : Ctx → Ctx) : (s.modCtx c f).safety = s.safety := rfl
@[simp] theorem State.modCtx_cont (s : State) (c : Nat) (f : Ctx → Ctx) : (s.modCtx c f).cont = s.cont := rfl
@[simp] theorem State.modCtx_keys (s : State) (c : Nat) (f : Ctx → Ctx) : (s.modCtx c f).keys = s.keys := rfl
@[simp] theorem State.modCtx_images (s : State) (c : Nat) (f : Ctx → Ctx) : (s.modCtx c f).images = s.images := rfl
@[simp] theorem State.modCtx_recorder (s : State) (c : Nat) (f : Ctx → Ctx) : (s.modCtx c f).recorder = s.recorder := rfl
@[simp] theorem State.modCtx_perf (s : State) (c : Nat) (f : Ctx → Ctx) : (s.modCtx c f).perf = s.perf := rfl
@[simp] theorem State.modCtx_chans (s : State) (c : Nat) (f : Ctx → Ctx) : (s.modCtx c f).chans = s.chans := rfl
@[simp] theorem State.modCtx_groups (s : State) (c : Nat) (f : Ctx → Ctx) : (s.modCtx c f).groups = s.groups := rfl
@[simp] theorem State.modCtx_disp (s : State) (c : Nat) (f : Ctx → Ctx) : (s.modCtx c f).disp = s.disp := rfl
@[simp] theorem State.modCtx_readers (s : State) (c : Nat) (f : Ctx → Ctx) : (s.modCtx c f).readers = s.readers := rfl
@[simp] theorem State.modCtx_tag (s : State) (c : Nat) (f : Ctx → Ctx) : (s.modCtx c f).tag = s.tag := rfl
@[simp] theorem State.modCtx_mains (s : State) (c : Nat) (f : Ctx → Ctx) : (s.modCtx c f).mains = s.mains := rfl
@[simp] theorem State.modCtx_sitePeers (s : State) (c : Nat) (f : Ctx → Ctx) : (s.modCtx c f).sitePeers = s.sitePeers := rfl
@[simp] theorem State.modCtx_canOut (s : State) (c : Nat) (f : Ctx → Ctx) : (s.modCtx c f).canOut = s.canOut := rfl
@[simp] theorem State.modCtx_draws (s : State) (c : Nat) (f : Ctx → Ctx) : (s.modCtx c f).draws = s.draws := rfl
@[simp] theorem State.modCtx_pending (s : State) (c : Nat) (f : Ctx → Ctx) : (s.modCtx c f).pending = s.pending := rfl

/-! ### modHd -/

@[simp] theorem State.modHd_life (s : State) (c : Nat) (f : CtxHeader → CtxHeader) : (s.modHd c f).life = s.life := rfl
@[simp] theorem State.modHd_clk (s : State) (c : Nat) (f : CtxHeader → CtxHeader) : (s.modHd c f).clk = s.clk := rfl
@[simp] theorem State.modHd_time (s : State) (c : Nat) (f : CtxHeader → CtxHeader) : (s.modHd c f).time = s.time := rfl
@[simp] theorem State.modHd_power (s : State) (c : Nat) (f : CtxHeader → CtxHeader) : (s.modHd c f).power = s.power := rfl
@[simp] theorem State.modHd_spi (s : State) (c : Nat) (f : CtxHeader → CtxHeader) : (s.modHd c f).spi = s.spi := rfl
@[simp] theorem State.modHd_uart (s : State) (c : Nat) (f : CtxHeader → CtxHeader) : (s.modHd c f).uart = s.uart := rfl
@[simp] theorem State.modHd_uartRate (s : State) (c : Nat) (f : CtxHeader → CtxHeader) : (s.modHd c f).uartRate = s.uartRate := rfl
@[simp] theorem State.modHd_params (s : State) (c : Nat) (f : CtxHeader → CtxHeader) : (s.modHd c f).params = s.params := rfl
@[simp] theorem State.modHd_commits (s : State) (c : Nat) (f : CtxHeader → CtxHeader) : (s.modHd c f).commits = s.commits := rfl
@[simp] theorem State.modHd_bays (s : State) (c : Nat) (f : CtxHeader → CtxHeader) : (s.modHd c f).bays = s.bays := rfl
@[simp] theorem State.modHd_queue (s : State) (c : Nat) (f : CtxHeader → CtxHeader) : (s.modHd c f).queue = s.queue := rfl
@[simp] theorem State.modHd_met (s : State) (c : Nat) (f : CtxHeader → CtxHeader) : (s.modHd c f).met = s.met := rfl
@[simp] theorem State.modHd_intervals (s : State) (c : Nat) (f : CtxHeader → CtxHeader) : (s.modHd c f).intervals = s.intervals := rfl
@[simp] theorem State.modHd_cals (s : State) (c : Nat) (f : CtxHeader → CtxHeader) : (s.modHd c f).cals = s.cals := rfl
@[simp] theorem State.modHd_legal (s : State) (c : Nat) (f : CtxHeader → CtxHeader) : (s.modHd c f).legal = s.legal := rfl
@[simp] theorem State.modHd_creds (s : State) (c : Nat) (f : CtxHeader → CtxHeader) : (s.modHd c f).creds = s.creds := rfl
@[simp] theorem State.modHd_budget (s : State) (c : Nat) (f : CtxHeader → CtxHeader) : (s.modHd c f).budget = s.budget := rfl
@[simp] theorem State.modHd_safety (s : State) (c : Nat) (f : CtxHeader → CtxHeader) : (s.modHd c f).safety = s.safety := rfl
@[simp] theorem State.modHd_cont (s : State) (c : Nat) (f : CtxHeader → CtxHeader) : (s.modHd c f).cont = s.cont := rfl
@[simp] theorem State.modHd_keys (s : State) (c : Nat) (f : CtxHeader → CtxHeader) : (s.modHd c f).keys = s.keys := rfl
@[simp] theorem State.modHd_images (s : State) (c : Nat) (f : CtxHeader → CtxHeader) : (s.modHd c f).images = s.images := rfl
@[simp] theorem State.modHd_recorder (s : State) (c : Nat) (f : CtxHeader → CtxHeader) : (s.modHd c f).recorder = s.recorder := rfl
@[simp] theorem State.modHd_perf (s : State) (c : Nat) (f : CtxHeader → CtxHeader) : (s.modHd c f).perf = s.perf := rfl
@[simp] theorem State.modHd_chans (s : State) (c : Nat) (f : CtxHeader → CtxHeader) : (s.modHd c f).chans = s.chans := rfl
@[simp] theorem State.modHd_groups (s : State) (c : Nat) (f : CtxHeader → CtxHeader) : (s.modHd c f).groups = s.groups := rfl
@[simp] theorem State.modHd_disp (s : State) (c : Nat) (f : CtxHeader → CtxHeader) : (s.modHd c f).disp = s.disp := rfl
@[simp] theorem State.modHd_readers (s : State) (c : Nat) (f : CtxHeader → CtxHeader) : (s.modHd c f).readers = s.readers := rfl
@[simp] theorem State.modHd_tag (s : State) (c : Nat) (f : CtxHeader → CtxHeader) : (s.modHd c f).tag = s.tag := rfl
@[simp] theorem State.modHd_mains (s : State) (c : Nat) (f : CtxHeader → CtxHeader) : (s.modHd c f).mains = s.mains := rfl
@[simp] theorem State.modHd_sitePeers (s : State) (c : Nat) (f : CtxHeader → CtxHeader) : (s.modHd c f).sitePeers = s.sitePeers := rfl
@[simp] theorem State.modHd_canOut (s : State) (c : Nat) (f : CtxHeader → CtxHeader) : (s.modHd c f).canOut = s.canOut := rfl
@[simp] theorem State.modHd_draws (s : State) (c : Nat) (f : CtxHeader → CtxHeader) : (s.modHd c f).draws = s.draws := rfl
@[simp] theorem State.modHd_pending (s : State) (c : Nat) (f : CtxHeader → CtxHeader) : (s.modHd c f).pending = s.pending := rfl

/-! ### modWk -/

@[simp] theorem State.modWk_life (s : State) (c : Nat) (f : CtxWork → CtxWork) : (s.modWk c f).life = s.life := rfl
@[simp] theorem State.modWk_clk (s : State) (c : Nat) (f : CtxWork → CtxWork) : (s.modWk c f).clk = s.clk := rfl
@[simp] theorem State.modWk_time (s : State) (c : Nat) (f : CtxWork → CtxWork) : (s.modWk c f).time = s.time := rfl
@[simp] theorem State.modWk_power (s : State) (c : Nat) (f : CtxWork → CtxWork) : (s.modWk c f).power = s.power := rfl
@[simp] theorem State.modWk_spi (s : State) (c : Nat) (f : CtxWork → CtxWork) : (s.modWk c f).spi = s.spi := rfl
@[simp] theorem State.modWk_uart (s : State) (c : Nat) (f : CtxWork → CtxWork) : (s.modWk c f).uart = s.uart := rfl
@[simp] theorem State.modWk_uartRate (s : State) (c : Nat) (f : CtxWork → CtxWork) : (s.modWk c f).uartRate = s.uartRate := rfl
@[simp] theorem State.modWk_params (s : State) (c : Nat) (f : CtxWork → CtxWork) : (s.modWk c f).params = s.params := rfl
@[simp] theorem State.modWk_commits (s : State) (c : Nat) (f : CtxWork → CtxWork) : (s.modWk c f).commits = s.commits := rfl
@[simp] theorem State.modWk_bays (s : State) (c : Nat) (f : CtxWork → CtxWork) : (s.modWk c f).bays = s.bays := rfl
@[simp] theorem State.modWk_queue (s : State) (c : Nat) (f : CtxWork → CtxWork) : (s.modWk c f).queue = s.queue := rfl
@[simp] theorem State.modWk_met (s : State) (c : Nat) (f : CtxWork → CtxWork) : (s.modWk c f).met = s.met := rfl
@[simp] theorem State.modWk_intervals (s : State) (c : Nat) (f : CtxWork → CtxWork) : (s.modWk c f).intervals = s.intervals := rfl
@[simp] theorem State.modWk_cals (s : State) (c : Nat) (f : CtxWork → CtxWork) : (s.modWk c f).cals = s.cals := rfl
@[simp] theorem State.modWk_legal (s : State) (c : Nat) (f : CtxWork → CtxWork) : (s.modWk c f).legal = s.legal := rfl
@[simp] theorem State.modWk_creds (s : State) (c : Nat) (f : CtxWork → CtxWork) : (s.modWk c f).creds = s.creds := rfl
@[simp] theorem State.modWk_budget (s : State) (c : Nat) (f : CtxWork → CtxWork) : (s.modWk c f).budget = s.budget := rfl
@[simp] theorem State.modWk_safety (s : State) (c : Nat) (f : CtxWork → CtxWork) : (s.modWk c f).safety = s.safety := rfl
@[simp] theorem State.modWk_cont (s : State) (c : Nat) (f : CtxWork → CtxWork) : (s.modWk c f).cont = s.cont := rfl
@[simp] theorem State.modWk_keys (s : State) (c : Nat) (f : CtxWork → CtxWork) : (s.modWk c f).keys = s.keys := rfl
@[simp] theorem State.modWk_images (s : State) (c : Nat) (f : CtxWork → CtxWork) : (s.modWk c f).images = s.images := rfl
@[simp] theorem State.modWk_recorder (s : State) (c : Nat) (f : CtxWork → CtxWork) : (s.modWk c f).recorder = s.recorder := rfl
@[simp] theorem State.modWk_perf (s : State) (c : Nat) (f : CtxWork → CtxWork) : (s.modWk c f).perf = s.perf := rfl
@[simp] theorem State.modWk_chans (s : State) (c : Nat) (f : CtxWork → CtxWork) : (s.modWk c f).chans = s.chans := rfl
@[simp] theorem State.modWk_groups (s : State) (c : Nat) (f : CtxWork → CtxWork) : (s.modWk c f).groups = s.groups := rfl
@[simp] theorem State.modWk_disp (s : State) (c : Nat) (f : CtxWork → CtxWork) : (s.modWk c f).disp = s.disp := rfl
@[simp] theorem State.modWk_readers (s : State) (c : Nat) (f : CtxWork → CtxWork) : (s.modWk c f).readers = s.readers := rfl
@[simp] theorem State.modWk_tag (s : State) (c : Nat) (f : CtxWork → CtxWork) : (s.modWk c f).tag = s.tag := rfl
@[simp] theorem State.modWk_mains (s : State) (c : Nat) (f : CtxWork → CtxWork) : (s.modWk c f).mains = s.mains := rfl
@[simp] theorem State.modWk_sitePeers (s : State) (c : Nat) (f : CtxWork → CtxWork) : (s.modWk c f).sitePeers = s.sitePeers := rfl
@[simp] theorem State.modWk_canOut (s : State) (c : Nat) (f : CtxWork → CtxWork) : (s.modWk c f).canOut = s.canOut := rfl
@[simp] theorem State.modWk_draws (s : State) (c : Nat) (f : CtxWork → CtxWork) : (s.modWk c f).draws = s.draws := rfl
@[simp] theorem State.modWk_pending (s : State) (c : Nat) (f : CtxWork → CtxWork) : (s.modWk c f).pending = s.pending := rfl

/-! ### modConv -/

@[simp] theorem State.modConv_life (s : State) (b : Nat) (f : BayConverter → BayConverter) : (s.modConv b f).life = s.life := rfl
@[simp] theorem State.modConv_clk (s : State) (b : Nat) (f : BayConverter → BayConverter) : (s.modConv b f).clk = s.clk := rfl
@[simp] theorem State.modConv_time (s : State) (b : Nat) (f : BayConverter → BayConverter) : (s.modConv b f).time = s.time := rfl
@[simp] theorem State.modConv_power (s : State) (b : Nat) (f : BayConverter → BayConverter) : (s.modConv b f).power = s.power := rfl
@[simp] theorem State.modConv_spi (s : State) (b : Nat) (f : BayConverter → BayConverter) : (s.modConv b f).spi = s.spi := rfl
@[simp] theorem State.modConv_uart (s : State) (b : Nat) (f : BayConverter → BayConverter) : (s.modConv b f).uart = s.uart := rfl
@[simp] theorem State.modConv_uartRate (s : State) (b : Nat) (f : BayConverter → BayConverter) : (s.modConv b f).uartRate = s.uartRate := rfl
@[simp] theorem State.modConv_params (s : State) (b : Nat) (f : BayConverter → BayConverter) : (s.modConv b f).params = s.params := rfl
@[simp] theorem State.modConv_commits (s : State) (b : Nat) (f : BayConverter → BayConverter) : (s.modConv b f).commits = s.commits := rfl
@[simp] theorem State.modConv_ctxs (s : State) (b : Nat) (f : BayConverter → BayConverter) : (s.modConv b f).ctxs = s.ctxs := rfl
@[simp] theorem State.modConv_queue (s : State) (b : Nat) (f : BayConverter → BayConverter) : (s.modConv b f).queue = s.queue := rfl
@[simp] theorem State.modConv_met (s : State) (b : Nat) (f : BayConverter → BayConverter) : (s.modConv b f).met = s.met := rfl
@[simp] theorem State.modConv_intervals (s : State) (b : Nat) (f : BayConverter → BayConverter) : (s.modConv b f).intervals = s.intervals := rfl
@[simp] theorem State.modConv_cals (s : State) (b : Nat) (f : BayConverter → BayConverter) : (s.modConv b f).cals = s.cals := rfl
@[simp] theorem State.modConv_legal (s : State) (b : Nat) (f : BayConverter → BayConverter) : (s.modConv b f).legal = s.legal := rfl
@[simp] theorem State.modConv_creds (s : State) (b : Nat) (f : BayConverter → BayConverter) : (s.modConv b f).creds = s.creds := rfl
@[simp] theorem State.modConv_budget (s : State) (b : Nat) (f : BayConverter → BayConverter) : (s.modConv b f).budget = s.budget := rfl
@[simp] theorem State.modConv_safety (s : State) (b : Nat) (f : BayConverter → BayConverter) : (s.modConv b f).safety = s.safety := rfl
@[simp] theorem State.modConv_cont (s : State) (b : Nat) (f : BayConverter → BayConverter) : (s.modConv b f).cont = s.cont := rfl
@[simp] theorem State.modConv_keys (s : State) (b : Nat) (f : BayConverter → BayConverter) : (s.modConv b f).keys = s.keys := rfl
@[simp] theorem State.modConv_images (s : State) (b : Nat) (f : BayConverter → BayConverter) : (s.modConv b f).images = s.images := rfl
@[simp] theorem State.modConv_recorder (s : State) (b : Nat) (f : BayConverter → BayConverter) : (s.modConv b f).recorder = s.recorder := rfl
@[simp] theorem State.modConv_perf (s : State) (b : Nat) (f : BayConverter → BayConverter) : (s.modConv b f).perf = s.perf := rfl
@[simp] theorem State.modConv_chans (s : State) (b : Nat) (f : BayConverter → BayConverter) : (s.modConv b f).chans = s.chans := rfl
@[simp] theorem State.modConv_groups (s : State) (b : Nat) (f : BayConverter → BayConverter) : (s.modConv b f).groups = s.groups := rfl
@[simp] theorem State.modConv_disp (s : State) (b : Nat) (f : BayConverter → BayConverter) : (s.modConv b f).disp = s.disp := rfl
@[simp] theorem State.modConv_readers (s : State) (b : Nat) (f : BayConverter → BayConverter) : (s.modConv b f).readers = s.readers := rfl
@[simp] theorem State.modConv_tag (s : State) (b : Nat) (f : BayConverter → BayConverter) : (s.modConv b f).tag = s.tag := rfl
@[simp] theorem State.modConv_mains (s : State) (b : Nat) (f : BayConverter → BayConverter) : (s.modConv b f).mains = s.mains := rfl
@[simp] theorem State.modConv_sitePeers (s : State) (b : Nat) (f : BayConverter → BayConverter) : (s.modConv b f).sitePeers = s.sitePeers := rfl
@[simp] theorem State.modConv_canOut (s : State) (b : Nat) (f : BayConverter → BayConverter) : (s.modConv b f).canOut = s.canOut := rfl
@[simp] theorem State.modConv_draws (s : State) (b : Nat) (f : BayConverter → BayConverter) : (s.modConv b f).draws = s.draws := rfl
@[simp] theorem State.modConv_pending (s : State) (b : Nat) (f : BayConverter → BayConverter) : (s.modConv b f).pending = s.pending := rfl

/-! ### modLink -/

@[simp] theorem State.modLink_life (s : State) (b : Nat) (f : BayLink → BayLink) : (s.modLink b f).life = s.life := rfl
@[simp] theorem State.modLink_clk (s : State) (b : Nat) (f : BayLink → BayLink) : (s.modLink b f).clk = s.clk := rfl
@[simp] theorem State.modLink_time (s : State) (b : Nat) (f : BayLink → BayLink) : (s.modLink b f).time = s.time := rfl
@[simp] theorem State.modLink_power (s : State) (b : Nat) (f : BayLink → BayLink) : (s.modLink b f).power = s.power := rfl
@[simp] theorem State.modLink_spi (s : State) (b : Nat) (f : BayLink → BayLink) : (s.modLink b f).spi = s.spi := rfl
@[simp] theorem State.modLink_uart (s : State) (b : Nat) (f : BayLink → BayLink) : (s.modLink b f).uart = s.uart := rfl
@[simp] theorem State.modLink_uartRate (s : State) (b : Nat) (f : BayLink → BayLink) : (s.modLink b f).uartRate = s.uartRate := rfl
@[simp] theorem State.modLink_params (s : State) (b : Nat) (f : BayLink → BayLink) : (s.modLink b f).params = s.params := rfl
@[simp] theorem State.modLink_commits (s : State) (b : Nat) (f : BayLink → BayLink) : (s.modLink b f).commits = s.commits := rfl
@[simp] theorem State.modLink_ctxs (s : State) (b : Nat) (f : BayLink → BayLink) : (s.modLink b f).ctxs = s.ctxs := rfl
@[simp] theorem State.modLink_queue (s : State) (b : Nat) (f : BayLink → BayLink) : (s.modLink b f).queue = s.queue := rfl
@[simp] theorem State.modLink_met (s : State) (b : Nat) (f : BayLink → BayLink) : (s.modLink b f).met = s.met := rfl
@[simp] theorem State.modLink_intervals (s : State) (b : Nat) (f : BayLink → BayLink) : (s.modLink b f).intervals = s.intervals := rfl
@[simp] theorem State.modLink_cals (s : State) (b : Nat) (f : BayLink → BayLink) : (s.modLink b f).cals = s.cals := rfl
@[simp] theorem State.modLink_legal (s : State) (b : Nat) (f : BayLink → BayLink) : (s.modLink b f).legal = s.legal := rfl
@[simp] theorem State.modLink_creds (s : State) (b : Nat) (f : BayLink → BayLink) : (s.modLink b f).creds = s.creds := rfl
@[simp] theorem State.modLink_budget (s : State) (b : Nat) (f : BayLink → BayLink) : (s.modLink b f).budget = s.budget := rfl
@[simp] theorem State.modLink_safety (s : State) (b : Nat) (f : BayLink → BayLink) : (s.modLink b f).safety = s.safety := rfl
@[simp] theorem State.modLink_cont (s : State) (b : Nat) (f : BayLink → BayLink) : (s.modLink b f).cont = s.cont := rfl
@[simp] theorem State.modLink_keys (s : State) (b : Nat) (f : BayLink → BayLink) : (s.modLink b f).keys = s.keys := rfl
@[simp] theorem State.modLink_images (s : State) (b : Nat) (f : BayLink → BayLink) : (s.modLink b f).images = s.images := rfl
@[simp] theorem State.modLink_recorder (s : State) (b : Nat) (f : BayLink → BayLink) : (s.modLink b f).recorder = s.recorder := rfl
@[simp] theorem State.modLink_perf (s : State) (b : Nat) (f : BayLink → BayLink) : (s.modLink b f).perf = s.perf := rfl
@[simp] theorem State.modLink_chans (s : State) (b : Nat) (f : BayLink → BayLink) : (s.modLink b f).chans = s.chans := rfl
@[simp] theorem State.modLink_groups (s : State) (b : Nat) (f : BayLink → BayLink) : (s.modLink b f).groups = s.groups := rfl
@[simp] theorem State.modLink_disp (s : State) (b : Nat) (f : BayLink → BayLink) : (s.modLink b f).disp = s.disp := rfl
@[simp] theorem State.modLink_readers (s : State) (b : Nat) (f : BayLink → BayLink) : (s.modLink b f).readers = s.readers := rfl
@[simp] theorem State.modLink_tag (s : State) (b : Nat) (f : BayLink → BayLink) : (s.modLink b f).tag = s.tag := rfl
@[simp] theorem State.modLink_mains (s : State) (b : Nat) (f : BayLink → BayLink) : (s.modLink b f).mains = s.mains := rfl
@[simp] theorem State.modLink_sitePeers (s : State) (b : Nat) (f : BayLink → BayLink) : (s.modLink b f).sitePeers = s.sitePeers := rfl
@[simp] theorem State.modLink_canOut (s : State) (b : Nat) (f : BayLink → BayLink) : (s.modLink b f).canOut = s.canOut := rfl
@[simp] theorem State.modLink_draws (s : State) (b : Nat) (f : BayLink → BayLink) : (s.modLink b f).draws = s.draws := rfl
@[simp] theorem State.modLink_pending (s : State) (b : Nat) (f : BayLink → BayLink) : (s.modLink b f).pending = s.pending := rfl

/-! ### modChan -/

@[simp] theorem State.modChan_life (s : State) (k : Nat) (f : Chan → Chan) : (s.modChan k f).life = s.life := rfl
@[simp] theorem State.modChan_clk (s : State) (k : Nat) (f : Chan → Chan) : (s.modChan k f).clk = s.clk := rfl
@[simp] theorem State.modChan_time (s : State) (k : Nat) (f : Chan → Chan) : (s.modChan k f).time = s.time := rfl
@[simp] theorem State.modChan_power (s : State) (k : Nat) (f : Chan → Chan) : (s.modChan k f).power = s.power := rfl
@[simp] theorem State.modChan_spi (s : State) (k : Nat) (f : Chan → Chan) : (s.modChan k f).spi = s.spi := rfl
@[simp] theorem State.modChan_uart (s : State) (k : Nat) (f : Chan → Chan) : (s.modChan k f).uart = s.uart := rfl
@[simp] theorem State.modChan_uartRate (s : State) (k : Nat) (f : Chan → Chan) : (s.modChan k f).uartRate = s.uartRate := rfl
@[simp] theorem State.modChan_params (s : State) (k : Nat) (f : Chan → Chan) : (s.modChan k f).params = s.params := rfl
@[simp] theorem State.modChan_commits (s : State) (k : Nat) (f : Chan → Chan) : (s.modChan k f).commits = s.commits := rfl
@[simp] theorem State.modChan_bays (s : State) (k : Nat) (f : Chan → Chan) : (s.modChan k f).bays = s.bays := rfl
@[simp] theorem State.modChan_ctxs (s : State) (k : Nat) (f : Chan → Chan) : (s.modChan k f).ctxs = s.ctxs := rfl
@[simp] theorem State.modChan_queue (s : State) (k : Nat) (f : Chan → Chan) : (s.modChan k f).queue = s.queue := rfl
@[simp] theorem State.modChan_met (s : State) (k : Nat) (f : Chan → Chan) : (s.modChan k f).met = s.met := rfl
@[simp] theorem State.modChan_intervals (s : State) (k : Nat) (f : Chan → Chan) : (s.modChan k f).intervals = s.intervals := rfl
@[simp] theorem State.modChan_cals (s : State) (k : Nat) (f : Chan → Chan) : (s.modChan k f).cals = s.cals := rfl
@[simp] theorem State.modChan_legal (s : State) (k : Nat) (f : Chan → Chan) : (s.modChan k f).legal = s.legal := rfl
@[simp] theorem State.modChan_creds (s : State) (k : Nat) (f : Chan → Chan) : (s.modChan k f).creds = s.creds := rfl
@[simp] theorem State.modChan_budget (s : State) (k : Nat) (f : Chan → Chan) : (s.modChan k f).budget = s.budget := rfl
@[simp] theorem State.modChan_safety (s : State) (k : Nat) (f : Chan → Chan) : (s.modChan k f).safety = s.safety := rfl
@[simp] theorem State.modChan_cont (s : State) (k : Nat) (f : Chan → Chan) : (s.modChan k f).cont = s.cont := rfl
@[simp] theorem State.modChan_keys (s : State) (k : Nat) (f : Chan → Chan) : (s.modChan k f).keys = s.keys := rfl
@[simp] theorem State.modChan_images (s : State) (k : Nat) (f : Chan → Chan) : (s.modChan k f).images = s.images := rfl
@[simp] theorem State.modChan_recorder (s : State) (k : Nat) (f : Chan → Chan) : (s.modChan k f).recorder = s.recorder := rfl
@[simp] theorem State.modChan_perf (s : State) (k : Nat) (f : Chan → Chan) : (s.modChan k f).perf = s.perf := rfl
@[simp] theorem State.modChan_groups (s : State) (k : Nat) (f : Chan → Chan) : (s.modChan k f).groups = s.groups := rfl
@[simp] theorem State.modChan_disp (s : State) (k : Nat) (f : Chan → Chan) : (s.modChan k f).disp = s.disp := rfl
@[simp] theorem State.modChan_readers (s : State) (k : Nat) (f : Chan → Chan) : (s.modChan k f).readers = s.readers := rfl
@[simp] theorem State.modChan_tag (s : State) (k : Nat) (f : Chan → Chan) : (s.modChan k f).tag = s.tag := rfl
@[simp] theorem State.modChan_mains (s : State) (k : Nat) (f : Chan → Chan) : (s.modChan k f).mains = s.mains := rfl
@[simp] theorem State.modChan_sitePeers (s : State) (k : Nat) (f : Chan → Chan) : (s.modChan k f).sitePeers = s.sitePeers := rfl
@[simp] theorem State.modChan_canOut (s : State) (k : Nat) (f : Chan → Chan) : (s.modChan k f).canOut = s.canOut := rfl
@[simp] theorem State.modChan_draws (s : State) (k : Nat) (f : Chan → Chan) : (s.modChan k f).draws = s.draws := rfl
@[simp] theorem State.modChan_pending (s : State) (k : Nat) (f : Chan → Chan) : (s.modChan k f).pending = s.pending := rfl

/-! ### modKey -/

@[simp] theorem State.modKey_life (s : State) (k : Nat) (f : KeySlot → KeySlot) : (s.modKey k f).life = s.life := rfl
@[simp] theorem State.modKey_clk (s : State) (k : Nat) (f : KeySlot → KeySlot) : (s.modKey k f).clk = s.clk := rfl
@[simp] theorem State.modKey_time (s : State) (k : Nat) (f : KeySlot → KeySlot) : (s.modKey k f).time = s.time := rfl
@[simp] theorem State.modKey_power (s : State) (k : Nat) (f : KeySlot → KeySlot) : (s.modKey k f).power = s.power := rfl
@[simp] theorem State.modKey_spi (s : State) (k : Nat) (f : KeySlot → KeySlot) : (s.modKey k f).spi = s.spi := rfl
@[simp] theorem State.modKey_uart (s : State) (k : Nat) (f : KeySlot → KeySlot) : (s.modKey k f).uart = s.uart := rfl
@[simp] theorem State.modKey_uartRate (s : State) (k : Nat) (f : KeySlot → KeySlot) : (s.modKey k f).uartRate = s.uartRate := rfl
@[simp] theorem State.modKey_params (s : State) (k : Nat) (f : KeySlot → KeySlot) : (s.modKey k f).params = s.params := rfl
@[simp] theorem State.modKey_commits (s : State) (k : Nat) (f : KeySlot → KeySlot) : (s.modKey k f).commits = s.commits := rfl
@[simp] theorem State.modKey_bays (s : State) (k : Nat) (f : KeySlot → KeySlot) : (s.modKey k f).bays = s.bays := rfl
@[simp] theorem State.modKey_ctxs (s : State) (k : Nat) (f : KeySlot → KeySlot) : (s.modKey k f).ctxs = s.ctxs := rfl
@[simp] theorem State.modKey_queue (s : State) (k : Nat) (f : KeySlot → KeySlot) : (s.modKey k f).queue = s.queue := rfl
@[simp] theorem State.modKey_met (s : State) (k : Nat) (f : KeySlot → KeySlot) : (s.modKey k f).met = s.met := rfl
@[simp] theorem State.modKey_intervals (s : State) (k : Nat) (f : KeySlot → KeySlot) : (s.modKey k f).intervals = s.intervals := rfl
@[simp] theorem State.modKey_cals (s : State) (k : Nat) (f : KeySlot → KeySlot) : (s.modKey k f).cals = s.cals := rfl
@[simp] theorem State.modKey_legal (s : State) (k : Nat) (f : KeySlot → KeySlot) : (s.modKey k f).legal = s.legal := rfl
@[simp] theorem State.modKey_creds (s : State) (k : Nat) (f : KeySlot → KeySlot) : (s.modKey k f).creds = s.creds := rfl
@[simp] theorem State.modKey_budget (s : State) (k : Nat) (f : KeySlot → KeySlot) : (s.modKey k f).budget = s.budget := rfl
@[simp] theorem State.modKey_safety (s : State) (k : Nat) (f : KeySlot → KeySlot) : (s.modKey k f).safety = s.safety := rfl
@[simp] theorem State.modKey_cont (s : State) (k : Nat) (f : KeySlot → KeySlot) : (s.modKey k f).cont = s.cont := rfl
@[simp] theorem State.modKey_images (s : State) (k : Nat) (f : KeySlot → KeySlot) : (s.modKey k f).images = s.images := rfl
@[simp] theorem State.modKey_recorder (s : State) (k : Nat) (f : KeySlot → KeySlot) : (s.modKey k f).recorder = s.recorder := rfl
@[simp] theorem State.modKey_perf (s : State) (k : Nat) (f : KeySlot → KeySlot) : (s.modKey k f).perf = s.perf := rfl
@[simp] theorem State.modKey_chans (s : State) (k : Nat) (f : KeySlot → KeySlot) : (s.modKey k f).chans = s.chans := rfl
@[simp] theorem State.modKey_groups (s : State) (k : Nat) (f : KeySlot → KeySlot) : (s.modKey k f).groups = s.groups := rfl
@[simp] theorem State.modKey_disp (s : State) (k : Nat) (f : KeySlot → KeySlot) : (s.modKey k f).disp = s.disp := rfl
@[simp] theorem State.modKey_readers (s : State) (k : Nat) (f : KeySlot → KeySlot) : (s.modKey k f).readers = s.readers := rfl
@[simp] theorem State.modKey_tag (s : State) (k : Nat) (f : KeySlot → KeySlot) : (s.modKey k f).tag = s.tag := rfl
@[simp] theorem State.modKey_mains (s : State) (k : Nat) (f : KeySlot → KeySlot) : (s.modKey k f).mains = s.mains := rfl
@[simp] theorem State.modKey_sitePeers (s : State) (k : Nat) (f : KeySlot → KeySlot) : (s.modKey k f).sitePeers = s.sitePeers := rfl
@[simp] theorem State.modKey_canOut (s : State) (k : Nat) (f : KeySlot → KeySlot) : (s.modKey k f).canOut = s.canOut := rfl
@[simp] theorem State.modKey_draws (s : State) (k : Nat) (f : KeySlot → KeySlot) : (s.modKey k f).draws = s.draws := rfl
@[simp] theorem State.modKey_pending (s : State) (k : Nat) (f : KeySlot → KeySlot) : (s.modKey k f).pending = s.pending := rfl

/-! ### modReader -/

@[simp] theorem State.modReader_life (s : State) (k : Nat) (f : Reader → Reader) : (s.modReader k f).life = s.life := rfl
@[simp] theorem State.modReader_clk (s : State) (k : Nat) (f : Reader → Reader) : (s.modReader k f).clk = s.clk := rfl
@[simp] theorem State.modReader_time (s : State) (k : Nat) (f : Reader → Reader) : (s.modReader k f).time = s.time := rfl
@[simp] theorem State.modReader_power (s : State) (k : Nat) (f : Reader → Reader) : (s.modReader k f).power = s.power := rfl
@[simp] theorem State.modReader_spi (s : State) (k : Nat) (f : Reader → Reader) : (s.modReader k f).spi = s.spi := rfl
@[simp] theorem State.modReader_uart (s : State) (k : Nat) (f : Reader → Reader) : (s.modReader k f).uart = s.uart := rfl
@[simp] theorem State.modReader_uartRate (s : State) (k : Nat) (f : Reader → Reader) : (s.modReader k f).uartRate = s.uartRate := rfl
@[simp] theorem State.modReader_params (s : State) (k : Nat) (f : Reader → Reader) : (s.modReader k f).params = s.params := rfl
@[simp] theorem State.modReader_commits (s : State) (k : Nat) (f : Reader → Reader) : (s.modReader k f).commits = s.commits := rfl
@[simp] theorem State.modReader_bays (s : State) (k : Nat) (f : Reader → Reader) : (s.modReader k f).bays = s.bays := rfl
@[simp] theorem State.modReader_ctxs (s : State) (k : Nat) (f : Reader → Reader) : (s.modReader k f).ctxs = s.ctxs := rfl
@[simp] theorem State.modReader_queue (s : State) (k : Nat) (f : Reader → Reader) : (s.modReader k f).queue = s.queue := rfl
@[simp] theorem State.modReader_met (s : State) (k : Nat) (f : Reader → Reader) : (s.modReader k f).met = s.met := rfl
@[simp] theorem State.modReader_intervals (s : State) (k : Nat) (f : Reader → Reader) : (s.modReader k f).intervals = s.intervals := rfl
@[simp] theorem State.modReader_cals (s : State) (k : Nat) (f : Reader → Reader) : (s.modReader k f).cals = s.cals := rfl
@[simp] theorem State.modReader_legal (s : State) (k : Nat) (f : Reader → Reader) : (s.modReader k f).legal = s.legal := rfl
@[simp] theorem State.modReader_creds (s : State) (k : Nat) (f : Reader → Reader) : (s.modReader k f).creds = s.creds := rfl
@[simp] theorem State.modReader_budget (s : State) (k : Nat) (f : Reader → Reader) : (s.modReader k f).budget = s.budget := rfl
@[simp] theorem State.modReader_safety (s : State) (k : Nat) (f : Reader → Reader) : (s.modReader k f).safety = s.safety := rfl
@[simp] theorem State.modReader_cont (s : State) (k : Nat) (f : Reader → Reader) : (s.modReader k f).cont = s.cont := rfl
@[simp] theorem State.modReader_keys (s : State) (k : Nat) (f : Reader → Reader) : (s.modReader k f).keys = s.keys := rfl
@[simp] theorem State.modReader_images (s : State) (k : Nat) (f : Reader → Reader) : (s.modReader k f).images = s.images := rfl
@[simp] theorem State.modReader_recorder (s : State) (k : Nat) (f : Reader → Reader) : (s.modReader k f).recorder = s.recorder := rfl
@[simp] theorem State.modReader_perf (s : State) (k : Nat) (f : Reader → Reader) : (s.modReader k f).perf = s.perf := rfl
@[simp] theorem State.modReader_chans (s : State) (k : Nat) (f : Reader → Reader) : (s.modReader k f).chans = s.chans := rfl
@[simp] theorem State.modReader_groups (s : State) (k : Nat) (f : Reader → Reader) : (s.modReader k f).groups = s.groups := rfl
@[simp] theorem State.modReader_disp (s : State) (k : Nat) (f : Reader → Reader) : (s.modReader k f).disp = s.disp := rfl
@[simp] theorem State.modReader_tag (s : State) (k : Nat) (f : Reader → Reader) : (s.modReader k f).tag = s.tag := rfl
@[simp] theorem State.modReader_mains (s : State) (k : Nat) (f : Reader → Reader) : (s.modReader k f).mains = s.mains := rfl
@[simp] theorem State.modReader_sitePeers (s : State) (k : Nat) (f : Reader → Reader) : (s.modReader k f).sitePeers = s.sitePeers := rfl
@[simp] theorem State.modReader_canOut (s : State) (k : Nat) (f : Reader → Reader) : (s.modReader k f).canOut = s.canOut := rfl
@[simp] theorem State.modReader_draws (s : State) (k : Nat) (f : Reader → Reader) : (s.modReader k f).draws = s.draws := rfl
@[simp] theorem State.modReader_pending (s : State) (k : Nat) (f : Reader → Reader) : (s.modReader k f).pending = s.pending := rfl

/-! ### modPeer -/

@[simp] theorem State.modPeer_life (s : State) (k : Nat) (f : Peer → Peer) : (s.modPeer k f).life = s.life := rfl
@[simp] theorem State.modPeer_clk (s : State) (k : Nat) (f : Peer → Peer) : (s.modPeer k f).clk = s.clk := rfl
@[simp] theorem State.modPeer_time (s : State) (k : Nat) (f : Peer → Peer) : (s.modPeer k f).time = s.time := rfl
@[simp] theorem State.modPeer_power (s : State) (k : Nat) (f : Peer → Peer) : (s.modPeer k f).power = s.power := rfl
@[simp] theorem State.modPeer_spi (s : State) (k : Nat) (f : Peer → Peer) : (s.modPeer k f).spi = s.spi := rfl
@[simp] theorem State.modPeer_uart (s : State) (k : Nat) (f : Peer → Peer) : (s.modPeer k f).uart = s.uart := rfl
@[simp] theorem State.modPeer_uartRate (s : State) (k : Nat) (f : Peer → Peer) : (s.modPeer k f).uartRate = s.uartRate := rfl
@[simp] theorem State.modPeer_params (s : State) (k : Nat) (f : Peer → Peer) : (s.modPeer k f).params = s.params := rfl
@[simp] theorem State.modPeer_commits (s : State) (k : Nat) (f : Peer → Peer) : (s.modPeer k f).commits = s.commits := rfl
@[simp] theorem State.modPeer_bays (s : State) (k : Nat) (f : Peer → Peer) : (s.modPeer k f).bays = s.bays := rfl
@[simp] theorem State.modPeer_ctxs (s : State) (k : Nat) (f : Peer → Peer) : (s.modPeer k f).ctxs = s.ctxs := rfl
@[simp] theorem State.modPeer_queue (s : State) (k : Nat) (f : Peer → Peer) : (s.modPeer k f).queue = s.queue := rfl
@[simp] theorem State.modPeer_met (s : State) (k : Nat) (f : Peer → Peer) : (s.modPeer k f).met = s.met := rfl
@[simp] theorem State.modPeer_intervals (s : State) (k : Nat) (f : Peer → Peer) : (s.modPeer k f).intervals = s.intervals := rfl
@[simp] theorem State.modPeer_cals (s : State) (k : Nat) (f : Peer → Peer) : (s.modPeer k f).cals = s.cals := rfl
@[simp] theorem State.modPeer_legal (s : State) (k : Nat) (f : Peer → Peer) : (s.modPeer k f).legal = s.legal := rfl
@[simp] theorem State.modPeer_creds (s : State) (k : Nat) (f : Peer → Peer) : (s.modPeer k f).creds = s.creds := rfl
@[simp] theorem State.modPeer_budget (s : State) (k : Nat) (f : Peer → Peer) : (s.modPeer k f).budget = s.budget := rfl
@[simp] theorem State.modPeer_cont (s : State) (k : Nat) (f : Peer → Peer) : (s.modPeer k f).cont = s.cont := rfl
@[simp] theorem State.modPeer_keys (s : State) (k : Nat) (f : Peer → Peer) : (s.modPeer k f).keys = s.keys := rfl
@[simp] theorem State.modPeer_images (s : State) (k : Nat) (f : Peer → Peer) : (s.modPeer k f).images = s.images := rfl
@[simp] theorem State.modPeer_recorder (s : State) (k : Nat) (f : Peer → Peer) : (s.modPeer k f).recorder = s.recorder := rfl
@[simp] theorem State.modPeer_perf (s : State) (k : Nat) (f : Peer → Peer) : (s.modPeer k f).perf = s.perf := rfl
@[simp] theorem State.modPeer_chans (s : State) (k : Nat) (f : Peer → Peer) : (s.modPeer k f).chans = s.chans := rfl
@[simp] theorem State.modPeer_groups (s : State) (k : Nat) (f : Peer → Peer) : (s.modPeer k f).groups = s.groups := rfl
@[simp] theorem State.modPeer_disp (s : State) (k : Nat) (f : Peer → Peer) : (s.modPeer k f).disp = s.disp := rfl
@[simp] theorem State.modPeer_readers (s : State) (k : Nat) (f : Peer → Peer) : (s.modPeer k f).readers = s.readers := rfl
@[simp] theorem State.modPeer_tag (s : State) (k : Nat) (f : Peer → Peer) : (s.modPeer k f).tag = s.tag := rfl
@[simp] theorem State.modPeer_mains (s : State) (k : Nat) (f : Peer → Peer) : (s.modPeer k f).mains = s.mains := rfl
@[simp] theorem State.modPeer_sitePeers (s : State) (k : Nat) (f : Peer → Peer) : (s.modPeer k f).sitePeers = s.sitePeers := rfl
@[simp] theorem State.modPeer_canOut (s : State) (k : Nat) (f : Peer → Peer) : (s.modPeer k f).canOut = s.canOut := rfl
@[simp] theorem State.modPeer_draws (s : State) (k : Nat) (f : Peer → Peer) : (s.modPeer k f).draws = s.draws := rfl
@[simp] theorem State.modPeer_pending (s : State) (k : Nat) (f : Peer → Peer) : (s.modPeer k f).pending = s.pending := rfl

/-! ### modImage -/

@[simp] theorem State.modImage_life (s : State) (k : ImageKind) (f : ImageSlot → ImageSlot) : (s.modImage k f).life = s.life := rfl
@[simp] theorem State.modImage_clk (s : State) (k : ImageKind) (f : ImageSlot → ImageSlot) : (s.modImage k f).clk = s.clk := rfl
@[simp] theorem State.modImage_time (s : State) (k : ImageKind) (f : ImageSlot → ImageSlot) : (s.modImage k f).time = s.time := rfl
@[simp] theorem State.modImage_power (s : State) (k : ImageKind) (f : ImageSlot → ImageSlot) : (s.modImage k f).power = s.power := rfl
@[simp] theorem State.modImage_spi (s : State) (k : ImageKind) (f : ImageSlot → ImageSlot) : (s.modImage k f).spi = s.spi := rfl
@[simp] theorem State.modImage_uart (s : State) (k : ImageKind) (f : ImageSlot → ImageSlot) : (s.modImage k f).uart = s.uart := rfl
@[simp] theorem State.modImage_uartRate (s : State) (k : ImageKind) (f : ImageSlot → ImageSlot) : (s.modImage k f).uartRate = s.uartRate := rfl
@[simp] theorem State.modImage_params (s : State) (k : ImageKind) (f : ImageSlot → ImageSlot) : (s.modImage k f).params = s.params := rfl
@[simp] theorem State.modImage_commits (s : State) (k : ImageKind) (f : ImageSlot → ImageSlot) : (s.modImage k f).commits = s.commits := rfl
@[simp] theorem State.modImage_bays (s : State) (k : ImageKind) (f : ImageSlot → ImageSlot) : (s.modImage k f).bays = s.bays := rfl
@[simp] theorem State.modImage_ctxs (s : State) (k : ImageKind) (f : ImageSlot → ImageSlot) : (s.modImage k f).ctxs = s.ctxs := rfl
@[simp] theorem State.modImage_queue (s : State) (k : ImageKind) (f : ImageSlot → ImageSlot) : (s.modImage k f).queue = s.queue := rfl
@[simp] theorem State.modImage_met (s : State) (k : ImageKind) (f : ImageSlot → ImageSlot) : (s.modImage k f).met = s.met := rfl
@[simp] theorem State.modImage_intervals (s : State) (k : ImageKind) (f : ImageSlot → ImageSlot) : (s.modImage k f).intervals = s.intervals := rfl
@[simp] theorem State.modImage_cals (s : State) (k : ImageKind) (f : ImageSlot → ImageSlot) : (s.modImage k f).cals = s.cals := rfl
@[simp] theorem State.modImage_legal (s : State) (k : ImageKind) (f : ImageSlot → ImageSlot) : (s.modImage k f).legal = s.legal := rfl
@[simp] theorem State.modImage_creds (s : State) (k : ImageKind) (f : ImageSlot → ImageSlot) : (s.modImage k f).creds = s.creds := rfl
@[simp] theorem State.modImage_budget (s : State) (k : ImageKind) (f : ImageSlot → ImageSlot) : (s.modImage k f).budget = s.budget := rfl
@[simp] theorem State.modImage_safety (s : State) (k : ImageKind) (f : ImageSlot → ImageSlot) : (s.modImage k f).safety = s.safety := rfl
@[simp] theorem State.modImage_cont (s : State) (k : ImageKind) (f : ImageSlot → ImageSlot) : (s.modImage k f).cont = s.cont := rfl
@[simp] theorem State.modImage_keys (s : State) (k : ImageKind) (f : ImageSlot → ImageSlot) : (s.modImage k f).keys = s.keys := rfl
@[simp] theorem State.modImage_recorder (s : State) (k : ImageKind) (f : ImageSlot → ImageSlot) : (s.modImage k f).recorder = s.recorder := rfl
@[simp] theorem State.modImage_perf (s : State) (k : ImageKind) (f : ImageSlot → ImageSlot) : (s.modImage k f).perf = s.perf := rfl
@[simp] theorem State.modImage_chans (s : State) (k : ImageKind) (f : ImageSlot → ImageSlot) : (s.modImage k f).chans = s.chans := rfl
@[simp] theorem State.modImage_groups (s : State) (k : ImageKind) (f : ImageSlot → ImageSlot) : (s.modImage k f).groups = s.groups := rfl
@[simp] theorem State.modImage_disp (s : State) (k : ImageKind) (f : ImageSlot → ImageSlot) : (s.modImage k f).disp = s.disp := rfl
@[simp] theorem State.modImage_readers (s : State) (k : ImageKind) (f : ImageSlot → ImageSlot) : (s.modImage k f).readers = s.readers := rfl
@[simp] theorem State.modImage_tag (s : State) (k : ImageKind) (f : ImageSlot → ImageSlot) : (s.modImage k f).tag = s.tag := rfl
@[simp] theorem State.modImage_mains (s : State) (k : ImageKind) (f : ImageSlot → ImageSlot) : (s.modImage k f).mains = s.mains := rfl
@[simp] theorem State.modImage_sitePeers (s : State) (k : ImageKind) (f : ImageSlot → ImageSlot) : (s.modImage k f).sitePeers = s.sitePeers := rfl
@[simp] theorem State.modImage_canOut (s : State) (k : ImageKind) (f : ImageSlot → ImageSlot) : (s.modImage k f).canOut = s.canOut := rfl
@[simp] theorem State.modImage_draws (s : State) (k : ImageKind) (f : ImageSlot → ImageSlot) : (s.modImage k f).draws = s.draws := rfl
@[simp] theorem State.modImage_pending (s : State) (k : ImageKind) (f : ImageSlot → ImageSlot) : (s.modImage k f).pending = s.pending := rfl

/-! ### modImages -/

@[simp] theorem State.modImages_life (s : State) (f : Images → Images) : (s.modImages f).life = s.life := rfl
@[simp] theorem State.modImages_clk (s : State) (f : Images → Images) : (s.modImages f).clk = s.clk := rfl
@[simp] theorem State.modImages_time (s : State) (f : Images → Images) : (s.modImages f).time = s.time := rfl
@[simp] theorem State.modImages_power (s : State) (f : Images → Images) : (s.modImages f).power = s.power := rfl
@[simp] theorem State.modImages_spi (s : State) (f : Images → Images) : (s.modImages f).spi = s.spi := rfl
@[simp] theorem State.modImages_uart (s : State) (f : Images → Images) : (s.modImages f).uart = s.uart := rfl
@[simp] theorem State.modImages_uartRate (s : State) (f : Images → Images) : (s.modImages f).uartRate = s.uartRate := rfl
@[simp] theorem State.modImages_params (s : State) (f : Images → Images) : (s.modImages f).params = s.params := rfl
@[simp] theorem State.modImages_commits (s : State) (f : Images → Images) : (s.modImages f).commits = s.commits := rfl
@[simp] theorem State.modImages_bays (s : State) (f : Images → Images) : (s.modImages f).bays = s.bays := rfl
@[simp] theorem State.modImages_ctxs (s : State) (f : Images → Images) : (s.modImages f).ctxs = s.ctxs := rfl
@[simp] theorem State.modImages_queue (s : State) (f : Images → Images) : (s.modImages f).queue = s.queue := rfl
@[simp] theorem State.modImages_met (s : State) (f : Images → Images) : (s.modImages f).met = s.met := rfl
@[simp] theorem State.modImages_intervals (s : State) (f : Images → Images) : (s.modImages f).intervals = s.intervals := rfl
@[simp] theorem State.modImages_cals (s : State) (f : Images → Images) : (s.modImages f).cals = s.cals := rfl
@[simp] theorem State.modImages_legal (s : State) (f : Images → Images) : (s.modImages f).legal = s.legal := rfl
@[simp] theorem State.modImages_creds (s : State) (f : Images → Images) : (s.modImages f).creds = s.creds := rfl
@[simp] theorem State.modImages_budget (s : State) (f : Images → Images) : (s.modImages f).budget = s.budget := rfl
@[simp] theorem State.modImages_safety (s : State) (f : Images → Images) : (s.modImages f).safety = s.safety := rfl
@[simp] theorem State.modImages_cont (s : State) (f : Images → Images) : (s.modImages f).cont = s.cont := rfl
@[simp] theorem State.modImages_keys (s : State) (f : Images → Images) : (s.modImages f).keys = s.keys := rfl
@[simp] theorem State.modImages_recorder (s : State) (f : Images → Images) : (s.modImages f).recorder = s.recorder := rfl
@[simp] theorem State.modImages_perf (s : State) (f : Images → Images) : (s.modImages f).perf = s.perf := rfl
@[simp] theorem State.modImages_chans (s : State) (f : Images → Images) : (s.modImages f).chans = s.chans := rfl
@[simp] theorem State.modImages_groups (s : State) (f : Images → Images) : (s.modImages f).groups = s.groups := rfl
@[simp] theorem State.modImages_disp (s : State) (f : Images → Images) : (s.modImages f).disp = s.disp := rfl
@[simp] theorem State.modImages_readers (s : State) (f : Images → Images) : (s.modImages f).readers = s.readers := rfl
@[simp] theorem State.modImages_tag (s : State) (f : Images → Images) : (s.modImages f).tag = s.tag := rfl
@[simp] theorem State.modImages_mains (s : State) (f : Images → Images) : (s.modImages f).mains = s.mains := rfl
@[simp] theorem State.modImages_sitePeers (s : State) (f : Images → Images) : (s.modImages f).sitePeers = s.sitePeers := rfl
@[simp] theorem State.modImages_canOut (s : State) (f : Images → Images) : (s.modImages f).canOut = s.canOut := rfl
@[simp] theorem State.modImages_draws (s : State) (f : Images → Images) : (s.modImages f).draws = s.draws := rfl
@[simp] theorem State.modImages_pending (s : State) (f : Images → Images) : (s.modImages f).pending = s.pending := rfl

/-! ### modPower -/

@[simp] theorem State.modPower_life (s : State) (f : Power → Power) : (s.modPower f).life = s.life := rfl
@[simp] theorem State.modPower_clk (s : State) (f : Power → Power) : (s.modPower f).clk = s.clk := rfl
@[simp] theorem State.modPower_time (s : State) (f : Power → Power) : (s.modPower f).time = s.time := rfl
@[simp] theorem State.modPower_spi (s : State) (f : Power → Power) : (s.modPower f).spi = s.spi := rfl
@[simp] theorem State.modPower_uart (s : State) (f : Power → Power) : (s.modPower f).uart = s.uart := rfl
@[simp] theorem State.modPower_uartRate (s : State) (f : Power → Power) : (s.modPower f).uartRate = s.uartRate := rfl
@[simp] theorem State.modPower_params (s : State) (f : Power → Power) : (s.modPower f).params = s.params := rfl
@[simp] theorem State.modPower_commits (s : State) (f : Power → Power) : (s.modPower f).commits = s.commits := rfl
@[simp] theorem State.modPower_bays (s : State) (f : Power → Power) : (s.modPower f).bays = s.bays := rfl
@[simp] theorem State.modPower_ctxs (s : State) (f : Power → Power) : (s.modPower f).ctxs = s.ctxs := rfl
@[simp] theorem State.modPower_queue (s : State) (f : Power → Power) : (s.modPower f).queue = s.queue := rfl
@[simp] theorem State.modPower_met (s : State) (f : Power → Power) : (s.modPower f).met = s.met := rfl
@[simp] theorem State.modPower_intervals (s : State) (f : Power → Power) : (s.modPower f).intervals = s.intervals := rfl
@[simp] theorem State.modPower_cals (s : State) (f : Power → Power) : (s.modPower f).cals = s.cals := rfl
@[simp] theorem State.modPower_legal (s : State) (f : Power → Power) : (s.modPower f).legal = s.legal := rfl
@[simp] theorem State.modPower_creds (s : State) (f : Power → Power) : (s.modPower f).creds = s.creds := rfl
@[simp] theorem State.modPower_budget (s : State) (f : Power → Power) : (s.modPower f).budget = s.budget := rfl
@[simp] theorem State.modPower_safety (s : State) (f : Power → Power) : (s.modPower f).safety = s.safety := rfl
@[simp] theorem State.modPower_cont (s : State) (f : Power → Power) : (s.modPower f).cont = s.cont := rfl
@[simp] theorem State.modPower_keys (s : State) (f : Power → Power) : (s.modPower f).keys = s.keys := rfl
@[simp] theorem State.modPower_images (s : State) (f : Power → Power) : (s.modPower f).images = s.images := rfl
@[simp] theorem State.modPower_recorder (s : State) (f : Power → Power) : (s.modPower f).recorder = s.recorder := rfl
@[simp] theorem State.modPower_perf (s : State) (f : Power → Power) : (s.modPower f).perf = s.perf := rfl
@[simp] theorem State.modPower_chans (s : State) (f : Power → Power) : (s.modPower f).chans = s.chans := rfl
@[simp] theorem State.modPower_groups (s : State) (f : Power → Power) : (s.modPower f).groups = s.groups := rfl
@[simp] theorem State.modPower_disp (s : State) (f : Power → Power) : (s.modPower f).disp = s.disp := rfl
@[simp] theorem State.modPower_readers (s : State) (f : Power → Power) : (s.modPower f).readers = s.readers := rfl
@[simp] theorem State.modPower_tag (s : State) (f : Power → Power) : (s.modPower f).tag = s.tag := rfl
@[simp] theorem State.modPower_mains (s : State) (f : Power → Power) : (s.modPower f).mains = s.mains := rfl
@[simp] theorem State.modPower_sitePeers (s : State) (f : Power → Power) : (s.modPower f).sitePeers = s.sitePeers := rfl
@[simp] theorem State.modPower_canOut (s : State) (f : Power → Power) : (s.modPower f).canOut = s.canOut := rfl
@[simp] theorem State.modPower_draws (s : State) (f : Power → Power) : (s.modPower f).draws = s.draws := rfl
@[simp] theorem State.modPower_pending (s : State) (f : Power → Power) : (s.modPower f).pending = s.pending := rfl

/-! ### modPerf -/

@[simp] theorem State.modPerf_life (s : State) (f : Perf → Perf) : (s.modPerf f).life = s.life := rfl
@[simp] theorem State.modPerf_clk (s : State) (f : Perf → Perf) : (s.modPerf f).clk = s.clk := rfl
@[simp] theorem State.modPerf_time (s : State) (f : Perf → Perf) : (s.modPerf f).time = s.time := rfl
@[simp] theorem State.modPerf_power (s : State) (f : Perf → Perf) : (s.modPerf f).power = s.power := rfl
@[simp] theorem State.modPerf_spi (s : State) (f : Perf → Perf) : (s.modPerf f).spi = s.spi := rfl
@[simp] theorem State.modPerf_uart (s : State) (f : Perf → Perf) : (s.modPerf f).uart = s.uart := rfl
@[simp] theorem State.modPerf_uartRate (s : State) (f : Perf → Perf) : (s.modPerf f).uartRate = s.uartRate := rfl
@[simp] theorem State.modPerf_params (s : State) (f : Perf → Perf) : (s.modPerf f).params = s.params := rfl
@[simp] theorem State.modPerf_commits (s : State) (f : Perf → Perf) : (s.modPerf f).commits = s.commits := rfl
@[simp] theorem State.modPerf_bays (s : State) (f : Perf → Perf) : (s.modPerf f).bays = s.bays := rfl
@[simp] theorem State.modPerf_ctxs (s : State) (f : Perf → Perf) : (s.modPerf f).ctxs = s.ctxs := rfl
@[simp] theorem State.modPerf_queue (s : State) (f : Perf → Perf) : (s.modPerf f).queue = s.queue := rfl
@[simp] theorem State.modPerf_met (s : State) (f : Perf → Perf) : (s.modPerf f).met = s.met := rfl
@[simp] theorem State.modPerf_intervals (s : State) (f : Perf → Perf) : (s.modPerf f).intervals = s.intervals := rfl
@[simp] theorem State.modPerf_cals (s : State) (f : Perf → Perf) : (s.modPerf f).cals = s.cals := rfl
@[simp] theorem State.modPerf_legal (s : State) (f : Perf → Perf) : (s.modPerf f).legal = s.legal := rfl
@[simp] theorem State.modPerf_creds (s : State) (f : Perf → Perf) : (s.modPerf f).creds = s.creds := rfl
@[simp] theorem State.modPerf_budget (s : State) (f : Perf → Perf) : (s.modPerf f).budget = s.budget := rfl
@[simp] theorem State.modPerf_safety (s : State) (f : Perf → Perf) : (s.modPerf f).safety = s.safety := rfl
@[simp] theorem State.modPerf_cont (s : State) (f : Perf → Perf) : (s.modPerf f).cont = s.cont := rfl
@[simp] theorem State.modPerf_keys (s : State) (f : Perf → Perf) : (s.modPerf f).keys = s.keys := rfl
@[simp] theorem State.modPerf_images (s : State) (f : Perf → Perf) : (s.modPerf f).images = s.images := rfl
@[simp] theorem State.modPerf_recorder (s : State) (f : Perf → Perf) : (s.modPerf f).recorder = s.recorder := rfl
@[simp] theorem State.modPerf_chans (s : State) (f : Perf → Perf) : (s.modPerf f).chans = s.chans := rfl
@[simp] theorem State.modPerf_groups (s : State) (f : Perf → Perf) : (s.modPerf f).groups = s.groups := rfl
@[simp] theorem State.modPerf_disp (s : State) (f : Perf → Perf) : (s.modPerf f).disp = s.disp := rfl
@[simp] theorem State.modPerf_readers (s : State) (f : Perf → Perf) : (s.modPerf f).readers = s.readers := rfl
@[simp] theorem State.modPerf_tag (s : State) (f : Perf → Perf) : (s.modPerf f).tag = s.tag := rfl
@[simp] theorem State.modPerf_mains (s : State) (f : Perf → Perf) : (s.modPerf f).mains = s.mains := rfl
@[simp] theorem State.modPerf_sitePeers (s : State) (f : Perf → Perf) : (s.modPerf f).sitePeers = s.sitePeers := rfl
@[simp] theorem State.modPerf_canOut (s : State) (f : Perf → Perf) : (s.modPerf f).canOut = s.canOut := rfl
@[simp] theorem State.modPerf_draws (s : State) (f : Perf → Perf) : (s.modPerf f).draws = s.draws := rfl
@[simp] theorem State.modPerf_pending (s : State) (f : Perf → Perf) : (s.modPerf f).pending = s.pending := rfl

/-! ### modSafety -/

@[simp] theorem State.modSafety_life (s : State) (f : Safety → Safety) : (s.modSafety f).life = s.life := rfl
@[simp] theorem State.modSafety_clk (s : State) (f : Safety → Safety) : (s.modSafety f).clk = s.clk := rfl
@[simp] theorem State.modSafety_time (s : State) (f : Safety → Safety) : (s.modSafety f).time = s.time := rfl
@[simp] theorem State.modSafety_power (s : State) (f : Safety → Safety) : (s.modSafety f).power = s.power := rfl
@[simp] theorem State.modSafety_spi (s : State) (f : Safety → Safety) : (s.modSafety f).spi = s.spi := rfl
@[simp] theorem State.modSafety_uart (s : State) (f : Safety → Safety) : (s.modSafety f).uart = s.uart := rfl
@[simp] theorem State.modSafety_uartRate (s : State) (f : Safety → Safety) : (s.modSafety f).uartRate = s.uartRate := rfl
@[simp] theorem State.modSafety_params (s : State) (f : Safety → Safety) : (s.modSafety f).params = s.params := rfl
@[simp] theorem State.modSafety_commits (s : State) (f : Safety → Safety) : (s.modSafety f).commits = s.commits := rfl
@[simp] theorem State.modSafety_bays (s : State) (f : Safety → Safety) : (s.modSafety f).bays = s.bays := rfl
@[simp] theorem State.modSafety_ctxs (s : State) (f : Safety → Safety) : (s.modSafety f).ctxs = s.ctxs := rfl
@[simp] theorem State.modSafety_queue (s : State) (f : Safety → Safety) : (s.modSafety f).queue = s.queue := rfl
@[simp] theorem State.modSafety_met (s : State) (f : Safety → Safety) : (s.modSafety f).met = s.met := rfl
@[simp] theorem State.modSafety_intervals (s : State) (f : Safety → Safety) : (s.modSafety f).intervals = s.intervals := rfl
@[simp] theorem State.modSafety_cals (s : State) (f : Safety → Safety) : (s.modSafety f).cals = s.cals := rfl
@[simp] theorem State.modSafety_legal (s : State) (f : Safety → Safety) : (s.modSafety f).legal = s.legal := rfl
@[simp] theorem State.modSafety_creds (s : State) (f : Safety → Safety) : (s.modSafety f).creds = s.creds := rfl
@[simp] theorem State.modSafety_budget (s : State) (f : Safety → Safety) : (s.modSafety f).budget = s.budget := rfl
@[simp] theorem State.modSafety_cont (s : State) (f : Safety → Safety) : (s.modSafety f).cont = s.cont := rfl
@[simp] theorem State.modSafety_keys (s : State) (f : Safety → Safety) : (s.modSafety f).keys = s.keys := rfl
@[simp] theorem State.modSafety_images (s : State) (f : Safety → Safety) : (s.modSafety f).images = s.images := rfl
@[simp] theorem State.modSafety_recorder (s : State) (f : Safety → Safety) : (s.modSafety f).recorder = s.recorder := rfl
@[simp] theorem State.modSafety_perf (s : State) (f : Safety → Safety) : (s.modSafety f).perf = s.perf := rfl
@[simp] theorem State.modSafety_chans (s : State) (f : Safety → Safety) : (s.modSafety f).chans = s.chans := rfl
@[simp] theorem State.modSafety_groups (s : State) (f : Safety → Safety) : (s.modSafety f).groups = s.groups := rfl
@[simp] theorem State.modSafety_disp (s : State) (f : Safety → Safety) : (s.modSafety f).disp = s.disp := rfl
@[simp] theorem State.modSafety_readers (s : State) (f : Safety → Safety) : (s.modSafety f).readers = s.readers := rfl
@[simp] theorem State.modSafety_tag (s : State) (f : Safety → Safety) : (s.modSafety f).tag = s.tag := rfl
@[simp] theorem State.modSafety_mains (s : State) (f : Safety → Safety) : (s.modSafety f).mains = s.mains := rfl
@[simp] theorem State.modSafety_sitePeers (s : State) (f : Safety → Safety) : (s.modSafety f).sitePeers = s.sitePeers := rfl
@[simp] theorem State.modSafety_canOut (s : State) (f : Safety → Safety) : (s.modSafety f).canOut = s.canOut := rfl
@[simp] theorem State.modSafety_draws (s : State) (f : Safety → Safety) : (s.modSafety f).draws = s.draws := rfl
@[simp] theorem State.modSafety_pending (s : State) (f : Safety → Safety) : (s.modSafety f).pending = s.pending := rfl

/-! ### modTag -/

@[simp] theorem State.modTag_life (s : State) (f : Tag → Tag) : (s.modTag f).life = s.life := rfl
@[simp] theorem State.modTag_clk (s : State) (f : Tag → Tag) : (s.modTag f).clk = s.clk := rfl
@[simp] theorem State.modTag_time (s : State) (f : Tag → Tag) : (s.modTag f).time = s.time := rfl
@[simp] theorem State.modTag_power (s : State) (f : Tag → Tag) : (s.modTag f).power = s.power := rfl
@[simp] theorem State.modTag_spi (s : State) (f : Tag → Tag) : (s.modTag f).spi = s.spi := rfl
@[simp] theorem State.modTag_uart (s : State) (f : Tag → Tag) : (s.modTag f).uart = s.uart := rfl
@[simp] theorem State.modTag_uartRate (s : State) (f : Tag → Tag) : (s.modTag f).uartRate = s.uartRate := rfl
@[simp] theorem State.modTag_params (s : State) (f : Tag → Tag) : (s.modTag f).params = s.params := rfl
@[simp] theorem State.modTag_commits (s : State) (f : Tag → Tag) : (s.modTag f).commits = s.commits := rfl
@[simp] theorem State.modTag_bays (s : State) (f : Tag → Tag) : (s.modTag f).bays = s.bays := rfl
@[simp] theorem State.modTag_ctxs (s : State) (f : Tag → Tag) : (s.modTag f).ctxs = s.ctxs := rfl
@[simp] theorem State.modTag_queue (s : State) (f : Tag → Tag) : (s.modTag f).queue = s.queue := rfl
@[simp] theorem State.modTag_met (s : State) (f : Tag → Tag) : (s.modTag f).met = s.met := rfl
@[simp] theorem State.modTag_intervals (s : State) (f : Tag → Tag) : (s.modTag f).intervals = s.intervals := rfl
@[simp] theorem State.modTag_cals (s : State) (f : Tag → Tag) : (s.modTag f).cals = s.cals := rfl
@[simp] theorem State.modTag_legal (s : State) (f : Tag → Tag) : (s.modTag f).legal = s.legal := rfl
@[simp] theorem State.modTag_creds (s : State) (f : Tag → Tag) : (s.modTag f).creds = s.creds := rfl
@[simp] theorem State.modTag_budget (s : State) (f : Tag → Tag) : (s.modTag f).budget = s.budget := rfl
@[simp] theorem State.modTag_safety (s : State) (f : Tag → Tag) : (s.modTag f).safety = s.safety := rfl
@[simp] theorem State.modTag_cont (s : State) (f : Tag → Tag) : (s.modTag f).cont = s.cont := rfl
@[simp] theorem State.modTag_keys (s : State) (f : Tag → Tag) : (s.modTag f).keys = s.keys := rfl
@[simp] theorem State.modTag_images (s : State) (f : Tag → Tag) : (s.modTag f).images = s.images := rfl
@[simp] theorem State.modTag_recorder (s : State) (f : Tag → Tag) : (s.modTag f).recorder = s.recorder := rfl
@[simp] theorem State.modTag_perf (s : State) (f : Tag → Tag) : (s.modTag f).perf = s.perf := rfl
@[simp] theorem State.modTag_chans (s : State) (f : Tag → Tag) : (s.modTag f).chans = s.chans := rfl
@[simp] theorem State.modTag_groups (s : State) (f : Tag → Tag) : (s.modTag f).groups = s.groups := rfl
@[simp] theorem State.modTag_disp (s : State) (f : Tag → Tag) : (s.modTag f).disp = s.disp := rfl
@[simp] theorem State.modTag_readers (s : State) (f : Tag → Tag) : (s.modTag f).readers = s.readers := rfl
@[simp] theorem State.modTag_mains (s : State) (f : Tag → Tag) : (s.modTag f).mains = s.mains := rfl
@[simp] theorem State.modTag_sitePeers (s : State) (f : Tag → Tag) : (s.modTag f).sitePeers = s.sitePeers := rfl
@[simp] theorem State.modTag_canOut (s : State) (f : Tag → Tag) : (s.modTag f).canOut = s.canOut := rfl
@[simp] theorem State.modTag_draws (s : State) (f : Tag → Tag) : (s.modTag f).draws = s.draws := rfl
@[simp] theorem State.modTag_pending (s : State) (f : Tag → Tag) : (s.modTag f).pending = s.pending := rfl

/-! ### modDisp -/

@[simp] theorem State.modDisp_life (s : State) (f : Display → Display) : (s.modDisp f).life = s.life := rfl
@[simp] theorem State.modDisp_clk (s : State) (f : Display → Display) : (s.modDisp f).clk = s.clk := rfl
@[simp] theorem State.modDisp_time (s : State) (f : Display → Display) : (s.modDisp f).time = s.time := rfl
@[simp] theorem State.modDisp_power (s : State) (f : Display → Display) : (s.modDisp f).power = s.power := rfl
@[simp] theorem State.modDisp_spi (s : State) (f : Display → Display) : (s.modDisp f).spi = s.spi := rfl
@[simp] theorem State.modDisp_uart (s : State) (f : Display → Display) : (s.modDisp f).uart = s.uart := rfl
@[simp] theorem State.modDisp_uartRate (s : State) (f : Display → Display) : (s.modDisp f).uartRate = s.uartRate := rfl
@[simp] theorem State.modDisp_params (s : State) (f : Display → Display) : (s.modDisp f).params = s.params := rfl
@[simp] theorem State.modDisp_commits (s : State) (f : Display → Display) : (s.modDisp f).commits = s.commits := rfl
@[simp] theorem State.modDisp_bays (s : State) (f : Display → Display) : (s.modDisp f).bays = s.bays := rfl
@[simp] theorem State.modDisp_ctxs (s : State) (f : Display → Display) : (s.modDisp f).ctxs = s.ctxs := rfl
@[simp] theorem State.modDisp_queue (s : State) (f : Display → Display) : (s.modDisp f).queue = s.queue := rfl
@[simp] theorem State.modDisp_met (s : State) (f : Display → Display) : (s.modDisp f).met = s.met := rfl
@[simp] theorem State.modDisp_intervals (s : State) (f : Display → Display) : (s.modDisp f).intervals = s.intervals := rfl
@[simp] theorem State.modDisp_cals (s : State) (f : Display → Display) : (s.modDisp f).cals = s.cals := rfl
@[simp] theorem State.modDisp_legal (s : State) (f : Display → Display) : (s.modDisp f).legal = s.legal := rfl
@[simp] theorem State.modDisp_creds (s : State) (f : Display → Display) : (s.modDisp f).creds = s.creds := rfl
@[simp] theorem State.modDisp_budget (s : State) (f : Display → Display) : (s.modDisp f).budget = s.budget := rfl
@[simp] theorem State.modDisp_safety (s : State) (f : Display → Display) : (s.modDisp f).safety = s.safety := rfl
@[simp] theorem State.modDisp_cont (s : State) (f : Display → Display) : (s.modDisp f).cont = s.cont := rfl
@[simp] theorem State.modDisp_keys (s : State) (f : Display → Display) : (s.modDisp f).keys = s.keys := rfl
@[simp] theorem State.modDisp_images (s : State) (f : Display → Display) : (s.modDisp f).images = s.images := rfl
@[simp] theorem State.modDisp_recorder (s : State) (f : Display → Display) : (s.modDisp f).recorder = s.recorder := rfl
@[simp] theorem State.modDisp_perf (s : State) (f : Display → Display) : (s.modDisp f).perf = s.perf := rfl
@[simp] theorem State.modDisp_chans (s : State) (f : Display → Display) : (s.modDisp f).chans = s.chans := rfl
@[simp] theorem State.modDisp_groups (s : State) (f : Display → Display) : (s.modDisp f).groups = s.groups := rfl
@[simp] theorem State.modDisp_readers (s : State) (f : Display → Display) : (s.modDisp f).readers = s.readers := rfl
@[simp] theorem State.modDisp_tag (s : State) (f : Display → Display) : (s.modDisp f).tag = s.tag := rfl
@[simp] theorem State.modDisp_mains (s : State) (f : Display → Display) : (s.modDisp f).mains = s.mains := rfl
@[simp] theorem State.modDisp_sitePeers (s : State) (f : Display → Display) : (s.modDisp f).sitePeers = s.sitePeers := rfl
@[simp] theorem State.modDisp_canOut (s : State) (f : Display → Display) : (s.modDisp f).canOut = s.canOut := rfl
@[simp] theorem State.modDisp_draws (s : State) (f : Display → Display) : (s.modDisp f).draws = s.draws := rfl
@[simp] theorem State.modDisp_pending (s : State) (f : Display → Display) : (s.modDisp f).pending = s.pending := rfl

/-! ### modCont -/

@[simp] theorem State.modCont_life (s : State) (f : Continuity → Continuity) : (s.modCont f).life = s.life := rfl
@[simp] theorem State.modCont_clk (s : State) (f : Continuity → Continuity) : (s.modCont f).clk = s.clk := rfl
@[simp] theorem State.modCont_time (s : State) (f : Continuity → Continuity) : (s.modCont f).time = s.time := rfl
@[simp] theorem State.modCont_power (s : State) (f : Continuity → Continuity) : (s.modCont f).power = s.power := rfl
@[simp] theorem State.modCont_spi (s : State) (f : Continuity → Continuity) : (s.modCont f).spi = s.spi := rfl
@[simp] theorem State.modCont_uart (s : State) (f : Continuity → Continuity) : (s.modCont f).uart = s.uart := rfl
@[simp] theorem State.modCont_uartRate (s : State) (f : Continuity → Continuity) : (s.modCont f).uartRate = s.uartRate := rfl
@[simp] theorem State.modCont_params (s : State) (f : Continuity → Continuity) : (s.modCont f).params = s.params := rfl
@[simp] theorem State.modCont_commits (s : State) (f : Continuity → Continuity) : (s.modCont f).commits = s.commits := rfl
@[simp] theorem State.modCont_bays (s : State) (f : Continuity → Continuity) : (s.modCont f).bays = s.bays := rfl
@[simp] theorem State.modCont_ctxs (s : State) (f : Continuity → Continuity) : (s.modCont f).ctxs = s.ctxs := rfl
@[simp] theorem State.modCont_queue (s : State) (f : Continuity → Continuity) : (s.modCont f).queue = s.queue := rfl
@[simp] theorem State.modCont_met (s : State) (f : Continuity → Continuity) : (s.modCont f).met = s.met := rfl
@[simp] theorem State.modCont_intervals (s : State) (f : Continuity → Continuity) : (s.modCont f).intervals = s.intervals := rfl
@[simp] theorem State.modCont_cals (s : State) (f : Continuity → Continuity) : (s.modCont f).cals = s.cals := rfl
@[simp] theorem State.modCont_legal (s : State) (f : Continuity → Continuity) : (s.modCont f).legal = s.legal := rfl
@[simp] theorem State.modCont_creds (s : State) (f : Continuity → Continuity) : (s.modCont f).creds = s.creds := rfl
@[simp] theorem State.modCont_budget (s : State) (f : Continuity → Continuity) : (s.modCont f).budget = s.budget := rfl
@[simp] theorem State.modCont_safety (s : State) (f : Continuity → Continuity) : (s.modCont f).safety = s.safety := rfl
@[simp] theorem State.modCont_keys (s : State) (f : Continuity → Continuity) : (s.modCont f).keys = s.keys := rfl
@[simp] theorem State.modCont_images (s : State) (f : Continuity → Continuity) : (s.modCont f).images = s.images := rfl
@[simp] theorem State.modCont_recorder (s : State) (f : Continuity → Continuity) : (s.modCont f).recorder = s.recorder := rfl
@[simp] theorem State.modCont_perf (s : State) (f : Continuity → Continuity) : (s.modCont f).perf = s.perf := rfl
@[simp] theorem State.modCont_chans (s : State) (f : Continuity → Continuity) : (s.modCont f).chans = s.chans := rfl
@[simp] theorem State.modCont_groups (s : State) (f : Continuity → Continuity) : (s.modCont f).groups = s.groups := rfl
@[simp] theorem State.modCont_disp (s : State) (f : Continuity → Continuity) : (s.modCont f).disp = s.disp := rfl
@[simp] theorem State.modCont_readers (s : State) (f : Continuity → Continuity) : (s.modCont f).readers = s.readers := rfl
@[simp] theorem State.modCont_tag (s : State) (f : Continuity → Continuity) : (s.modCont f).tag = s.tag := rfl
@[simp] theorem State.modCont_mains (s : State) (f : Continuity → Continuity) : (s.modCont f).mains = s.mains := rfl
@[simp] theorem State.modCont_sitePeers (s : State) (f : Continuity → Continuity) : (s.modCont f).sitePeers = s.sitePeers := rfl
@[simp] theorem State.modCont_canOut (s : State) (f : Continuity → Continuity) : (s.modCont f).canOut = s.canOut := rfl
@[simp] theorem State.modCont_draws (s : State) (f : Continuity → Continuity) : (s.modCont f).draws = s.draws := rfl
@[simp] theorem State.modCont_pending (s : State) (f : Continuity → Continuity) : (s.modCont f).pending = s.pending := rfl

/-! ### modMains -/

@[simp] theorem State.modMains_life (s : State) (f : Mains → Mains) : (s.modMains f).life = s.life := rfl
@[simp] theorem State.modMains_clk (s : State) (f : Mains → Mains) : (s.modMains f).clk = s.clk := rfl
@[simp] theorem State.modMains_time (s : State) (f : Mains → Mains) : (s.modMains f).time = s.time := rfl
@[simp] theorem State.modMains_power (s : State) (f : Mains → Mains) : (s.modMains f).power = s.power := rfl
@[simp] theorem State.modMains_spi (s : State) (f : Mains → Mains) : (s.modMains f).spi = s.spi := rfl
@[simp] theorem State.modMains_uart (s : State) (f : Mains → Mains) : (s.modMains f).uart = s.uart := rfl
@[simp] theorem State.modMains_uartRate (s : State) (f : Mains → Mains) : (s.modMains f).uartRate = s.uartRate := rfl
@[simp] theorem State.modMains_params (s : State) (f : Mains → Mains) : (s.modMains f).params = s.params := rfl
@[simp] theorem State.modMains_commits (s : State) (f : Mains → Mains) : (s.modMains f).commits = s.commits := rfl
@[simp] theorem State.modMains_bays (s : State) (f : Mains → Mains) : (s.modMains f).bays = s.bays := rfl
@[simp] theorem State.modMains_ctxs (s : State) (f : Mains → Mains) : (s.modMains f).ctxs = s.ctxs := rfl
@[simp] theorem State.modMains_queue (s : State) (f : Mains → Mains) : (s.modMains f).queue = s.queue := rfl
@[simp] theorem State.modMains_met (s : State) (f : Mains → Mains) : (s.modMains f).met = s.met := rfl
@[simp] theorem State.modMains_intervals (s : State) (f : Mains → Mains) : (s.modMains f).intervals = s.intervals := rfl
@[simp] theorem State.modMains_cals (s : State) (f : Mains → Mains) : (s.modMains f).cals = s.cals := rfl
@[simp] theorem State.modMains_legal (s : State) (f : Mains → Mains) : (s.modMains f).legal = s.legal := rfl
@[simp] theorem State.modMains_creds (s : State) (f : Mains → Mains) : (s.modMains f).creds = s.creds := rfl
@[simp] theorem State.modMains_budget (s : State) (f : Mains → Mains) : (s.modMains f).budget = s.budget := rfl
@[simp] theorem State.modMains_safety (s : State) (f : Mains → Mains) : (s.modMains f).safety = s.safety := rfl
@[simp] theorem State.modMains_cont (s : State) (f : Mains → Mains) : (s.modMains f).cont = s.cont := rfl
@[simp] theorem State.modMains_keys (s : State) (f : Mains → Mains) : (s.modMains f).keys = s.keys := rfl
@[simp] theorem State.modMains_images (s : State) (f : Mains → Mains) : (s.modMains f).images = s.images := rfl
@[simp] theorem State.modMains_recorder (s : State) (f : Mains → Mains) : (s.modMains f).recorder = s.recorder := rfl
@[simp] theorem State.modMains_perf (s : State) (f : Mains → Mains) : (s.modMains f).perf = s.perf := rfl
@[simp] theorem State.modMains_chans (s : State) (f : Mains → Mains) : (s.modMains f).chans = s.chans := rfl
@[simp] theorem State.modMains_groups (s : State) (f : Mains → Mains) : (s.modMains f).groups = s.groups := rfl
@[simp] theorem State.modMains_disp (s : State) (f : Mains → Mains) : (s.modMains f).disp = s.disp := rfl
@[simp] theorem State.modMains_readers (s : State) (f : Mains → Mains) : (s.modMains f).readers = s.readers := rfl
@[simp] theorem State.modMains_tag (s : State) (f : Mains → Mains) : (s.modMains f).tag = s.tag := rfl
@[simp] theorem State.modMains_sitePeers (s : State) (f : Mains → Mains) : (s.modMains f).sitePeers = s.sitePeers := rfl
@[simp] theorem State.modMains_canOut (s : State) (f : Mains → Mains) : (s.modMains f).canOut = s.canOut := rfl
@[simp] theorem State.modMains_draws (s : State) (f : Mains → Mains) : (s.modMains f).draws = s.draws := rfl
@[simp] theorem State.modMains_pending (s : State) (f : Mains → Mains) : (s.modMains f).pending = s.pending := rfl

/-! ### modReg -/

@[simp] theorem State.modReg_life (s : State) (k : Nat) (f : RegSet → RegSet) : (s.modReg k f).life = s.life := rfl
@[simp] theorem State.modReg_clk (s : State) (k : Nat) (f : RegSet → RegSet) : (s.modReg k f).clk = s.clk := rfl
@[simp] theorem State.modReg_time (s : State) (k : Nat) (f : RegSet → RegSet) : (s.modReg k f).time = s.time := rfl
@[simp] theorem State.modReg_power (s : State) (k : Nat) (f : RegSet → RegSet) : (s.modReg k f).power = s.power := rfl
@[simp] theorem State.modReg_spi (s : State) (k : Nat) (f : RegSet → RegSet) : (s.modReg k f).spi = s.spi := rfl
@[simp] theorem State.modReg_uart (s : State) (k : Nat) (f : RegSet → RegSet) : (s.modReg k f).uart = s.uart := rfl
@[simp] theorem State.modReg_uartRate (s : State) (k : Nat) (f : RegSet → RegSet) : (s.modReg k f).uartRate = s.uartRate := rfl
@[simp] theorem State.modReg_params (s : State) (k : Nat) (f : RegSet → RegSet) : (s.modReg k f).params = s.params := rfl
@[simp] theorem State.modReg_commits (s : State) (k : Nat) (f : RegSet → RegSet) : (s.modReg k f).commits = s.commits := rfl
@[simp] theorem State.modReg_bays (s : State) (k : Nat) (f : RegSet → RegSet) : (s.modReg k f).bays = s.bays := rfl
@[simp] theorem State.modReg_ctxs (s : State) (k : Nat) (f : RegSet → RegSet) : (s.modReg k f).ctxs = s.ctxs := rfl
@[simp] theorem State.modReg_queue (s : State) (k : Nat) (f : RegSet → RegSet) : (s.modReg k f).queue = s.queue := rfl
@[simp] theorem State.modReg_intervals (s : State) (k : Nat) (f : RegSet → RegSet) : (s.modReg k f).intervals = s.intervals := rfl
@[simp] theorem State.modReg_cals (s : State) (k : Nat) (f : RegSet → RegSet) : (s.modReg k f).cals = s.cals := rfl
@[simp] theorem State.modReg_legal (s : State) (k : Nat) (f : RegSet → RegSet) : (s.modReg k f).legal = s.legal := rfl
@[simp] theorem State.modReg_creds (s : State) (k : Nat) (f : RegSet → RegSet) : (s.modReg k f).creds = s.creds := rfl
@[simp] theorem State.modReg_budget (s : State) (k : Nat) (f : RegSet → RegSet) : (s.modReg k f).budget = s.budget := rfl
@[simp] theorem State.modReg_safety (s : State) (k : Nat) (f : RegSet → RegSet) : (s.modReg k f).safety = s.safety := rfl
@[simp] theorem State.modReg_cont (s : State) (k : Nat) (f : RegSet → RegSet) : (s.modReg k f).cont = s.cont := rfl
@[simp] theorem State.modReg_keys (s : State) (k : Nat) (f : RegSet → RegSet) : (s.modReg k f).keys = s.keys := rfl
@[simp] theorem State.modReg_images (s : State) (k : Nat) (f : RegSet → RegSet) : (s.modReg k f).images = s.images := rfl
@[simp] theorem State.modReg_recorder (s : State) (k : Nat) (f : RegSet → RegSet) : (s.modReg k f).recorder = s.recorder := rfl
@[simp] theorem State.modReg_perf (s : State) (k : Nat) (f : RegSet → RegSet) : (s.modReg k f).perf = s.perf := rfl
@[simp] theorem State.modReg_chans (s : State) (k : Nat) (f : RegSet → RegSet) : (s.modReg k f).chans = s.chans := rfl
@[simp] theorem State.modReg_groups (s : State) (k : Nat) (f : RegSet → RegSet) : (s.modReg k f).groups = s.groups := rfl
@[simp] theorem State.modReg_disp (s : State) (k : Nat) (f : RegSet → RegSet) : (s.modReg k f).disp = s.disp := rfl
@[simp] theorem State.modReg_readers (s : State) (k : Nat) (f : RegSet → RegSet) : (s.modReg k f).readers = s.readers := rfl
@[simp] theorem State.modReg_tag (s : State) (k : Nat) (f : RegSet → RegSet) : (s.modReg k f).tag = s.tag := rfl
@[simp] theorem State.modReg_mains (s : State) (k : Nat) (f : RegSet → RegSet) : (s.modReg k f).mains = s.mains := rfl
@[simp] theorem State.modReg_sitePeers (s : State) (k : Nat) (f : RegSet → RegSet) : (s.modReg k f).sitePeers = s.sitePeers := rfl
@[simp] theorem State.modReg_canOut (s : State) (k : Nat) (f : RegSet → RegSet) : (s.modReg k f).canOut = s.canOut := rfl
@[simp] theorem State.modReg_draws (s : State) (k : Nat) (f : RegSet → RegSet) : (s.modReg k f).draws = s.draws := rfl
@[simp] theorem State.modReg_pending (s : State) (k : Nat) (f : RegSet → RegSet) : (s.modReg k f).pending = s.pending := rfl

/-! ### modPulse -/

@[simp] theorem State.modPulse_life (s : State) (k : Nat) (f : PulseOut → PulseOut) : (s.modPulse k f).life = s.life := rfl
@[simp] theorem State.modPulse_clk (s : State) (k : Nat) (f : PulseOut → PulseOut) : (s.modPulse k f).clk = s.clk := rfl
@[simp] theorem State.modPulse_time (s : State) (k : Nat) (f : PulseOut → PulseOut) : (s.modPulse k f).time = s.time := rfl
@[simp] theorem State.modPulse_power (s : State) (k : Nat) (f : PulseOut → PulseOut) : (s.modPulse k f).power = s.power := rfl
@[simp] theorem State.modPulse_spi (s : State) (k : Nat) (f : PulseOut → PulseOut) : (s.modPulse k f).spi = s.spi := rfl
@[simp] theorem State.modPulse_uart (s : State) (k : Nat) (f : PulseOut → PulseOut) : (s.modPulse k f).uart = s.uart := rfl
@[simp] theorem State.modPulse_uartRate (s : State) (k : Nat) (f : PulseOut → PulseOut) : (s.modPulse k f).uartRate = s.uartRate := rfl
@[simp] theorem State.modPulse_params (s : State) (k : Nat) (f : PulseOut → PulseOut) : (s.modPulse k f).params = s.params := rfl
@[simp] theorem State.modPulse_commits (s : State) (k : Nat) (f : PulseOut → PulseOut) : (s.modPulse k f).commits = s.commits := rfl
@[simp] theorem State.modPulse_bays (s : State) (k : Nat) (f : PulseOut → PulseOut) : (s.modPulse k f).bays = s.bays := rfl
@[simp] theorem State.modPulse_ctxs (s : State) (k : Nat) (f : PulseOut → PulseOut) : (s.modPulse k f).ctxs = s.ctxs := rfl
@[simp] theorem State.modPulse_queue (s : State) (k : Nat) (f : PulseOut → PulseOut) : (s.modPulse k f).queue = s.queue := rfl
@[simp] theorem State.modPulse_intervals (s : State) (k : Nat) (f : PulseOut → PulseOut) : (s.modPulse k f).intervals = s.intervals := rfl
@[simp] theorem State.modPulse_cals (s : State) (k : Nat) (f : PulseOut → PulseOut) : (s.modPulse k f).cals = s.cals := rfl
@[simp] theorem State.modPulse_legal (s : State) (k : Nat) (f : PulseOut → PulseOut) : (s.modPulse k f).legal = s.legal := rfl
@[simp] theorem State.modPulse_creds (s : State) (k : Nat) (f : PulseOut → PulseOut) : (s.modPulse k f).creds = s.creds := rfl
@[simp] theorem State.modPulse_budget (s : State) (k : Nat) (f : PulseOut → PulseOut) : (s.modPulse k f).budget = s.budget := rfl
@[simp] theorem State.modPulse_safety (s : State) (k : Nat) (f : PulseOut → PulseOut) : (s.modPulse k f).safety = s.safety := rfl
@[simp] theorem State.modPulse_cont (s : State) (k : Nat) (f : PulseOut → PulseOut) : (s.modPulse k f).cont = s.cont := rfl
@[simp] theorem State.modPulse_keys (s : State) (k : Nat) (f : PulseOut → PulseOut) : (s.modPulse k f).keys = s.keys := rfl
@[simp] theorem State.modPulse_images (s : State) (k : Nat) (f : PulseOut → PulseOut) : (s.modPulse k f).images = s.images := rfl
@[simp] theorem State.modPulse_recorder (s : State) (k : Nat) (f : PulseOut → PulseOut) : (s.modPulse k f).recorder = s.recorder := rfl
@[simp] theorem State.modPulse_perf (s : State) (k : Nat) (f : PulseOut → PulseOut) : (s.modPulse k f).perf = s.perf := rfl
@[simp] theorem State.modPulse_chans (s : State) (k : Nat) (f : PulseOut → PulseOut) : (s.modPulse k f).chans = s.chans := rfl
@[simp] theorem State.modPulse_groups (s : State) (k : Nat) (f : PulseOut → PulseOut) : (s.modPulse k f).groups = s.groups := rfl
@[simp] theorem State.modPulse_disp (s : State) (k : Nat) (f : PulseOut → PulseOut) : (s.modPulse k f).disp = s.disp := rfl
@[simp] theorem State.modPulse_readers (s : State) (k : Nat) (f : PulseOut → PulseOut) : (s.modPulse k f).readers = s.readers := rfl
@[simp] theorem State.modPulse_tag (s : State) (k : Nat) (f : PulseOut → PulseOut) : (s.modPulse k f).tag = s.tag := rfl
@[simp] theorem State.modPulse_mains (s : State) (k : Nat) (f : PulseOut → PulseOut) : (s.modPulse k f).mains = s.mains := rfl
@[simp] theorem State.modPulse_sitePeers (s : State) (k : Nat) (f : PulseOut → PulseOut) : (s.modPulse k f).sitePeers = s.sitePeers := rfl
@[simp] theorem State.modPulse_canOut (s : State) (k : Nat) (f : PulseOut → PulseOut) : (s.modPulse k f).canOut = s.canOut := rfl
@[simp] theorem State.modPulse_draws (s : State) (k : Nat) (f : PulseOut → PulseOut) : (s.modPulse k f).draws = s.draws := rfl
@[simp] theorem State.modPulse_pending (s : State) (k : Nat) (f : PulseOut → PulseOut) : (s.modPulse k f).pending = s.pending := rfl

/-! ### modIntervalSet -/

@[simp] theorem State.modIntervalSet_life (s : State) (k : Nat) (f : IntervalSet → IntervalSet) : (s.modIntervalSet k f).life = s.life := rfl
@[simp] theorem State.modIntervalSet_clk (s : State) (k : Nat) (f : IntervalSet → IntervalSet) : (s.modIntervalSet k f).clk = s.clk := rfl
@[simp] theorem State.modIntervalSet_time (s : State) (k : Nat) (f : IntervalSet → IntervalSet) : (s.modIntervalSet k f).time = s.time := rfl
@[simp] theorem State.modIntervalSet_power (s : State) (k : Nat) (f : IntervalSet → IntervalSet) : (s.modIntervalSet k f).power = s.power := rfl
@[simp] theorem State.modIntervalSet_spi (s : State) (k : Nat) (f : IntervalSet → IntervalSet) : (s.modIntervalSet k f).spi = s.spi := rfl
@[simp] theorem State.modIntervalSet_uart (s : State) (k : Nat) (f : IntervalSet → IntervalSet) : (s.modIntervalSet k f).uart = s.uart := rfl
@[simp] theorem State.modIntervalSet_uartRate (s : State) (k : Nat) (f : IntervalSet → IntervalSet) : (s.modIntervalSet k f).uartRate = s.uartRate := rfl
@[simp] theorem State.modIntervalSet_params (s : State) (k : Nat) (f : IntervalSet → IntervalSet) : (s.modIntervalSet k f).params = s.params := rfl
@[simp] theorem State.modIntervalSet_commits (s : State) (k : Nat) (f : IntervalSet → IntervalSet) : (s.modIntervalSet k f).commits = s.commits := rfl
@[simp] theorem State.modIntervalSet_bays (s : State) (k : Nat) (f : IntervalSet → IntervalSet) : (s.modIntervalSet k f).bays = s.bays := rfl
@[simp] theorem State.modIntervalSet_ctxs (s : State) (k : Nat) (f : IntervalSet → IntervalSet) : (s.modIntervalSet k f).ctxs = s.ctxs := rfl
@[simp] theorem State.modIntervalSet_queue (s : State) (k : Nat) (f : IntervalSet → IntervalSet) : (s.modIntervalSet k f).queue = s.queue := rfl
@[simp] theorem State.modIntervalSet_met (s : State) (k : Nat) (f : IntervalSet → IntervalSet) : (s.modIntervalSet k f).met = s.met := rfl
@[simp] theorem State.modIntervalSet_cals (s : State) (k : Nat) (f : IntervalSet → IntervalSet) : (s.modIntervalSet k f).cals = s.cals := rfl
@[simp] theorem State.modIntervalSet_legal (s : State) (k : Nat) (f : IntervalSet → IntervalSet) : (s.modIntervalSet k f).legal = s.legal := rfl
@[simp] theorem State.modIntervalSet_creds (s : State) (k : Nat) (f : IntervalSet → IntervalSet) : (s.modIntervalSet k f).creds = s.creds := rfl
@[simp] theorem State.modIntervalSet_budget (s : State) (k : Nat) (f : IntervalSet → IntervalSet) : (s.modIntervalSet k f).budget = s.budget := rfl
@[simp] theorem State.modIntervalSet_safety (s : State) (k : Nat) (f : IntervalSet → IntervalSet) : (s.modIntervalSet k f).safety = s.safety := rfl
@[simp] theorem State.modIntervalSet_cont (s : State) (k : Nat) (f : IntervalSet → IntervalSet) : (s.modIntervalSet k f).cont = s.cont := rfl
@[simp] theorem State.modIntervalSet_keys (s : State) (k : Nat) (f : IntervalSet → IntervalSet) : (s.modIntervalSet k f).keys = s.keys := rfl
@[simp] theorem State.modIntervalSet_images (s : State) (k : Nat) (f : IntervalSet → IntervalSet) : (s.modIntervalSet k f).images = s.images := rfl
@[simp] theorem State.modIntervalSet_recorder (s : State) (k : Nat) (f : IntervalSet → IntervalSet) : (s.modIntervalSet k f).recorder = s.recorder := rfl
@[simp] theorem State.modIntervalSet_perf (s : State) (k : Nat) (f : IntervalSet → IntervalSet) : (s.modIntervalSet k f).perf = s.perf := rfl
@[simp] theorem State.modIntervalSet_chans (s : State) (k : Nat) (f : IntervalSet → IntervalSet) : (s.modIntervalSet k f).chans = s.chans := rfl
@[simp] theorem State.modIntervalSet_groups (s : State) (k : Nat) (f : IntervalSet → IntervalSet) : (s.modIntervalSet k f).groups = s.groups := rfl
@[simp] theorem State.modIntervalSet_disp (s : State) (k : Nat) (f : IntervalSet → IntervalSet) : (s.modIntervalSet k f).disp = s.disp := rfl
@[simp] theorem State.modIntervalSet_readers (s : State) (k : Nat) (f : IntervalSet → IntervalSet) : (s.modIntervalSet k f).readers = s.readers := rfl
@[simp] theorem State.modIntervalSet_tag (s : State) (k : Nat) (f : IntervalSet → IntervalSet) : (s.modIntervalSet k f).tag = s.tag := rfl
@[simp] theorem State.modIntervalSet_mains (s : State) (k : Nat) (f : IntervalSet → IntervalSet) : (s.modIntervalSet k f).mains = s.mains := rfl
@[simp] theorem State.modIntervalSet_sitePeers (s : State) (k : Nat) (f : IntervalSet → IntervalSet) : (s.modIntervalSet k f).sitePeers = s.sitePeers := rfl
@[simp] theorem State.modIntervalSet_canOut (s : State) (k : Nat) (f : IntervalSet → IntervalSet) : (s.modIntervalSet k f).canOut = s.canOut := rfl
@[simp] theorem State.modIntervalSet_draws (s : State) (k : Nat) (f : IntervalSet → IntervalSet) : (s.modIntervalSet k f).draws = s.draws := rfl
@[simp] theorem State.modIntervalSet_pending (s : State) (k : Nat) (f : IntervalSet → IntervalSet) : (s.modIntervalSet k f).pending = s.pending := rfl

/-! ### modPort -/

@[simp] theorem State.modPort_life (s : State) (p : HostPort) (f : PortState → PortState) : (s.modPort p f).life = s.life := by
  cases p <;> rfl
@[simp] theorem State.modPort_clk (s : State) (p : HostPort) (f : PortState → PortState) : (s.modPort p f).clk = s.clk := by
  cases p <;> rfl
@[simp] theorem State.modPort_time (s : State) (p : HostPort) (f : PortState → PortState) : (s.modPort p f).time = s.time := by
  cases p <;> rfl
@[simp] theorem State.modPort_power (s : State) (p : HostPort) (f : PortState → PortState) : (s.modPort p f).power = s.power := by
  cases p <;> rfl
@[simp] theorem State.modPort_uartRate (s : State) (p : HostPort) (f : PortState → PortState) : (s.modPort p f).uartRate = s.uartRate := by
  cases p <;> rfl
@[simp] theorem State.modPort_params (s : State) (p : HostPort) (f : PortState → PortState) : (s.modPort p f).params = s.params := by
  cases p <;> rfl
@[simp] theorem State.modPort_commits (s : State) (p : HostPort) (f : PortState → PortState) : (s.modPort p f).commits = s.commits := by
  cases p <;> rfl
@[simp] theorem State.modPort_bays (s : State) (p : HostPort) (f : PortState → PortState) : (s.modPort p f).bays = s.bays := by
  cases p <;> rfl
@[simp] theorem State.modPort_ctxs (s : State) (p : HostPort) (f : PortState → PortState) : (s.modPort p f).ctxs = s.ctxs := by
  cases p <;> rfl
@[simp] theorem State.modPort_queue (s : State) (p : HostPort) (f : PortState → PortState) : (s.modPort p f).queue = s.queue := by
  cases p <;> rfl
@[simp] theorem State.modPort_met (s : State) (p : HostPort) (f : PortState → PortState) : (s.modPort p f).met = s.met := by
  cases p <;> rfl
@[simp] theorem State.modPort_intervals (s : State) (p : HostPort) (f : PortState → PortState) : (s.modPort p f).intervals = s.intervals := by
  cases p <;> rfl
@[simp] theorem State.modPort_cals (s : State) (p : HostPort) (f : PortState → PortState) : (s.modPort p f).cals = s.cals := by
  cases p <;> rfl
@[simp] theorem State.modPort_legal (s : State) (p : HostPort) (f : PortState → PortState) : (s.modPort p f).legal = s.legal := by
  cases p <;> rfl
@[simp] theorem State.modPort_creds (s : State) (p : HostPort) (f : PortState → PortState) : (s.modPort p f).creds = s.creds := by
  cases p <;> rfl
@[simp] theorem State.modPort_budget (s : State) (p : HostPort) (f : PortState → PortState) : (s.modPort p f).budget = s.budget := by
  cases p <;> rfl
@[simp] theorem State.modPort_safety (s : State) (p : HostPort) (f : PortState → PortState) : (s.modPort p f).safety = s.safety := by
  cases p <;> rfl
@[simp] theorem State.modPort_cont (s : State) (p : HostPort) (f : PortState → PortState) : (s.modPort p f).cont = s.cont := by
  cases p <;> rfl
@[simp] theorem State.modPort_keys (s : State) (p : HostPort) (f : PortState → PortState) : (s.modPort p f).keys = s.keys := by
  cases p <;> rfl
@[simp] theorem State.modPort_images (s : State) (p : HostPort) (f : PortState → PortState) : (s.modPort p f).images = s.images := by
  cases p <;> rfl
@[simp] theorem State.modPort_recorder (s : State) (p : HostPort) (f : PortState → PortState) : (s.modPort p f).recorder = s.recorder := by
  cases p <;> rfl
@[simp] theorem State.modPort_perf (s : State) (p : HostPort) (f : PortState → PortState) : (s.modPort p f).perf = s.perf := by
  cases p <;> rfl
@[simp] theorem State.modPort_chans (s : State) (p : HostPort) (f : PortState → PortState) : (s.modPort p f).chans = s.chans := by
  cases p <;> rfl
@[simp] theorem State.modPort_groups (s : State) (p : HostPort) (f : PortState → PortState) : (s.modPort p f).groups = s.groups := by
  cases p <;> rfl
@[simp] theorem State.modPort_disp (s : State) (p : HostPort) (f : PortState → PortState) : (s.modPort p f).disp = s.disp := by
  cases p <;> rfl
@[simp] theorem State.modPort_readers (s : State) (p : HostPort) (f : PortState → PortState) : (s.modPort p f).readers = s.readers := by
  cases p <;> rfl
@[simp] theorem State.modPort_tag (s : State) (p : HostPort) (f : PortState → PortState) : (s.modPort p f).tag = s.tag := by
  cases p <;> rfl
@[simp] theorem State.modPort_mains (s : State) (p : HostPort) (f : PortState → PortState) : (s.modPort p f).mains = s.mains := by
  cases p <;> rfl
@[simp] theorem State.modPort_sitePeers (s : State) (p : HostPort) (f : PortState → PortState) : (s.modPort p f).sitePeers = s.sitePeers := by
  cases p <;> rfl
@[simp] theorem State.modPort_canOut (s : State) (p : HostPort) (f : PortState → PortState) : (s.modPort p f).canOut = s.canOut := by
  cases p <;> rfl
@[simp] theorem State.modPort_draws (s : State) (p : HostPort) (f : PortState → PortState) : (s.modPort p f).draws = s.draws := by
  cases p <;> rfl
@[simp] theorem State.modPort_pending (s : State) (p : HostPort) (f : PortState → PortState) : (s.modPort p f).pending = s.pending := by
  cases p <;> rfl

@[simp] theorem State.port_modPort (s : State) (p : HostPort) (f : PortState → PortState) : (s.modPort p f).port p = f (s.port p) := by
  cases p <;> rfl

/-! ### Units after their own update -/

@[simp] theorem State.bay_modBay (s : State) (b : Nat) (f : Bay → Bay) (h : b < s.bays.length) :
    (s.modBay b f).bay b = f (s.bay b) := by
  simp [State.bay, State.modBay, h]

@[simp] theorem State.ctx_modCtx (s : State) (c : Nat) (f : Ctx → Ctx) (h : c < s.ctxs.length) :
    (s.modCtx c f).ctx c = f (s.ctx c) := by
  simp [State.ctx, State.modCtx, h]

@[simp] theorem State.chan_modChan (s : State) (k : Nat) (f : Chan → Chan) (h : k < s.chans.length) :
    (s.modChan k f).chan k = f (s.chan k) := by
  simp [State.chan, State.modChan, h]

@[simp] theorem State.key_modKey (s : State) (k : Nat) (f : KeySlot → KeySlot) (h : k < s.keys.length) :
    (s.modKey k f).key k = f (s.key k) := by
  simp [State.key, State.modKey, h]

@[simp] theorem State.reader_modReader (s : State) (k : Nat) (f : Reader → Reader) (h : k < s.readers.length) :
    (s.modReader k f).reader k = f (s.reader k) := by
  simp [State.reader, State.modReader, h]

/-! ### Other units -/

theorem State.bay_modBay_ne (s : State) {b b' : Nat} (f : Bay → Bay) (h : b ≠ b') : (s.modBay b f).bay b' = s.bay b' := by
  simp [State.bay, State.modBay, h]

theorem State.ctx_modCtx_ne (s : State) {c c' : Nat} (f : Ctx → Ctx) (h : c ≠ c') : (s.modCtx c f).ctx c' = s.ctx c' := by
  simp [State.ctx, State.modCtx, h]

theorem State.chan_modChan_ne (s : State) {k k' : Nat} (f : Chan → Chan) (h : k ≠ k') : (s.modChan k f).chan k' = s.chan k' := by
  simp [State.chan, State.modChan, h]

end Sys2Proof.Machine
end

