-- ==== Sys2Proof/Laws/Report.lean ====
section
/-! SUPPORT. What reporting can change: a count and a level touch the performance counters alone, an event record the recorder too,
and a notification the two host ports besides. -/

namespace Sys2Proof.Machine

open Sys2Proof

/-- The states differ in the recorder and the counters at most. -/
def RecordOnly (s t : State) : Prop := ∃ q r, t = { s with recorder := q, perf := r }

/-- The states differ in what reporting touches at most: both ports, the recorder and the counters. -/
def ReportOnly (s t : State) : Prop := ∃ a b q r, t = { s with spi := a, uart := b, recorder := q, perf := r }

theorem bufferRecord_recordOnly (type src sev : Nat) (payload : Bytes) (full : Bool) (s : State) :
    RecordOnly s (bufferRecord type src sev payload full s) := by
  unfold bufferRecord
  dsimp only
  split <;> exact ⟨_, _, rfl⟩

theorem recordAs_recordOnly (type src sev : Nat) (payload : Bytes) (full : Bool) (s : State) :
    RecordOnly s (recordAs type src sev payload full s) := by
  unfold recordAs
  split
  · exact ⟨_, _, rfl⟩
  · split
    · exact ⟨_, _, rfl⟩
    · exact bufferRecord_recordOnly _ _ _ _ _ _

theorem ntfToPort_reportOnly (op : Nat) (payload : Bytes) (cmd : Option CmdRef) (status : Nat) (p : HostPort) (s : State) :
    ReportOnly s (ntfToPort op payload cmd status p s) := by
  unfold ntfToPort
  split
  · exact ⟨_, _, _, _, rfl⟩
  · cases p <;> exact ⟨_, _, _, _, rfl⟩

theorem freeTag_reportOnly (cmd : Option CmdRef) (s : State) : ReportOnly s (freeTag cmd s) := by
  unfold freeTag
  cases cmd with
  | none => exact ⟨_, _, _, _, rfl⟩
  | some c => dsimp only; cases c.port <;> exact ⟨_, _, _, _, rfl⟩

theorem RecordOnly.report {s t : State} (h : RecordOnly s t) : ReportOnly s t := by
  obtain ⟨q, r, rfl⟩ := h
  exact ⟨_, _, _, _, rfl⟩

theorem ReportOnly.trans {s t u : State} (h1 : ReportOnly s t) (h2 : ReportOnly t u) : ReportOnly s u := by
  obtain ⟨a, b, q, r, rfl⟩ := h1
  obtain ⟨a', b', q', r', rfl⟩ := h2
  exact ⟨_, _, _, _, rfl⟩

theorem notifyFull_reportOnly (op src sev : Nat) (payload : Bytes) (cmd : Option CmdRef) (status : Nat) (s : State) :
    ReportOnly s (notifyFull op src sev payload cmd status s) := by
  have h := ((ntfToPort_reportOnly op payload cmd status .spi s).trans (ntfToPort_reportOnly op payload cmd status .uart _)).trans
    (freeTag_reportOnly cmd _)
  unfold notifyFull
  dsimp only
  split
  · exact h.trans (recordAs_recordOnly _ _ _ _ _ _).report
  · exact h

/-! ### count, field by field -/

@[simp] theorem count_life (ev inst n : Nat) (s : State) : (count ev inst n s).life = s.life := rfl
@[simp] theorem count_clk (ev inst n : Nat) (s : State) : (count ev inst n s).clk = s.clk := rfl
@[simp] theorem count_time (ev inst n : Nat) (s : State) : (count ev inst n s).time = s.time := rfl
@[simp] theorem count_power (ev inst n : Nat) (s : State) : (count ev inst n s).power = s.power := rfl
@[simp] theorem count_spi (ev inst n : Nat) (s : State) : (count ev inst n s).spi = s.spi := rfl
@[simp] theorem count_uart (ev inst n : Nat) (s : State) : (count ev inst n s).uart = s.uart := rfl
@[simp] theorem count_uartRate (ev inst n : Nat) (s : State) : (count ev inst n s).uartRate = s.uartRate := rfl
@[simp] theorem count_params (ev inst n : Nat) (s : State) : (count ev inst n s).params = s.params := rfl
@[simp] theorem count_commits (ev inst n : Nat) (s : State) : (count ev inst n s).commits = s.commits := rfl
@[simp] theorem count_bays (ev inst n : Nat) (s : State) : (count ev inst n s).bays = s.bays := rfl
@[simp] theorem count_ctxs (ev inst n : Nat) (s : State) : (count ev inst n s).ctxs = s.ctxs := rfl
@[simp] theorem count_queue (ev inst n : Nat) (s : State) : (count ev inst n s).queue = s.queue := rfl
@[simp] theorem count_met (ev inst n : Nat) (s : State) : (count ev inst n s).met = s.met := rfl
@[simp] theorem count_intervals (ev inst n : Nat) (s : State) : (count ev inst n s).intervals = s.intervals := rfl
@[simp] theorem count_cals (ev inst n : Nat) (s : State) : (count ev inst n s).cals = s.cals := rfl
@[simp] theorem count_legal (ev inst n : Nat) (s : State) : (count ev inst n s).legal = s.legal := rfl
@[simp] theorem count_creds (ev inst n : Nat) (s : State) : (count ev inst n s).creds = s.creds := rfl
@[simp] theorem count_budget (ev inst n : Nat) (s : State) : (count ev inst n s).budget = s.budget := rfl
@[simp] theorem count_safety (ev inst n : Nat) (s : State) : (count ev inst n s).safety = s.safety := rfl
@[simp] theorem count_cont (ev inst n : Nat) (s : State) : (count ev inst n s).cont = s.cont := rfl
@[simp] theorem count_keys (ev inst n : Nat) (s : State) : (count ev inst n s).keys = s.keys := rfl
@[simp] theorem count_images (ev inst n : Nat) (s : State) : (count ev inst n s).images = s.images := rfl
@[simp] theorem count_recorder (ev inst n : Nat) (s : State) : (count ev inst n s).recorder = s.recorder := rfl
@[simp] theorem count_chans (ev inst n : Nat) (s : State) : (count ev inst n s).chans = s.chans := rfl
@[simp] theorem count_groups (ev inst n : Nat) (s : State) : (count ev inst n s).groups = s.groups := rfl
@[simp] theorem count_disp (ev inst n : Nat) (s : State) : (count ev inst n s).disp = s.disp := rfl
@[simp] theorem count_readers (ev inst n : Nat) (s : State) : (count ev inst n s).readers = s.readers := rfl
@[simp] theorem count_tag (ev inst n : Nat) (s : State) : (count ev inst n s).tag = s.tag := rfl
@[simp] theorem count_mains (ev inst n : Nat) (s : State) : (count ev inst n s).mains = s.mains := rfl
@[simp] theorem count_sitePeers (ev inst n : Nat) (s : State) : (count ev inst n s).sitePeers = s.sitePeers := rfl
@[simp] theorem count_canOut (ev inst n : Nat) (s : State) : (count ev inst n s).canOut = s.canOut := rfl
@[simp] theorem count_draws (ev inst n : Nat) (s : State) : (count ev inst n s).draws = s.draws := rfl
@[simp] theorem count_pending (ev inst n : Nat) (s : State) : (count ev inst n s).pending = s.pending := rfl

/-! ### level, field by field -/

@[simp] theorem level_life (ev inst v : Nat) (s : State) : (level ev inst v s).life = s.life := rfl
@[simp] theorem level_clk (ev inst v : Nat) (s : State) : (level ev inst v s).clk = s.clk := rfl
@[simp] theorem level_time (ev inst v : Nat) (s : State) : (level ev inst v s).time = s.time := rfl
@[simp] theorem level_power (ev inst v : Nat) (s : State) : (level ev inst v s).power = s.power := rfl
@[simp] theorem level_spi (ev inst v : Nat) (s : State) : (level ev inst v s).spi = s.spi := rfl
@[simp] theorem level_uart (ev inst v : Nat) (s : State) : (level ev inst v s).uart = s.uart := rfl
@[simp] theorem level_uartRate (ev inst v : Nat) (s : State) : (level ev inst v s).uartRate = s.uartRate := rfl
@[simp] theorem level_params (ev inst v : Nat) (s : State) : (level ev inst v s).params = s.params := rfl
@[simp] theorem level_commits (ev inst v : Nat) (s : State) : (level ev inst v s).commits = s.commits := rfl
@[simp] theorem level_bays (ev inst v : Nat) (s : State) : (level ev inst v s).bays = s.bays := rfl
@[simp] theorem level_ctxs (ev inst v : Nat) (s : State) : (level ev inst v s).ctxs = s.ctxs := rfl
@[simp] theorem level_queue (ev inst v : Nat) (s : State) : (level ev inst v s).queue = s.queue := rfl
@[simp] theorem level_met (ev inst v : Nat) (s : State) : (level ev inst v s).met = s.met := rfl
@[simp] theorem level_intervals (ev inst v : Nat) (s : State) : (level ev inst v s).intervals = s.intervals := rfl
@[simp] theorem level_cals (ev inst v : Nat) (s : State) : (level ev inst v s).cals = s.cals := rfl
@[simp] theorem level_legal (ev inst v : Nat) (s : State) : (level ev inst v s).legal = s.legal := rfl
@[simp] theorem level_creds (ev inst v : Nat) (s : State) : (level ev inst v s).creds = s.creds := rfl
@[simp] theorem level_budget (ev inst v : Nat) (s : State) : (level ev inst v s).budget = s.budget := rfl
@[simp] theorem level_safety (ev inst v : Nat) (s : State) : (level ev inst v s).safety = s.safety := rfl
@[simp] theorem level_cont (ev inst v : Nat) (s : State) : (level ev inst v s).cont = s.cont := rfl
@[simp] theorem level_keys (ev inst v : Nat) (s : State) : (level ev inst v s).keys = s.keys := rfl
@[simp] theorem level_images (ev inst v : Nat) (s : State) : (level ev inst v s).images = s.images := rfl
@[simp] theorem level_recorder (ev inst v : Nat) (s : State) : (level ev inst v s).recorder = s.recorder := rfl
@[simp] theorem level_chans (ev inst v : Nat) (s : State) : (level ev inst v s).chans = s.chans := rfl
@[simp] theorem level_groups (ev inst v : Nat) (s : State) : (level ev inst v s).groups = s.groups := rfl
@[simp] theorem level_disp (ev inst v : Nat) (s : State) : (level ev inst v s).disp = s.disp := rfl
@[simp] theorem level_readers (ev inst v : Nat) (s : State) : (level ev inst v s).readers = s.readers := rfl
@[simp] theorem level_tag (ev inst v : Nat) (s : State) : (level ev inst v s).tag = s.tag := rfl
@[simp] theorem level_mains (ev inst v : Nat) (s : State) : (level ev inst v s).mains = s.mains := rfl
@[simp] theorem level_sitePeers (ev inst v : Nat) (s : State) : (level ev inst v s).sitePeers = s.sitePeers := rfl
@[simp] theorem level_canOut (ev inst v : Nat) (s : State) : (level ev inst v s).canOut = s.canOut := rfl
@[simp] theorem level_draws (ev inst v : Nat) (s : State) : (level ev inst v s).draws = s.draws := rfl
@[simp] theorem level_pending (ev inst v : Nat) (s : State) : (level ev inst v s).pending = s.pending := rfl

/-! ### recordAs, field by field -/

@[simp] theorem recordAs_life (type src sev : Nat) (payload : Bytes) (full : Bool) (s : State) : (recordAs type src sev payload full s).life = s.life := by
  obtain ⟨_, _, h⟩ := recordAs_recordOnly type src sev payload full s; rw [h]
@[simp] theorem recordAs_clk (type src sev : Nat) (payload : Bytes) (full : Bool) (s : State) : (recordAs type src sev payload full s).clk = s.clk := by
  obtain ⟨_, _, h⟩ := recordAs_recordOnly type src sev payload full s; rw [h]
@[simp] theorem recordAs_time (type src sev : Nat) (payload : Bytes) (full : Bool) (s : State) : (recordAs type src sev payload full s).time = s.time := by
  obtain ⟨_, _, h⟩ := recordAs_recordOnly type src sev payload full s; rw [h]
@[simp] theorem recordAs_power (type src sev : Nat) (payload : Bytes) (full : Bool) (s : State) : (recordAs type src sev payload full s).power = s.power := by
  obtain ⟨_, _, h⟩ := recordAs_recordOnly type src sev payload full s; rw [h]
@[simp] theorem recordAs_spi (type src sev : Nat) (payload : Bytes) (full : Bool) (s : State) : (recordAs type src sev payload full s).spi = s.spi := by
  obtain ⟨_, _, h⟩ := recordAs_recordOnly type src sev payload full s; rw [h]
@[simp] theorem recordAs_uart (type src sev : Nat) (payload : Bytes) (full : Bool) (s : State) : (recordAs type src sev payload full s).uart = s.uart := by
  obtain ⟨_, _, h⟩ := recordAs_recordOnly type src sev payload full s; rw [h]
@[simp] theorem recordAs_uartRate (type src sev : Nat) (payload : Bytes) (full : Bool) (s : State) : (recordAs type src sev payload full s).uartRate = s.uartRate := by
  obtain ⟨_, _, h⟩ := recordAs_recordOnly type src sev payload full s; rw [h]
@[simp] theorem recordAs_params (type src sev : Nat) (payload : Bytes) (full : Bool) (s : State) : (recordAs type src sev payload full s).params = s.params := by
  obtain ⟨_, _, h⟩ := recordAs_recordOnly type src sev payload full s; rw [h]
@[simp] theorem recordAs_commits (type src sev : Nat) (payload : Bytes) (full : Bool) (s : State) : (recordAs type src sev payload full s).commits = s.commits := by
  obtain ⟨_, _, h⟩ := recordAs_recordOnly type src sev payload full s; rw [h]
@[simp] theorem recordAs_bays (type src sev : Nat) (payload : Bytes) (full : Bool) (s : State) : (recordAs type src sev payload full s).bays = s.bays := by
  obtain ⟨_, _, h⟩ := recordAs_recordOnly type src sev payload full s; rw [h]
@[simp] theorem recordAs_ctxs (type src sev : Nat) (payload : Bytes) (full : Bool) (s : State) : (recordAs type src sev payload full s).ctxs = s.ctxs := by
  obtain ⟨_, _, h⟩ := recordAs_recordOnly type src sev payload full s; rw [h]
@[simp] theorem recordAs_queue (type src sev : Nat) (payload : Bytes) (full : Bool) (s : State) : (recordAs type src sev payload full s).queue = s.queue := by
  obtain ⟨_, _, h⟩ := recordAs_recordOnly type src sev payload full s; rw [h]
@[simp] theorem recordAs_met (type src sev : Nat) (payload : Bytes) (full : Bool) (s : State) : (recordAs type src sev payload full s).met = s.met := by
  obtain ⟨_, _, h⟩ := recordAs_recordOnly type src sev payload full s; rw [h]
@[simp] theorem recordAs_intervals (type src sev : Nat) (payload : Bytes) (full : Bool) (s : State) : (recordAs type src sev payload full s).intervals = s.intervals := by
  obtain ⟨_, _, h⟩ := recordAs_recordOnly type src sev payload full s; rw [h]
@[simp] theorem recordAs_cals (type src sev : Nat) (payload : Bytes) (full : Bool) (s : State) : (recordAs type src sev payload full s).cals = s.cals := by
  obtain ⟨_, _, h⟩ := recordAs_recordOnly type src sev payload full s; rw [h]
@[simp] theorem recordAs_legal (type src sev : Nat) (payload : Bytes) (full : Bool) (s : State) : (recordAs type src sev payload full s).legal = s.legal := by
  obtain ⟨_, _, h⟩ := recordAs_recordOnly type src sev payload full s; rw [h]
@[simp] theorem recordAs_creds (type src sev : Nat) (payload : Bytes) (full : Bool) (s : State) : (recordAs type src sev payload full s).creds = s.creds := by
  obtain ⟨_, _, h⟩ := recordAs_recordOnly type src sev payload full s; rw [h]
@[simp] theorem recordAs_budget (type src sev : Nat) (payload : Bytes) (full : Bool) (s : State) : (recordAs type src sev payload full s).budget = s.budget := by
  obtain ⟨_, _, h⟩ := recordAs_recordOnly type src sev payload full s; rw [h]
@[simp] theorem recordAs_safety (type src sev : Nat) (payload : Bytes) (full : Bool) (s : State) : (recordAs type src sev payload full s).safety = s.safety := by
  obtain ⟨_, _, h⟩ := recordAs_recordOnly type src sev payload full s; rw [h]
@[simp] theorem recordAs_cont (type src sev : Nat) (payload : Bytes) (full : Bool) (s : State) : (recordAs type src sev payload full s).cont = s.cont := by
  obtain ⟨_, _, h⟩ := recordAs_recordOnly type src sev payload full s; rw [h]
@[simp] theorem recordAs_keys (type src sev : Nat) (payload : Bytes) (full : Bool) (s : State) : (recordAs type src sev payload full s).keys = s.keys := by
  obtain ⟨_, _, h⟩ := recordAs_recordOnly type src sev payload full s; rw [h]
@[simp] theorem recordAs_images (type src sev : Nat) (payload : Bytes) (full : Bool) (s : State) : (recordAs type src sev payload full s).images = s.images := by
  obtain ⟨_, _, h⟩ := recordAs_recordOnly type src sev payload full s; rw [h]
@[simp] theorem recordAs_chans (type src sev : Nat) (payload : Bytes) (full : Bool) (s : State) : (recordAs type src sev payload full s).chans = s.chans := by
  obtain ⟨_, _, h⟩ := recordAs_recordOnly type src sev payload full s; rw [h]
@[simp] theorem recordAs_groups (type src sev : Nat) (payload : Bytes) (full : Bool) (s : State) : (recordAs type src sev payload full s).groups = s.groups := by
  obtain ⟨_, _, h⟩ := recordAs_recordOnly type src sev payload full s; rw [h]
@[simp] theorem recordAs_disp (type src sev : Nat) (payload : Bytes) (full : Bool) (s : State) : (recordAs type src sev payload full s).disp = s.disp := by
  obtain ⟨_, _, h⟩ := recordAs_recordOnly type src sev payload full s; rw [h]
@[simp] theorem recordAs_readers (type src sev : Nat) (payload : Bytes) (full : Bool) (s : State) : (recordAs type src sev payload full s).readers = s.readers := by
  obtain ⟨_, _, h⟩ := recordAs_recordOnly type src sev payload full s; rw [h]
@[simp] theorem recordAs_tag (type src sev : Nat) (payload : Bytes) (full : Bool) (s : State) : (recordAs type src sev payload full s).tag = s.tag := by
  obtain ⟨_, _, h⟩ := recordAs_recordOnly type src sev payload full s; rw [h]
@[simp] theorem recordAs_mains (type src sev : Nat) (payload : Bytes) (full : Bool) (s : State) : (recordAs type src sev payload full s).mains = s.mains := by
  obtain ⟨_, _, h⟩ := recordAs_recordOnly type src sev payload full s; rw [h]
@[simp] theorem recordAs_sitePeers (type src sev : Nat) (payload : Bytes) (full : Bool) (s : State) : (recordAs type src sev payload full s).sitePeers = s.sitePeers := by
  obtain ⟨_, _, h⟩ := recordAs_recordOnly type src sev payload full s; rw [h]
@[simp] theorem recordAs_canOut (type src sev : Nat) (payload : Bytes) (full : Bool) (s : State) : (recordAs type src sev payload full s).canOut = s.canOut := by
  obtain ⟨_, _, h⟩ := recordAs_recordOnly type src sev payload full s; rw [h]
@[simp] theorem recordAs_draws (type src sev : Nat) (payload : Bytes) (full : Bool) (s : State) : (recordAs type src sev payload full s).draws = s.draws := by
  obtain ⟨_, _, h⟩ := recordAs_recordOnly type src sev payload full s; rw [h]
@[simp] theorem recordAs_pending (type src sev : Nat) (payload : Bytes) (full : Bool) (s : State) : (recordAs type src sev payload full s).pending = s.pending := by
  obtain ⟨_, _, h⟩ := recordAs_recordOnly type src sev payload full s; rw [h]

/-! ### notifyFull, field by field -/

@[simp] theorem notifyFull_life (op src sev : Nat) (payload : Bytes) (cmd : Option CmdRef) (status : Nat) (s : State) : (notifyFull op src sev payload cmd status s).life = s.life := by
  obtain ⟨_, _, _, _, h⟩ := notifyFull_reportOnly op src sev payload cmd status s; rw [h]
@[simp] theorem notifyFull_clk (op src sev : Nat) (payload : Bytes) (cmd : Option CmdRef) (status : Nat) (s : State) : (notifyFull op src sev payload cmd status s).clk = s.clk := by
  obtain ⟨_, _, _, _, h⟩ := notifyFull_reportOnly op src sev payload cmd status s; rw [h]
@[simp] theorem notifyFull_time (op src sev : Nat) (payload : Bytes) (cmd : Option CmdRef) (status : Nat) (s : State) : (notifyFull op src sev payload cmd status s).time = s.time := by
  obtain ⟨_, _, _, _, h⟩ := notifyFull_reportOnly op src sev payload cmd status s; rw [h]
@[simp] theorem notifyFull_power (op src sev : Nat) (payload : Bytes) (cmd : Option CmdRef) (status : Nat) (s : State) : (notifyFull op src sev payload cmd status s).power = s.power := by
  obtain ⟨_, _, _, _, h⟩ := notifyFull_reportOnly op src sev payload cmd status s; rw [h]
@[simp] theorem notifyFull_uartRate (op src sev : Nat) (payload : Bytes) (cmd : Option CmdRef) (status : Nat) (s : State) : (notifyFull op src sev payload cmd status s).uartRate = s.uartRate := by
  obtain ⟨_, _, _, _, h⟩ := notifyFull_reportOnly op src sev payload cmd status s; rw [h]
@[simp] theorem notifyFull_params (op src sev : Nat) (payload : Bytes) (cmd : Option CmdRef) (status : Nat) (s : State) : (notifyFull op src sev payload cmd status s).params = s.params := by
  obtain ⟨_, _, _, _, h⟩ := notifyFull_reportOnly op src sev payload cmd status s; rw [h]
@[simp] theorem notifyFull_commits (op src sev : Nat) (payload : Bytes) (cmd : Option CmdRef) (status : Nat) (s : State) : (notifyFull op src sev payload cmd status s).commits = s.commits := by
  obtain ⟨_, _, _, _, h⟩ := notifyFull_reportOnly op src sev payload cmd status s; rw [h]
@[simp] theorem notifyFull_bays (op src sev : Nat) (payload : Bytes) (cmd : Option CmdRef) (status : Nat) (s : State) : (notifyFull op src sev payload cmd status s).bays = s.bays := by
  obtain ⟨_, _, _, _, h⟩ := notifyFull_reportOnly op src sev payload cmd status s; rw [h]
@[simp] theorem notifyFull_ctxs (op src sev : Nat) (payload : Bytes) (cmd : Option CmdRef) (status : Nat) (s : State) : (notifyFull op src sev payload cmd status s).ctxs = s.ctxs := by
  obtain ⟨_, _, _, _, h⟩ := notifyFull_reportOnly op src sev payload cmd status s; rw [h]
@[simp] theorem notifyFull_queue (op src sev : Nat) (payload : Bytes) (cmd : Option CmdRef) (status : Nat) (s : State) : (notifyFull op src sev payload cmd status s).queue = s.queue := by
  obtain ⟨_, _, _, _, h⟩ := notifyFull_reportOnly op src sev payload cmd status s; rw [h]
@[simp] theorem notifyFull_met (op src sev : Nat) (payload : Bytes) (cmd : Option CmdRef) (status : Nat) (s : State) : (notifyFull op src sev payload cmd status s).met = s.met := by
  obtain ⟨_, _, _, _, h⟩ := notifyFull_reportOnly op src sev payload cmd status s; rw [h]
@[simp] theorem notifyFull_intervals (op src sev : Nat) (payload : Bytes) (cmd : Option CmdRef) (status : Nat) (s : State) : (notifyFull op src sev payload cmd status s).intervals = s.intervals := by
  obtain ⟨_, _, _, _, h⟩ := notifyFull_reportOnly op src sev payload cmd status s; rw [h]
@[simp] theorem notifyFull_cals (op src sev : Nat) (payload : Bytes) (cmd : Option CmdRef) (status : Nat) (s : State) : (notifyFull op src sev payload cmd status s).cals = s.cals := by
  obtain ⟨_, _, _, _, h⟩ := notifyFull_reportOnly op src sev payload cmd status s; rw [h]
@[simp] theorem notifyFull_legal (op src sev : Nat) (payload : Bytes) (cmd : Option CmdRef) (status : Nat) (s : State) : (notifyFull op src sev payload cmd status s).legal = s.legal := by
  obtain ⟨_, _, _, _, h⟩ := notifyFull_reportOnly op src sev payload cmd status s; rw [h]
@[simp] theorem notifyFull_creds (op src sev : Nat) (payload : Bytes) (cmd : Option CmdRef) (status : Nat) (s : State) : (notifyFull op src sev payload cmd status s).creds = s.creds := by
  obtain ⟨_, _, _, _, h⟩ := notifyFull_reportOnly op src sev payload cmd status s; rw [h]
@[simp] theorem notifyFull_budget (op src sev : Nat) (payload : Bytes) (cmd : Option CmdRef) (status : Nat) (s : State) : (notifyFull op src sev payload cmd status s).budget = s.budget := by
  obtain ⟨_, _, _, _, h⟩ := notifyFull_reportOnly op src sev payload cmd status s; rw [h]
@[simp] theorem notifyFull_safety (op src sev : Nat) (payload : Bytes) (cmd : Option CmdRef) (status : Nat) (s : State) : (notifyFull op src sev payload cmd status s).safety = s.safety := by
  obtain ⟨_, _, _, _, h⟩ := notifyFull_reportOnly op src sev payload cmd status s; rw [h]
@[simp] theorem notifyFull_cont (op src sev : Nat) (payload : Bytes) (cmd : Option CmdRef) (status : Nat) (s : State) : (notifyFull op src sev payload cmd status s).cont = s.cont := by
  obtain ⟨_, _, _, _, h⟩ := notifyFull_reportOnly op src sev payload cmd status s; rw [h]
@[simp] theorem notifyFull_keys (op src sev : Nat) (payload : Bytes) (cmd : Option CmdRef) (status : Nat) (s : State) : (notifyFull op src sev payload cmd status s).keys = s.keys := by
  obtain ⟨_, _, _, _, h⟩ := notifyFull_reportOnly op src sev payload cmd status s; rw [h]
@[simp] theorem notifyFull_images (op src sev : Nat) (payload : Bytes) (cmd : Option CmdRef) (status : Nat) (s : State) : (notifyFull op src sev payload cmd status s).images = s.images := by
  obtain ⟨_, _, _, _, h⟩ := notifyFull_reportOnly op src sev payload cmd status s; rw [h]
@[simp] theorem notifyFull_chans (op src sev : Nat) (payload : Bytes) (cmd : Option CmdRef) (status : Nat) (s : State) : (notifyFull op src sev payload cmd status s).chans = s.chans := by
  obtain ⟨_, _, _, _, h⟩ := notifyFull_reportOnly op src sev payload cmd status s; rw [h]
@[simp] theorem notifyFull_groups (op src sev : Nat) (payload : Bytes) (cmd : Option CmdRef) (status : Nat) (s : State) : (notifyFull op src sev payload cmd status s).groups = s.groups := by
  obtain ⟨_, _, _, _, h⟩ := notifyFull_reportOnly op src sev payload cmd status s; rw [h]
@[simp] theorem notifyFull_disp (op src sev : Nat) (payload : Bytes) (cmd : Option CmdRef) (status : Nat) (s : State) : (notifyFull op src sev payload cmd status s).disp = s.disp := by
  obtain ⟨_, _, _, _, h⟩ := notifyFull_reportOnly op src sev payload cmd status s; rw [h]
@[simp] theorem notifyFull_readers (op src sev : Nat) (payload : Bytes) (cmd : Option CmdRef) (status : Nat) (s : State) : (notifyFull op src sev payload cmd status s).readers = s.readers := by
  obtain ⟨_, _, _, _, h⟩ := notifyFull_reportOnly op src sev payload cmd status s; rw [h]
@[simp] theorem notifyFull_tag (op src sev : Nat) (payload : Bytes) (cmd : Option CmdRef) (status : Nat) (s : State) : (notifyFull op src sev payload cmd status s).tag = s.tag := by
  obtain ⟨_, _, _, _, h⟩ := notifyFull_reportOnly op src sev payload cmd status s; rw [h]
@[simp] theorem notifyFull_mains (op src sev : Nat) (payload : Bytes) (cmd : Option CmdRef) (status : Nat) (s : State) : (notifyFull op src sev payload cmd status s).mains = s.mains := by
  obtain ⟨_, _, _, _, h⟩ := notifyFull_reportOnly op src sev payload cmd status s; rw [h]
@[simp] theorem notifyFull_sitePeers (op src sev : Nat) (payload : Bytes) (cmd : Option CmdRef) (status : Nat) (s : State) : (notifyFull op src sev payload cmd status s).sitePeers = s.sitePeers := by
  obtain ⟨_, _, _, _, h⟩ := notifyFull_reportOnly op src sev payload cmd status s; rw [h]
@[simp] theorem notifyFull_canOut (op src sev : Nat) (payload : Bytes) (cmd : Option CmdRef) (status : Nat) (s : State) : (notifyFull op src sev payload cmd status s).canOut = s.canOut := by
  obtain ⟨_, _, _, _, h⟩ := notifyFull_reportOnly op src sev payload cmd status s; rw [h]
@[simp] theorem notifyFull_draws (op src sev : Nat) (payload : Bytes) (cmd : Option CmdRef) (status : Nat) (s : State) : (notifyFull op src sev payload cmd status s).draws = s.draws := by
  obtain ⟨_, _, _, _, h⟩ := notifyFull_reportOnly op src sev payload cmd status s; rw [h]
@[simp] theorem notifyFull_pending (op src sev : Nat) (payload : Bytes) (cmd : Option CmdRef) (status : Nat) (s : State) : (notifyFull op src sev payload cmd status s).pending = s.pending := by
  obtain ⟨_, _, _, _, h⟩ := notifyFull_reportOnly op src sev payload cmd status s; rw [h]

/-! ### record, field by field -/

@[simp] theorem record_life (type src sev : Nat) (payload : Bytes) (s : State) : (record type src sev payload s).life = s.life := by
  simp [record]
@[simp] theorem record_clk (type src sev : Nat) (payload : Bytes) (s : State) : (record type src sev payload s).clk = s.clk := by
  simp [record]
@[simp] theorem record_time (type src sev : Nat) (payload : Bytes) (s : State) : (record type src sev payload s).time = s.time := by
  simp [record]
@[simp] theorem record_power (type src sev : Nat) (payload : Bytes) (s : State) : (record type src sev payload s).power = s.power := by
  simp [record]
@[simp] theorem record_spi (type src sev : Nat) (payload : Bytes) (s : State) : (record type src sev payload s).spi = s.spi := by
  simp [record]
@[simp] theorem record_uart (type src sev : Nat) (payload : Bytes) (s : State) : (record type src sev payload s).uart = s.uart := by
  simp [record]
@[simp] theorem record_uartRate (type src sev : Nat) (payload : Bytes) (s : State) : (record type src sev payload s).uartRate = s.uartRate := by
  simp [record]
@[simp] theorem record_params (type src sev : Nat) (payload : Bytes) (s : State) : (record type src sev payload s).params = s.params := by
  simp [record]
@[simp] theorem record_commits (type src sev : Nat) (payload : Bytes) (s : State) : (record type src sev payload s).commits = s.commits := by
  simp [record]
@[simp] theorem record_bays (type src sev : Nat) (payload : Bytes) (s : State) : (record type src sev payload s).bays = s.bays := by
  simp [record]
@[simp] theorem record_ctxs (type src sev : Nat) (payload : Bytes) (s : State) : (record type src sev payload s).ctxs = s.ctxs := by
  simp [record]
@[simp] theorem record_queue (type src sev : Nat) (payload : Bytes) (s : State) : (record type src sev payload s).queue = s.queue := by
  simp [record]
@[simp] theorem record_met (type src sev : Nat) (payload : Bytes) (s : State) : (record type src sev payload s).met = s.met := by
  simp [record]
@[simp] theorem record_intervals (type src sev : Nat) (payload : Bytes) (s : State) : (record type src sev payload s).intervals = s.intervals := by
  simp [record]
@[simp] theorem record_cals (type src sev : Nat) (payload : Bytes) (s : State) : (record type src sev payload s).cals = s.cals := by
  simp [record]
@[simp] theorem record_legal (type src sev : Nat) (payload : Bytes) (s : State) : (record type src sev payload s).legal = s.legal := by
  simp [record]
@[simp] theorem record_creds (type src sev : Nat) (payload : Bytes) (s : State) : (record type src sev payload s).creds = s.creds := by
  simp [record]
@[simp] theorem record_budget (type src sev : Nat) (payload : Bytes) (s : State) : (record type src sev payload s).budget = s.budget := by
  simp [record]
@[simp] theorem record_safety (type src sev : Nat) (payload : Bytes) (s : State) : (record type src sev payload s).safety = s.safety := by
  simp [record]
@[simp] theorem record_cont (type src sev : Nat) (payload : Bytes) (s : State) : (record type src sev payload s).cont = s.cont := by
  simp [record]
@[simp] theorem record_keys (type src sev : Nat) (payload : Bytes) (s : State) : (record type src sev payload s).keys = s.keys := by
  simp [record]
@[simp] theorem record_images (type src sev : Nat) (payload : Bytes) (s : State) : (record type src sev payload s).images = s.images := by
  simp [record]
@[simp] theorem record_chans (type src sev : Nat) (payload : Bytes) (s : State) : (record type src sev payload s).chans = s.chans := by
  simp [record]
@[simp] theorem record_groups (type src sev : Nat) (payload : Bytes) (s : State) : (record type src sev payload s).groups = s.groups := by
  simp [record]
@[simp] theorem record_disp (type src sev : Nat) (payload : Bytes) (s : State) : (record type src sev payload s).disp = s.disp := by
  simp [record]
@[simp] theorem record_readers (type src sev : Nat) (payload : Bytes) (s : State) : (record type src sev payload s).readers = s.readers := by
  simp [record]
@[simp] theorem record_tag (type src sev : Nat) (payload : Bytes) (s : State) : (record type src sev payload s).tag = s.tag := by
  simp [record]
@[simp] theorem record_mains (type src sev : Nat) (payload : Bytes) (s : State) : (record type src sev payload s).mains = s.mains := by
  simp [record]
@[simp] theorem record_sitePeers (type src sev : Nat) (payload : Bytes) (s : State) : (record type src sev payload s).sitePeers = s.sitePeers := by
  simp [record]
@[simp] theorem record_canOut (type src sev : Nat) (payload : Bytes) (s : State) : (record type src sev payload s).canOut = s.canOut := by
  simp [record]
@[simp] theorem record_draws (type src sev : Nat) (payload : Bytes) (s : State) : (record type src sev payload s).draws = s.draws := by
  simp [record]
@[simp] theorem record_pending (type src sev : Nat) (payload : Bytes) (s : State) : (record type src sev payload s).pending = s.pending := by
  simp [record]

/-! ### notify, field by field -/

@[simp] theorem notify_life (op src : Nat) (payload : Bytes) (s : State) : (notify op src payload s).life = s.life := by
  simp [notify]
@[simp] theorem notify_clk (op src : Nat) (payload : Bytes) (s : State) : (notify op src payload s).clk = s.clk := by
  simp [notify]
@[simp] theorem notify_time (op src : Nat) (payload : Bytes) (s : State) : (notify op src payload s).time = s.time := by
  simp [notify]
@[simp] theorem notify_power (op src : Nat) (payload : Bytes) (s : State) : (notify op src payload s).power = s.power := by
  simp [notify]
@[simp] theorem notify_uartRate (op src : Nat) (payload : Bytes) (s : State) : (notify op src payload s).uartRate = s.uartRate := by
  simp [notify]
@[simp] theorem notify_params (op src : Nat) (payload : Bytes) (s : State) : (notify op src payload s).params = s.params := by
  simp [notify]
@[simp] theorem notify_commits (op src : Nat) (payload : Bytes) (s : State) : (notify op src payload s).commits = s.commits := by
  simp [notify]
@[simp] theorem notify_bays (op src : Nat) (payload : Bytes) (s : State) : (notify op src payload s).bays = s.bays := by
  simp [notify]
@[simp] theorem notify_ctxs (op src : Nat) (payload : Bytes) (s : State) : (notify op src payload s).ctxs = s.ctxs := by
  simp [notify]
@[simp] theorem notify_queue (op src : Nat) (payload : Bytes) (s : State) : (notify op src payload s).queue = s.queue := by
  simp [notify]
@[simp] theorem notify_met (op src : Nat) (payload : Bytes) (s : State) : (notify op src payload s).met = s.met := by
  simp [notify]
@[simp] theorem notify_intervals (op src : Nat) (payload : Bytes) (s : State) : (notify op src payload s).intervals = s.intervals := by
  simp [notify]
@[simp] theorem notify_cals (op src : Nat) (payload : Bytes) (s : State) : (notify op src payload s).cals = s.cals := by
  simp [notify]
@[simp] theorem notify_legal (op src : Nat) (payload : Bytes) (s : State) : (notify op src payload s).legal = s.legal := by
  simp [notify]
@[simp] theorem notify_creds (op src : Nat) (payload : Bytes) (s : State) : (notify op src payload s).creds = s.creds := by
  simp [notify]
@[simp] theorem notify_budget (op src : Nat) (payload : Bytes) (s : State) : (notify op src payload s).budget = s.budget := by
  simp [notify]
@[simp] theorem notify_safety (op src : Nat) (payload : Bytes) (s : State) : (notify op src payload s).safety = s.safety := by
  simp [notify]
@[simp] theorem notify_cont (op src : Nat) (payload : Bytes) (s : State) : (notify op src payload s).cont = s.cont := by
  simp [notify]
@[simp] theorem notify_keys (op src : Nat) (payload : Bytes) (s : State) : (notify op src payload s).keys = s.keys := by
  simp [notify]
@[simp] theorem notify_images (op src : Nat) (payload : Bytes) (s : State) : (notify op src payload s).images = s.images := by
  simp [notify]
@[simp] theorem notify_chans (op src : Nat) (payload : Bytes) (s : State) : (notify op src payload s).chans = s.chans := by
  simp [notify]
@[simp] theorem notify_groups (op src : Nat) (payload : Bytes) (s : State) : (notify op src payload s).groups = s.groups := by
  simp [notify]
@[simp] theorem notify_disp (op src : Nat) (payload : Bytes) (s : State) : (notify op src payload s).disp = s.disp := by
  simp [notify]
@[simp] theorem notify_readers (op src : Nat) (payload : Bytes) (s : State) : (notify op src payload s).readers = s.readers := by
  simp [notify]
@[simp] theorem notify_tag (op src : Nat) (payload : Bytes) (s : State) : (notify op src payload s).tag = s.tag := by
  simp [notify]
@[simp] theorem notify_mains (op src : Nat) (payload : Bytes) (s : State) : (notify op src payload s).mains = s.mains := by
  simp [notify]
@[simp] theorem notify_sitePeers (op src : Nat) (payload : Bytes) (s : State) : (notify op src payload s).sitePeers = s.sitePeers := by
  simp [notify]
@[simp] theorem notify_canOut (op src : Nat) (payload : Bytes) (s : State) : (notify op src payload s).canOut = s.canOut := by
  simp [notify]
@[simp] theorem notify_draws (op src : Nat) (payload : Bytes) (s : State) : (notify op src payload s).draws = s.draws := by
  simp [notify]
@[simp] theorem notify_pending (op src : Nat) (payload : Bytes) (s : State) : (notify op src payload s).pending = s.pending := by
  simp [notify]

/-! ### ntfBayFull, field by field -/

@[simp] theorem ntfBayFull_life (bay event : Nat) (detail : Bytes) (cmd : Option CmdRef) (status : Nat) (s : State) : (ntfBayFull bay event detail cmd status s).life = s.life := by
  simp [ntfBayFull]
@[simp] theorem ntfBayFull_clk (bay event : Nat) (detail : Bytes) (cmd : Option CmdRef) (status : Nat) (s : State) : (ntfBayFull bay event detail cmd status s).clk = s.clk := by
  simp [ntfBayFull]
@[simp] theorem ntfBayFull_time (bay event : Nat) (detail : Bytes) (cmd : Option CmdRef) (status : Nat) (s : State) : (ntfBayFull bay event detail cmd status s).time = s.time := by
  simp [ntfBayFull]
@[simp] theorem ntfBayFull_power (bay event : Nat) (detail : Bytes) (cmd : Option CmdRef) (status : Nat) (s : State) : (ntfBayFull bay event detail cmd status s).power = s.power := by
  simp [ntfBayFull]
@[simp] theorem ntfBayFull_uartRate (bay event : Nat) (detail : Bytes) (cmd : Option CmdRef) (status : Nat) (s : State) : (ntfBayFull bay event detail cmd status s).uartRate = s.uartRate := by
  simp [ntfBayFull]
@[simp] theorem ntfBayFull_params (bay event : Nat) (detail : Bytes) (cmd : Option CmdRef) (status : Nat) (s : State) : (ntfBayFull bay event detail cmd status s).params = s.params := by
  simp [ntfBayFull]
@[simp] theorem ntfBayFull_commits (bay event : Nat) (detail : Bytes) (cmd : Option CmdRef) (status : Nat) (s : State) : (ntfBayFull bay event detail cmd status s).commits = s.commits := by
  simp [ntfBayFull]
@[simp] theorem ntfBayFull_bays (bay event : Nat) (detail : Bytes) (cmd : Option CmdRef) (status : Nat) (s : State) : (ntfBayFull bay event detail cmd status s).bays = s.bays := by
  simp [ntfBayFull]
@[simp] theorem ntfBayFull_ctxs (bay event : Nat) (detail : Bytes) (cmd : Option CmdRef) (status : Nat) (s : State) : (ntfBayFull bay event detail cmd status s).ctxs = s.ctxs := by
  simp [ntfBayFull]
@[simp] theorem ntfBayFull_queue (bay event : Nat) (detail : Bytes) (cmd : Option CmdRef) (status : Nat) (s : State) : (ntfBayFull bay event detail cmd status s).queue = s.queue := by
  simp [ntfBayFull]
@[simp] theorem ntfBayFull_met (bay event : Nat) (detail : Bytes) (cmd : Option CmdRef) (status : Nat) (s : State) : (ntfBayFull bay event detail cmd status s).met = s.met := by
  simp [ntfBayFull]
@[simp] theorem ntfBayFull_intervals (bay event : Nat) (detail : Bytes) (cmd : Option CmdRef) (status : Nat) (s : State) : (ntfBayFull bay event detail cmd status s).intervals = s.intervals := by
  simp [ntfBayFull]
@[simp] theorem ntfBayFull_cals (bay event : Nat) (detail : Bytes) (cmd : Option CmdRef) (status : Nat) (s : State) : (ntfBayFull bay event detail cmd status s).cals = s.cals := by
  simp [ntfBayFull]
@[simp] theorem ntfBayFull_legal (bay event : Nat) (detail : Bytes) (cmd : Option CmdRef) (status : Nat) (s : State) : (ntfBayFull bay event detail cmd status s).legal = s.legal := by
  simp [ntfBayFull]
@[simp] theorem ntfBayFull_creds (bay event : Nat) (detail : Bytes) (cmd : Option CmdRef) (status : Nat) (s : State) : (ntfBayFull bay event detail cmd status s).creds = s.creds := by
  simp [ntfBayFull]
@[simp] theorem ntfBayFull_budget (bay event : Nat) (detail : Bytes) (cmd : Option CmdRef) (status : Nat) (s : State) : (ntfBayFull bay event detail cmd status s).budget = s.budget := by
  simp [ntfBayFull]
@[simp] theorem ntfBayFull_safety (bay event : Nat) (detail : Bytes) (cmd : Option CmdRef) (status : Nat) (s : State) : (ntfBayFull bay event detail cmd status s).safety = s.safety := by
  simp [ntfBayFull]
@[simp] theorem ntfBayFull_cont (bay event : Nat) (detail : Bytes) (cmd : Option CmdRef) (status : Nat) (s : State) : (ntfBayFull bay event detail cmd status s).cont = s.cont := by
  simp [ntfBayFull]
@[simp] theorem ntfBayFull_keys (bay event : Nat) (detail : Bytes) (cmd : Option CmdRef) (status : Nat) (s : State) : (ntfBayFull bay event detail cmd status s).keys = s.keys := by
  simp [ntfBayFull]
@[simp] theorem ntfBayFull_images (bay event : Nat) (detail : Bytes) (cmd : Option CmdRef) (status : Nat) (s : State) : (ntfBayFull bay event detail cmd status s).images = s.images := by
  simp [ntfBayFull]
@[simp] theorem ntfBayFull_chans (bay event : Nat) (detail : Bytes) (cmd : Option CmdRef) (status : Nat) (s : State) : (ntfBayFull bay event detail cmd status s).chans = s.chans := by
  simp [ntfBayFull]
@[simp] theorem ntfBayFull_groups (bay event : Nat) (detail : Bytes) (cmd : Option CmdRef) (status : Nat) (s : State) : (ntfBayFull bay event detail cmd status s).groups = s.groups := by
  simp [ntfBayFull]
@[simp] theorem ntfBayFull_disp (bay event : Nat) (detail : Bytes) (cmd : Option CmdRef) (status : Nat) (s : State) : (ntfBayFull bay event detail cmd status s).disp = s.disp := by
  simp [ntfBayFull]
@[simp] theorem ntfBayFull_readers (bay event : Nat) (detail : Bytes) (cmd : Option CmdRef) (status : Nat) (s : State) : (ntfBayFull bay event detail cmd status s).readers = s.readers := by
  simp [ntfBayFull]
@[simp] theorem ntfBayFull_tag (bay event : Nat) (detail : Bytes) (cmd : Option CmdRef) (status : Nat) (s : State) : (ntfBayFull bay event detail cmd status s).tag = s.tag := by
  simp [ntfBayFull]
@[simp] theorem ntfBayFull_mains (bay event : Nat) (detail : Bytes) (cmd : Option CmdRef) (status : Nat) (s : State) : (ntfBayFull bay event detail cmd status s).mains = s.mains := by
  simp [ntfBayFull]
@[simp] theorem ntfBayFull_sitePeers (bay event : Nat) (detail : Bytes) (cmd : Option CmdRef) (status : Nat) (s : State) : (ntfBayFull bay event detail cmd status s).sitePeers = s.sitePeers := by
  simp [ntfBayFull]
@[simp] theorem ntfBayFull_canOut (bay event : Nat) (detail : Bytes) (cmd : Option CmdRef) (status : Nat) (s : State) : (ntfBayFull bay event detail cmd status s).canOut = s.canOut := by
  simp [ntfBayFull]
@[simp] theorem ntfBayFull_draws (bay event : Nat) (detail : Bytes) (cmd : Option CmdRef) (status : Nat) (s : State) : (ntfBayFull bay event detail cmd status s).draws = s.draws := by
  simp [ntfBayFull]
@[simp] theorem ntfBayFull_pending (bay event : Nat) (detail : Bytes) (cmd : Option CmdRef) (status : Nat) (s : State) : (ntfBayFull bay event detail cmd status s).pending = s.pending := by
  simp [ntfBayFull]

/-! ### ntfBay, field by field -/

@[simp] theorem ntfBay_life (bay event : Nat) (detail : Bytes) (s : State) : (ntfBay bay event detail s).life = s.life := by
  simp [ntfBay]
@[simp] theorem ntfBay_clk (bay event : Nat) (detail : Bytes) (s : State) : (ntfBay bay event detail s).clk = s.clk := by
  simp [ntfBay]
@[simp] theorem ntfBay_time (bay event : Nat) (detail : Bytes) (s : State) : (ntfBay bay event detail s).time = s.time := by
  simp [ntfBay]
@[simp] theorem ntfBay_power (bay event : Nat) (detail : Bytes) (s : State) : (ntfBay bay event detail s).power = s.power := by
  simp [ntfBay]
@[simp] theorem ntfBay_uartRate (bay event : Nat) (detail : Bytes) (s : State) : (ntfBay bay event detail s).uartRate = s.uartRate := by
  simp [ntfBay]
@[simp] theorem ntfBay_params (bay event : Nat) (detail : Bytes) (s : State) : (ntfBay bay event detail s).params = s.params := by
  simp [ntfBay]
@[simp] theorem ntfBay_commits (bay event : Nat) (detail : Bytes) (s : State) : (ntfBay bay event detail s).commits = s.commits := by
  simp [ntfBay]
@[simp] theorem ntfBay_bays (bay event : Nat) (detail : Bytes) (s : State) : (ntfBay bay event detail s).bays = s.bays := by
  simp [ntfBay]
@[simp] theorem ntfBay_ctxs (bay event : Nat) (detail : Bytes) (s : State) : (ntfBay bay event detail s).ctxs = s.ctxs := by
  simp [ntfBay]
@[simp] theorem ntfBay_queue (bay event : Nat) (detail : Bytes) (s : State) : (ntfBay bay event detail s).queue = s.queue := by
  simp [ntfBay]
@[simp] theorem ntfBay_met (bay event : Nat) (detail : Bytes) (s : State) : (ntfBay bay event detail s).met = s.met := by
  simp [ntfBay]
@[simp] theorem ntfBay_intervals (bay event : Nat) (detail : Bytes) (s : State) : (ntfBay bay event detail s).intervals = s.intervals := by
  simp [ntfBay]
@[simp] theorem ntfBay_cals (bay event : Nat) (detail : Bytes) (s : State) : (ntfBay bay event detail s).cals = s.cals := by
  simp [ntfBay]
@[simp] theorem ntfBay_legal (bay event : Nat) (detail : Bytes) (s : State) : (ntfBay bay event detail s).legal = s.legal := by
  simp [ntfBay]
@[simp] theorem ntfBay_creds (bay event : Nat) (detail : Bytes) (s : State) : (ntfBay bay event detail s).creds = s.creds := by
  simp [ntfBay]
@[simp] theorem ntfBay_budget (bay event : Nat) (detail : Bytes) (s : State) : (ntfBay bay event detail s).budget = s.budget := by
  simp [ntfBay]
@[simp] theorem ntfBay_safety (bay event : Nat) (detail : Bytes) (s : State) : (ntfBay bay event detail s).safety = s.safety := by
  simp [ntfBay]
@[simp] theorem ntfBay_cont (bay event : Nat) (detail : Bytes) (s : State) : (ntfBay bay event detail s).cont = s.cont := by
  simp [ntfBay]
@[simp] theorem ntfBay_keys (bay event : Nat) (detail : Bytes) (s : State) : (ntfBay bay event detail s).keys = s.keys := by
  simp [ntfBay]
@[simp] theorem ntfBay_images (bay event : Nat) (detail : Bytes) (s : State) : (ntfBay bay event detail s).images = s.images := by
  simp [ntfBay]
@[simp] theorem ntfBay_chans (bay event : Nat) (detail : Bytes) (s : State) : (ntfBay bay event detail s).chans = s.chans := by
  simp [ntfBay]
@[simp] theorem ntfBay_groups (bay event : Nat) (detail : Bytes) (s : State) : (ntfBay bay event detail s).groups = s.groups := by
  simp [ntfBay]
@[simp] theorem ntfBay_disp (bay event : Nat) (detail : Bytes) (s : State) : (ntfBay bay event detail s).disp = s.disp := by
  simp [ntfBay]
@[simp] theorem ntfBay_readers (bay event : Nat) (detail : Bytes) (s : State) : (ntfBay bay event detail s).readers = s.readers := by
  simp [ntfBay]
@[simp] theorem ntfBay_tag (bay event : Nat) (detail : Bytes) (s : State) : (ntfBay bay event detail s).tag = s.tag := by
  simp [ntfBay]
@[simp] theorem ntfBay_mains (bay event : Nat) (detail : Bytes) (s : State) : (ntfBay bay event detail s).mains = s.mains := by
  simp [ntfBay]
@[simp] theorem ntfBay_sitePeers (bay event : Nat) (detail : Bytes) (s : State) : (ntfBay bay event detail s).sitePeers = s.sitePeers := by
  simp [ntfBay]
@[simp] theorem ntfBay_canOut (bay event : Nat) (detail : Bytes) (s : State) : (ntfBay bay event detail s).canOut = s.canOut := by
  simp [ntfBay]
@[simp] theorem ntfBay_draws (bay event : Nat) (detail : Bytes) (s : State) : (ntfBay bay event detail s).draws = s.draws := by
  simp [ntfBay]
@[simp] theorem ntfBay_pending (bay event : Nat) (detail : Bytes) (s : State) : (ntfBay bay event detail s).pending = s.pending := by
  simp [ntfBay]

/-! ### ntfCtxFull, field by field -/

@[simp] theorem ntfCtxFull_life (ctx : Nat) (old new : CtxState) (cause : Nat) (detail : Bytes) (cmd : Option CmdRef) (status : Nat) (s : State) : (ntfCtxFull ctx old new cause detail cmd status s).life = s.life := by
  simp [ntfCtxFull]
@[simp] theorem ntfCtxFull_clk (ctx : Nat) (old new : CtxState) (cause : Nat) (detail : Bytes) (cmd : Option CmdRef) (status : Nat) (s : State) : (ntfCtxFull ctx old new cause detail cmd status s).clk = s.clk := by
  simp [ntfCtxFull]
@[simp] theorem ntfCtxFull_time (ctx : Nat) (old new : CtxState) (cause : Nat) (detail : Bytes) (cmd : Option CmdRef) (status : Nat) (s : State) : (ntfCtxFull ctx old new cause detail cmd status s).time = s.time := by
  simp [ntfCtxFull]
@[simp] theorem ntfCtxFull_power (ctx : Nat) (old new : CtxState) (cause : Nat) (detail : Bytes) (cmd : Option CmdRef) (status : Nat) (s : State) : (ntfCtxFull ctx old new cause detail cmd status s).power = s.power := by
  simp [ntfCtxFull]
@[simp] theorem ntfCtxFull_uartRate (ctx : Nat) (old new : CtxState) (cause : Nat) (detail : Bytes) (cmd : Option CmdRef) (status : Nat) (s : State) : (ntfCtxFull ctx old new cause detail cmd status s).uartRate = s.uartRate := by
  simp [ntfCtxFull]
@[simp] theorem ntfCtxFull_params (ctx : Nat) (old new : CtxState) (cause : Nat) (detail : Bytes) (cmd : Option CmdRef) (status : Nat) (s : State) : (ntfCtxFull ctx old new cause detail cmd status s).params = s.params := by
  simp [ntfCtxFull]
@[simp] theorem ntfCtxFull_commits (ctx : Nat) (old new : CtxState) (cause : Nat) (detail : Bytes) (cmd : Option CmdRef) (status : Nat) (s : State) : (ntfCtxFull ctx old new cause detail cmd status s).commits = s.commits := by
  simp [ntfCtxFull]
@[simp] theorem ntfCtxFull_bays (ctx : Nat) (old new : CtxState) (cause : Nat) (detail : Bytes) (cmd : Option CmdRef) (status : Nat) (s : State) : (ntfCtxFull ctx old new cause detail cmd status s).bays = s.bays := by
  simp [ntfCtxFull]
@[simp] theorem ntfCtxFull_ctxs (ctx : Nat) (old new : CtxState) (cause : Nat) (detail : Bytes) (cmd : Option CmdRef) (status : Nat) (s : State) : (ntfCtxFull ctx old new cause detail cmd status s).ctxs = s.ctxs := by
  simp [ntfCtxFull]
@[simp] theorem ntfCtxFull_queue (ctx : Nat) (old new : CtxState) (cause : Nat) (detail : Bytes) (cmd : Option CmdRef) (status : Nat) (s : State) : (ntfCtxFull ctx old new cause detail cmd status s).queue = s.queue := by
  simp [ntfCtxFull]
@[simp] theorem ntfCtxFull_met (ctx : Nat) (old new : CtxState) (cause : Nat) (detail : Bytes) (cmd : Option CmdRef) (status : Nat) (s : State) : (ntfCtxFull ctx old new cause detail cmd status s).met = s.met := by
  simp [ntfCtxFull]
@[simp] theorem ntfCtxFull_intervals (ctx : Nat) (old new : CtxState) (cause : Nat) (detail : Bytes) (cmd : Option CmdRef) (status : Nat) (s : State) : (ntfCtxFull ctx old new cause detail cmd status s).intervals = s.intervals := by
  simp [ntfCtxFull]
@[simp] theorem ntfCtxFull_cals (ctx : Nat) (old new : CtxState) (cause : Nat) (detail : Bytes) (cmd : Option CmdRef) (status : Nat) (s : State) : (ntfCtxFull ctx old new cause detail cmd status s).cals = s.cals := by
  simp [ntfCtxFull]
@[simp] theorem ntfCtxFull_legal (ctx : Nat) (old new : CtxState) (cause : Nat) (detail : Bytes) (cmd : Option CmdRef) (status : Nat) (s : State) : (ntfCtxFull ctx old new cause detail cmd status s).legal = s.legal := by
  simp [ntfCtxFull]
@[simp] theorem ntfCtxFull_creds (ctx : Nat) (old new : CtxState) (cause : Nat) (detail : Bytes) (cmd : Option CmdRef) (status : Nat) (s : State) : (ntfCtxFull ctx old new cause detail cmd status s).creds = s.creds := by
  simp [ntfCtxFull]
@[simp] theorem ntfCtxFull_budget (ctx : Nat) (old new : CtxState) (cause : Nat) (detail : Bytes) (cmd : Option CmdRef) (status : Nat) (s : State) : (ntfCtxFull ctx old new cause detail cmd status s).budget = s.budget := by
  simp [ntfCtxFull]
@[simp] theorem ntfCtxFull_safety (ctx : Nat) (old new : CtxState) (cause : Nat) (detail : Bytes) (cmd : Option CmdRef) (status : Nat) (s : State) : (ntfCtxFull ctx old new cause detail cmd status s).safety = s.safety := by
  simp [ntfCtxFull]
@[simp] theorem ntfCtxFull_cont (ctx : Nat) (old new : CtxState) (cause : Nat) (detail : Bytes) (cmd : Option CmdRef) (status : Nat) (s : State) : (ntfCtxFull ctx old new cause detail cmd status s).cont = s.cont := by
  simp [ntfCtxFull]
@[simp] theorem ntfCtxFull_keys (ctx : Nat) (old new : CtxState) (cause : Nat) (detail : Bytes) (cmd : Option CmdRef) (status : Nat) (s : State) : (ntfCtxFull ctx old new cause detail cmd status s).keys = s.keys := by
  simp [ntfCtxFull]
@[simp] theorem ntfCtxFull_images (ctx : Nat) (old new : CtxState) (cause : Nat) (detail : Bytes) (cmd : Option CmdRef) (status : Nat) (s : State) : (ntfCtxFull ctx old new cause detail cmd status s).images = s.images := by
  simp [ntfCtxFull]
@[simp] theorem ntfCtxFull_chans (ctx : Nat) (old new : CtxState) (cause : Nat) (detail : Bytes) (cmd : Option CmdRef) (status : Nat) (s : State) : (ntfCtxFull ctx old new cause detail cmd status s).chans = s.chans := by
  simp [ntfCtxFull]
@[simp] theorem ntfCtxFull_groups (ctx : Nat) (old new : CtxState) (cause : Nat) (detail : Bytes) (cmd : Option CmdRef) (status : Nat) (s : State) : (ntfCtxFull ctx old new cause detail cmd status s).groups = s.groups := by
  simp [ntfCtxFull]
@[simp] theorem ntfCtxFull_disp (ctx : Nat) (old new : CtxState) (cause : Nat) (detail : Bytes) (cmd : Option CmdRef) (status : Nat) (s : State) : (ntfCtxFull ctx old new cause detail cmd status s).disp = s.disp := by
  simp [ntfCtxFull]
@[simp] theorem ntfCtxFull_readers (ctx : Nat) (old new : CtxState) (cause : Nat) (detail : Bytes) (cmd : Option CmdRef) (status : Nat) (s : State) : (ntfCtxFull ctx old new cause detail cmd status s).readers = s.readers := by
  simp [ntfCtxFull]
@[simp] theorem ntfCtxFull_tag (ctx : Nat) (old new : CtxState) (cause : Nat) (detail : Bytes) (cmd : Option CmdRef) (status : Nat) (s : State) : (ntfCtxFull ctx old new cause detail cmd status s).tag = s.tag := by
  simp [ntfCtxFull]
@[simp] theorem ntfCtxFull_mains (ctx : Nat) (old new : CtxState) (cause : Nat) (detail : Bytes) (cmd : Option CmdRef) (status : Nat) (s : State) : (ntfCtxFull ctx old new cause detail cmd status s).mains = s.mains := by
  simp [ntfCtxFull]
@[simp] theorem ntfCtxFull_sitePeers (ctx : Nat) (old new : CtxState) (cause : Nat) (detail : Bytes) (cmd : Option CmdRef) (status : Nat) (s : State) : (ntfCtxFull ctx old new cause detail cmd status s).sitePeers = s.sitePeers := by
  simp [ntfCtxFull]
@[simp] theorem ntfCtxFull_canOut (ctx : Nat) (old new : CtxState) (cause : Nat) (detail : Bytes) (cmd : Option CmdRef) (status : Nat) (s : State) : (ntfCtxFull ctx old new cause detail cmd status s).canOut = s.canOut := by
  simp [ntfCtxFull]
@[simp] theorem ntfCtxFull_draws (ctx : Nat) (old new : CtxState) (cause : Nat) (detail : Bytes) (cmd : Option CmdRef) (status : Nat) (s : State) : (ntfCtxFull ctx old new cause detail cmd status s).draws = s.draws := by
  simp [ntfCtxFull]
@[simp] theorem ntfCtxFull_pending (ctx : Nat) (old new : CtxState) (cause : Nat) (detail : Bytes) (cmd : Option CmdRef) (status : Nat) (s : State) : (ntfCtxFull ctx old new cause detail cmd status s).pending = s.pending := by
  simp [ntfCtxFull]

/-! ### ntfCtx, field by field -/

@[simp] theorem ntfCtx_life (ctx cause : Nat) (detail : Bytes) (s : State) : (ntfCtx ctx cause detail s).life = s.life := by
  simp [ntfCtx]
@[simp] theorem ntfCtx_clk (ctx cause : Nat) (detail : Bytes) (s : State) : (ntfCtx ctx cause detail s).clk = s.clk := by
  simp [ntfCtx]
@[simp] theorem ntfCtx_time (ctx cause : Nat) (detail : Bytes) (s : State) : (ntfCtx ctx cause detail s).time = s.time := by
  simp [ntfCtx]
@[simp] theorem ntfCtx_power (ctx cause : Nat) (detail : Bytes) (s : State) : (ntfCtx ctx cause detail s).power = s.power := by
  simp [ntfCtx]
@[simp] theorem ntfCtx_uartRate (ctx cause : Nat) (detail : Bytes) (s : State) : (ntfCtx ctx cause detail s).uartRate = s.uartRate := by
  simp [ntfCtx]
@[simp] theorem ntfCtx_params (ctx cause : Nat) (detail : Bytes) (s : State) : (ntfCtx ctx cause detail s).params = s.params := by
  simp [ntfCtx]
@[simp] theorem ntfCtx_commits (ctx cause : Nat) (detail : Bytes) (s : State) : (ntfCtx ctx cause detail s).commits = s.commits := by
  simp [ntfCtx]
@[simp] theorem ntfCtx_bays (ctx cause : Nat) (detail : Bytes) (s : State) : (ntfCtx ctx cause detail s).bays = s.bays := by
  simp [ntfCtx]
@[simp] theorem ntfCtx_ctxs (ctx cause : Nat) (detail : Bytes) (s : State) : (ntfCtx ctx cause detail s).ctxs = s.ctxs := by
  simp [ntfCtx]
@[simp] theorem ntfCtx_queue (ctx cause : Nat) (detail : Bytes) (s : State) : (ntfCtx ctx cause detail s).queue = s.queue := by
  simp [ntfCtx]
@[simp] theorem ntfCtx_met (ctx cause : Nat) (detail : Bytes) (s : State) : (ntfCtx ctx cause detail s).met = s.met := by
  simp [ntfCtx]
@[simp] theorem ntfCtx_intervals (ctx cause : Nat) (detail : Bytes) (s : State) : (ntfCtx ctx cause detail s).intervals = s.intervals := by
  simp [ntfCtx]
@[simp] theorem ntfCtx_cals (ctx cause : Nat) (detail : Bytes) (s : State) : (ntfCtx ctx cause detail s).cals = s.cals := by
  simp [ntfCtx]
@[simp] theorem ntfCtx_legal (ctx cause : Nat) (detail : Bytes) (s : State) : (ntfCtx ctx cause detail s).legal = s.legal := by
  simp [ntfCtx]
@[simp] theorem ntfCtx_creds (ctx cause : Nat) (detail : Bytes) (s : State) : (ntfCtx ctx cause detail s).creds = s.creds := by
  simp [ntfCtx]
@[simp] theorem ntfCtx_budget (ctx cause : Nat) (detail : Bytes) (s : State) : (ntfCtx ctx cause detail s).budget = s.budget := by
  simp [ntfCtx]
@[simp] theorem ntfCtx_safety (ctx cause : Nat) (detail : Bytes) (s : State) : (ntfCtx ctx cause detail s).safety = s.safety := by
  simp [ntfCtx]
@[simp] theorem ntfCtx_cont (ctx cause : Nat) (detail : Bytes) (s : State) : (ntfCtx ctx cause detail s).cont = s.cont := by
  simp [ntfCtx]
@[simp] theorem ntfCtx_keys (ctx cause : Nat) (detail : Bytes) (s : State) : (ntfCtx ctx cause detail s).keys = s.keys := by
  simp [ntfCtx]
@[simp] theorem ntfCtx_images (ctx cause : Nat) (detail : Bytes) (s : State) : (ntfCtx ctx cause detail s).images = s.images := by
  simp [ntfCtx]
@[simp] theorem ntfCtx_chans (ctx cause : Nat) (detail : Bytes) (s : State) : (ntfCtx ctx cause detail s).chans = s.chans := by
  simp [ntfCtx]
@[simp] theorem ntfCtx_groups (ctx cause : Nat) (detail : Bytes) (s : State) : (ntfCtx ctx cause detail s).groups = s.groups := by
  simp [ntfCtx]
@[simp] theorem ntfCtx_disp (ctx cause : Nat) (detail : Bytes) (s : State) : (ntfCtx ctx cause detail s).disp = s.disp := by
  simp [ntfCtx]
@[simp] theorem ntfCtx_readers (ctx cause : Nat) (detail : Bytes) (s : State) : (ntfCtx ctx cause detail s).readers = s.readers := by
  simp [ntfCtx]
@[simp] theorem ntfCtx_tag (ctx cause : Nat) (detail : Bytes) (s : State) : (ntfCtx ctx cause detail s).tag = s.tag := by
  simp [ntfCtx]
@[simp] theorem ntfCtx_mains (ctx cause : Nat) (detail : Bytes) (s : State) : (ntfCtx ctx cause detail s).mains = s.mains := by
  simp [ntfCtx]
@[simp] theorem ntfCtx_sitePeers (ctx cause : Nat) (detail : Bytes) (s : State) : (ntfCtx ctx cause detail s).sitePeers = s.sitePeers := by
  simp [ntfCtx]
@[simp] theorem ntfCtx_canOut (ctx cause : Nat) (detail : Bytes) (s : State) : (ntfCtx ctx cause detail s).canOut = s.canOut := by
  simp [ntfCtx]
@[simp] theorem ntfCtx_draws (ctx cause : Nat) (detail : Bytes) (s : State) : (ntfCtx ctx cause detail s).draws = s.draws := by
  simp [ntfCtx]
@[simp] theorem ntfCtx_pending (ctx cause : Nat) (detail : Bytes) (s : State) : (ntfCtx ctx cause detail s).pending = s.pending := by
  simp [ntfCtx]

/-! ### ntfSafety, field by field -/

@[simp] theorem ntfSafety_life (event index code : Nat) (s : State) : (ntfSafety event index code s).life = s.life := by
  simp [ntfSafety]
@[simp] theorem ntfSafety_clk (event index code : Nat) (s : State) : (ntfSafety event index code s).clk = s.clk := by
  simp [ntfSafety]
@[simp] theorem ntfSafety_time (event index code : Nat) (s : State) : (ntfSafety event index code s).time = s.time := by
  simp [ntfSafety]
@[simp] theorem ntfSafety_power (event index code : Nat) (s : State) : (ntfSafety event index code s).power = s.power := by
  simp [ntfSafety]
@[simp] theorem ntfSafety_uartRate (event index code : Nat) (s : State) : (ntfSafety event index code s).uartRate = s.uartRate := by
  simp [ntfSafety]
@[simp] theorem ntfSafety_params (event index code : Nat) (s : State) : (ntfSafety event index code s).params = s.params := by
  simp [ntfSafety]
@[simp] theorem ntfSafety_commits (event index code : Nat) (s : State) : (ntfSafety event index code s).commits = s.commits := by
  simp [ntfSafety]
@[simp] theorem ntfSafety_bays (event index code : Nat) (s : State) : (ntfSafety event index code s).bays = s.bays := by
  simp [ntfSafety]
@[simp] theorem ntfSafety_ctxs (event index code : Nat) (s : State) : (ntfSafety event index code s).ctxs = s.ctxs := by
  simp [ntfSafety]
@[simp] theorem ntfSafety_queue (event index code : Nat) (s : State) : (ntfSafety event index code s).queue = s.queue := by
  simp [ntfSafety]
@[simp] theorem ntfSafety_met (event index code : Nat) (s : State) : (ntfSafety event index code s).met = s.met := by
  simp [ntfSafety]
@[simp] theorem ntfSafety_intervals (event index code : Nat) (s : State) : (ntfSafety event index code s).intervals = s.intervals := by
  simp [ntfSafety]
@[simp] theorem ntfSafety_cals (event index code : Nat) (s : State) : (ntfSafety event index code s).cals = s.cals := by
  simp [ntfSafety]
@[simp] theorem ntfSafety_legal (event index code : Nat) (s : State) : (ntfSafety event index code s).legal = s.legal := by
  simp [ntfSafety]
@[simp] theorem ntfSafety_creds (event index code : Nat) (s : State) : (ntfSafety event index code s).creds = s.creds := by
  simp [ntfSafety]
@[simp] theorem ntfSafety_budget (event index code : Nat) (s : State) : (ntfSafety event index code s).budget = s.budget := by
  simp [ntfSafety]
@[simp] theorem ntfSafety_safety (event index code : Nat) (s : State) : (ntfSafety event index code s).safety = s.safety := by
  simp [ntfSafety]
@[simp] theorem ntfSafety_cont (event index code : Nat) (s : State) : (ntfSafety event index code s).cont = s.cont := by
  simp [ntfSafety]
@[simp] theorem ntfSafety_keys (event index code : Nat) (s : State) : (ntfSafety event index code s).keys = s.keys := by
  simp [ntfSafety]
@[simp] theorem ntfSafety_images (event index code : Nat) (s : State) : (ntfSafety event index code s).images = s.images := by
  simp [ntfSafety]
@[simp] theorem ntfSafety_chans (event index code : Nat) (s : State) : (ntfSafety event index code s).chans = s.chans := by
  simp [ntfSafety]
@[simp] theorem ntfSafety_groups (event index code : Nat) (s : State) : (ntfSafety event index code s).groups = s.groups := by
  simp [ntfSafety]
@[simp] theorem ntfSafety_disp (event index code : Nat) (s : State) : (ntfSafety event index code s).disp = s.disp := by
  simp [ntfSafety]
@[simp] theorem ntfSafety_readers (event index code : Nat) (s : State) : (ntfSafety event index code s).readers = s.readers := by
  simp [ntfSafety]
@[simp] theorem ntfSafety_tag (event index code : Nat) (s : State) : (ntfSafety event index code s).tag = s.tag := by
  simp [ntfSafety]
@[simp] theorem ntfSafety_mains (event index code : Nat) (s : State) : (ntfSafety event index code s).mains = s.mains := by
  simp [ntfSafety]
@[simp] theorem ntfSafety_sitePeers (event index code : Nat) (s : State) : (ntfSafety event index code s).sitePeers = s.sitePeers := by
  simp [ntfSafety]
@[simp] theorem ntfSafety_canOut (event index code : Nat) (s : State) : (ntfSafety event index code s).canOut = s.canOut := by
  simp [ntfSafety]
@[simp] theorem ntfSafety_draws (event index code : Nat) (s : State) : (ntfSafety event index code s).draws = s.draws := by
  simp [ntfSafety]
@[simp] theorem ntfSafety_pending (event index code : Nat) (s : State) : (ntfSafety event index code s).pending = s.pending := by
  simp [ntfSafety]

/-! ### ntfPower, field by field -/

@[simp] theorem ntfPower_life (event : Nat) (detail : Bytes) (s : State) : (ntfPower event detail s).life = s.life := by
  simp [ntfPower]
@[simp] theorem ntfPower_clk (event : Nat) (detail : Bytes) (s : State) : (ntfPower event detail s).clk = s.clk := by
  simp [ntfPower]
@[simp] theorem ntfPower_time (event : Nat) (detail : Bytes) (s : State) : (ntfPower event detail s).time = s.time := by
  simp [ntfPower]
@[simp] theorem ntfPower_power (event : Nat) (detail : Bytes) (s : State) : (ntfPower event detail s).power = s.power := by
  simp [ntfPower]
@[simp] theorem ntfPower_uartRate (event : Nat) (detail : Bytes) (s : State) : (ntfPower event detail s).uartRate = s.uartRate := by
  simp [ntfPower]
@[simp] theorem ntfPower_params (event : Nat) (detail : Bytes) (s : State) : (ntfPower event detail s).params = s.params := by
  simp [ntfPower]
@[simp] theorem ntfPower_commits (event : Nat) (detail : Bytes) (s : State) : (ntfPower event detail s).commits = s.commits := by
  simp [ntfPower]
@[simp] theorem ntfPower_bays (event : Nat) (detail : Bytes) (s : State) : (ntfPower event detail s).bays = s.bays := by
  simp [ntfPower]
@[simp] theorem ntfPower_ctxs (event : Nat) (detail : Bytes) (s : State) : (ntfPower event detail s).ctxs = s.ctxs := by
  simp [ntfPower]
@[simp] theorem ntfPower_queue (event : Nat) (detail : Bytes) (s : State) : (ntfPower event detail s).queue = s.queue := by
  simp [ntfPower]
@[simp] theorem ntfPower_met (event : Nat) (detail : Bytes) (s : State) : (ntfPower event detail s).met = s.met := by
  simp [ntfPower]
@[simp] theorem ntfPower_intervals (event : Nat) (detail : Bytes) (s : State) : (ntfPower event detail s).intervals = s.intervals := by
  simp [ntfPower]
@[simp] theorem ntfPower_cals (event : Nat) (detail : Bytes) (s : State) : (ntfPower event detail s).cals = s.cals := by
  simp [ntfPower]
@[simp] theorem ntfPower_legal (event : Nat) (detail : Bytes) (s : State) : (ntfPower event detail s).legal = s.legal := by
  simp [ntfPower]
@[simp] theorem ntfPower_creds (event : Nat) (detail : Bytes) (s : State) : (ntfPower event detail s).creds = s.creds := by
  simp [ntfPower]
@[simp] theorem ntfPower_budget (event : Nat) (detail : Bytes) (s : State) : (ntfPower event detail s).budget = s.budget := by
  simp [ntfPower]
@[simp] theorem ntfPower_safety (event : Nat) (detail : Bytes) (s : State) : (ntfPower event detail s).safety = s.safety := by
  simp [ntfPower]
@[simp] theorem ntfPower_cont (event : Nat) (detail : Bytes) (s : State) : (ntfPower event detail s).cont = s.cont := by
  simp [ntfPower]
@[simp] theorem ntfPower_keys (event : Nat) (detail : Bytes) (s : State) : (ntfPower event detail s).keys = s.keys := by
  simp [ntfPower]
@[simp] theorem ntfPower_images (event : Nat) (detail : Bytes) (s : State) : (ntfPower event detail s).images = s.images := by
  simp [ntfPower]
@[simp] theorem ntfPower_chans (event : Nat) (detail : Bytes) (s : State) : (ntfPower event detail s).chans = s.chans := by
  simp [ntfPower]
@[simp] theorem ntfPower_groups (event : Nat) (detail : Bytes) (s : State) : (ntfPower event detail s).groups = s.groups := by
  simp [ntfPower]
@[simp] theorem ntfPower_disp (event : Nat) (detail : Bytes) (s : State) : (ntfPower event detail s).disp = s.disp := by
  simp [ntfPower]
@[simp] theorem ntfPower_readers (event : Nat) (detail : Bytes) (s : State) : (ntfPower event detail s).readers = s.readers := by
  simp [ntfPower]
@[simp] theorem ntfPower_tag (event : Nat) (detail : Bytes) (s : State) : (ntfPower event detail s).tag = s.tag := by
  simp [ntfPower]
@[simp] theorem ntfPower_mains (event : Nat) (detail : Bytes) (s : State) : (ntfPower event detail s).mains = s.mains := by
  simp [ntfPower]
@[simp] theorem ntfPower_sitePeers (event : Nat) (detail : Bytes) (s : State) : (ntfPower event detail s).sitePeers = s.sitePeers := by
  simp [ntfPower]
@[simp] theorem ntfPower_canOut (event : Nat) (detail : Bytes) (s : State) : (ntfPower event detail s).canOut = s.canOut := by
  simp [ntfPower]
@[simp] theorem ntfPower_draws (event : Nat) (detail : Bytes) (s : State) : (ntfPower event detail s).draws = s.draws := by
  simp [ntfPower]
@[simp] theorem ntfPower_pending (event : Nat) (detail : Bytes) (s : State) : (ntfPower event detail s).pending = s.pending := by
  simp [ntfPower]

/-! ### ntfLswFull, field by field -/

@[simp] theorem ntfLswFull_life (ch event : Nat) (cmd : Option CmdRef) (status : Nat) (s : State) : (ntfLswFull ch event cmd status s).life = s.life := by
  simp [ntfLswFull]
@[simp] theorem ntfLswFull_clk (ch event : Nat) (cmd : Option CmdRef) (status : Nat) (s : State) : (ntfLswFull ch event cmd status s).clk = s.clk := by
  simp [ntfLswFull]
@[simp] theorem ntfLswFull_time (ch event : Nat) (cmd : Option CmdRef) (status : Nat) (s : State) : (ntfLswFull ch event cmd status s).time = s.time := by
  simp [ntfLswFull]
@[simp] theorem ntfLswFull_power (ch event : Nat) (cmd : Option CmdRef) (status : Nat) (s : State) : (ntfLswFull ch event cmd status s).power = s.power := by
  simp [ntfLswFull]
@[simp] theorem ntfLswFull_uartRate (ch event : Nat) (cmd : Option CmdRef) (status : Nat) (s : State) : (ntfLswFull ch event cmd status s).uartRate = s.uartRate := by
  simp [ntfLswFull]
@[simp] theorem ntfLswFull_params (ch event : Nat) (cmd : Option CmdRef) (status : Nat) (s : State) : (ntfLswFull ch event cmd status s).params = s.params := by
  simp [ntfLswFull]
@[simp] theorem ntfLswFull_commits (ch event : Nat) (cmd : Option CmdRef) (status : Nat) (s : State) : (ntfLswFull ch event cmd status s).commits = s.commits := by
  simp [ntfLswFull]
@[simp] theorem ntfLswFull_bays (ch event : Nat) (cmd : Option CmdRef) (status : Nat) (s : State) : (ntfLswFull ch event cmd status s).bays = s.bays := by
  simp [ntfLswFull]
@[simp] theorem ntfLswFull_ctxs (ch event : Nat) (cmd : Option CmdRef) (status : Nat) (s : State) : (ntfLswFull ch event cmd status s).ctxs = s.ctxs := by
  simp [ntfLswFull]
@[simp] theorem ntfLswFull_queue (ch event : Nat) (cmd : Option CmdRef) (status : Nat) (s : State) : (ntfLswFull ch event cmd status s).queue = s.queue := by
  simp [ntfLswFull]
@[simp] theorem ntfLswFull_met (ch event : Nat) (cmd : Option CmdRef) (status : Nat) (s : State) : (ntfLswFull ch event cmd status s).met = s.met := by
  simp [ntfLswFull]
@[simp] theorem ntfLswFull_intervals (ch event : Nat) (cmd : Option CmdRef) (status : Nat) (s : State) : (ntfLswFull ch event cmd status s).intervals = s.intervals := by
  simp [ntfLswFull]
@[simp] theorem ntfLswFull_cals (ch event : Nat) (cmd : Option CmdRef) (status : Nat) (s : State) : (ntfLswFull ch event cmd status s).cals = s.cals := by
  simp [ntfLswFull]
@[simp] theorem ntfLswFull_legal (ch event : Nat) (cmd : Option CmdRef) (status : Nat) (s : State) : (ntfLswFull ch event cmd status s).legal = s.legal := by
  simp [ntfLswFull]
@[simp] theorem ntfLswFull_creds (ch event : Nat) (cmd : Option CmdRef) (status : Nat) (s : State) : (ntfLswFull ch event cmd status s).creds = s.creds := by
  simp [ntfLswFull]
@[simp] theorem ntfLswFull_budget (ch event : Nat) (cmd : Option CmdRef) (status : Nat) (s : State) : (ntfLswFull ch event cmd status s).budget = s.budget := by
  simp [ntfLswFull]
@[simp] theorem ntfLswFull_safety (ch event : Nat) (cmd : Option CmdRef) (status : Nat) (s : State) : (ntfLswFull ch event cmd status s).safety = s.safety := by
  simp [ntfLswFull]
@[simp] theorem ntfLswFull_cont (ch event : Nat) (cmd : Option CmdRef) (status : Nat) (s : State) : (ntfLswFull ch event cmd status s).cont = s.cont := by
  simp [ntfLswFull]
@[simp] theorem ntfLswFull_keys (ch event : Nat) (cmd : Option CmdRef) (status : Nat) (s : State) : (ntfLswFull ch event cmd status s).keys = s.keys := by
  simp [ntfLswFull]
@[simp] theorem ntfLswFull_images (ch event : Nat) (cmd : Option CmdRef) (status : Nat) (s : State) : (ntfLswFull ch event cmd status s).images = s.images := by
  simp [ntfLswFull]
@[simp] theorem ntfLswFull_chans (ch event : Nat) (cmd : Option CmdRef) (status : Nat) (s : State) : (ntfLswFull ch event cmd status s).chans = s.chans := by
  simp [ntfLswFull]
@[simp] theorem ntfLswFull_groups (ch event : Nat) (cmd : Option CmdRef) (status : Nat) (s : State) : (ntfLswFull ch event cmd status s).groups = s.groups := by
  simp [ntfLswFull]
@[simp] theorem ntfLswFull_disp (ch event : Nat) (cmd : Option CmdRef) (status : Nat) (s : State) : (ntfLswFull ch event cmd status s).disp = s.disp := by
  simp [ntfLswFull]
@[simp] theorem ntfLswFull_readers (ch event : Nat) (cmd : Option CmdRef) (status : Nat) (s : State) : (ntfLswFull ch event cmd status s).readers = s.readers := by
  simp [ntfLswFull]
@[simp] theorem ntfLswFull_tag (ch event : Nat) (cmd : Option CmdRef) (status : Nat) (s : State) : (ntfLswFull ch event cmd status s).tag = s.tag := by
  simp [ntfLswFull]
@[simp] theorem ntfLswFull_mains (ch event : Nat) (cmd : Option CmdRef) (status : Nat) (s : State) : (ntfLswFull ch event cmd status s).mains = s.mains := by
  simp [ntfLswFull]
@[simp] theorem ntfLswFull_sitePeers (ch event : Nat) (cmd : Option CmdRef) (status : Nat) (s : State) : (ntfLswFull ch event cmd status s).sitePeers = s.sitePeers := by
  simp [ntfLswFull]
@[simp] theorem ntfLswFull_canOut (ch event : Nat) (cmd : Option CmdRef) (status : Nat) (s : State) : (ntfLswFull ch event cmd status s).canOut = s.canOut := by
  simp [ntfLswFull]
@[simp] theorem ntfLswFull_draws (ch event : Nat) (cmd : Option CmdRef) (status : Nat) (s : State) : (ntfLswFull ch event cmd status s).draws = s.draws := by
  simp [ntfLswFull]
@[simp] theorem ntfLswFull_pending (ch event : Nat) (cmd : Option CmdRef) (status : Nat) (s : State) : (ntfLswFull ch event cmd status s).pending = s.pending := by
  simp [ntfLswFull]

/-! ### ntfLsw, field by field -/

@[simp] theorem ntfLsw_life (ch event : Nat) (s : State) : (ntfLsw ch event s).life = s.life := by
  simp [ntfLsw]
@[simp] theorem ntfLsw_clk (ch event : Nat) (s : State) : (ntfLsw ch event s).clk = s.clk := by
  simp [ntfLsw]
@[simp] theorem ntfLsw_time (ch event : Nat) (s : State) : (ntfLsw ch event s).time = s.time := by
  simp [ntfLsw]
@[simp] theorem ntfLsw_power (ch event : Nat) (s : State) : (ntfLsw ch event s).power = s.power := by
  simp [ntfLsw]
@[simp] theorem ntfLsw_uartRate (ch event : Nat) (s : State) : (ntfLsw ch event s).uartRate = s.uartRate := by
  simp [ntfLsw]
@[simp] theorem ntfLsw_params (ch event : Nat) (s : State) : (ntfLsw ch event s).params = s.params := by
  simp [ntfLsw]
@[simp] theorem ntfLsw_commits (ch event : Nat) (s : State) : (ntfLsw ch event s).commits = s.commits := by
  simp [ntfLsw]
@[simp] theorem ntfLsw_bays (ch event : Nat) (s : State) : (ntfLsw ch event s).bays = s.bays := by
  simp [ntfLsw]
@[simp] theorem ntfLsw_ctxs (ch event : Nat) (s : State) : (ntfLsw ch event s).ctxs = s.ctxs := by
  simp [ntfLsw]
@[simp] theorem ntfLsw_queue (ch event : Nat) (s : State) : (ntfLsw ch event s).queue = s.queue := by
  simp [ntfLsw]
@[simp] theorem ntfLsw_met (ch event : Nat) (s : State) : (ntfLsw ch event s).met = s.met := by
  simp [ntfLsw]
@[simp] theorem ntfLsw_intervals (ch event : Nat) (s : State) : (ntfLsw ch event s).intervals = s.intervals := by
  simp [ntfLsw]
@[simp] theorem ntfLsw_cals (ch event : Nat) (s : State) : (ntfLsw ch event s).cals = s.cals := by
  simp [ntfLsw]
@[simp] theorem ntfLsw_legal (ch event : Nat) (s : State) : (ntfLsw ch event s).legal = s.legal := by
  simp [ntfLsw]
@[simp] theorem ntfLsw_creds (ch event : Nat) (s : State) : (ntfLsw ch event s).creds = s.creds := by
  simp [ntfLsw]
@[simp] theorem ntfLsw_budget (ch event : Nat) (s : State) : (ntfLsw ch event s).budget = s.budget := by
  simp [ntfLsw]
@[simp] theorem ntfLsw_safety (ch event : Nat) (s : State) : (ntfLsw ch event s).safety = s.safety := by
  simp [ntfLsw]
@[simp] theorem ntfLsw_cont (ch event : Nat) (s : State) : (ntfLsw ch event s).cont = s.cont := by
  simp [ntfLsw]
@[simp] theorem ntfLsw_keys (ch event : Nat) (s : State) : (ntfLsw ch event s).keys = s.keys := by
  simp [ntfLsw]
@[simp] theorem ntfLsw_images (ch event : Nat) (s : State) : (ntfLsw ch event s).images = s.images := by
  simp [ntfLsw]
@[simp] theorem ntfLsw_chans (ch event : Nat) (s : State) : (ntfLsw ch event s).chans = s.chans := by
  simp [ntfLsw]
@[simp] theorem ntfLsw_groups (ch event : Nat) (s : State) : (ntfLsw ch event s).groups = s.groups := by
  simp [ntfLsw]
@[simp] theorem ntfLsw_disp (ch event : Nat) (s : State) : (ntfLsw ch event s).disp = s.disp := by
  simp [ntfLsw]
@[simp] theorem ntfLsw_readers (ch event : Nat) (s : State) : (ntfLsw ch event s).readers = s.readers := by
  simp [ntfLsw]
@[simp] theorem ntfLsw_tag (ch event : Nat) (s : State) : (ntfLsw ch event s).tag = s.tag := by
  simp [ntfLsw]
@[simp] theorem ntfLsw_mains (ch event : Nat) (s : State) : (ntfLsw ch event s).mains = s.mains := by
  simp [ntfLsw]
@[simp] theorem ntfLsw_sitePeers (ch event : Nat) (s : State) : (ntfLsw ch event s).sitePeers = s.sitePeers := by
  simp [ntfLsw]
@[simp] theorem ntfLsw_canOut (ch event : Nat) (s : State) : (ntfLsw ch event s).canOut = s.canOut := by
  simp [ntfLsw]
@[simp] theorem ntfLsw_draws (ch event : Nat) (s : State) : (ntfLsw ch event s).draws = s.draws := by
  simp [ntfLsw]
@[simp] theorem ntfLsw_pending (ch event : Nat) (s : State) : (ntfLsw ch event s).pending = s.pending := by
  simp [ntfLsw]

/-! ### ntfTakeover, field by field -/

@[simp] theorem ntfTakeover_life (kind event unit cause durationUs replayed src : Nat) (s : State) : (ntfTakeover kind event unit cause durationUs replayed src s).life = s.life := by
  simp [ntfTakeover]
@[simp] theorem ntfTakeover_clk (kind event unit cause durationUs replayed src : Nat) (s : State) : (ntfTakeover kind event unit cause durationUs replayed src s).clk = s.clk := by
  simp [ntfTakeover]
@[simp] theorem ntfTakeover_time (kind event unit cause durationUs replayed src : Nat) (s : State) : (ntfTakeover kind event unit cause durationUs replayed src s).time = s.time := by
  simp [ntfTakeover]
@[simp] theorem ntfTakeover_power (kind event unit cause durationUs replayed src : Nat) (s : State) : (ntfTakeover kind event unit cause durationUs replayed src s).power = s.power := by
  simp [ntfTakeover]
@[simp] theorem ntfTakeover_uartRate (kind event unit cause durationUs replayed src : Nat) (s : State) : (ntfTakeover kind event unit cause durationUs replayed src s).uartRate = s.uartRate := by
  simp [ntfTakeover]
@[simp] theorem ntfTakeover_params (kind event unit cause durationUs replayed src : Nat) (s : State) : (ntfTakeover kind event unit cause durationUs replayed src s).params = s.params := by
  simp [ntfTakeover]
@[simp] theorem ntfTakeover_commits (kind event unit cause durationUs replayed src : Nat) (s : State) : (ntfTakeover kind event unit cause durationUs replayed src s).commits = s.commits := by
  simp [ntfTakeover]
@[simp] theorem ntfTakeover_bays (kind event unit cause durationUs replayed src : Nat) (s : State) : (ntfTakeover kind event unit cause durationUs replayed src s).bays = s.bays := by
  simp [ntfTakeover]
@[simp] theorem ntfTakeover_ctxs (kind event unit cause durationUs replayed src : Nat) (s : State) : (ntfTakeover kind event unit cause durationUs replayed src s).ctxs = s.ctxs := by
  simp [ntfTakeover]
@[simp] theorem ntfTakeover_queue (kind event unit cause durationUs replayed src : Nat) (s : State) : (ntfTakeover kind event unit cause durationUs replayed src s).queue = s.queue := by
  simp [ntfTakeover]
@[simp] theorem ntfTakeover_met (kind event unit cause durationUs replayed src : Nat) (s : State) : (ntfTakeover kind event unit cause durationUs replayed src s).met = s.met := by
  simp [ntfTakeover]
@[simp] theorem ntfTakeover_intervals (kind event unit cause durationUs replayed src : Nat) (s : State) : (ntfTakeover kind event unit cause durationUs replayed src s).intervals = s.intervals := by
  simp [ntfTakeover]
@[simp] theorem ntfTakeover_cals (kind event unit cause durationUs replayed src : Nat) (s : State) : (ntfTakeover kind event unit cause durationUs replayed src s).cals = s.cals := by
  simp [ntfTakeover]
@[simp] theorem ntfTakeover_legal (kind event unit cause durationUs replayed src : Nat) (s : State) : (ntfTakeover kind event unit cause durationUs replayed src s).legal = s.legal := by
  simp [ntfTakeover]
@[simp] theorem ntfTakeover_creds (kind event unit cause durationUs replayed src : Nat) (s : State) : (ntfTakeover kind event unit cause durationUs replayed src s).creds = s.creds := by
  simp [ntfTakeover]
@[simp] theorem ntfTakeover_budget (kind event unit cause durationUs replayed src : Nat) (s : State) : (ntfTakeover kind event unit cause durationUs replayed src s).budget = s.budget := by
  simp [ntfTakeover]
@[simp] theorem ntfTakeover_safety (kind event unit cause durationUs replayed src : Nat) (s : State) : (ntfTakeover kind event unit cause durationUs replayed src s).safety = s.safety := by
  simp [ntfTakeover]
@[simp] theorem ntfTakeover_cont (kind event unit cause durationUs replayed src : Nat) (s : State) : (ntfTakeover kind event unit cause durationUs replayed src s).cont = s.cont := by
  simp [ntfTakeover]
@[simp] theorem ntfTakeover_keys (kind event unit cause durationUs replayed src : Nat) (s : State) : (ntfTakeover kind event unit cause durationUs replayed src s).keys = s.keys := by
  simp [ntfTakeover]
@[simp] theorem ntfTakeover_images (kind event unit cause durationUs replayed src : Nat) (s : State) : (ntfTakeover kind event unit cause durationUs replayed src s).images = s.images := by
  simp [ntfTakeover]
@[simp] theorem ntfTakeover_chans (kind event unit cause durationUs replayed src : Nat) (s : State) : (ntfTakeover kind event unit cause durationUs replayed src s).chans = s.chans := by
  simp [ntfTakeover]
@[simp] theorem ntfTakeover_groups (kind event unit cause durationUs replayed src : Nat) (s : State) : (ntfTakeover kind event unit cause durationUs replayed src s).groups = s.groups := by
  simp [ntfTakeover]
@[simp] theorem ntfTakeover_disp (kind event unit cause durationUs replayed src : Nat) (s : State) : (ntfTakeover kind event unit cause durationUs replayed src s).disp = s.disp := by
  simp [ntfTakeover]
@[simp] theorem ntfTakeover_readers (kind event unit cause durationUs replayed src : Nat) (s : State) : (ntfTakeover kind event unit cause durationUs replayed src s).readers = s.readers := by
  simp [ntfTakeover]
@[simp] theorem ntfTakeover_tag (kind event unit cause durationUs replayed src : Nat) (s : State) : (ntfTakeover kind event unit cause durationUs replayed src s).tag = s.tag := by
  simp [ntfTakeover]
@[simp] theorem ntfTakeover_mains (kind event unit cause durationUs replayed src : Nat) (s : State) : (ntfTakeover kind event unit cause durationUs replayed src s).mains = s.mains := by
  simp [ntfTakeover]
@[simp] theorem ntfTakeover_sitePeers (kind event unit cause durationUs replayed src : Nat) (s : State) : (ntfTakeover kind event unit cause durationUs replayed src s).sitePeers = s.sitePeers := by
  simp [ntfTakeover]
@[simp] theorem ntfTakeover_canOut (kind event unit cause durationUs replayed src : Nat) (s : State) : (ntfTakeover kind event unit cause durationUs replayed src s).canOut = s.canOut := by
  simp [ntfTakeover]
@[simp] theorem ntfTakeover_draws (kind event unit cause durationUs replayed src : Nat) (s : State) : (ntfTakeover kind event unit cause durationUs replayed src s).draws = s.draws := by
  simp [ntfTakeover]
@[simp] theorem ntfTakeover_pending (kind event unit cause durationUs replayed src : Nat) (s : State) : (ntfTakeover kind event unit cause durationUs replayed src s).pending = s.pending := by
  simp [ntfTakeover]

/-! ### ntfRdrFull, field by field -/

@[simp] theorem ntfRdrFull_life (port event : Nat) (card : Option (CardKind × Bytes)) (ctx decision first last : Nat) (cmd : Option CmdRef) (status : Nat) (s : State) : (ntfRdrFull port event card ctx decision first last cmd status s).life = s.life := by
  simp [ntfRdrFull]
@[simp] theorem ntfRdrFull_clk (port event : Nat) (card : Option (CardKind × Bytes)) (ctx decision first last : Nat) (cmd : Option CmdRef) (status : Nat) (s : State) : (ntfRdrFull port event card ctx decision first last cmd status s).clk = s.clk := by
  simp [ntfRdrFull]
@[simp] theorem ntfRdrFull_time (port event : Nat) (card : Option (CardKind × Bytes)) (ctx decision first last : Nat) (cmd : Option CmdRef) (status : Nat) (s : State) : (ntfRdrFull port event card ctx decision first last cmd status s).time = s.time := by
  simp [ntfRdrFull]
@[simp] theorem ntfRdrFull_power (port event : Nat) (card : Option (CardKind × Bytes)) (ctx decision first last : Nat) (cmd : Option CmdRef) (status : Nat) (s : State) : (ntfRdrFull port event card ctx decision first last cmd status s).power = s.power := by
  simp [ntfRdrFull]
@[simp] theorem ntfRdrFull_uartRate (port event : Nat) (card : Option (CardKind × Bytes)) (ctx decision first last : Nat) (cmd : Option CmdRef) (status : Nat) (s : State) : (ntfRdrFull port event card ctx decision first last cmd status s).uartRate = s.uartRate := by
  simp [ntfRdrFull]
@[simp] theorem ntfRdrFull_params (port event : Nat) (card : Option (CardKind × Bytes)) (ctx decision first last : Nat) (cmd : Option CmdRef) (status : Nat) (s : State) : (ntfRdrFull port event card ctx decision first last cmd status s).params = s.params := by
  simp [ntfRdrFull]
@[simp] theorem ntfRdrFull_commits (port event : Nat) (card : Option (CardKind × Bytes)) (ctx decision first last : Nat) (cmd : Option CmdRef) (status : Nat) (s : State) : (ntfRdrFull port event card ctx decision first last cmd status s).commits = s.commits := by
  simp [ntfRdrFull]
@[simp] theorem ntfRdrFull_bays (port event : Nat) (card : Option (CardKind × Bytes)) (ctx decision first last : Nat) (cmd : Option CmdRef) (status : Nat) (s : State) : (ntfRdrFull port event card ctx decision first last cmd status s).bays = s.bays := by
  simp [ntfRdrFull]
@[simp] theorem ntfRdrFull_ctxs (port event : Nat) (card : Option (CardKind × Bytes)) (ctx decision first last : Nat) (cmd : Option CmdRef) (status : Nat) (s : State) : (ntfRdrFull port event card ctx decision first last cmd status s).ctxs = s.ctxs := by
  simp [ntfRdrFull]
@[simp] theorem ntfRdrFull_queue (port event : Nat) (card : Option (CardKind × Bytes)) (ctx decision first last : Nat) (cmd : Option CmdRef) (status : Nat) (s : State) : (ntfRdrFull port event card ctx decision first last cmd status s).queue = s.queue := by
  simp [ntfRdrFull]
@[simp] theorem ntfRdrFull_met (port event : Nat) (card : Option (CardKind × Bytes)) (ctx decision first last : Nat) (cmd : Option CmdRef) (status : Nat) (s : State) : (ntfRdrFull port event card ctx decision first last cmd status s).met = s.met := by
  simp [ntfRdrFull]
@[simp] theorem ntfRdrFull_intervals (port event : Nat) (card : Option (CardKind × Bytes)) (ctx decision first last : Nat) (cmd : Option CmdRef) (status : Nat) (s : State) : (ntfRdrFull port event card ctx decision first last cmd status s).intervals = s.intervals := by
  simp [ntfRdrFull]
@[simp] theorem ntfRdrFull_cals (port event : Nat) (card : Option (CardKind × Bytes)) (ctx decision first last : Nat) (cmd : Option CmdRef) (status : Nat) (s : State) : (ntfRdrFull port event card ctx decision first last cmd status s).cals = s.cals := by
  simp [ntfRdrFull]
@[simp] theorem ntfRdrFull_legal (port event : Nat) (card : Option (CardKind × Bytes)) (ctx decision first last : Nat) (cmd : Option CmdRef) (status : Nat) (s : State) : (ntfRdrFull port event card ctx decision first last cmd status s).legal = s.legal := by
  simp [ntfRdrFull]
@[simp] theorem ntfRdrFull_creds (port event : Nat) (card : Option (CardKind × Bytes)) (ctx decision first last : Nat) (cmd : Option CmdRef) (status : Nat) (s : State) : (ntfRdrFull port event card ctx decision first last cmd status s).creds = s.creds := by
  simp [ntfRdrFull]
@[simp] theorem ntfRdrFull_budget (port event : Nat) (card : Option (CardKind × Bytes)) (ctx decision first last : Nat) (cmd : Option CmdRef) (status : Nat) (s : State) : (ntfRdrFull port event card ctx decision first last cmd status s).budget = s.budget := by
  simp [ntfRdrFull]
@[simp] theorem ntfRdrFull_safety (port event : Nat) (card : Option (CardKind × Bytes)) (ctx decision first last : Nat) (cmd : Option CmdRef) (status : Nat) (s : State) : (ntfRdrFull port event card ctx decision first last cmd status s).safety = s.safety := by
  simp [ntfRdrFull]
@[simp] theorem ntfRdrFull_cont (port event : Nat) (card : Option (CardKind × Bytes)) (ctx decision first last : Nat) (cmd : Option CmdRef) (status : Nat) (s : State) : (ntfRdrFull port event card ctx decision first last cmd status s).cont = s.cont := by
  simp [ntfRdrFull]
@[simp] theorem ntfRdrFull_keys (port event : Nat) (card : Option (CardKind × Bytes)) (ctx decision first last : Nat) (cmd : Option CmdRef) (status : Nat) (s : State) : (ntfRdrFull port event card ctx decision first last cmd status s).keys = s.keys := by
  simp [ntfRdrFull]
@[simp] theorem ntfRdrFull_images (port event : Nat) (card : Option (CardKind × Bytes)) (ctx decision first last : Nat) (cmd : Option CmdRef) (status : Nat) (s : State) : (ntfRdrFull port event card ctx decision first last cmd status s).images = s.images := by
  simp [ntfRdrFull]
@[simp] theorem ntfRdrFull_chans (port event : Nat) (card : Option (CardKind × Bytes)) (ctx decision first last : Nat) (cmd : Option CmdRef) (status : Nat) (s : State) : (ntfRdrFull port event card ctx decision first last cmd status s).chans = s.chans := by
  simp [ntfRdrFull]
@[simp] theorem ntfRdrFull_groups (port event : Nat) (card : Option (CardKind × Bytes)) (ctx decision first last : Nat) (cmd : Option CmdRef) (status : Nat) (s : State) : (ntfRdrFull port event card ctx decision first last cmd status s).groups = s.groups := by
  simp [ntfRdrFull]
@[simp] theorem ntfRdrFull_disp (port event : Nat) (card : Option (CardKind × Bytes)) (ctx decision first last : Nat) (cmd : Option CmdRef) (status : Nat) (s : State) : (ntfRdrFull port event card ctx decision first last cmd status s).disp = s.disp := by
  simp [ntfRdrFull]
@[simp] theorem ntfRdrFull_readers (port event : Nat) (card : Option (CardKind × Bytes)) (ctx decision first last : Nat) (cmd : Option CmdRef) (status : Nat) (s : State) : (ntfRdrFull port event card ctx decision first last cmd status s).readers = s.readers := by
  simp [ntfRdrFull]
@[simp] theorem ntfRdrFull_tag (port event : Nat) (card : Option (CardKind × Bytes)) (ctx decision first last : Nat) (cmd : Option CmdRef) (status : Nat) (s : State) : (ntfRdrFull port event card ctx decision first last cmd status s).tag = s.tag := by
  simp [ntfRdrFull]
@[simp] theorem ntfRdrFull_mains (port event : Nat) (card : Option (CardKind × Bytes)) (ctx decision first last : Nat) (cmd : Option CmdRef) (status : Nat) (s : State) : (ntfRdrFull port event card ctx decision first last cmd status s).mains = s.mains := by
  simp [ntfRdrFull]
@[simp] theorem ntfRdrFull_sitePeers (port event : Nat) (card : Option (CardKind × Bytes)) (ctx decision first last : Nat) (cmd : Option CmdRef) (status : Nat) (s : State) : (ntfRdrFull port event card ctx decision first last cmd status s).sitePeers = s.sitePeers := by
  simp [ntfRdrFull]
@[simp] theorem ntfRdrFull_canOut (port event : Nat) (card : Option (CardKind × Bytes)) (ctx decision first last : Nat) (cmd : Option CmdRef) (status : Nat) (s : State) : (ntfRdrFull port event card ctx decision first last cmd status s).canOut = s.canOut := by
  simp [ntfRdrFull]
@[simp] theorem ntfRdrFull_draws (port event : Nat) (card : Option (CardKind × Bytes)) (ctx decision first last : Nat) (cmd : Option CmdRef) (status : Nat) (s : State) : (ntfRdrFull port event card ctx decision first last cmd status s).draws = s.draws := by
  simp [ntfRdrFull]
@[simp] theorem ntfRdrFull_pending (port event : Nat) (card : Option (CardKind × Bytes)) (ctx decision first last : Nat) (cmd : Option CmdRef) (status : Nat) (s : State) : (ntfRdrFull port event card ctx decision first last cmd status s).pending = s.pending := by
  simp [ntfRdrFull]

/-! ### ntfRdr, field by field -/

@[simp] theorem ntfRdr_life (port event : Nat) (card : Option (CardKind × Bytes)) (s : State) : (ntfRdr port event card s).life = s.life := by
  simp [ntfRdr]
@[simp] theorem ntfRdr_clk (port event : Nat) (card : Option (CardKind × Bytes)) (s : State) : (ntfRdr port event card s).clk = s.clk := by
  simp [ntfRdr]
@[simp] theorem ntfRdr_time (port event : Nat) (card : Option (CardKind × Bytes)) (s : State) : (ntfRdr port event card s).time = s.time := by
  simp [ntfRdr]
@[simp] theorem ntfRdr_power (port event : Nat) (card : Option (CardKind × Bytes)) (s : State) : (ntfRdr port event card s).power = s.power := by
  simp [ntfRdr]
@[simp] theorem ntfRdr_uartRate (port event : Nat) (card : Option (CardKind × Bytes)) (s : State) : (ntfRdr port event card s).uartRate = s.uartRate := by
  simp [ntfRdr]
@[simp] theorem ntfRdr_params (port event : Nat) (card : Option (CardKind × Bytes)) (s : State) : (ntfRdr port event card s).params = s.params := by
  simp [ntfRdr]
@[simp] theorem ntfRdr_commits (port event : Nat) (card : Option (CardKind × Bytes)) (s : State) : (ntfRdr port event card s).commits = s.commits := by
  simp [ntfRdr]
@[simp] theorem ntfRdr_bays (port event : Nat) (card : Option (CardKind × Bytes)) (s : State) : (ntfRdr port event card s).bays = s.bays := by
  simp [ntfRdr]
@[simp] theorem ntfRdr_ctxs (port event : Nat) (card : Option (CardKind × Bytes)) (s : State) : (ntfRdr port event card s).ctxs = s.ctxs := by
  simp [ntfRdr]
@[simp] theorem ntfRdr_queue (port event : Nat) (card : Option (CardKind × Bytes)) (s : State) : (ntfRdr port event card s).queue = s.queue := by
  simp [ntfRdr]
@[simp] theorem ntfRdr_met (port event : Nat) (card : Option (CardKind × Bytes)) (s : State) : (ntfRdr port event card s).met = s.met := by
  simp [ntfRdr]
@[simp] theorem ntfRdr_intervals (port event : Nat) (card : Option (CardKind × Bytes)) (s : State) : (ntfRdr port event card s).intervals = s.intervals := by
  simp [ntfRdr]
@[simp] theorem ntfRdr_cals (port event : Nat) (card : Option (CardKind × Bytes)) (s : State) : (ntfRdr port event card s).cals = s.cals := by
  simp [ntfRdr]
@[simp] theorem ntfRdr_legal (port event : Nat) (card : Option (CardKind × Bytes)) (s : State) : (ntfRdr port event card s).legal = s.legal := by
  simp [ntfRdr]
@[simp] theorem ntfRdr_creds (port event : Nat) (card : Option (CardKind × Bytes)) (s : State) : (ntfRdr port event card s).creds = s.creds := by
  simp [ntfRdr]
@[simp] theorem ntfRdr_budget (port event : Nat) (card : Option (CardKind × Bytes)) (s : State) : (ntfRdr port event card s).budget = s.budget := by
  simp [ntfRdr]
@[simp] theorem ntfRdr_safety (port event : Nat) (card : Option (CardKind × Bytes)) (s : State) : (ntfRdr port event card s).safety = s.safety := by
  simp [ntfRdr]
@[simp] theorem ntfRdr_cont (port event : Nat) (card : Option (CardKind × Bytes)) (s : State) : (ntfRdr port event card s).cont = s.cont := by
  simp [ntfRdr]
@[simp] theorem ntfRdr_keys (port event : Nat) (card : Option (CardKind × Bytes)) (s : State) : (ntfRdr port event card s).keys = s.keys := by
  simp [ntfRdr]
@[simp] theorem ntfRdr_images (port event : Nat) (card : Option (CardKind × Bytes)) (s : State) : (ntfRdr port event card s).images = s.images := by
  simp [ntfRdr]
@[simp] theorem ntfRdr_chans (port event : Nat) (card : Option (CardKind × Bytes)) (s : State) : (ntfRdr port event card s).chans = s.chans := by
  simp [ntfRdr]
@[simp] theorem ntfRdr_groups (port event : Nat) (card : Option (CardKind × Bytes)) (s : State) : (ntfRdr port event card s).groups = s.groups := by
  simp [ntfRdr]
@[simp] theorem ntfRdr_disp (port event : Nat) (card : Option (CardKind × Bytes)) (s : State) : (ntfRdr port event card s).disp = s.disp := by
  simp [ntfRdr]
@[simp] theorem ntfRdr_readers (port event : Nat) (card : Option (CardKind × Bytes)) (s : State) : (ntfRdr port event card s).readers = s.readers := by
  simp [ntfRdr]
@[simp] theorem ntfRdr_tag (port event : Nat) (card : Option (CardKind × Bytes)) (s : State) : (ntfRdr port event card s).tag = s.tag := by
  simp [ntfRdr]
@[simp] theorem ntfRdr_mains (port event : Nat) (card : Option (CardKind × Bytes)) (s : State) : (ntfRdr port event card s).mains = s.mains := by
  simp [ntfRdr]
@[simp] theorem ntfRdr_sitePeers (port event : Nat) (card : Option (CardKind × Bytes)) (s : State) : (ntfRdr port event card s).sitePeers = s.sitePeers := by
  simp [ntfRdr]
@[simp] theorem ntfRdr_canOut (port event : Nat) (card : Option (CardKind × Bytes)) (s : State) : (ntfRdr port event card s).canOut = s.canOut := by
  simp [ntfRdr]
@[simp] theorem ntfRdr_draws (port event : Nat) (card : Option (CardKind × Bytes)) (s : State) : (ntfRdr port event card s).draws = s.draws := by
  simp [ntfRdr]
@[simp] theorem ntfRdr_pending (port event : Nat) (card : Option (CardKind × Bytes)) (s : State) : (ntfRdr port event card s).pending = s.pending := by
  simp [ntfRdr]

/-! ### ntfUpdate, field by field -/

@[simp] theorem ntfUpdate_life (kind : ImageKind) (event status release : Nat) (detail : Bytes) (cmd : Option CmdRef) (s : State) : (ntfUpdate kind event status release detail cmd s).life = s.life := by
  simp [ntfUpdate]
@[simp] theorem ntfUpdate_clk (kind : ImageKind) (event status release : Nat) (detail : Bytes) (cmd : Option CmdRef) (s : State) : (ntfUpdate kind event status release detail cmd s).clk = s.clk := by
  simp [ntfUpdate]
@[simp] theorem ntfUpdate_time (kind : ImageKind) (event status release : Nat) (detail : Bytes) (cmd : Option CmdRef) (s : State) : (ntfUpdate kind event status release detail cmd s).time = s.time := by
  simp [ntfUpdate]
@[simp] theorem ntfUpdate_power (kind : ImageKind) (event status release : Nat) (detail : Bytes) (cmd : Option CmdRef) (s : State) : (ntfUpdate kind event status release detail cmd s).power = s.power := by
  simp [ntfUpdate]
@[simp] theorem ntfUpdate_uartRate (kind : ImageKind) (event status release : Nat) (detail : Bytes) (cmd : Option CmdRef) (s : State) : (ntfUpdate kind event status release detail cmd s).uartRate = s.uartRate := by
  simp [ntfUpdate]
@[simp] theorem ntfUpdate_params (kind : ImageKind) (event status release : Nat) (detail : Bytes) (cmd : Option CmdRef) (s : State) : (ntfUpdate kind event status release detail cmd s).params = s.params := by
  simp [ntfUpdate]
@[simp] theorem ntfUpdate_commits (kind : ImageKind) (event status release : Nat) (detail : Bytes) (cmd : Option CmdRef) (s : State) : (ntfUpdate kind event status release detail cmd s).commits = s.commits := by
  simp [ntfUpdate]
@[simp] theorem ntfUpdate_bays (kind : ImageKind) (event status release : Nat) (detail : Bytes) (cmd : Option CmdRef) (s : State) : (ntfUpdate kind event status release detail cmd s).bays = s.bays := by
  simp [ntfUpdate]
@[simp] theorem ntfUpdate_ctxs (kind : ImageKind) (event status release : Nat) (detail : Bytes) (cmd : Option CmdRef) (s : State) : (ntfUpdate kind event status release detail cmd s).ctxs = s.ctxs := by
  simp [ntfUpdate]
@[simp] theorem ntfUpdate_queue (kind : ImageKind) (event status release : Nat) (detail : Bytes) (cmd : Option CmdRef) (s : State) : (ntfUpdate kind event status release detail cmd s).queue = s.queue := by
  simp [ntfUpdate]
@[simp] theorem ntfUpdate_met (kind : ImageKind) (event status release : Nat) (detail : Bytes) (cmd : Option CmdRef) (s : State) : (ntfUpdate kind event status release detail cmd s).met = s.met := by
  simp [ntfUpdate]
@[simp] theorem ntfUpdate_intervals (kind : ImageKind) (event status release : Nat) (detail : Bytes) (cmd : Option CmdRef) (s : State) : (ntfUpdate kind event status release detail cmd s).intervals = s.intervals := by
  simp [ntfUpdate]
@[simp] theorem ntfUpdate_cals (kind : ImageKind) (event status release : Nat) (detail : Bytes) (cmd : Option CmdRef) (s : State) : (ntfUpdate kind event status release detail cmd s).cals = s.cals := by
  simp [ntfUpdate]
@[simp] theorem ntfUpdate_legal (kind : ImageKind) (event status release : Nat) (detail : Bytes) (cmd : Option CmdRef) (s : State) : (ntfUpdate kind event status release detail cmd s).legal = s.legal := by
  simp [ntfUpdate]
@[simp] theorem ntfUpdate_creds (kind : ImageKind) (event status release : Nat) (detail : Bytes) (cmd : Option CmdRef) (s : State) : (ntfUpdate kind event status release detail cmd s).creds = s.creds := by
  simp [ntfUpdate]
@[simp] theorem ntfUpdate_budget (kind : ImageKind) (event status release : Nat) (detail : Bytes) (cmd : Option CmdRef) (s : State) : (ntfUpdate kind event status release detail cmd s).budget = s.budget := by
  simp [ntfUpdate]
@[simp] theorem ntfUpdate_safety (kind : ImageKind) (event status release : Nat) (detail : Bytes) (cmd : Option CmdRef) (s : State) : (ntfUpdate kind event status release detail cmd s).safety = s.safety := by
  simp [ntfUpdate]
@[simp] theorem ntfUpdate_cont (kind : ImageKind) (event status release : Nat) (detail : Bytes) (cmd : Option CmdRef) (s : State) : (ntfUpdate kind event status release detail cmd s).cont = s.cont := by
  simp [ntfUpdate]
@[simp] theorem ntfUpdate_keys (kind : ImageKind) (event status release : Nat) (detail : Bytes) (cmd : Option CmdRef) (s : State) : (ntfUpdate kind event status release detail cmd s).keys = s.keys := by
  simp [ntfUpdate]
@[simp] theorem ntfUpdate_images (kind : ImageKind) (event status release : Nat) (detail : Bytes) (cmd : Option CmdRef) (s : State) : (ntfUpdate kind event status release detail cmd s).images = s.images := by
  simp [ntfUpdate]
@[simp] theorem ntfUpdate_chans (kind : ImageKind) (event status release : Nat) (detail : Bytes) (cmd : Option CmdRef) (s : State) : (ntfUpdate kind event status release detail cmd s).chans = s.chans := by
  simp [ntfUpdate]
@[simp] theorem ntfUpdate_groups (kind : ImageKind) (event status release : Nat) (detail : Bytes) (cmd : Option CmdRef) (s : State) : (ntfUpdate kind event status release detail cmd s).groups = s.groups := by
  simp [ntfUpdate]
@[simp] theorem ntfUpdate_disp (kind : ImageKind) (event status release : Nat) (detail : Bytes) (cmd : Option CmdRef) (s : State) : (ntfUpdate kind event status release detail cmd s).disp = s.disp := by
  simp [ntfUpdate]
@[simp] theorem ntfUpdate_readers (kind : ImageKind) (event status release : Nat) (detail : Bytes) (cmd : Option CmdRef) (s : State) : (ntfUpdate kind event status release detail cmd s).readers = s.readers := by
  simp [ntfUpdate]
@[simp] theorem ntfUpdate_tag (kind : ImageKind) (event status release : Nat) (detail : Bytes) (cmd : Option CmdRef) (s : State) : (ntfUpdate kind event status release detail cmd s).tag = s.tag := by
  simp [ntfUpdate]
@[simp] theorem ntfUpdate_mains (kind : ImageKind) (event status release : Nat) (detail : Bytes) (cmd : Option CmdRef) (s : State) : (ntfUpdate kind event status release detail cmd s).mains = s.mains := by
  simp [ntfUpdate]
@[simp] theorem ntfUpdate_sitePeers (kind : ImageKind) (event status release : Nat) (detail : Bytes) (cmd : Option CmdRef) (s : State) : (ntfUpdate kind event status release detail cmd s).sitePeers = s.sitePeers := by
  simp [ntfUpdate]
@[simp] theorem ntfUpdate_canOut (kind : ImageKind) (event status release : Nat) (detail : Bytes) (cmd : Option CmdRef) (s : State) : (ntfUpdate kind event status release detail cmd s).canOut = s.canOut := by
  simp [ntfUpdate]
@[simp] theorem ntfUpdate_draws (kind : ImageKind) (event status release : Nat) (detail : Bytes) (cmd : Option CmdRef) (s : State) : (ntfUpdate kind event status release detail cmd s).draws = s.draws := by
  simp [ntfUpdate]
@[simp] theorem ntfUpdate_pending (kind : ImageKind) (event status release : Nat) (detail : Bytes) (cmd : Option CmdRef) (s : State) : (ntfUpdate kind event status release detail cmd s).pending = s.pending := by
  simp [ntfUpdate]

/-! ### Units behind a report -/

@[simp] theorem bay_notifyFull (op src sev : Nat) (payload : Bytes) (cmd : Option CmdRef) (status : Nat) (s : State) (k : Nat) : (notifyFull op src sev payload cmd status s).bay k = s.bay k := by
  simp [State.bay]
@[simp] theorem ctx_notifyFull (op src sev : Nat) (payload : Bytes) (cmd : Option CmdRef) (status : Nat) (s : State) (k : Nat) : (notifyFull op src sev payload cmd status s).ctx k = s.ctx k := by
  simp [State.ctx]
@[simp] theorem chan_notifyFull (op src sev : Nat) (payload : Bytes) (cmd : Option CmdRef) (status : Nat) (s : State) (k : Nat) : (notifyFull op src sev payload cmd status s).chan k = s.chan k := by
  simp [State.chan]
@[simp] theorem key_notifyFull (op src sev : Nat) (payload : Bytes) (cmd : Option CmdRef) (status : Nat) (s : State) (k : Nat) : (notifyFull op src sev payload cmd status s).key k = s.key k := by
  simp [State.key]
@[simp] theorem reader_notifyFull (op src sev : Nat) (payload : Bytes) (cmd : Option CmdRef) (status : Nat) (s : State) (k : Nat) : (notifyFull op src sev payload cmd status s).reader k = s.reader k := by
  simp [State.reader]
@[simp] theorem peer_notifyFull (op src sev : Nat) (payload : Bytes) (cmd : Option CmdRef) (status : Nat) (s : State) (k : Nat) : (notifyFull op src sev payload cmd status s).peer k = s.peer k := by
  simp [State.peer]
@[simp] theorem image_notifyFull (op src sev : Nat) (payload : Bytes) (cmd : Option CmdRef) (status : Nat) (s : State) (kd : ImageKind) : (notifyFull op src sev payload cmd status s).image kd = s.image kd := by
  simp [State.image]
@[simp] theorem bay_recordAs (type src sev : Nat) (payload : Bytes) (full : Bool) (s : State) (k : Nat) : (recordAs type src sev payload full s).bay k = s.bay k := by
  simp [State.bay]
@[simp] theorem ctx_recordAs (type src sev : Nat) (payload : Bytes) (full : Bool) (s : State) (k : Nat) : (recordAs type src sev payload full s).ctx k = s.ctx k := by
  simp [State.ctx]
@[simp] theorem chan_recordAs (type src sev : Nat) (payload : Bytes) (full : Bool) (s : State) (k : Nat) : (recordAs type src sev payload full s).chan k = s.chan k := by
  simp [State.chan]
@[simp] theorem key_recordAs (type src sev : Nat) (payload : Bytes) (full : Bool) (s : State) (k : Nat) : (recordAs type src sev payload full s).key k = s.key k := by
  simp [State.key]
@[simp] theorem reader_recordAs (type src sev : Nat) (payload : Bytes) (full : Bool) (s : State) (k : Nat) : (recordAs type src sev payload full s).reader k = s.reader k := by
  simp [State.reader]
@[simp] theorem peer_recordAs (type src sev : Nat) (payload : Bytes) (full : Bool) (s : State) (k : Nat) : (recordAs type src sev payload full s).peer k = s.peer k := by
  simp [State.peer]
@[simp] theorem image_recordAs (type src sev : Nat) (payload : Bytes) (full : Bool) (s : State) (kd : ImageKind) : (recordAs type src sev payload full s).image kd = s.image kd := by
  simp [State.image]
@[simp] theorem bay_record (type src sev : Nat) (payload : Bytes) (s : State) (k : Nat) : (record type src sev payload s).bay k = s.bay k := by
  simp [State.bay]
@[simp] theorem ctx_record (type src sev : Nat) (payload : Bytes) (s : State) (k : Nat) : (record type src sev payload s).ctx k = s.ctx k := by
  simp [State.ctx]
@[simp] theorem chan_record (type src sev : Nat) (payload : Bytes) (s : State) (k : Nat) : (record type src sev payload s).chan k = s.chan k := by
  simp [State.chan]
@[simp] theorem key_record (type src sev : Nat) (payload : Bytes) (s : State) (k : Nat) : (record type src sev payload s).key k = s.key k := by
  simp [State.key]
@[simp] theorem reader_record (type src sev : Nat) (payload : Bytes) (s : State) (k : Nat) : (record type src sev payload s).reader k = s.reader k := by
  simp [State.reader]
@[simp] theorem peer_record (type src sev : Nat) (payload : Bytes) (s : State) (k : Nat) : (record type src sev payload s).peer k = s.peer k := by
  simp [State.peer]
@[simp] theorem image_record (type src sev : Nat) (payload : Bytes) (s : State) (kd : ImageKind) : (record type src sev payload s).image kd = s.image kd := by
  simp [State.image]
@[simp] theorem bay_notify (op src : Nat) (payload : Bytes) (s : State) (k : Nat) : (notify op src payload s).bay k = s.bay k := by
  simp [State.bay]
@[simp] theorem ctx_notify (op src : Nat) (payload : Bytes) (s : State) (k : Nat) : (notify op src payload s).ctx k = s.ctx k := by
  simp [State.ctx]
@[simp] theorem chan_notify (op src : Nat) (payload : Bytes) (s : State) (k : Nat) : (notify op src payload s).chan k = s.chan k := by
  simp [State.chan]
@[simp] theorem key_notify (op src : Nat) (payload : Bytes) (s : State) (k : Nat) : (notify op src payload s).key k = s.key k := by
  simp [State.key]
@[simp] theorem reader_notify (op src : Nat) (payload : Bytes) (s : State) (k : Nat) : (notify op src payload s).reader k = s.reader k := by
  simp [State.reader]
@[simp] theorem peer_notify (op src : Nat) (payload : Bytes) (s : State) (k : Nat) : (notify op src payload s).peer k = s.peer k := by
  simp [State.peer]
@[simp] theorem image_notify (op src : Nat) (payload : Bytes) (s : State) (kd : ImageKind) : (notify op src payload s).image kd = s.image kd := by
  simp [State.image]
@[simp] theorem bay_ntfBayFull (bay event : Nat) (detail : Bytes) (cmd : Option CmdRef) (status : Nat) (s : State) (k : Nat) : (ntfBayFull bay event detail cmd status s).bay k = s.bay k := by
  simp [State.bay]
@[simp] theorem ctx_ntfBayFull (bay event : Nat) (detail : Bytes) (cmd : Option CmdRef) (status : Nat) (s : State) (k : Nat) : (ntfBayFull bay event detail cmd status s).ctx k = s.ctx k := by
  simp [State.ctx]
@[simp] theorem chan_ntfBayFull (bay event : Nat) (detail : Bytes) (cmd : Option CmdRef) (status : Nat) (s : State) (k : Nat) : (ntfBayFull bay event detail cmd status s).chan k = s.chan k := by
  simp [State.chan]
@[simp] theorem key_ntfBayFull (bay event : Nat) (detail : Bytes) (cmd : Option CmdRef) (status : Nat) (s : State) (k : Nat) : (ntfBayFull bay event detail cmd status s).key k = s.key k := by
  simp [State.key]
@[simp] theorem reader_ntfBayFull (bay event : Nat) (detail : Bytes) (cmd : Option CmdRef) (status : Nat) (s : State) (k : Nat) : (ntfBayFull bay event detail cmd status s).reader k = s.reader k := by
  simp [State.reader]
@[simp] theorem peer_ntfBayFull (bay event : Nat) (detail : Bytes) (cmd : Option CmdRef) (status : Nat) (s : State) (k : Nat) : (ntfBayFull bay event detail cmd status s).peer k = s.peer k := by
  simp [State.peer]
@[simp] theorem image_ntfBayFull (bay event : Nat) (detail : Bytes) (cmd : Option CmdRef) (status : Nat) (s : State) (kd : ImageKind) : (ntfBayFull bay event detail cmd status s).image kd = s.image kd := by
  simp [State.image]
@[simp] theorem bay_ntfBay (bay event : Nat) (detail : Bytes) (s : State) (k : Nat) : (ntfBay bay event detail s).bay k = s.bay k := by
  simp [State.bay]
@[simp] theorem ctx_ntfBay (bay event : Nat) (detail : Bytes) (s : State) (k : Nat) : (ntfBay bay event detail s).ctx k = s.ctx k := by
  simp [State.ctx]
@[simp] theorem chan_ntfBay (bay event : Nat) (detail : Bytes) (s : State) (k : Nat) : (ntfBay bay event detail s).chan k = s.chan k := by
  simp [State.chan]
@[simp] theorem key_ntfBay (bay event : Nat) (detail : Bytes) (s : State) (k : Nat) : (ntfBay bay event detail s).key k = s.key k := by
  simp [State.key]
@[simp] theorem reader_ntfBay (bay event : Nat) (detail : Bytes) (s : State) (k : Nat) : (ntfBay bay event detail s).reader k = s.reader k := by
  simp [State.reader]
@[simp] theorem peer_ntfBay (bay event : Nat) (detail : Bytes) (s : State) (k : Nat) : (ntfBay bay event detail s).peer k = s.peer k := by
  simp [State.peer]
@[simp] theorem image_ntfBay (bay event : Nat) (detail : Bytes) (s : State) (kd : ImageKind) : (ntfBay bay event detail s).image kd = s.image kd := by
  simp [State.image]
@[simp] theorem bay_ntfCtxFull (ctx : Nat) (old new : CtxState) (cause : Nat) (detail : Bytes) (cmd : Option CmdRef) (status : Nat) (s : State) (k : Nat) : (ntfCtxFull ctx old new cause detail cmd status s).bay k = s.bay k := by
  simp [State.bay]
@[simp] theorem ctx_ntfCtxFull (ctx : Nat) (old new : CtxState) (cause : Nat) (detail : Bytes) (cmd : Option CmdRef) (status : Nat) (s : State) (k : Nat) : (ntfCtxFull ctx old new cause detail cmd status s).ctx k = s.ctx k := by
  simp [State.ctx]
@[simp] theorem chan_ntfCtxFull (ctx : Nat) (old new : CtxState) (cause : Nat) (detail : Bytes) (cmd : Option CmdRef) (status : Nat) (s : State) (k : Nat) : (ntfCtxFull ctx old new cause detail cmd status s).chan k = s.chan k := by
  simp [State.chan]
@[simp] theorem key_ntfCtxFull (ctx : Nat) (old new : CtxState) (cause : Nat) (detail : Bytes) (cmd : Option CmdRef) (status : Nat) (s : State) (k : Nat) : (ntfCtxFull ctx old new cause detail cmd status s).key k = s.key k := by
  simp [State.key]
@[simp] theorem reader_ntfCtxFull (ctx : Nat) (old new : CtxState) (cause : Nat) (detail : Bytes) (cmd : Option CmdRef) (status : Nat) (s : State) (k : Nat) : (ntfCtxFull ctx old new cause detail cmd status s).reader k = s.reader k := by
  simp [State.reader]
@[simp] theorem peer_ntfCtxFull (ctx : Nat) (old new : CtxState) (cause : Nat) (detail : Bytes) (cmd : Option CmdRef) (status : Nat) (s : State) (k : Nat) : (ntfCtxFull ctx old new cause detail cmd status s).peer k = s.peer k := by
  simp [State.peer]
@[simp] theorem image_ntfCtxFull (ctx : Nat) (old new : CtxState) (cause : Nat) (detail : Bytes) (cmd : Option CmdRef) (status : Nat) (s : State) (kd : ImageKind) : (ntfCtxFull ctx old new cause detail cmd status s).image kd = s.image kd := by
  simp [State.image]
@[simp] theorem bay_ntfSafety (event index code : Nat) (s : State) (k : Nat) : (ntfSafety event index code s).bay k = s.bay k := by
  simp [State.bay]
@[simp] theorem ctx_ntfSafety (event index code : Nat) (s : State) (k : Nat) : (ntfSafety event index code s).ctx k = s.ctx k := by
  simp [State.ctx]
@[simp] theorem chan_ntfSafety (event index code : Nat) (s : State) (k : Nat) : (ntfSafety event index code s).chan k = s.chan k := by
  simp [State.chan]
@[simp] theorem key_ntfSafety (event index code : Nat) (s : State) (k : Nat) : (ntfSafety event index code s).key k = s.key k := by
  simp [State.key]
@[simp] theorem reader_ntfSafety (event index code : Nat) (s : State) (k : Nat) : (ntfSafety event index code s).reader k = s.reader k := by
  simp [State.reader]
@[simp] theorem peer_ntfSafety (event index code : Nat) (s : State) (k : Nat) : (ntfSafety event index code s).peer k = s.peer k := by
  simp [State.peer]
@[simp] theorem image_ntfSafety (event index code : Nat) (s : State) (kd : ImageKind) : (ntfSafety event index code s).image kd = s.image kd := by
  simp [State.image]
@[simp] theorem bay_ntfLswFull (ch event : Nat) (cmd : Option CmdRef) (status : Nat) (s : State) (k : Nat) : (ntfLswFull ch event cmd status s).bay k = s.bay k := by
  simp [State.bay]
@[simp] theorem ctx_ntfLswFull (ch event : Nat) (cmd : Option CmdRef) (status : Nat) (s : State) (k : Nat) : (ntfLswFull ch event cmd status s).ctx k = s.ctx k := by
  simp [State.ctx]
@[simp] theorem chan_ntfLswFull (ch event : Nat) (cmd : Option CmdRef) (status : Nat) (s : State) (k : Nat) : (ntfLswFull ch event cmd status s).chan k = s.chan k := by
  simp [State.chan]
@[simp] theorem key_ntfLswFull (ch event : Nat) (cmd : Option CmdRef) (status : Nat) (s : State) (k : Nat) : (ntfLswFull ch event cmd status s).key k = s.key k := by
  simp [State.key]
@[simp] theorem reader_ntfLswFull (ch event : Nat) (cmd : Option CmdRef) (status : Nat) (s : State) (k : Nat) : (ntfLswFull ch event cmd status s).reader k = s.reader k := by
  simp [State.reader]
@[simp] theorem peer_ntfLswFull (ch event : Nat) (cmd : Option CmdRef) (status : Nat) (s : State) (k : Nat) : (ntfLswFull ch event cmd status s).peer k = s.peer k := by
  simp [State.peer]
@[simp] theorem image_ntfLswFull (ch event : Nat) (cmd : Option CmdRef) (status : Nat) (s : State) (kd : ImageKind) : (ntfLswFull ch event cmd status s).image kd = s.image kd := by
  simp [State.image]
@[simp] theorem bay_ntfLsw (ch event : Nat) (s : State) (k : Nat) : (ntfLsw ch event s).bay k = s.bay k := by
  simp [State.bay]
@[simp] theorem ctx_ntfLsw (ch event : Nat) (s : State) (k : Nat) : (ntfLsw ch event s).ctx k = s.ctx k := by
  simp [State.ctx]
@[simp] theorem chan_ntfLsw (ch event : Nat) (s : State) (k : Nat) : (ntfLsw ch event s).chan k = s.chan k := by
  simp [State.chan]
@[simp] theorem key_ntfLsw (ch event : Nat) (s : State) (k : Nat) : (ntfLsw ch event s).key k = s.key k := by
  simp [State.key]
@[simp] theorem reader_ntfLsw (ch event : Nat) (s : State) (k : Nat) : (ntfLsw ch event s).reader k = s.reader k := by
  simp [State.reader]
@[simp] theorem peer_ntfLsw (ch event : Nat) (s : State) (k : Nat) : (ntfLsw ch event s).peer k = s.peer k := by
  simp [State.peer]
@[simp] theorem image_ntfLsw (ch event : Nat) (s : State) (kd : ImageKind) : (ntfLsw ch event s).image kd = s.image kd := by
  simp [State.image]
@[simp] theorem bay_ntfTakeover (kind event unit cause durationUs replayed src : Nat) (s : State) (k : Nat) : (ntfTakeover kind event unit cause durationUs replayed src s).bay k = s.bay k := by
  simp [State.bay]
@[simp] theorem ctx_ntfTakeover (kind event unit cause durationUs replayed src : Nat) (s : State) (k : Nat) : (ntfTakeover kind event unit cause durationUs replayed src s).ctx k = s.ctx k := by
  simp [State.ctx]
@[simp] theorem chan_ntfTakeover (kind event unit cause durationUs replayed src : Nat) (s : State) (k : Nat) : (ntfTakeover kind event unit cause durationUs replayed src s).chan k = s.chan k := by
  simp [State.chan]
@[simp] theorem key_ntfTakeover (kind event unit cause durationUs replayed src : Nat) (s : State) (k : Nat) : (ntfTakeover kind event unit cause durationUs replayed src s).key k = s.key k := by
  simp [State.key]
@[simp] theorem reader_ntfTakeover (kind event unit cause durationUs replayed src : Nat) (s : State) (k : Nat) : (ntfTakeover kind event unit cause durationUs replayed src s).reader k = s.reader k := by
  simp [State.reader]
@[simp] theorem peer_ntfTakeover (kind event unit cause durationUs replayed src : Nat) (s : State) (k : Nat) : (ntfTakeover kind event unit cause durationUs replayed src s).peer k = s.peer k := by
  simp [State.peer]
@[simp] theorem image_ntfTakeover (kind event unit cause durationUs replayed src : Nat) (s : State) (kd : ImageKind) : (ntfTakeover kind event unit cause durationUs replayed src s).image kd = s.image kd := by
  simp [State.image]
@[simp] theorem bay_ntfPower (event : Nat) (detail : Bytes) (s : State) (k : Nat) : (ntfPower event detail s).bay k = s.bay k := by
  simp [State.bay]
@[simp] theorem ctx_ntfPower (event : Nat) (detail : Bytes) (s : State) (k : Nat) : (ntfPower event detail s).ctx k = s.ctx k := by
  simp [State.ctx]
@[simp] theorem chan_ntfPower (event : Nat) (detail : Bytes) (s : State) (k : Nat) : (ntfPower event detail s).chan k = s.chan k := by
  simp [State.chan]
@[simp] theorem key_ntfPower (event : Nat) (detail : Bytes) (s : State) (k : Nat) : (ntfPower event detail s).key k = s.key k := by
  simp [State.key]
@[simp] theorem reader_ntfPower (event : Nat) (detail : Bytes) (s : State) (k : Nat) : (ntfPower event detail s).reader k = s.reader k := by
  simp [State.reader]
@[simp] theorem peer_ntfPower (event : Nat) (detail : Bytes) (s : State) (k : Nat) : (ntfPower event detail s).peer k = s.peer k := by
  simp [State.peer]
@[simp] theorem image_ntfPower (event : Nat) (detail : Bytes) (s : State) (kd : ImageKind) : (ntfPower event detail s).image kd = s.image kd := by
  simp [State.image]

end Sys2Proof.Machine
end

