-- ==== Sys2Proof/Laws/Boundary.lean ====
section
/-! SUPPORT. What the close of a cycle leaves of the clock and of module time: one lemma per helper that CYCLE_BOUNDARY calls. -/

namespace Sys2Proof.Machine

open Sys2Proof

@[simp ↓] theorem clk_ite (c : Prop) [Decidable c] (a b : State) : (if c then a else b).clk = if c then a.clk else b.clk := by
  split <;> rfl
@[simp ↓] theorem clk_foldl {α : Type} (f : State → α → State) (h : ∀ s a, (f s a).clk = s.clk) (l : List α) (s : State) :
    (l.foldl f s).clk = s.clk := by
  induction l generalizing s with
  | nil => rfl
  | cons a l ih => rw [List.foldl_cons, ih, h]
@[simp ↓] theorem time_ite (c : Prop) [Decidable c] (a b : State) : (if c then a else b).time = if c then a.time else b.time := by
  split <;> rfl
@[simp ↓] theorem time_foldl {α : Type} (f : State → α → State) (h : ∀ s a, (f s a).time = s.time) (l : List α) (s : State) :
    (l.foldl f s).time = s.time := by
  induction l generalizing s with
  | nil => rfl
  | cons a l ih => rw [List.foldl_cons, ih, h]

@[simp ↓] theorem State_modBay_clock (s : State) (a1 : Nat) (a2 : Bay → Bay) : (State.modBay s a1 a2).clk = s.clk ∧ (State.modBay s a1 a2).time = s.time := by
  unfold State.modBay
  try dsimp only
  simp
@[simp ↓] theorem State_modCtx_clock (s : State) (a1 : Nat) (a2 : Ctx → Ctx) : (State.modCtx s a1 a2).clk = s.clk ∧ (State.modCtx s a1 a2).time = s.time := by
  unfold State.modCtx
  try dsimp only
  simp
@[simp ↓] theorem State_modChan_clock (s : State) (a1 : Nat) (a2 : Chan → Chan) : (State.modChan s a1 a2).clk = s.clk ∧ (State.modChan s a1 a2).time = s.time := by
  unfold State.modChan
  try dsimp only
  simp
@[simp ↓] theorem State_modPeer_clock (s : State) (a1 : Nat) (a2 : Peer → Peer) : (State.modPeer s a1 a2).clk = s.clk ∧ (State.modPeer s a1 a2).time = s.time := by
  unfold State.modPeer
  try dsimp only
  simp
@[simp ↓] theorem State_modPort_clock (s : State) (a1 : HostPort) (a2 : PortState → PortState) : (State.modPort s a1 a2).clk = s.clk ∧ (State.modPort s a1 a2).time = s.time := by
  unfold State.modPort
  try dsimp only
  (repeat' split) <;> simp
@[simp ↓] theorem modCounters_clock (a0 : Nat) (a1 : Nat) (a2 : Counter → Counter) (s : State) : (modCounters a0 a1 a2 s).clk = s.clk ∧ (modCounters a0 a1 a2 s).time = s.time := by
  unfold modCounters
  try dsimp only
  simp
@[simp ↓] theorem count_clock (a0 : Nat) (a1 : Nat) (a2 : Nat) (s : State) : (count a0 a1 a2 s).clk = s.clk ∧ (count a0 a1 a2 s).time = s.time := by
  unfold count
  try dsimp only
  simp
@[simp ↓] theorem level_clock (a0 : Nat) (a1 : Nat) (a2 : Nat) (s : State) : (level a0 a1 a2 s).clk = s.clk ∧ (level a0 a1 a2 s).time = s.time := by
  unfold level
  try dsimp only
  simp
@[simp ↓] theorem levelAtBoundary_clock (a0 : Nat) (a1 : Nat) (a2 : Nat) (s : State) : (levelAtBoundary a0 a1 a2 s).clk = s.clk ∧ (levelAtBoundary a0 a1 a2 s).time = s.time := by
  unfold levelAtBoundary
  try dsimp only
  simp
@[simp ↓] theorem closeCycleCounters_clock (s : State) : (closeCycleCounters s).clk = s.clk ∧ (closeCycleCounters s).time = s.time := by
  unfold closeCycleCounters
  try dsimp only
  simp
@[simp ↓] theorem bufferRecord_clock (a0 : Nat) (a1 : Nat) (a2 : Nat) (a3 : Bytes) (a4 : Bool) (s : State) : (bufferRecord a0 a1 a2 a3 a4 s).clk = s.clk ∧ (bufferRecord a0 a1 a2 a3 a4 s).time = s.time := by
  unfold bufferRecord
  try dsimp only
  simp
@[simp ↓] theorem recordAs_clock (a0 : Nat) (a1 : Nat) (a2 : Nat) (a3 : Bytes) (a4 : Bool) (s : State) : (recordAs a0 a1 a2 a3 a4 s).clk = s.clk ∧ (recordAs a0 a1 a2 a3 a4 s).time = s.time := by
  unfold recordAs
  try dsimp only
  (repeat' split) <;> simp
@[simp ↓] theorem record_clock (a0 : Nat) (a1 : Nat) (a2 : Nat) (a3 : Bytes) (s : State) : (record a0 a1 a2 a3 s).clk = s.clk ∧ (record a0 a1 a2 a3 s).time = s.time := by
  unfold record
  try dsimp only
  simp
@[simp ↓] theorem ntfToPort_clock (a0 : Nat) (a1 : Bytes) (a2 : Option CmdRef) (a3 : Nat) (a4 : HostPort) (s : State) : (ntfToPort a0 a1 a2 a3 a4 s).clk = s.clk ∧ (ntfToPort a0 a1 a2 a3 a4 s).time = s.time := by
  unfold ntfToPort
  try dsimp only
  simp
@[simp ↓] theorem freeTag_clock (a0 : Option CmdRef) (s : State) : (freeTag a0 s).clk = s.clk ∧ (freeTag a0 s).time = s.time := by
  unfold freeTag
  try dsimp only
  (repeat' split) <;> simp
@[simp ↓] theorem notifyFull_clock (a0 : Nat) (a1 : Nat) (a2 : Nat) (a3 : Bytes) (a4 : Option CmdRef) (a5 : Nat) (s : State) : (notifyFull a0 a1 a2 a3 a4 a5 s).clk = s.clk ∧ (notifyFull a0 a1 a2 a3 a4 a5 s).time = s.time := by
  unfold notifyFull
  try dsimp only
  (repeat' split) <;> simp
@[simp ↓] theorem ntfBayFull_clock (a0 : Nat) (a1 : Nat) (a2 : Bytes) (a3 : Option CmdRef) (a4 : Nat) (s : State) : (ntfBayFull a0 a1 a2 a3 a4 s).clk = s.clk ∧ (ntfBayFull a0 a1 a2 a3 a4 s).time = s.time := by
  unfold ntfBayFull
  try dsimp only
  simp
@[simp ↓] theorem ntfBay_clock (a0 : Nat) (a1 : Nat) (a2 : Bytes) (s : State) : (ntfBay a0 a1 a2 s).clk = s.clk ∧ (ntfBay a0 a1 a2 s).time = s.time := by
  unfold ntfBay
  try dsimp only
  simp
@[simp ↓] theorem ntfCtxFull_clock (a0 : Nat) (a1 : CtxState) (a2 : CtxState) (a3 : Nat) (a4 : Bytes) (a5 : Option CmdRef) (a6 : Nat) (s : State) : (ntfCtxFull a0 a1 a2 a3 a4 a5 a6 s).clk = s.clk ∧ (ntfCtxFull a0 a1 a2 a3 a4 a5 a6 s).time = s.time := by
  unfold ntfCtxFull
  try dsimp only
  simp
@[simp ↓] theorem ntfLswFull_clock (a0 : Nat) (a1 : Nat) (a2 : Option CmdRef) (a3 : Nat) (s : State) : (ntfLswFull a0 a1 a2 a3 s).clk = s.clk ∧ (ntfLswFull a0 a1 a2 a3 s).time = s.time := by
  unfold ntfLswFull
  try dsimp only
  simp
@[simp ↓] theorem ntfLsw_clock (a0 : Nat) (a1 : Nat) (s : State) : (ntfLsw a0 a1 s).clk = s.clk ∧ (ntfLsw a0 a1 s).time = s.time := by
  unfold ntfLsw
  try dsimp only
  simp
@[simp ↓] theorem switchOn_clock (a0 : Nat) (s : State) : (switchOn a0 s).clk = s.clk ∧ (switchOn a0 s).time = s.time := by
  unfold switchOn
  try dsimp only
  simp
@[simp ↓] theorem switchOff_clock (a0 : Nat) (s : State) : (switchOff a0 s).clk = s.clk ∧ (switchOff a0 s).time = s.time := by
  unfold switchOff
  try dsimp only
  simp
@[simp ↓] theorem commandOn_clock (a0 : Nat) (s : State) : (commandOn a0 s).clk = s.clk ∧ (commandOn a0 s).time = s.time := by
  unfold commandOn
  try dsimp only
  simp
@[simp ↓] theorem commandOff_clock (a0 : Nat) (s : State) : (commandOff a0 s).clk = s.clk ∧ (commandOff a0 s).time = s.time := by
  unfold commandOff
  try dsimp only
  simp
@[simp ↓] theorem dropEntries_clock (a0 : QEntry → Bool) (s : State) : (dropEntries a0 s).clk = s.clk ∧ (dropEntries a0 s).time = s.time := by
  unfold dropEntries
  try dsimp only
  simp
@[simp ↓] theorem enqueue_clock (a0 : QEntry) (s : State) : (enqueue a0 s).clk = s.clk ∧ (enqueue a0 s).time = s.time := by
  unfold enqueue
  try dsimp only
  simp
@[simp ↓] theorem grantPermission_clock (a0 : Nat) (s : State) : (grantPermission a0 s).clk = s.clk ∧ (grantPermission a0 s).time = s.time := by
  unfold grantPermission
  try dsimp only
  simp
@[simp ↓] theorem withdrawEnables_clock (a0 : Nat) (s : State) : (withdrawEnables a0 s).clk = s.clk ∧ (withdrawEnables a0 s).time = s.time := by
  unfold withdrawEnables
  try dsimp only
  simp
@[simp ↓] theorem State_modHd_clock (s : State) (a1 : Nat) (a2 : CtxHeader → CtxHeader) : (State.modHd s a1 a2).clk = s.clk ∧ (State.modHd s a1 a2).time = s.time := by
  unfold State.modHd
  try dsimp only
  simp
@[simp ↓] theorem State_modWk_clock (s : State) (a1 : Nat) (a2 : CtxWork → CtxWork) : (State.modWk s a1 a2).clk = s.clk ∧ (State.modWk s a1 a2).time = s.time := by
  unfold State.modWk
  try dsimp only
  simp
@[simp ↓] theorem markDirty_clock (s : State) : (markDirty s).clk = s.clk ∧ (markDirty s).time = s.time := by
  unfold markDirty
  try dsimp only
  simp
@[simp ↓] theorem completeStart_clock (a0 : Nat) (a1 : Nat) (a2 : CtxState) (s : State) : (completeStart a0 a1 a2 s).clk = s.clk ∧ (completeStart a0 a1 a2 s).time = s.time := by
  unfold completeStart
  try dsimp only
  simp
@[simp ↓] theorem wakeQuiet_clock (s : State) : (wakeQuiet s).clk = s.clk ∧ (wakeQuiet s).time = s.time := by
  unfold wakeQuiet
  try dsimp only
  simp
@[simp ↓] theorem toCtxState_clock (a0 : Nat) (a1 : CtxState) (a2 : Nat) (a3 : Bytes) (a4 : Option CmdRef) (a5 : Nat) (s : State) : (toCtxState a0 a1 a2 a3 a4 a5 s).clk = s.clk ∧ (toCtxState a0 a1 a2 a3 a4 a5 s).time = s.time := by
  unfold toCtxState
  try dsimp only
  simp
@[simp ↓] theorem moveCtx_clock (a0 : Nat) (a1 : CtxState) (a2 : Nat) (a3 : Bytes) (a4 : Nat) (s : State) : (moveCtx a0 a1 a2 a3 a4 s).clk = s.clk ∧ (moveCtx a0 a1 a2 a3 a4 s).time = s.time := by
  unfold moveCtx
  try dsimp only
  simp
@[simp ↓] theorem bindTo_clock (a0 : Nat) (a1 : Nat) (s : State) : (bindTo a0 a1 s).clk = s.clk ∧ (bindTo a0 a1 s).time = s.time := by
  unfold bindTo
  try dsimp only
  simp
@[simp ↓] theorem openCtx_clock (a0 : Nat) (a1 : Bool) (a2 : Option Nat) (a3 : Nat) (a4 : Nat) (s : State) : (openCtx a0 a1 a2 a3 a4 s).clk = s.clk ∧ (openCtx a0 a1 a2 a3 a4 s).time = s.time := by
  unfold openCtx
  try dsimp only
  simp
@[simp ↓] theorem openForBay_clock (a0 : Nat) (s : State) : (openForBay a0 s).clk = s.clk ∧ (openForBay a0 s).time = s.time := by
  unfold openForBay
  try dsimp only
  (repeat' split) <;> simp
@[simp ↓] theorem serveWaiting_clock (s : State) : (serveWaiting s).clk = s.clk ∧ (serveWaiting s).time = s.time := by
  unfold serveWaiting
  try dsimp only
  (repeat' split) <;> simp
@[simp ↓] theorem unbind_clock (a0 : Nat) (s : State) : (unbind a0 s).clk = s.clk ∧ (unbind a0 s).time = s.time := by
  unfold unbind
  try dsimp only
  (repeat' split) <;> simp
@[simp ↓] theorem freeContext_clock (a0 : Nat) (a1 : Nat) (a2 : Bytes) (s : State) : (freeContext a0 a1 a2 s).clk = s.clk ∧ (freeContext a0 a1 a2 s).time = s.time := by
  unfold freeContext
  try dsimp only
  simp
@[simp ↓] theorem setBayFull_clock (a0 : Nat) (a1 : BayState) (a2 : Nat) (a3 : Option CmdRef) (a4 : Nat) (s : State) : (setBayFull a0 a1 a2 a3 a4 s).clk = s.clk ∧ (setBayFull a0 a1 a2 a3 a4 s).time = s.time := by
  unfold setBayFull
  try dsimp only
  simp
@[simp ↓] theorem setBay_clock (a0 : Nat) (a1 : BayState) (a2 : Nat) (s : State) : (setBay a0 a1 a2 s).clk = s.clk ∧ (setBay a0 a1 a2 s).time = s.time := by
  unfold setBay
  try dsimp only
  simp
@[simp ↓] theorem driveLock_clock (a0 : Nat) (a1 : Bool) (a2 : Nat) (s : State) : (driveLock a0 a1 a2 s).clk = s.clk ∧ (driveLock a0 a1 a2 s).time = s.time := by
  unfold driveLock
  try dsimp only
  simp
@[simp ↓] theorem startLock_clock (a0 : Nat) (s : State) : (startLock a0 s).clk = s.clk ∧ (startLock a0 s).time = s.time := by
  unfold startLock
  try dsimp only
  simp
@[simp ↓] theorem releaseLock_clock (a0 : Nat) (s : State) : (releaseLock a0 s).clk = s.clk ∧ (releaseLock a0 s).time = s.time := by
  unfold releaseLock
  try dsimp only
  simp
@[simp ↓] theorem tryUnlock_clock (a0 : Nat) (s : State) : (tryUnlock a0 s).clk = s.clk ∧ (tryUnlock a0 s).time = s.time := by
  unfold tryUnlock
  try dsimp only
  simp
@[simp ↓] theorem queueClose_clock (a0 : Nat) (a1 : Nat) (a2 : QEntry) (a3 : Nat) (a4 : Nat) (s : State) : (queueClose a0 a1 a2 a3 a4 s).clk = s.clk ∧ (queueClose a0 a1 a2 a3 a4 s).time = s.time := by
  unfold queueClose
  try dsimp only
  simp
@[simp ↓] theorem runSelfTest_clock (a0 : Nat) (a1 : Nat) (s : State) : (runSelfTest a0 a1 s).clk = s.clk ∧ (runSelfTest a0 a1 s).time = s.time := by
  unfold runSelfTest
  try dsimp only
  simp
@[simp ↓] theorem startSelfTest_clock (a0 : Nat) (a1 : Option CmdRef) (s : State) : (startSelfTest a0 a1 s).clk = s.clk ∧ (startSelfTest a0 a1 s).time = s.time := by
  unfold startSelfTest
  try dsimp only
  simp
@[simp ↓] theorem autoClose_clock (a0 : Nat) (s : State) : (autoClose a0 s).clk = s.clk ∧ (autoClose a0 s).time = s.time := by
  unfold autoClose
  try dsimp only
  (repeat' split) <;> simp
@[simp ↓] theorem noteReasons_clock (a0 : Nat) (a1 : List Nat) (s : State) : (noteReasons a0 a1 s).clk = s.clk ∧ (noteReasons a0 a1 s).time = s.time := by
  unfold noteReasons
  try dsimp only
  simp
@[simp ↓] theorem dropBound_clock (a0 : Nat) (s : State) : (dropBound a0 s).clk = s.clk ∧ (dropBound a0 s).time = s.time := by
  unfold dropBound
  try dsimp only
  (repeat' split) <;> simp
@[simp ↓] theorem leaveReady_clock (a0 : Nat) (a1 : Nat) (s : State) : (leaveReady a0 a1 s).clk = s.clk ∧ (leaveReady a0 a1 s).time = s.time := by
  unfold leaveReady
  try dsimp only
  simp
@[simp ↓] theorem ctxReady_clock (a0 : Nat) (s : State) : (ctxReady a0 s).clk = s.clk ∧ (ctxReady a0 s).time = s.time := by
  unfold ctxReady
  try dsimp only
  (repeat' split) <;> simp
@[simp ↓] theorem evaluateBay_clock (a0 : Nat) (s : State) : (evaluateBay a0 s).clk = s.clk ∧ (evaluateBay a0 s).time = s.time := by
  unfold evaluateBay
  try dsimp only
  (repeat' split) <;> simp
@[simp ↓] theorem dropBayEntries_clock (a0 : Nat) (s : State) : (dropBayEntries a0 s).clk = s.clk ∧ (dropBayEntries a0 s).time = s.time := by
  unfold dropBayEntries
  try dsimp only
  simp
@[simp ↓] theorem beginWeldCheck_clock (a0 : Nat) (a1 : Nat) (s : State) : (beginWeldCheck a0 a1 s).clk = s.clk ∧ (beginWeldCheck a0 a1 s).time = s.time := by
  unfold beginWeldCheck
  try dsimp only
  simp
@[simp ↓] theorem coilOff_clock (a0 : Nat) (a1 : Nat) (s : State) : (coilOff a0 a1 s).clk = s.clk ∧ (coilOff a0 a1 s).time = s.time := by
  unfold coilOff
  try dsimp only
  simp
@[simp ↓] theorem sendCan_clock (a0 : Nat) (a1 : Nat) (a2 : Bytes) (s : State) : (sendCan a0 a1 a2 s).clk = s.clk ∧ (sendCan a0 a1 a2 s).time = s.time := by
  unfold sendCan
  try dsimp only
  simp
@[simp ↓] theorem sendSetpoint_clock (a0 : Nat) (s : State) : (sendSetpoint a0 s).clk = s.clk ∧ (sendSetpoint a0 s).time = s.time := by
  unfold sendSetpoint
  try dsimp only
  simp
@[simp ↓] theorem setpointZero_clock (a0 : Nat) (a1 : Bool) (s : State) : (setpointZero a0 a1 s).clk = s.clk ∧ (setpointZero a0 a1 s).time = s.time := by
  unfold setpointZero
  try dsimp only
  simp
@[simp ↓] theorem normalOpen_clock (a0 : Nat) (a1 : Nat) (s : State) : (normalOpen a0 a1 s).clk = s.clk ∧ (normalOpen a0 a1 s).time = s.time := by
  unfold normalOpen
  try dsimp only
  simp
@[simp ↓] theorem toFinishing_clock (a0 : Nat) (a1 : Nat) (a2 : Nat) (a3 : Nat) (a4 : Nat) (s : State) : (toFinishing a0 a1 a2 a3 a4 s).clk = s.clk ∧ (toFinishing a0 a1 a2 a3 a4 s).time = s.time := by
  unfold toFinishing
  try dsimp only
  simp
@[simp ↓] theorem endSession_clock (a0 : Nat) (a1 : Nat) (a2 : Nat) (s : State) : (endSession a0 a1 a2 s).clk = s.clk ∧ (endSession a0 a1 a2 s).time = s.time := by
  unfold endSession
  try dsimp only
  (repeat' split) <;> simp
@[simp ↓] theorem writeCheckpoint_clock (s : State) : (writeCheckpoint s).clk = s.clk ∧ (writeCheckpoint s).time = s.time := by
  unfold writeCheckpoint
  try dsimp only
  simp
@[simp ↓] theorem recordKeyRefusal_clock (a0 : Nat) (a1 : Nat) (a2 : Requester) (s : State) : (recordKeyRefusal a0 a1 a2 s).clk = s.clk ∧ (recordKeyRefusal a0 a1 a2 s).time = s.time := by
  unfold recordKeyRefusal
  try dsimp only
  simp
@[simp ↓] theorem askKey_clock (a0 : Nat) (a1 : List Nat) (a2 : Nat) (a3 : Requester) (s : State) : (askKey a0 a1 a2 a3 s).clk = s.clk ∧ (askKey a0 a1 a2 a3 s).time = s.time := by
  unfold askKey
  try dsimp only
  (repeat' split) <;> simp
@[simp ↓] theorem askSafetyKey_clock (a0 : Nat) (s : State) : (askSafetyKey a0 s).clk = s.clk ∧ (askSafetyKey a0 s).time = s.time := by
  unfold askSafetyKey
  try dsimp only
  simp
@[simp ↓] theorem sendSafetyFrames_clock (s : State) : (sendSafetyFrames s).clk = s.clk ∧ (sendSafetyFrames s).time = s.time := by
  unfold sendSafetyFrames
  try dsimp only
  (repeat' split) <;> simp
@[simp ↓] theorem toggleAlive_clock (s : State) : (toggleAlive s).clk = s.clk ∧ (toggleAlive s).time = s.time := by
  unfold toggleAlive
  try dsimp only
  simp
@[simp ↓] theorem halfCycle_clock (s : State) : (halfCycle s).clk = s.clk ∧ (halfCycle s).time = s.time := by
  unfold halfCycle
  try dsimp only
  simp
@[simp ↓] theorem State_modReg_clock (s : State) (a1 : Nat) (a2 : RegSet → RegSet) : (State.modReg s a1 a2).clk = s.clk ∧ (State.modReg s a1 a2).time = s.time := by
  unfold State.modReg
  try dsimp only
  simp
@[simp ↓] theorem State_modIntervalSet_clock (s : State) (a1 : Nat) (a2 : IntervalSet → IntervalSet) : (State.modIntervalSet s a1 a2).clk = s.clk ∧ (State.modIntervalSet s a1 a2).time = s.time := by
  unfold State.modIntervalSet
  try dsimp only
  simp
@[simp ↓] theorem safetyCycle_clock (a0 : Nat) (a1 : Nat) (a2 : BayCycle) (s : State) : (safetyCycle a0 a1 a2 s).clk = s.clk ∧ (safetyCycle a0 a1 a2 s).time = s.time := by
  unfold safetyCycle
  try dsimp only
  simp
@[simp ↓] theorem sessionCycle_clock (a0 : Nat) (a1 : BayCycle) (s : State) : (sessionCycle a0 a1 s).clk = s.clk ∧ (sessionCycle a0 a1 s).time = s.time := by
  unfold sessionCycle
  try dsimp only
  (repeat' split) <;> simp
@[simp ↓] theorem commitBay_clock (a0 : Nat) (a1 : Nat) (a2 : BayCycle) (s : State) : (commitBay a0 a1 a2 s).clk = s.clk ∧ (commitBay a0 a1 a2 s).time = s.time := by
  unfold commitBay
  try dsimp only
  simp
@[simp ↓] theorem harmonicCycle_clock (a0 : Nat) (a1 : List (Int × Int)) (a2 : List (List Int)) (s : State) : (harmonicCycle a0 a1 a2 s).clk = s.clk ∧ (harmonicCycle a0 a1 a2 s).time = s.time := by
  unfold harmonicCycle
  try dsimp only
  simp
@[simp ↓] theorem feederCycle_clock (a0 : Nat) (s : State) : (feederCycle a0 s).clk = s.clk ∧ (feederCycle a0 s).time = s.time := by
  unfold feederCycle
  try dsimp only
  simp
@[simp ↓] theorem sharePulses_clock (a0 : List RegSet) (s : State) : (sharePulses a0 s).clk = s.clk ∧ (sharePulses a0 s).time = s.time := by
  unfold sharePulses
  try dsimp only
  simp
@[simp ↓] theorem commitCycle_clock (a0 : Nat) (a1 : Bool) (s : State) : (commitCycle a0 a1 s).clk = s.clk ∧ (commitCycle a0 a1 s).time = s.time := by
  unfold commitCycle
  try dsimp only
  simp
@[simp ↓] theorem noteOffer_clock (a0 : Nat) (s : State) : (noteOffer a0 s).clk = s.clk ∧ (noteOffer a0 s).time = s.time := by
  unfold noteOffer
  try dsimp only
  simp
@[simp ↓] theorem bayBoundary_clock (a0 : Nat) (s : State) : (bayBoundary a0 s).clk = s.clk ∧ (bayBoundary a0 s).time = s.time := by
  unfold bayBoundary
  try dsimp only
  simp
@[simp ↓] theorem openReadings_clock (a0 : Nat) (s : State) : (openReadings a0 s).clk = s.clk ∧ (openReadings a0 s).time = s.time := by
  unfold openReadings
  try dsimp only
  (repeat' split) <;> simp
@[simp ↓] theorem closeReadings_clock (a0 : Nat) (a1 : Reading) (s : State) : (closeReadings a0 a1 s).clk = s.clk ∧ (closeReadings a0 a1 s).time = s.time := by
  unfold closeReadings
  try dsimp only
  (repeat' split) <;> simp
@[simp ↓] theorem quotaEnd_clock (a0 : Nat) (s : State) : (quotaEnd a0 s).clk = s.clk ∧ (quotaEnd a0 s).time = s.time := by
  unfold quotaEnd
  try dsimp only
  simp
@[simp ↓] theorem endCycle_clock (s : State) : (endCycle s).clk = s.clk ∧ (endCycle s).time = s.time := by
  unfold endCycle
  try dsimp only
  simp

/-! ### What closing and opening an interval leaves of the calendars and of the running number -/

theorem idx_foldl {α : Type} (f : State → α → State) (h : ∀ s a, (f s a).intervals.index = s.intervals.index) (l : List α) (s : State) :
    (l.foldl f s).intervals.index = s.intervals.index := by
  induction l generalizing s with
  | nil => rfl
  | cons a l ih => rw [List.foldl_cons, ih, h]
theorem cals_foldl {α : Type} (f : State → α → State) (h : ∀ s a, (f s a).cals = s.cals) (l : List α) (s : State) :
    (l.foldl f s).cals = s.cals := by
  induction l generalizing s with
  | nil => rfl
  | cons a l ih => rw [List.foldl_cons, ih, h]
theorem intervals_ite (c : Prop) [Decidable c] (a b : State) : (if c then a else b).intervals = if c then a.intervals else b.intervals := by
  split <;> rfl
@[simp] theorem evaluateSet_index (k i e : Nat) (l : List Nat) (t : Nat) (s : State) : (evaluateSet k i e l t s).intervals.index = s.intervals.index := by
  simp [evaluateSet, State.modIntervalSet, State.modReg]
@[simp] theorem evaluateSet_cals (k i e : Nat) (l : List Nat) (t : Nat) (s : State) : (evaluateSet k i e l t s).cals = s.cals := by
  simp [evaluateSet, State.modIntervalSet, State.modReg]
@[simp] theorem notePeriod_index (a e : Nat) (s : State) : (notePeriod a e s).intervals.index = s.intervals.index := rfl
@[simp] theorem notePeriod_cals (a e : Nat) (s : State) : (notePeriod a e s).cals = s.cals := rfl
@[simp] theorem closeSub_index (s : State) : (closeSub s).intervals.index = s.intervals.index := by
  unfold closeSub; dsimp only; split <;> [rfl; (rw [notePeriod_index, idx_foldl _ (by intros; simp)])]
@[simp] theorem closeSub_cals (s : State) : (closeSub s).cals = s.cals := by
  unfold closeSub; dsimp only; split <;> [rfl; (rw [notePeriod_cals, cals_foldl _ (by intros; simp)])]
@[simp] theorem evaluateInterval_index (s : State) : (evaluateInterval s).intervals.index = s.intervals.index := by
  unfold evaluateInterval; (repeat' split) <;> first | rfl | (simp; done) | (rw [notePeriod_index, idx_foldl _ (by intros; simp)])
@[simp] theorem evaluateInterval_cals (s : State) : (evaluateInterval s).cals = s.cals := by
  unfold evaluateInterval; (repeat' split) <;> first | rfl | (simp; done) | (rw [notePeriod_cals, cals_foldl _ (by intros; simp)])
@[simp] theorem storeInterval_index (i : Nat) (e : List Bytes) (s : State) : (storeInterval i e s).intervals.index = s.intervals.index := by
  unfold storeInterval; dsimp only; rw [idx_foldl _ (by intros; split <;> simp)]
@[simp] theorem storeInterval_cals (i : Nat) (e : List Bytes) (s : State) : (storeInterval i e s).cals = s.cals := by
  unfold storeInterval; dsimp only; rw [cals_foldl _ (by intros; split <;> simp)]
theorem closeInterval_index (f : Nat) (b : Bool) (s : State) (h : s.intervals.closed = false) :
    (closeInterval f b s).intervals.index = s.intervals.index + 1 := by
  simp [closeInterval, legalStore, h]
@[simp] theorem closeInterval_cals (f : Nat) (b : Bool) (s : State) : (closeInterval f b s).cals = s.cals := by
  unfold closeInterval; split <;> simp [legalStore]
@[simp] theorem openInterval_time (f : Nat) (s : State) : (openInterval f s).time = s.time := by
  unfold openInterval; split <;> simp [openSub, openSubAt]
@[simp] theorem openInterval_clk (f : Nat) (s : State) : (openInterval f s).clk = s.clk := by
  unfold openInterval; split <;> simp [openSub, openSubAt]
@[simp] theorem openInterval_cals (f : Nat) (s : State) : (openInterval f s).cals = s.cals := by
  unfold openInterval; split <;> simp [openSub, openSubAt]
@[simp] theorem openInterval_index (f : Nat) (s : State) : (openInterval f s).intervals.index = s.intervals.index := by
  unfold openInterval; split <;> simp [openSub, openSubAt]
theorem intervals_foldl {α : Type} (f : State → α → State) (h : ∀ s a, (f s a).intervals = s.intervals) (l : List α) (s : State) :
    (l.foldl f s).intervals = s.intervals := by
  induction l generalizing s with
  | nil => rfl
  | cons a l ih => rw [List.foldl_cons, ih, h]
@[simp] theorem flagSessions_intervals (f : Nat) (s : State) : (flagSessions f s).intervals = s.intervals := by
  unfold flagSessions; rw [intervals_foldl _ (by intro s a; split <;> [(split <;> simp [State.modHd]); rfl])]
@[simp] theorem flagSessions_cals (f : Nat) (s : State) : (flagSessions f s).cals = s.cals := by
  unfold flagSessions; rw [cals_foldl _ (by intro s a; split <;> [(split <;> simp [State.modHd]); rfl])]
@[simp] theorem markCalibration_index (f : Nat) (s : State) : (markCalibration f s).intervals = s.intervals := by
  unfold markCalibration
  dsimp only
  generalize List.range 32 = l
  induction l generalizing s with
  | nil => rfl
  | cons a l ih => rw [List.foldl_cons, ih]; split <;> simp
@[simp] theorem reassignPulse_intervals (k : Nat) (old new : Bytes) (s : State) : (reassignPulse k old new s).intervals = s.intervals := by
  unfold reassignPulse
  dsimp only
  repeat' split
  all_goals first | rfl | simp [parkPulse]
@[simp] theorem applyLegalWrite_intervals (w : LegalWrite) (s : State) : (applyLegalWrite w s).intervals = s.intervals := by
  unfold applyLegalWrite
  dsimp only
  split <;> simp [State.putParam]
@[simp] theorem applyLegal_intervals (s : State) : (applyLegal s).intervals = s.intervals := by
  unfold applyLegal
  generalize s.legal.pending = l
  change _ = ({ s with legal := { s.legal with pending := [] } } : State).intervals
  generalize ({ s with legal := { s.legal with pending := [] } } : State) = u
  induction l generalizing u with
  | nil => rfl
  | cons a l ih => rw [List.foldl_cons, ih]; simp
@[simp] theorem logbookNow_intervals (t w : Nat) (d : Bytes) (s : State) : (logbookNow t w d s).intervals = s.intervals := by
  unfold logbookNow logbook; dsimp only; (repeat' split) <;> simp
@[simp] theorem logbookNow_cals (t w : Nat) (d : Bytes) (s : State) : (logbookNow t w d s).cals = s.cals := by
  unfold logbookNow logbook; dsimp only; (repeat' split) <;> simp
theorem closeInterval_window (f : Nat) (s : State) (h : s.intervals.closed = false) : (closeInterval f true s).intervals.window = [] := by
  simp [closeInterval, legalStore, h]
@[simp] theorem openInterval_window (f : Nat) (s : State) : (openInterval f s).intervals.window = s.intervals.window := by
  unfold openInterval; split <;> simp [openSub, openSubAt]
/-- A broken interval is closed, the change made and a new one opened; only its flags depend on the instant. -/
theorem breakInterval_cases (f o : Nat) (change : State → State) (s : State) :
    ∃ g n, breakInterval f o change s = { openInterval o (change (closeInterval g true s)) with
      intervals := { (openInterval o (change (closeInterval g true s))).intervals with flags := n } } := by
  unfold breakInterval
  dsimp only
  generalize f ||| (if s.clk.cycleStart < intervalEnd s then 2 else 0) = g
  refine ⟨g, if (openInterval o (change (closeInterval g true s))).intervals.start +
    cycleUs (openInterval o (change (closeInterval g true s))) ≤ s.clk.cycleStart then
      (openInterval o (change (closeInterval g true s))).intervals.flags ||| 2
    else (openInterval o (change (closeInterval g true s))).intervals.flags, ?_⟩
  generalize openInterval o (change (closeInterval g true s)) = y
  split <;> rfl

end Sys2Proof.Machine
end

