-- ==== Sys2Proof/Laws/Memory.lean ====
section
/-! SUPPORT. The frame memory and the tag's memory as lists of cells: reading after a write, and that every write keeps the canonical
form, so that equal memories are equal data. -/

namespace Sys2Proof.Machine

open Sys2Proof

theorem wfFrom_cons {lo a : Nat} {b : Byte} {m : List Host.Cell} :
    wfFrom lo ((a, b) :: m) = true ↔ lo ≤ a ∧ b ≠ memDefault ∧ wfFrom (a + 1) m = true := by
  simp [wfFrom, and_assoc]

theorem wfFrom_mono {lo lo' : Nat} {m : List Host.Cell} (h : wfFrom lo m = true) (hl : lo' ≤ lo) : wfFrom lo' m = true := by
  cases m with
  | nil => rfl
  | cons c m =>
    obtain ⟨a, b⟩ := c
    rw [wfFrom_cons] at *
    exact ⟨by omega, h.2⟩

/-- Below its bound a canonical memory lists nothing. -/
theorem readMem_below {lo x : Nat} {m : List Host.Cell} (h : wfFrom lo m = true) (hx : x < lo) : readMem m x = memDefault := by
  induction m generalizing lo with
  | nil => rfl
  | cons c m ih =>
    obtain ⟨a, b⟩ := c
    rw [wfFrom_cons] at h
    have : a ≠ x := by omega
    simp [readMem, this, ih h.2.2 (by omega)]

theorem readMem_writeMem_self_from {lo : Nat} {m : List Host.Cell} (h : wfFrom lo m = true) (x : Nat) (v : Byte) :
    readMem (writeMem m x v) x = v := by
  induction m generalizing lo with
  | nil => by_cases hv : v = memDefault <;> simp [writeMem, readMem, hv]
  | cons c m ih =>
    obtain ⟨a, b⟩ := c
    rw [wfFrom_cons] at h
    obtain ⟨hlo, hb, hm⟩ := h
    by_cases h1 : x < a
    · by_cases hv : v = memDefault
      · have : a ≠ x := by omega
        simp [writeMem, h1, hv, readMem, this, readMem_below hm (x := x) (by omega)]
      · simp [writeMem, h1, hv, readMem]
    · by_cases h2 : a = x
      · subst h2
        by_cases hv : v = memDefault
        · simp [writeMem, hv, readMem_below hm (Nat.lt_succ_self a)]
        · simp [writeMem, hv, readMem]
      · simp [writeMem, h1, h2, readMem, ih hm]

/-- A byte written is read back. -/
theorem readMem_writeMem_self {m : List Host.Cell} (h : Memory.wf m = true) (x : Nat) (v : Byte) : readMem (writeMem m x v) x = v :=
  readMem_writeMem_self_from h x v

/-- A write leaves every other byte alone. -/
theorem readMem_writeMem_ne (m : List Host.Cell) {x y : Nat} (v : Byte) (h : y ≠ x) : readMem (writeMem m x v) y = readMem m y := by
  have h' : x ≠ y := fun e => h e.symm
  induction m with
  | nil => by_cases hv : v = memDefault <;> simp [writeMem, readMem, hv, h']
  | cons c m ih =>
    obtain ⟨a, b⟩ := c
    by_cases h1 : x < a
    · by_cases hv : v = memDefault <;> simp [writeMem, h1, hv, readMem, h']
    · by_cases h2 : a = x
      · subst h2
        by_cases hv : v = memDefault <;> simp [writeMem, hv, readMem, h']
      · simp only [writeMem, h1, h2, ↓reduceIte, beq_iff_eq, readMem, ih]

theorem writeMem_wfFrom {lo : Nat} {m : List Host.Cell} (h : wfFrom lo m = true) {x : Nat} (hx : lo ≤ x) (v : Byte) :
    wfFrom lo (writeMem m x v) = true := by
  induction m generalizing lo with
  | nil => by_cases hv : v = memDefault <;> simp [writeMem, wfFrom, hv, hx]
  | cons c m ih =>
    obtain ⟨a, b⟩ := c
    have h0 := h
    rw [wfFrom_cons] at h
    obtain ⟨hlo, hb, hm⟩ := h
    by_cases h1 : x < a
    · by_cases hv : v = memDefault
      · simpa [writeMem, h1, hv] using h0
      · simp only [writeMem, h1, hv, ↓reduceIte, beq_iff_eq]
        exact wfFrom_cons.2 ⟨hx, hv, wfFrom_cons.2 ⟨by omega, hb, hm⟩⟩
    · by_cases h2 : a = x
      · subst h2
        by_cases hv : v = memDefault
        · simpa [writeMem, hv] using wfFrom_mono hm (by omega)
        · simp only [writeMem, lt_irrefl, hv, ↓reduceIte, beq_iff_eq]
          exact wfFrom_cons.2 ⟨hlo, hv, hm⟩
      · simp only [writeMem, h1, h2, ↓reduceIte, beq_iff_eq]
        exact wfFrom_cons.2 ⟨hlo, hb, ih hm (by omega)⟩

/-- A write keeps the canonical form. -/
theorem writeMem_wf {m : List Host.Cell} (h : Memory.wf m = true) (x : Nat) (v : Byte) : Memory.wf (writeMem m x v) = true :=
  writeMem_wfFrom h (Nat.zero_le x) v

/-- A run of writes keeps the canonical form. -/
theorem writeMemN_wf {m : List Host.Cell} (h : Memory.wf m = true) (x : Nat) (bs : Bytes) : Memory.wf (writeMemN m x bs) = true := by
  induction bs generalizing m x with
  | nil => exact h
  | cons b bs ih => exact ih (writeMem_wf h x b) (x + 1)

end Sys2Proof.Machine
end

