-- ==== Sys2Proof/Laws/Protocol.lean ====
section
/-! SUPPORT. Receiving an accepted command: it is begun, its body runs, it is completed. -/

namespace Sys2Proof.Machine

open Sys2Proof

theorem TrafficOnly.mk' {s : State} (a b : PortState) (u : UartState) (p : Perf) (r : Recorder) (j : List JournalEntry) :
    TrafficOnly s { s with spi := a, uart := b, uartRate := u, perf := p, recorder := r, cont := { s.cont with journal := j } } := rfl

theorem TrafficOnly.refl (s : State) : TrafficOnly s s := rfl

theorem TrafficOnly.trans {s t u : State} (h1 : TrafficOnly s t) (h2 : TrafficOnly t u) : TrafficOnly s u := by
  unfold TrafficOnly at *
  rw [h1] at h2
  exact h2

@[simp] theorem callOf_port (c : Command) (h : Hdr) : (callOf c h).port = h.port := rfl
@[simp] theorem callOf_world (c : Command) (h : Hdr) : (callOf c h).world = h.world := rfl
@[simp] theorem callOf_op (c : Command) (h : Hdr) : (callOf c h).op = c.op := rfl
@[simp] theorem callOf_tag (c : Command) (h : Hdr) : (callOf c h).tag = h.tag := rfl

@[simp] theorem arrived_spi (p : HostPort) (n : Nat) (s : State) : (arrived p n s).spi = s.spi := by cases p <;> rfl
@[simp] theorem arrived_uart (p : HostPort) (n : Nat) (s : State) : (arrived p n s).uart = s.uart := by cases p <;> rfl
@[simp] theorem arrived_port (p q : HostPort) (n : Nat) (s : State) : (arrived p n s).port q = s.port q := by
  cases p <;> cases q <;> rfl

/-- What arrival may change. -/
theorem arrived_eq (p : HostPort) (n : Nat) (s : State) :
    ∃ u r, arrived p n s = { s with uartRate := u, perf := r } := by
  cases p <;> exact ⟨_, _, rfl⟩

/-- A packet changes of a port at most the instant at which its world closes (R302). -/
theorem touchWorld_port (c : Call) (q : HostPort) (s : State) :
    ∃ t, (touchWorld c s).port q = { s.port q with worldIdle := t } := by
  unfold touchWorld
  split
  · obtain ⟨port, _, _, _⟩ := c
    cases port <;> cases q <;> exact ⟨_, rfl⟩
  · exact ⟨_, rfl⟩

@[simp] theorem touchWorld_dups (c : Call) (q : HostPort) (s : State) : ((touchWorld c s).port q).dups = (s.port q).dups := by
  obtain ⟨t, e⟩ := touchWorld_port c q s; rw [e]
@[simp] theorem touchWorld_outstanding (c : Call) (q : HostPort) (s : State) :
    ((touchWorld c s).port q).outstanding = (s.port q).outstanding := by
  obtain ⟨t, e⟩ := touchWorld_port c q s; rw [e]
@[simp] theorem touchWorld_reassembly (c : Call) (q : HostPort) (s : State) :
    ((touchWorld c s).port q).reassembly = (s.port q).reassembly := by
  obtain ⟨t, e⟩ := touchWorld_port c q s; rw [e]
@[simp] theorem touchWorld_dupOf (c : Call) (q : HostPort) (tag : Nat) (s : State) :
    dupOf ((touchWorld c s).port q) tag = dupOf (s.port q) tag := by simp [dupOf]
@[simp] theorem touchWorld_time (c : Call) (s : State) : (touchWorld c s).time = s.time := by
  unfold touchWorld
  split
  · cases c.port <;> rfl
  · rfl

/-- What beginning a command may change. -/
theorem begun_eq (c : Command) (h : Hdr) (pl : Bytes) (s : State) :
    ∃ a b u r, begun c h pl s = { s with spi := a, uart := b, uartRate := u, perf := r } := by
  unfold begun touchWorld
  obtain ⟨port, world, tag, version, flags⟩ := h
  split <;> cases port <;> exact ⟨_, _, _, _, rfl⟩

/-- What an answer may change. -/
theorem completed_eq (c : Command) (h : Hdr) (pl : Bytes) (s : State) (a : Ans) :
    ∃ x y r j, completed c h pl s a = { a.state with spi := x, uart := y, perf := r, cont := { a.state.cont with journal := j } } := by
  unfold completed answer reply send callOf
  obtain ⟨port, world, tag, version, flags⟩ := h
  cases port <;> dsimp only <;> split <;> split <;> exact ⟨_, _, _, _, rfl⟩

/-! ### begun, field by field -/

@[simp] theorem begun_life (c : Command) (h : Hdr) (pl : Bytes) (s : State) : (begun c h pl s).life = s.life := by
  obtain ⟨_, _, _, _, e⟩ := begun_eq c h pl s; rw [e]
@[simp] theorem begun_clk (c : Command) (h : Hdr) (pl : Bytes) (s : State) : (begun c h pl s).clk = s.clk := by
  obtain ⟨_, _, _, _, e⟩ := begun_eq c h pl s; rw [e]
@[simp] theorem begun_time (c : Command) (h : Hdr) (pl : Bytes) (s : State) : (begun c h pl s).time = s.time := by
  obtain ⟨_, _, _, _, e⟩ := begun_eq c h pl s; rw [e]
@[simp] theorem begun_power (c : Command) (h : Hdr) (pl : Bytes) (s : State) : (begun c h pl s).power = s.power := by
  obtain ⟨_, _, _, _, e⟩ := begun_eq c h pl s; rw [e]
@[simp] theorem begun_params (c : Command) (h : Hdr) (pl : Bytes) (s : State) : (begun c h pl s).params = s.params := by
  obtain ⟨_, _, _, _, e⟩ := begun_eq c h pl s; rw [e]
@[simp] theorem begun_commits (c : Command) (h : Hdr) (pl : Bytes) (s : State) : (begun c h pl s).commits = s.commits := by
  obtain ⟨_, _, _, _, e⟩ := begun_eq c h pl s; rw [e]
@[simp] theorem begun_bays (c : Command) (h : Hdr) (pl : Bytes) (s : State) : (begun c h pl s).bays = s.bays := by
  obtain ⟨_, _, _, _, e⟩ := begun_eq c h pl s; rw [e]
@[simp] theorem begun_ctxs (c : Command) (h : Hdr) (pl : Bytes) (s : State) : (begun c h pl s).ctxs = s.ctxs := by
  obtain ⟨_, _, _, _, e⟩ := begun_eq c h pl s; rw [e]
@[simp] theorem begun_queue (c : Command) (h : Hdr) (pl : Bytes) (s : State) : (begun c h pl s).queue = s.queue := by
  obtain ⟨_, _, _, _, e⟩ := begun_eq c h pl s; rw [e]
@[simp] theorem begun_met (c : Command) (h : Hdr) (pl : Bytes) (s : State) : (begun c h pl s).met = s.met := by
  obtain ⟨_, _, _, _, e⟩ := begun_eq c h pl s; rw [e]
@[simp] theorem begun_intervals (c : Command) (h : Hdr) (pl : Bytes) (s : State) : (begun c h pl s).intervals = s.intervals := by
  obtain ⟨_, _, _, _, e⟩ := begun_eq c h pl s; rw [e]
@[simp] theorem begun_cals (c : Command) (h : Hdr) (pl : Bytes) (s : State) : (begun c h pl s).cals = s.cals := by
  obtain ⟨_, _, _, _, e⟩ := begun_eq c h pl s; rw [e]
@[simp] theorem begun_legal (c : Command) (h : Hdr) (pl : Bytes) (s : State) : (begun c h pl s).legal = s.legal := by
  obtain ⟨_, _, _, _, e⟩ := begun_eq c h pl s; rw [e]
@[simp] theorem begun_creds (c : Command) (h : Hdr) (pl : Bytes) (s : State) : (begun c h pl s).creds = s.creds := by
  obtain ⟨_, _, _, _, e⟩ := begun_eq c h pl s; rw [e]
@[simp] theorem begun_budget (c : Command) (h : Hdr) (pl : Bytes) (s : State) : (begun c h pl s).budget = s.budget := by
  obtain ⟨_, _, _, _, e⟩ := begun_eq c h pl s; rw [e]
@[simp] theorem begun_safety (c : Command) (h : Hdr) (pl : Bytes) (s : State) : (begun c h pl s).safety = s.safety := by
  obtain ⟨_, _, _, _, e⟩ := begun_eq c h pl s; rw [e]
@[simp] theorem begun_cont (c : Command) (h : Hdr) (pl : Bytes) (s : State) : (begun c h pl s).cont = s.cont := by
  obtain ⟨_, _, _, _, e⟩ := begun_eq c h pl s; rw [e]
@[simp] theorem begun_keys (c : Command) (h : Hdr) (pl : Bytes) (s : State) : (begun c h pl s).keys = s.keys := by
  obtain ⟨_, _, _, _, e⟩ := begun_eq c h pl s; rw [e]
@[simp] theorem begun_images (c : Command) (h : Hdr) (pl : Bytes) (s : State) : (begun c h pl s).images = s.images := by
  obtain ⟨_, _, _, _, e⟩ := begun_eq c h pl s; rw [e]
@[simp] theorem begun_recorder (c : Command) (h : Hdr) (pl : Bytes) (s : State) : (begun c h pl s).recorder = s.recorder := by
  obtain ⟨_, _, _, _, e⟩ := begun_eq c h pl s; rw [e]
@[simp] theorem begun_chans (c : Command) (h : Hdr) (pl : Bytes) (s : State) : (begun c h pl s).chans = s.chans := by
  obtain ⟨_, _, _, _, e⟩ := begun_eq c h pl s; rw [e]
@[simp] theorem begun_groups (c : Command) (h : Hdr) (pl : Bytes) (s : State) : (begun c h pl s).groups = s.groups := by
  obtain ⟨_, _, _, _, e⟩ := begun_eq c h pl s; rw [e]
@[simp] theorem begun_disp (c : Command) (h : Hdr) (pl : Bytes) (s : State) : (begun c h pl s).disp = s.disp := by
  obtain ⟨_, _, _, _, e⟩ := begun_eq c h pl s; rw [e]
@[simp] theorem begun_readers (c : Command) (h : Hdr) (pl : Bytes) (s : State) : (begun c h pl s).readers = s.readers := by
  obtain ⟨_, _, _, _, e⟩ := begun_eq c h pl s; rw [e]
@[simp] theorem begun_tag (c : Command) (h : Hdr) (pl : Bytes) (s : State) : (begun c h pl s).tag = s.tag := by
  obtain ⟨_, _, _, _, e⟩ := begun_eq c h pl s; rw [e]
@[simp] theorem begun_mains (c : Command) (h : Hdr) (pl : Bytes) (s : State) : (begun c h pl s).mains = s.mains := by
  obtain ⟨_, _, _, _, e⟩ := begun_eq c h pl s; rw [e]
@[simp] theorem begun_sitePeers (c : Command) (h : Hdr) (pl : Bytes) (s : State) : (begun c h pl s).sitePeers = s.sitePeers := by
  obtain ⟨_, _, _, _, e⟩ := begun_eq c h pl s; rw [e]
@[simp] theorem begun_canOut (c : Command) (h : Hdr) (pl : Bytes) (s : State) : (begun c h pl s).canOut = s.canOut := by
  obtain ⟨_, _, _, _, e⟩ := begun_eq c h pl s; rw [e]
@[simp] theorem begun_draws (c : Command) (h : Hdr) (pl : Bytes) (s : State) : (begun c h pl s).draws = s.draws := by
  obtain ⟨_, _, _, _, e⟩ := begun_eq c h pl s; rw [e]
@[simp] theorem begun_pending (c : Command) (h : Hdr) (pl : Bytes) (s : State) : (begun c h pl s).pending = s.pending := by
  obtain ⟨_, _, _, _, e⟩ := begun_eq c h pl s; rw [e]
@[simp] theorem begun_bay (c : Command) (h : Hdr) (pl : Bytes) (s : State) (k : Nat) : (begun c h pl s).bay k = s.bay k := by
  obtain ⟨_, _, _, _, e⟩ := begun_eq c h pl s; rw [e]; rfl
@[simp] theorem begun_ctx (c : Command) (h : Hdr) (pl : Bytes) (s : State) (k : Nat) : (begun c h pl s).ctx k = s.ctx k := by
  obtain ⟨_, _, _, _, e⟩ := begun_eq c h pl s; rw [e]; rfl
@[simp] theorem begun_chan (c : Command) (h : Hdr) (pl : Bytes) (s : State) (k : Nat) : (begun c h pl s).chan k = s.chan k := by
  obtain ⟨_, _, _, _, e⟩ := begun_eq c h pl s; rw [e]; rfl
@[simp] theorem begun_key (c : Command) (h : Hdr) (pl : Bytes) (s : State) (k : Nat) : (begun c h pl s).key k = s.key k := by
  obtain ⟨_, _, _, _, e⟩ := begun_eq c h pl s; rw [e]; rfl
@[simp] theorem begun_reader (c : Command) (h : Hdr) (pl : Bytes) (s : State) (k : Nat) : (begun c h pl s).reader k = s.reader k := by
  obtain ⟨_, _, _, _, e⟩ := begun_eq c h pl s; rw [e]; rfl
@[simp] theorem begun_peer (c : Command) (h : Hdr) (pl : Bytes) (s : State) (k : Nat) : (begun c h pl s).peer k = s.peer k := by
  obtain ⟨_, _, _, _, e⟩ := begun_eq c h pl s; rw [e]; rfl
@[simp] theorem begun_regSet (c : Command) (h : Hdr) (pl : Bytes) (s : State) (k : Nat) : (begun c h pl s).regSet k = s.regSet k := by
  obtain ⟨_, _, _, _, e⟩ := begun_eq c h pl s; rw [e]; rfl
@[simp] theorem begun_image (c : Command) (h : Hdr) (pl : Bytes) (s : State) (k : ImageKind) : (begun c h pl s).image k = s.image k := by
  obtain ⟨_, _, _, _, e⟩ := begun_eq c h pl s; rw [e]; rfl
@[simp] theorem begun_obj (c : Command) (h : Hdr) (pl : Bytes) (s : State) (k : Nat) : (begun c h pl s).obj k = s.obj k := by
  obtain ⟨_, _, _, _, e⟩ := begun_eq c h pl s; rw [e]; rfl
@[simp] theorem begun_takesWrites (c : Command) (h : Hdr) (pl : Bytes) (s : State) (k : Nat) :
    (begun c h pl s).takesWrites k = s.takesWrites k := by
  obtain ⟨_, _, _, _, e⟩ := begun_eq c h pl s; rw [e]; rfl
@[simp] theorem begun_confirmedNow (c : Command) (h : Hdr) (pl : Bytes) (s : State) :
    confirmedNow (begun c h pl s) = confirmedNow s := by
  obtain ⟨_, _, _, _, e⟩ := begun_eq c h pl s; rw [e]; rfl
@[simp] theorem begun_param (c : Command) (h : Hdr) (pl : Bytes) (s : State) (k : Nat) : (begun c h pl s).param k = s.param k := by
  obtain ⟨_, _, _, _, e⟩ := begun_eq c h pl s; rw [e]; rfl
@[simp] theorem begun_field (c : Command) (h : Hdr) (pl : Bytes) (s : State) (k l w : Nat) : (begun c h pl s).field k l w = s.field k l w := by
  obtain ⟨_, _, _, _, e⟩ := begun_eq c h pl s; rw [e]; rfl
@[simp] theorem begun_bayField (c : Command) (h : Hdr) (pl : Bytes) (s : State) (k l w : Nat) : (begun c h pl s).bayField k l w = s.bayField k l w := by
  obtain ⟨_, _, _, _, e⟩ := begun_eq c h pl s; rw [e]; rfl
@[simp] theorem begun_safetyField (c : Command) (h : Hdr) (pl : Bytes) (s : State) (k l w : Nat) : (begun c h pl s).safetyField k l w = s.safetyField k l w := by
  obtain ⟨_, _, _, _, e⟩ := begun_eq c h pl s; rw [e]; rfl
@[simp] theorem begun_chanField (c : Command) (h : Hdr) (pl : Bytes) (s : State) (k l w : Nat) : (begun c h pl s).chanField k l w = s.chanField k l w := by
  obtain ⟨_, _, _, _, e⟩ := begun_eq c h pl s; rw [e]; rfl
@[simp] theorem begun_kind (c : Command) (h : Hdr) (pl : Bytes) (s : State) (k : Nat) : (begun c h pl s).kind k = s.kind k := by
  obtain ⟨_, _, _, _, e⟩ := begun_eq c h pl s; rw [e]; rfl
@[simp] theorem begun_isDc (c : Command) (h : Hdr) (pl : Bytes) (s : State) (k : Nat) : (begun c h pl s).isDc k = s.isDc k := by
  obtain ⟨_, _, _, _, e⟩ := begun_eq c h pl s; rw [e]; rfl
@[simp] theorem begun_anyEnergised (c : Command) (h : Hdr) (pl : Bytes) (s : State) : (begun c h pl s).anyEnergised  = s.anyEnergised := by
  obtain ⟨_, _, _, _, e⟩ := begun_eq c h pl s; rw [e]; rfl
@[simp] theorem begun_after (c : Command) (h : Hdr) (pl : Bytes) (s : State) (k : Nat) : (begun c h pl s).after k = s.after k := by
  obtain ⟨_, _, _, _, e⟩ := begun_eq c h pl s; rw [e]; rfl
@[simp] theorem begun_due (c : Command) (h : Hdr) (pl : Bytes) (s : State) (k : Nat) : (begun c h pl s).due k = s.due k := by
  obtain ⟨_, _, _, _, e⟩ := begun_eq c h pl s; rw [e]; rfl
@[simp] theorem begun_dueOpt (c : Command) (h : Hdr) (pl : Bytes) (s : State) (k : Option Nat) : (begun c h pl s).dueOpt k = s.dueOpt k := by
  obtain ⟨_, _, _, _, e⟩ := begun_eq c h pl s; rw [e]; rfl
@[simp] theorem begun_lead (c : Command) (h : Hdr) (pl : Bytes) (s : State) (x : BitVec 32) (y : Nat) : (begun c h pl s).lead x y = s.lead x y := by
  obtain ⟨_, _, _, _, e⟩ := begun_eq c h pl s; rw [e]; rfl

/-! ### What beginning a command leaves of the ports -/

@[simp] theorem begun_port_world (c : Command) (h : Hdr) (pl : Bytes) (s : State) (q : HostPort) :
    ((begun c h pl s).port q).world = (s.port q).world := by
  obtain ⟨port, world, tag, version, flags⟩ := h
  unfold begun touchWorld
  split <;> cases port <;> cases q <;> simp [State.port, State.modPort]
@[simp] theorem begun_port_challenges (c : Command) (h : Hdr) (pl : Bytes) (s : State) (q : HostPort) :
    ((begun c h pl s).port q).challenges = (s.port q).challenges := by
  obtain ⟨port, world, tag, version, flags⟩ := h
  unfold begun touchWorld
  split <;> cases port <;> cases q <;> simp [State.port, State.modPort]
@[simp] theorem begun_port_refusals (c : Command) (h : Hdr) (pl : Bytes) (s : State) (q : HostPort) :
    ((begun c h pl s).port q).refusals = (s.port q).refusals := by
  obtain ⟨port, world, tag, version, flags⟩ := h
  unfold begun touchWorld
  split <;> cases port <;> cases q <;> simp [State.port, State.modPort]
@[simp] theorem begun_port_lockouts (c : Command) (h : Hdr) (pl : Bytes) (s : State) (q : HostPort) :
    ((begun c h pl s).port q).lockouts = (s.port q).lockouts := by
  obtain ⟨port, world, tag, version, flags⟩ := h
  unfold begun touchWorld
  split <;> cases port <;> cases q <;> simp [State.port, State.modPort]
@[simp] theorem begun_port_dups (c : Command) (h : Hdr) (pl : Bytes) (s : State) (q : HostPort) :
    ((begun c h pl s).port q).dups = (s.port q).dups := by
  obtain ⟨port, world, tag, version, flags⟩ := h
  unfold begun touchWorld
  split <;> cases port <;> cases q <;> simp [State.port, State.modPort]
@[simp] theorem begun_port_reassembly (c : Command) (h : Hdr) (pl : Bytes) (s : State) (q : HostPort) :
    ((begun c h pl s).port q).reassembly = (s.port q).reassembly := by
  obtain ⟨port, world, tag, version, flags⟩ := h
  unfold begun touchWorld
  split <;> cases port <;> cases q <;> simp [State.port, State.modPort]
@[simp] theorem begun_port_ntfQueue (c : Command) (h : Hdr) (pl : Bytes) (s : State) (q : HostPort) :
    ((begun c h pl s).port q).ntfQueue = (s.port q).ntfQueue := by
  obtain ⟨port, world, tag, version, flags⟩ := h
  unfold begun touchWorld
  split <;> cases port <;> cases q <;> simp [State.port, State.modPort]
@[simp] theorem begun_port_dropped (c : Command) (h : Hdr) (pl : Bytes) (s : State) (q : HostPort) :
    ((begun c h pl s).port q).dropped = (s.port q).dropped := by
  obtain ⟨port, world, tag, version, flags⟩ := h
  unfold begun touchWorld
  split <;> cases port <;> cases q <;> simp [State.port, State.modPort]
@[simp] theorem begun_port_nseq (c : Command) (h : Hdr) (pl : Bytes) (s : State) (q : HostPort) :
    ((begun c h pl s).port q).nseq = (s.port q).nseq := by
  obtain ⟨port, world, tag, version, flags⟩ := h
  unfold begun touchWorld
  split <;> cases port <;> cases q <;> simp [State.port, State.modPort]
@[simp] theorem begun_port_txQueue (c : Command) (h : Hdr) (pl : Bytes) (s : State) (q : HostPort) :
    ((begun c h pl s).port q).txQueue = (s.port q).txQueue := by
  obtain ⟨port, world, tag, version, flags⟩ := h
  unfold begun touchWorld
  split <;> cases port <;> cases q <;> simp [State.port, State.modPort]
@[simp] theorem begun_port_lastTx (c : Command) (h : Hdr) (pl : Bytes) (s : State) (q : HostPort) :
    ((begun c h pl s).port q).lastTx = (s.port q).lastTx := by
  obtain ⟨port, world, tag, version, flags⟩ := h
  unfold begun touchWorld
  split <;> cases port <;> cases q <;> simp [State.port, State.modPort]
@[simp] theorem begun_port_framingFail (c : Command) (h : Hdr) (pl : Bytes) (s : State) (q : HostPort) :
    ((begun c h pl s).port q).framingFail = (s.port q).framingFail := by
  obtain ⟨port, world, tag, version, flags⟩ := h
  unfold begun touchWorld
  split <;> cases port <;> cases q <;> simp [State.port, State.modPort]
@[simp] theorem begun_port_lastHead (c : Command) (h : Hdr) (pl : Bytes) (s : State) (q : HostPort) :
    ((begun c h pl s).port q).lastHead = (s.port q).lastHead := by
  obtain ⟨port, world, tag, version, flags⟩ := h
  unfold begun touchWorld
  split <;> cases port <;> cases q <;> simp [State.port, State.modPort]
@[simp] theorem begun_port_staging (c : Command) (h : Hdr) (pl : Bytes) (s : State) (q : HostPort) :
    ((begun c h pl s).port q).staging = (s.port q).staging := by
  obtain ⟨port, world, tag, version, flags⟩ := h
  unfold begun touchWorld
  split <;> cases port <;> cases q <;> simp [State.port, State.modPort]

/-! ### What beginning a command leaves of what commands read -/

@[simp] theorem keyFailure_begun (c : Command) (h : Hdr) (pl : Bytes) (s : State) (n : Nat) (ts : List Nat) (u : Nat) (r : Requester) : keyFailure (begun c h pl s) n ts u r = keyFailure s n ts u r := by
  obtain ⟨_, _, _, _, e⟩ := begun_eq c h pl s; rw [e]; rfl
@[simp] theorem keyUsable_begun (c : Command) (h : Hdr) (pl : Bytes) (s : State) (n : Nat) (ts : List Nat) (u : Nat) (r : Requester) : keyUsable (begun c h pl s) n ts u r = keyUsable s n ts u r := by
  obtain ⟨_, _, _, _, e⟩ := begun_eq c h pl s; rw [e]; rfl
@[simp] theorem objectBytes_begun (c : Command) (h : Hdr) (pl : Bytes) (s : State) (k : Nat) : objectBytes (begun c h pl s) k = objectBytes s k := by
  obtain ⟨_, _, _, _, e⟩ := begun_eq c h pl s; rw [e]; rfl
@[simp] theorem objectVersion_begun (c : Command) (h : Hdr) (pl : Bytes) (s : State) (k : Nat) : objectVersion (begun c h pl s) k = objectVersion s k := by
  obtain ⟨_, _, _, _, e⟩ := begun_eq c h pl s; rw [e]; rfl
@[simp] theorem logbookFree_begun (c : Command) (h : Hdr) (pl : Bytes) (s : State)  : logbookFree (begun c h pl s)  = logbookFree s  := by
  obtain ⟨_, _, _, _, e⟩ := begun_eq c h pl s; rw [e]; rfl
@[simp] theorem bayStatus_begun (c : Command) (h : Hdr) (pl : Bytes) (s : State) (k : Nat) : bayStatus (begun c h pl s) k = bayStatus s k := by
  obtain ⟨_, _, _, _, e⟩ := begun_eq c h pl s; rw [e]; rfl
@[simp] theorem continuityStatus_begun (c : Command) (h : Hdr) (pl : Bytes) (s : State)  : continuityStatus (begun c h pl s)  = continuityStatus s  := by
  obtain ⟨_, _, _, _, e⟩ := begun_eq c h pl s; rw [e]; rfl
@[simp] theorem recordSlotsUsed_begun (c : Command) (h : Hdr) (pl : Bytes) (s : State)  : recordSlotsUsed (begun c h pl s)  = recordSlotsUsed s  := by
  obtain ⟨_, _, _, _, e⟩ := begun_eq c h pl s; rw [e]; rfl
@[simp] theorem reserveUsed_begun (c : Command) (h : Hdr) (pl : Bytes) (s : State)  : reserveUsed (begun c h pl s)  = reserveUsed s  := by
  obtain ⟨_, _, _, _, e⟩ := begun_eq c h pl s; rw [e]; rfl
@[simp] theorem legalChecksum_begun (c : Command) (h : Hdr) (pl : Bytes) (s : State)  : legalChecksum (begun c h pl s)  = legalChecksum s  := by
  obtain ⟨_, _, _, _, e⟩ := begun_eq c h pl s; rw [e]; rfl
@[simp] theorem chanStatus_begun (c : Command) (h : Hdr) (pl : Bytes) (s : State) (k : Nat) : chanStatus (begun c h pl s) k = chanStatus s k := by
  obtain ⟨_, _, _, _, e⟩ := begun_eq c h pl s; rw [e]; rfl
@[simp] theorem safetyState_begun (c : Command) (h : Hdr) (pl : Bytes) (s : State)  : safetyState (begun c h pl s)  = safetyState s  := by
  obtain ⟨_, _, _, _, e⟩ := begun_eq c h pl s; rw [e]; rfl
@[simp] theorem doorShowsOpen_begun (c : Command) (h : Hdr) (pl : Bytes) (s : State)  : doorShowsOpen (begun c h pl s)  = doorShowsOpen s  := by
  obtain ⟨_, _, _, _, e⟩ := begun_eq c h pl s; rw [e]; rfl
@[simp] theorem hostReady_begun (c : Command) (h : Hdr) (pl : Bytes) (s : State)  : hostReady (begun c h pl s)  = hostReady s  := by
  obtain ⟨_, _, _, _, e⟩ := begun_eq c h pl s; rw [e]; rfl
@[simp] theorem reading_begun (c : Command) (h : Hdr) (pl : Bytes) (s : State) (k : Nat) : (begun c h pl s).reading k = s.reading k := by
  obtain ⟨_, _, _, _, e⟩ := begun_eq c h pl s; rw [e]; rfl
@[simp] theorem stageBase_begun (c : Command) (h : Hdr) (pl : Bytes) (s : State) (p : HostPort) (k : Nat) :
    stageBase (begun c h pl s) p k = stageBase s p k := by simp [stageBase, stagedOf]
@[simp] theorem afterCommit_begun (c : Command) (h : Hdr) (pl : Bytes) (s : State) (p : HostPort) (id : Nat) :
    afterCommit (begun c h pl s) p id = afterCommit s p id := by
  have e : (begun c h pl s).commits = s.commits := by obtain ⟨_, _, _, _, e⟩ := begun_eq c h pl s; rw [e]
  have e2 : (begun c h pl s).param id = s.param id := by obtain ⟨_, _, _, _, e⟩ := begun_eq c h pl s; rw [e]; rfl
  simp [afterCommit, stagedOf, e, e2]
@[simp] theorem bridgeHeld_begun (c : Command) (h : Hdr) (pl : Bytes) (s : State) (p : HostPort) (k : Nat) :
    bridgeHeld (begun c h pl s) p k = bridgeHeld s p k := by simp [bridgeHeld]
@[simp] theorem outstanding_begun (c : Command) (h : Hdr) (pl : Bytes) (s : State) :
    ((begun c h pl s).port h.port).outstanding = h.tag :: (s.port h.port).outstanding.filter (· != h.tag) := by
  obtain ⟨port, world, tag, version, flags⟩ := h
  unfold begun touchWorld
  split <;> cases port <;> simp [State.port, State.modPort, callOf]

theorem begun_traffic (c : Command) (h : Hdr) (pl : Bytes) (s : State) : TrafficOnly s (begun c h pl s) := by
  obtain ⟨_, _, _, _, e⟩ := begun_eq c h pl s
  rw [e]; rfl

theorem completed_traffic (c : Command) (h : Hdr) (pl : Bytes) (s : State) (a : Ans) :
    TrafficOnly a.state (completed c h pl s a) := by
  obtain ⟨_, _, _, _, e⟩ := completed_eq c h pl s a
  rw [e]; rfl

/-! ### Changing one unit -/

/-- Only what a change makes of the unit itself matters. -/
theorem modify_congr {α : Type} {l : List α} {k : Nat} {f g : α → α} {d : α} (h : f (l.getD k d) = g (l.getD k d)) :
    l.modify k f = l.modify k g := by
  induction l generalizing k with
  | nil => simp
  | cons a l ih =>
    cases k with
    | zero => simpa using h
    | succ n => simpa using ih (by simpa using h)

theorem modify_modify {α : Type} (l : List α) (k : Nat) (f g : α → α) : (l.modify k f).modify k g = l.modify k (g ∘ f) := by
  induction l generalizing k with
  | nil => simp
  | cons a l ih => cases k <;> simp [ih]
theorem State.modBay_modBay (s : State) (b : Nat) (f g : Bay → Bay) : (s.modBay b f).modBay b g = s.modBay b (g ∘ f) := by
  unfold State.modBay; simp only [modify_modify]
theorem State.modCtx_modCtx (s : State) (b : Nat) (f g : Ctx → Ctx) : (s.modCtx b f).modCtx b g = s.modCtx b (g ∘ f) := by
  unfold State.modCtx; simp only [modify_modify]

/-- What a change leaves alone in its unit is as before, whether the unit exists or not. -/
theorem bay_modBay_same {α : Type} (p : Bay → α) {s : State} {b : Nat} {f : Bay → Bay} (h : p (f (s.bay b)) = p (s.bay b)) :
    p ((s.modBay b f).bay b) = p (s.bay b) := by
  by_cases hb : b < s.bays.length
  · rw [State.bay_modBay _ _ _ hb, h]
  · have : (s.modBay b f).bay b = s.bay b := by
      unfold State.bay State.modBay; simp [List.getD, hb]
    rw [this]
theorem ctx_modCtx_same {α : Type} (p : Ctx → α) {s : State} {c : Nat} {f : Ctx → Ctx} (h : p (f (s.ctx c)) = p (s.ctx c)) :
    p ((s.modCtx c f).ctx c) = p (s.ctx c) := by
  by_cases hb : c < s.ctxs.length
  · rw [State.ctx_modCtx _ _ _ hb, h]
  · have : (s.modCtx c f).ctx c = s.ctx c := by
      unfold State.ctx State.modCtx; simp [List.getD, hb]
    rw [this]

theorem modBay_congr {s : State} {b : Nat} {f g : Bay → Bay} (h : f (s.bay b) = g (s.bay b)) : s.modBay b f = s.modBay b g := by
  unfold State.modBay; rw [modify_congr h]
theorem modCtx_congr {s : State} {b : Nat} {f g : Ctx → Ctx} (h : f (s.ctx b) = g (s.ctx b)) : s.modCtx b f = s.modCtx b g := by
  unfold State.modCtx; rw [modify_congr h]
theorem modChan_congr {s : State} {b : Nat} {f g : Chan → Chan} (h : f (s.chan b) = g (s.chan b)) : s.modChan b f = s.modChan b g := by
  unfold State.modChan; rw [modify_congr h]
theorem modKey_congr {s : State} {b : Nat} {f g : KeySlot → KeySlot} (h : f (s.key b) = g (s.key b)) : s.modKey b f = s.modKey b g := by
  unfold State.modKey; rw [modify_congr h]
theorem modReader_congr {s : State} {b : Nat} {f g : Reader → Reader} (h : f (s.reader b) = g (s.reader b)) :
    s.modReader b f = s.modReader b g := by
  unfold State.modReader; rw [modify_congr h]

/-- A write that passes R331 is staged. -/
theorem stageWrite_ok {call : Call} {id off : Nat} {data new : Bytes} {s : State} {l : Layout} (hl : layout id = some l)
    (hw : (writeWorlds id).contains call.world = true) (hn : overlay (stageBase s call.port id) off data = new)
    (hsz : off + data.length ≤ l.size) (hok : objectOk l (stageBase s call.port id) new = true)
    (hst : (stagedOf (s.port call.port) id).isSome = true ∨ (s.port call.port).staging.length < 64) :
    stageWrite call id off data s = ok (stage call.port id new s) := by
  have hq : ((stagedOf (s.port call.port) id).isNone && Decidable.decide (64 ≤ (s.port call.port).staging.length)) = false := by
    rw [Bool.eq_false_iff]
    rcases hst with hst | hst
    · simp [Option.isSome_iff_ne_none.mp hst]
    · simp; omega
  have hsz' : ¬ l.size < off + data.length := by omega
  unfold stageWrite
  simp only [hl, hw, hn, hsz', hok, hq, Bool.not_true, Bool.false_eq_true, if_false]

theorem stage_begun_staged {c : Command} {h : Hdr} {pl : Bytes} {s : State} {id : Nat}
    (hst : (stagedOf (s.port h.port) id).isSome = true ∨ (s.port h.port).staging.length < 64) :
    (stagedOf ((begun c h pl s).port h.port) id).isSome = true ∨ ((begun c h pl s).port h.port).staging.length < 64 := by
  simpa only [stagedOf, begun_port_staging] using hst

/-- An accepted command is begun, runs its own rules and is completed. -/
theorem receive_accepted {c : Command} {h : Hdr} {pl : Bytes} {s : State} (ha : Accepted c h pl s) :
    receive c h pl s = completed c h pl s (c.body (callOf c h) pl (begun c h pl s)) := by
  obtain ⟨hr, han, hl, hv, hf, ht, hd, ho, hn, hw, hws, hlife, hdoor, hlen, hrsv⟩ := ha
  have hb : runBody c (callOf c h) pl (begun c h pl s) = c.body (callOf c h) pl (begun c h pl s) := by
    have hw' : (h.world == 0 || h.world == ((begun c h pl s).port h.port).world.code) = true := by
      have e : ((begun c h pl s).port h.port).world = (s.port h.port).world := by
        obtain ⟨port, world, tag, version, flags⟩ := h
        unfold begun touchWorld
        split <;> cases port <;> simp [State.port, State.modPort]
      rw [e]; simpa using hw
    obtain ⟨a, b, u, r, e⟩ := begun_eq c h pl s
    have hu : useRefusal c (callOf c h) (begun c h pl s) = none := by
      unfold useRefusal
      have h1 : (begun c h pl s).life = s.life := by rw [e]
      have h2 : doorShowsOpen (begun c h pl s) = doorShowsOpen s := by rw [e]; rfl
      simp only [callOf_world, callOf_port, hw', hws, h1, h2, hlife, Bool.not_true, Bool.false_eq_true, if_false]
      cases hd : c.door <;> simp
      exact hdoor hd
    unfold runBody
    rw [hu]
    simp [hlen, hrsv]
  have hnow : (touchWorld (callOf c h) (arrived h.port pl.length s)).time.now = s.time.now := by
    obtain ⟨_, _, e⟩ := arrived_eq h.port pl.length s
    rw [touchWorld_time, e]
  unfold receive
  rw [hr, han]
  simp only [Bool.not_true, Bool.or_self, Bool.false_eq_true, if_false]
  rw [if_neg (by omega)]
  change screen h c.op 0 pl.length _ false (runCommand c (callOf c h) pl pl.length _) (touchWorld (callOf c h) _) = _
  unfold screen
  simp only [hv, hf, bne_self_eq_false, Bool.false_or, Bool.false_eq_true, if_false, beq_self_eq_true, if_true, touchWorld_dupOf,
    arrived_port, hd]
  rw [if_neg (by simpa using ht)]
  unfold screen.screenTag
  simp only [Bool.false_eq_true, if_false, touchWorld_outstanding, arrived_port, ho]
  rw [if_neg (by omega)]
  unfold runCommand
  rw [hnow]
  change completed c h pl s (runBody c (callOf c h) pl (begun c h pl s)) = _
  rw [hb]

/-- The form of every host command's completion. -/
theorem completes_of_accepted {i : Instr} {c : Command} {h : Hdr} {pl : Bytes} {s : State} {a : State → Ans}
    (ha : Accepted c h pl s) (he : exec i s = hostCmd c h pl s)
    (hb : c.body (callOf c h) pl (begun c h pl s) = a (begun c h pl s)) : Completes i c h pl s a := by
  unfold Completes
  rw [he, hostCmd, receive_accepted ha, hb]

/-! ### Traffic and reports -/

theorem ReportsOnly.refl (s : State) : ReportsOnly s s := rfl

theorem ReportsOnly.trans {s t u : State} (h1 : ReportsOnly s t) (h2 : ReportsOnly t u) : ReportsOnly s u := by
  unfold ReportsOnly at *
  rw [h1] at h2
  exact h2

theorem count_reports (ev inst n : Nat) (s : State) : ReportsOnly s (count ev inst n s) := rfl

theorem record_reports (type src sev : Nat) (pl : Bytes) (s : State) : ReportsOnly s (record type src sev pl s) := by
  unfold record recordAs
  split
  · rfl
  · split
    · rfl
    · unfold bufferRecord
      dsimp only
      split <;> rfl

theorem ntfToPort_reports (op : Nat) (pl : Bytes) (cmd : Option CmdRef) (status : Nat) (p : HostPort) (s : State) :
    ReportsOnly s (ntfToPort op pl cmd status p s) := by
  unfold ntfToPort
  dsimp only
  split
  · rfl
  · cases p <;> rfl

theorem freeTag_reports (cmd : Option CmdRef) (s : State) : ReportsOnly s (freeTag cmd s) := by
  unfold freeTag
  split
  · rename_i c
    obtain ⟨p, t, o⟩ := c
    cases p <;> rfl
  · rfl

/-- Raising a notification changes reports alone. -/
theorem notifyFull_reports (op src sev : Nat) (pl : Bytes) (cmd : Option CmdRef) (status : Nat) (s : State) :
    ReportsOnly s (notifyFull op src sev pl cmd status s) := by
  unfold notifyFull
  dsimp only
  have h := ((ntfToPort_reports op pl cmd status .spi s).trans (ntfToPort_reports op pl cmd status .uart _)).trans (freeTag_reports cmd _)
  split
  · exact h.trans (record_reports _ _ _ _ _)
  · exact h

theorem traffic_reports {s t : State} (h : ReportsOnly s t) : TrafficOnly s t := by
  unfold ReportsOnly at h
  unfold TrafficOnly
  rw [h]

theorem traffic_modPort (p : HostPort) (f : PortState → PortState) (s : State) : TrafficOnly s (s.modPort p f) := by
  cases p <;> rfl

theorem traffic_send (p : HostPort) (l : List OutPkt) (s : State) : TrafficOnly s (send p l s) := by
  cases p <;> rfl

theorem traffic_reply (p : HostPort) (w op tag : Nat) (d : Bool) (b : Bytes) (s : State) : TrafficOnly s (reply p w op tag d b s) := by
  cases p <;> rfl

theorem traffic_arrived (p : HostPort) (n : Nat) (s : State) : TrafficOnly s (arrived p n s) := by
  cases p <;> rfl

theorem traffic_touchWorld (c : Call) (s : State) : TrafficOnly s (touchWorld c s) := by
  unfold touchWorld
  split
  · exact traffic_modPort _ _ _
  · rfl

/-- A row that is a host command is received. -/
theorem exec_hostRow {i : Instr} {c : Command} {h : Hdr} {pl : Bytes} (hr : hostRow i = some (c, h, pl)) (s : State) :
    exec i s = .next (receive c h pl s) := by
  cases i <;> first | (cases hr; rfl) | (cases hr)

end Sys2Proof.Machine
end

