-- ==== Sys2Proof/Laws/Keeps.lean ====
section
/-! SUPPORT. What no helper changes: the queue of waiting commands and the number of units of each kind (the skeleton of a
state), and, but for the few that write them, the two memories. One lemma per function; a proof about the whole machine
cites it and unfolds nothing. -/

namespace Sys2Proof.Machine

open Sys2Proof

/-- The waiting commands and the number of units of each kind. -/
def State.skel (s : State) : List Instr × List Nat :=
  (s.pending, [s.bays.length, s.ctxs.length, s.chans.length, s.keys.length, s.readers.length, s.images.kinds.length,
    s.safety.peers.length])

/-- The two memories. -/
def State.mem (s : State) : List Host.Cell × List Host.Cell := (s.disp.frame, s.tag.phys)

/-- Both memories are in canonical form. -/
def State.wfMem (s : State) : Prop := Memory.wf s.mem.1 = true ∧ Memory.wf s.mem.2 = true

section
variable (life : Lifecycle) (clk : PhaseClock) (time : TimeBase) (power : Power) (spi uart : PortState) (uartRate : UartState)
  (params commits : List ParamObj) (bays : List Bay) (ctxs : List Ctx) (queue : List QEntry) (met : Metering)
  (intervals : Intervals) (cals : Calendars) (legal : Legal) (creds : Creds) (budget : Budget) (safety : Safety)
  (cont : Continuity) (keys : List KeySlot) (images : Images) (recorder : Recorder) (perf : Perf) (chans : List Chan)
  (groups : List LoadGroup) (disp : Display) (readers : List Reader) (tag : Tag) (mains : Mains) (sitePeers : List SitePeer)
  (canOut : List CanFrame) (draws : Nat) (pending : List Instr) (x : State)

/-- An update that leaves the units alone keeps the skeleton. -/
@[simp ↓] theorem skel_mk : (State.mk life clk time power spi uart uartRate params commits x.bays x.ctxs queue met intervals cals
    legal creds budget x.safety cont x.keys x.images recorder perf x.chans groups disp x.readers tag mains sitePeers canOut
    draws x.pending).skel = x.skel := rfl

/-- An update of the units that keeps their numbers keeps the skeleton. -/
@[simp ↓ low] theorem skel_mk_len (h1 : bays.length = x.bays.length) (h2 : ctxs.length = x.ctxs.length) (h3 : chans.length = x.chans.length)
    (h4 : keys.length = x.keys.length) (h5 : readers.length = x.readers.length)
    (h6 : images.kinds.length = x.images.kinds.length) (h7 : safety.peers.length = x.safety.peers.length) :
    (State.mk life clk time power spi uart uartRate params commits bays ctxs queue met intervals cals
    legal creds budget safety cont keys images recorder perf chans groups disp readers tag mains sitePeers canOut
    draws x.pending).skel = x.skel := by simp [State.skel, h1, h2, h3, h4, h5, h6, h7]

/-- An update that leaves display and tag alone keeps the memories. -/
@[simp ↓] theorem mem_mk : (State.mk life clk time power spi uart uartRate params commits bays ctxs queue met intervals cals
    legal creds budget safety cont keys images recorder perf chans groups x.disp readers x.tag mains sitePeers canOut
    draws pending).mem = x.mem := rfl

/-- An update of display and tag that leaves their memories alone keeps them. -/
@[simp ↓ low] theorem mem_mk_mem (h1 : disp.frame = x.disp.frame) (h2 : tag.phys = x.tag.phys) :
    (State.mk life clk time power spi uart uartRate params commits bays ctxs queue met intervals cals
    legal creds budget safety cont keys images recorder perf chans groups disp readers tag mains sitePeers canOut
    draws x.pending).mem = x.mem := by simp [State.mem, h1, h2]
end

@[simp ↓] theorem skel_ite (c : Prop) [Decidable c] (a b : State) : (if c then a else b).skel = if c then a.skel else b.skel := by
  split <;> rfl
@[simp ↓] theorem mem_ite (c : Prop) [Decidable c] (a b : State) : (if c then a else b).mem = if c then a.mem else b.mem := by
  split <;> rfl
@[simp ↓] theorem ans_ite (c : Prop) [Decidable c] (a b : Ans) : (if c then a else b).state = if c then a.state else b.state := by
  split <;> rfl

@[simp ↓] theorem skel_foldl {α : Type} (f : State → α → State) (h : ∀ s a, (f s a).skel = s.skel) (l : List α) (s : State) :
    (l.foldl f s).skel = s.skel := by
  induction l generalizing s with
  | nil => rfl
  | cons a l ih => rw [List.foldl_cons, ih, h]
@[simp ↓] theorem mem_foldl {α : Type} (f : State → α → State) (h : ∀ s a, (f s a).mem = s.mem) (l : List α) (s : State) :
    (l.foldl f s).mem = s.mem := by
  induction l generalizing s with
  | nil => rfl
  | cons a l ih => rw [List.foldl_cons, ih, h]

theorem wfMem_foldl {α : Type} (f : State → α → State) (h : ∀ s a, s.wfMem → (f s a).wfMem) (l : List α) (s : State) (hs : s.wfMem) :
    (l.foldl f s).wfMem := by
  induction l generalizing s with
  | nil => exact hs
  | cons a l ih => exact ih _ (h _ _ hs)

/-- An answer of the machine keeps the skeleton and the canonical form of the memories. -/
def OutKeeps (s : State) : Out → Prop
  | .next t => t.skel = s.skel ∧ (s.wfMem → t.wfMem)
  | _ => True

/-! ### Helpers, in the order of the files -/

@[simp ↓] theorem State_modBay_keeps (s : State) (a1 : Nat) (a2 : Bay → Bay) : (State.modBay s a1 a2).skel = s.skel ∧ (State.modBay s a1 a2).mem = s.mem := by
  unfold State.modBay
  try dsimp only
  simp
@[simp ↓] theorem State_modCtx_keeps (s : State) (a1 : Nat) (a2 : Ctx → Ctx) : (State.modCtx s a1 a2).skel = s.skel ∧ (State.modCtx s a1 a2).mem = s.mem := by
  unfold State.modCtx
  try dsimp only
  simp
@[simp ↓] theorem State_modChan_keeps (s : State) (a1 : Nat) (a2 : Chan → Chan) : (State.modChan s a1 a2).skel = s.skel ∧ (State.modChan s a1 a2).mem = s.mem := by
  unfold State.modChan
  try dsimp only
  simp
@[simp ↓] theorem State_modKey_keeps (s : State) (a1 : Nat) (a2 : KeySlot → KeySlot) : (State.modKey s a1 a2).skel = s.skel ∧ (State.modKey s a1 a2).mem = s.mem := by
  unfold State.modKey
  try dsimp only
  simp
@[simp ↓] theorem State_modReader_keeps (s : State) (a1 : Nat) (a2 : Reader → Reader) : (State.modReader s a1 a2).skel = s.skel ∧ (State.modReader s a1 a2).mem = s.mem := by
  unfold State.modReader
  try dsimp only
  simp
@[simp ↓] theorem State_modPeer_keeps (s : State) (a1 : Nat) (a2 : Peer → Peer) : (State.modPeer s a1 a2).skel = s.skel ∧ (State.modPeer s a1 a2).mem = s.mem := by
  unfold State.modPeer
  try dsimp only
  simp
@[simp ↓] theorem State_modPort_keeps (s : State) (a1 : HostPort) (a2 : PortState → PortState) : (State.modPort s a1 a2).skel = s.skel ∧ (State.modPort s a1 a2).mem = s.mem := by
  unfold State.modPort
  try dsimp only
  (repeat' split) <;> simp
@[simp ↓] theorem State_modImage_keeps (s : State) (a1 : ImageKind) (a2 : ImageSlot → ImageSlot) : (State.modImage s a1 a2).skel = s.skel ∧ (State.modImage s a1 a2).mem = s.mem := by
  unfold State.modImage
  try dsimp only
  simp
@[simp ↓] theorem State_putParam_keeps (s : State) (a1 : Nat) (a2 : Bytes) : (State.putParam s a1 a2).skel = s.skel ∧ (State.putParam s a1 a2).mem = s.mem := by
  unfold State.putParam
  try dsimp only
  simp
@[simp ↓] theorem State_random_keeps (s : State) (a1 : Nat) : (State.random s a1).2.skel = s.skel ∧ (State.random s a1).2.mem = s.mem := by
  unfold State.random
  try dsimp only
  simp
@[simp ↓] theorem State_choice_keeps (s : State) : (State.choice s).2.skel = s.skel ∧ (State.choice s).2.mem = s.mem := by
  unfold State.choice
  try dsimp only
  simp
@[simp ↓] theorem modCounters_keeps (a0 : Nat) (a1 : Nat) (a2 : Counter → Counter) (s : State) : (modCounters a0 a1 a2 s).skel = s.skel ∧ (modCounters a0 a1 a2 s).mem = s.mem := by
  unfold modCounters
  try dsimp only
  simp
@[simp ↓] theorem count_keeps (a0 : Nat) (a1 : Nat) (a2 : Nat) (s : State) : (count a0 a1 a2 s).skel = s.skel ∧ (count a0 a1 a2 s).mem = s.mem := by
  unfold count
  try dsimp only
  simp
@[simp ↓] theorem level_keeps (a0 : Nat) (a1 : Nat) (a2 : Nat) (s : State) : (level a0 a1 a2 s).skel = s.skel ∧ (level a0 a1 a2 s).mem = s.mem := by
  unfold level
  try dsimp only
  simp
@[simp ↓] theorem levelAtBoundary_keeps (a0 : Nat) (a1 : Nat) (a2 : Nat) (s : State) : (levelAtBoundary a0 a1 a2 s).skel = s.skel ∧ (levelAtBoundary a0 a1 a2 s).mem = s.mem := by
  unfold levelAtBoundary
  try dsimp only
  simp
@[simp ↓] theorem closeCycleCounters_keeps (s : State) : (closeCycleCounters s).skel = s.skel ∧ (closeCycleCounters s).mem = s.mem := by
  unfold closeCycleCounters
  try dsimp only
  simp
@[simp ↓] theorem bufferRecord_keeps (a0 : Nat) (a1 : Nat) (a2 : Nat) (a3 : Bytes) (a4 : Bool) (s : State) : (bufferRecord a0 a1 a2 a3 a4 s).skel = s.skel ∧ (bufferRecord a0 a1 a2 a3 a4 s).mem = s.mem := by
  unfold bufferRecord
  try dsimp only
  simp
@[simp ↓] theorem recordAs_keeps (a0 : Nat) (a1 : Nat) (a2 : Nat) (a3 : Bytes) (a4 : Bool) (s : State) : (recordAs a0 a1 a2 a3 a4 s).skel = s.skel ∧ (recordAs a0 a1 a2 a3 a4 s).mem = s.mem := by
  unfold recordAs
  try dsimp only
  (repeat' split) <;> simp
@[simp ↓] theorem record_keeps (a0 : Nat) (a1 : Nat) (a2 : Nat) (a3 : Bytes) (s : State) : (record a0 a1 a2 a3 s).skel = s.skel ∧ (record a0 a1 a2 a3 s).mem = s.mem := by
  unfold record
  try dsimp only
  simp
@[simp ↓] theorem flushRecords_keeps (a0 : EventRec → Bool) (s : State) : (flushRecords a0 s).skel = s.skel ∧ (flushRecords a0 s).mem = s.mem := by
  unfold flushRecords
  try dsimp only
  simp
@[simp ↓] theorem flushAllRecords_keeps (s : State) : (flushAllRecords s).skel = s.skel ∧ (flushAllRecords s).mem = s.mem := by
  unfold flushAllRecords
  try dsimp only
  simp
@[simp ↓] theorem askFlush_keeps (s : State) : (askFlush s).skel = s.skel ∧ (askFlush s).mem = s.mem := by
  unfold askFlush
  try dsimp only
  simp
@[simp ↓] theorem logbook_keeps (a0 : Nat) (a1 : Nat) (a2 : Bytes) (a3 : Bytes) (s : State) : (logbook a0 a1 a2 a3 s).skel = s.skel ∧ (logbook a0 a1 a2 a3 s).mem = s.mem := by
  unfold logbook
  try dsimp only
  simp
@[simp ↓] theorem logbookNow_keeps (a0 : Nat) (a1 : Nat) (a2 : Bytes) (s : State) : (logbookNow a0 a1 a2 s).skel = s.skel ∧ (logbookNow a0 a1 a2 s).mem = s.mem := by
  unfold logbookNow
  try dsimp only
  simp
@[simp ↓] theorem ntfToPort_keeps (a0 : Nat) (a1 : Bytes) (a2 : Option CmdRef) (a3 : Nat) (a4 : HostPort) (s : State) : (ntfToPort a0 a1 a2 a3 a4 s).skel = s.skel ∧ (ntfToPort a0 a1 a2 a3 a4 s).mem = s.mem := by
  unfold ntfToPort
  try dsimp only
  simp
@[simp ↓] theorem freeTag_keeps (a0 : Option CmdRef) (s : State) : (freeTag a0 s).skel = s.skel ∧ (freeTag a0 s).mem = s.mem := by
  unfold freeTag
  try dsimp only
  (repeat' split) <;> simp
@[simp ↓] theorem notifyFull_keeps (a0 : Nat) (a1 : Nat) (a2 : Nat) (a3 : Bytes) (a4 : Option CmdRef) (a5 : Nat) (s : State) : (notifyFull a0 a1 a2 a3 a4 a5 s).skel = s.skel ∧ (notifyFull a0 a1 a2 a3 a4 a5 s).mem = s.mem := by
  unfold notifyFull
  try dsimp only
  (repeat' split) <;> simp
@[simp ↓] theorem notify_keeps (a0 : Nat) (a1 : Nat) (a2 : Bytes) (s : State) : (notify a0 a1 a2 s).skel = s.skel ∧ (notify a0 a1 a2 s).mem = s.mem := by
  unfold notify
  try dsimp only
  simp
@[simp ↓] theorem ntfBayFull_keeps (a0 : Nat) (a1 : Nat) (a2 : Bytes) (a3 : Option CmdRef) (a4 : Nat) (s : State) : (ntfBayFull a0 a1 a2 a3 a4 s).skel = s.skel ∧ (ntfBayFull a0 a1 a2 a3 a4 s).mem = s.mem := by
  unfold ntfBayFull
  try dsimp only
  simp
@[simp ↓] theorem ntfBay_keeps (a0 : Nat) (a1 : Nat) (a2 : Bytes) (s : State) : (ntfBay a0 a1 a2 s).skel = s.skel ∧ (ntfBay a0 a1 a2 s).mem = s.mem := by
  unfold ntfBay
  try dsimp only
  simp
@[simp ↓] theorem ntfCtxFull_keeps (a0 : Nat) (a1 : CtxState) (a2 : CtxState) (a3 : Nat) (a4 : Bytes) (a5 : Option CmdRef) (a6 : Nat) (s : State) : (ntfCtxFull a0 a1 a2 a3 a4 a5 a6 s).skel = s.skel ∧ (ntfCtxFull a0 a1 a2 a3 a4 a5 a6 s).mem = s.mem := by
  unfold ntfCtxFull
  try dsimp only
  simp
@[simp ↓] theorem ntfCtx_keeps (a0 : Nat) (a1 : Nat) (a2 : Bytes) (s : State) : (ntfCtx a0 a1 a2 s).skel = s.skel ∧ (ntfCtx a0 a1 a2 s).mem = s.mem := by
  unfold ntfCtx
  try dsimp only
  simp
@[simp ↓] theorem ntfSafety_keeps (a0 : Nat) (a1 : Nat) (a2 : Nat) (s : State) : (ntfSafety a0 a1 a2 s).skel = s.skel ∧ (ntfSafety a0 a1 a2 s).mem = s.mem := by
  unfold ntfSafety
  try dsimp only
  simp
@[simp ↓] theorem ntfPower_keeps (a0 : Nat) (a1 : Bytes) (s : State) : (ntfPower a0 a1 s).skel = s.skel ∧ (ntfPower a0 a1 s).mem = s.mem := by
  unfold ntfPower
  try dsimp only
  simp
@[simp ↓] theorem ntfLswFull_keeps (a0 : Nat) (a1 : Nat) (a2 : Option CmdRef) (a3 : Nat) (s : State) : (ntfLswFull a0 a1 a2 a3 s).skel = s.skel ∧ (ntfLswFull a0 a1 a2 a3 s).mem = s.mem := by
  unfold ntfLswFull
  try dsimp only
  simp
@[simp ↓] theorem ntfLsw_keeps (a0 : Nat) (a1 : Nat) (s : State) : (ntfLsw a0 a1 s).skel = s.skel ∧ (ntfLsw a0 a1 s).mem = s.mem := by
  unfold ntfLsw
  try dsimp only
  simp
@[simp ↓] theorem ntfTakeover_keeps (a0 : Nat) (a1 : Nat) (a2 : Nat) (a3 : Nat) (a4 : Nat) (a5 : Nat) (a6 : Nat) (s : State) : (ntfTakeover a0 a1 a2 a3 a4 a5 a6 s).skel = s.skel ∧ (ntfTakeover a0 a1 a2 a3 a4 a5 a6 s).mem = s.mem := by
  unfold ntfTakeover
  try dsimp only
  simp
@[simp ↓] theorem ntfRdrFull_keeps (a0 : Nat) (a1 : Nat) (a2 : Option (CardKind × Bytes)) (a3 : Nat) (a4 : Nat) (a5 : Nat) (a6 : Nat) (a7 : Option CmdRef) (a8 : Nat) (s : State) : (ntfRdrFull a0 a1 a2 a3 a4 a5 a6 a7 a8 s).skel = s.skel ∧ (ntfRdrFull a0 a1 a2 a3 a4 a5 a6 a7 a8 s).mem = s.mem := by
  unfold ntfRdrFull
  try dsimp only
  simp
@[simp ↓] theorem ntfRdr_keeps (a0 : Nat) (a1 : Nat) (a2 : Option (CardKind × Bytes)) (s : State) : (ntfRdr a0 a1 a2 s).skel = s.skel ∧ (ntfRdr a0 a1 a2 s).mem = s.mem := by
  unfold ntfRdr
  try dsimp only
  simp
@[simp ↓] theorem tick_keeps (s : State) : (tick s).skel = s.skel ∧ (tick s).mem = s.mem := by
  unfold tick
  try dsimp only
  simp
@[simp ↓] theorem deadReckon_keeps (s : State) : (deadReckon s).skel = s.skel ∧ (deadReckon s).mem = s.mem := by
  unfold deadReckon
  try dsimp only
  simp
@[simp ↓] theorem switchOn_keeps (a0 : Nat) (s : State) : (switchOn a0 s).skel = s.skel ∧ (switchOn a0 s).mem = s.mem := by
  unfold switchOn
  try dsimp only
  simp
@[simp ↓] theorem switchOff_keeps (a0 : Nat) (s : State) : (switchOff a0 s).skel = s.skel ∧ (switchOff a0 s).mem = s.mem := by
  unfold switchOff
  try dsimp only
  simp
@[simp ↓] theorem commandOn_keeps (a0 : Nat) (s : State) : (commandOn a0 s).skel = s.skel ∧ (commandOn a0 s).mem = s.mem := by
  unfold commandOn
  try dsimp only
  simp
@[simp ↓] theorem commandOff_keeps (a0 : Nat) (s : State) : (commandOff a0 s).skel = s.skel ∧ (commandOff a0 s).mem = s.mem := by
  unfold commandOff
  try dsimp only
  simp
@[simp ↓] theorem hostOn_keeps (a0 : Nat) (s : State) : (hostOn a0 s).skel = s.skel ∧ (hostOn a0 s).mem = s.mem := by
  unfold hostOn
  try dsimp only
  simp
@[simp ↓] theorem dropEntries_keeps (a0 : QEntry → Bool) (s : State) : (dropEntries a0 s).skel = s.skel ∧ (dropEntries a0 s).mem = s.mem := by
  unfold dropEntries
  try dsimp only
  simp
@[simp ↓] theorem enqueue_keeps (a0 : QEntry) (s : State) : (enqueue a0 s).skel = s.skel ∧ (enqueue a0 s).mem = s.mem := by
  unfold enqueue
  try dsimp only
  simp
@[simp ↓] theorem refuse_keeps (s : State) (a1 : Nat) : (refuse s a1).state.skel = s.skel ∧ (refuse s a1).state.mem = s.mem := by
  unfold refuse
  try dsimp only
  simp
@[simp ↓] theorem ok_keeps (s : State) : (ok s).state.skel = s.skel ∧ (ok s).state.mem = s.mem := by
  unfold ok
  try dsimp only
  simp
@[simp ↓] theorem okWith_keeps (s : State) (a1 : Bytes) : (okWith s a1).state.skel = s.skel ∧ (okWith s a1).state.mem = s.mem := by
  unfold okWith
  try dsimp only
  simp
@[simp ↓] theorem pending_keeps (s : State) : (pending s).state.skel = s.skel ∧ (pending s).state.mem = s.mem := by
  unfold pending
  try dsimp only
  simp
@[simp ↓] theorem send_keeps (a0 : HostPort) (a1 : List OutPkt) (s : State) : (send a0 a1 s).skel = s.skel ∧ (send a0 a1 s).mem = s.mem := by
  unfold send
  try dsimp only
  (repeat' split) <;> simp
@[simp ↓] theorem reply_keeps (a0 : HostPort) (a1 : Nat) (a2 : Nat) (a3 : Nat) (a4 : Bool) (a5 : Bytes) (s : State) : (reply a0 a1 a2 a3 a4 a5 s).skel = s.skel ∧ (reply a0 a1 a2 a3 a4 a5 s).mem = s.mem := by
  unfold reply
  try dsimp only
  simp
@[simp ↓] theorem replyStatus_keeps (a0 : HostPort) (a1 : Nat) (a2 : Nat) (a3 : Nat) (a4 : Nat) (s : State) : (replyStatus a0 a1 a2 a3 a4 s).skel = s.skel ∧ (replyStatus a0 a1 a2 a3 a4 s).mem = s.mem := by
  unfold replyStatus
  try dsimp only
  simp
@[simp ↓] theorem touchWorld_keeps (a0 : Call) (s : State) : (touchWorld a0 s).skel = s.skel ∧ (touchWorld a0 s).mem = s.mem := by
  unfold touchWorld
  try dsimp only
  simp
@[simp ↓] theorem arrived_keeps (a0 : HostPort) (a1 : Nat) (s : State) : (arrived a0 a1 s).skel = s.skel ∧ (arrived a0 a1 s).mem = s.mem := by
  unfold arrived
  try dsimp only
  (repeat' split) <;> simp
@[simp ↓] theorem grantPermission_keeps (a0 : Nat) (s : State) : (grantPermission a0 s).skel = s.skel ∧ (grantPermission a0 s).mem = s.mem := by
  unfold grantPermission
  try dsimp only
  simp
@[simp ↓] theorem withdrawEnables_keeps (a0 : Nat) (s : State) : (withdrawEnables a0 s).skel = s.skel ∧ (withdrawEnables a0 s).mem = s.mem := by
  unfold withdrawEnables
  try dsimp only
  simp
@[simp ↓] theorem State_modHd_keeps (s : State) (a1 : Nat) (a2 : CtxHeader → CtxHeader) : (State.modHd s a1 a2).skel = s.skel ∧ (State.modHd s a1 a2).mem = s.mem := by
  unfold State.modHd
  try dsimp only
  simp
@[simp ↓] theorem State_modWk_keeps (s : State) (a1 : Nat) (a2 : CtxWork → CtxWork) : (State.modWk s a1 a2).skel = s.skel ∧ (State.modWk s a1 a2).mem = s.mem := by
  unfold State.modWk
  try dsimp only
  simp
@[simp ↓] theorem markDirty_keeps (s : State) : (markDirty s).skel = s.skel ∧ (markDirty s).mem = s.mem := by
  unfold markDirty
  try dsimp only
  simp
@[simp ↓] theorem completeStart_keeps (a0 : Nat) (a1 : Nat) (a2 : CtxState) (s : State) : (completeStart a0 a1 a2 s).skel = s.skel ∧ (completeStart a0 a1 a2 s).mem = s.mem := by
  unfold completeStart
  try dsimp only
  simp
@[simp ↓] theorem wakeQuiet_keeps (s : State) : (wakeQuiet s).skel = s.skel ∧ (wakeQuiet s).mem = s.mem := by
  unfold wakeQuiet
  try dsimp only
  simp
@[simp ↓] theorem toCtxState_keeps (a0 : Nat) (a1 : CtxState) (a2 : Nat) (a3 : Bytes) (a4 : Option CmdRef) (a5 : Nat) (s : State) : (toCtxState a0 a1 a2 a3 a4 a5 s).skel = s.skel ∧ (toCtxState a0 a1 a2 a3 a4 a5 s).mem = s.mem := by
  unfold toCtxState
  try dsimp only
  simp
@[simp ↓] theorem moveCtx_keeps (a0 : Nat) (a1 : CtxState) (a2 : Nat) (a3 : Bytes) (a4 : Nat) (s : State) : (moveCtx a0 a1 a2 a3 a4 s).skel = s.skel ∧ (moveCtx a0 a1 a2 a3 a4 s).mem = s.mem := by
  unfold moveCtx
  try dsimp only
  simp
@[simp ↓] theorem bindTo_keeps (a0 : Nat) (a1 : Nat) (s : State) : (bindTo a0 a1 s).skel = s.skel ∧ (bindTo a0 a1 s).mem = s.mem := by
  unfold bindTo
  try dsimp only
  simp
@[simp ↓] theorem openCtx_keeps (a0 : Nat) (a1 : Bool) (a2 : Option Nat) (a3 : Nat) (a4 : Nat) (s : State) : (openCtx a0 a1 a2 a3 a4 s).skel = s.skel ∧ (openCtx a0 a1 a2 a3 a4 s).mem = s.mem := by
  unfold openCtx
  try dsimp only
  simp
@[simp ↓] theorem openForBay_keeps (a0 : Nat) (s : State) : (openForBay a0 s).skel = s.skel ∧ (openForBay a0 s).mem = s.mem := by
  unfold openForBay
  try dsimp only
  (repeat' split) <;> simp
@[simp ↓] theorem serveWaiting_keeps (s : State) : (serveWaiting s).skel = s.skel ∧ (serveWaiting s).mem = s.mem := by
  unfold serveWaiting
  try dsimp only
  (repeat' split) <;> simp
@[simp ↓] theorem unbind_keeps (a0 : Nat) (s : State) : (unbind a0 s).skel = s.skel ∧ (unbind a0 s).mem = s.mem := by
  unfold unbind
  try dsimp only
  (repeat' split) <;> simp
@[simp ↓] theorem freeContext_keeps (a0 : Nat) (a1 : Nat) (a2 : Bytes) (s : State) : (freeContext a0 a1 a2 s).skel = s.skel ∧ (freeContext a0 a1 a2 s).mem = s.mem := by
  unfold freeContext
  try dsimp only
  simp
@[simp ↓] theorem setBayFull_keeps (a0 : Nat) (a1 : BayState) (a2 : Nat) (a3 : Option CmdRef) (a4 : Nat) (s : State) : (setBayFull a0 a1 a2 a3 a4 s).skel = s.skel ∧ (setBayFull a0 a1 a2 a3 a4 s).mem = s.mem := by
  unfold setBayFull
  try dsimp only
  simp
@[simp ↓] theorem setBay_keeps (a0 : Nat) (a1 : BayState) (a2 : Nat) (s : State) : (setBay a0 a1 a2 s).skel = s.skel ∧ (setBay a0 a1 a2 s).mem = s.mem := by
  unfold setBay
  try dsimp only
  simp
@[simp ↓] theorem setBayFor_keeps (a0 : Nat) (a1 : BayState) (a2 : Nat) (a3 : List CmdRef) (s : State) : (setBayFor a0 a1 a2 a3 s).skel = s.skel ∧ (setBayFor a0 a1 a2 a3 s).mem = s.mem := by
  unfold setBayFor
  try dsimp only
  simp
@[simp ↓] theorem driveNext_keeps (a0 : Nat) (a1 : CpoDrive) (a2 : Nat) (s : State) : (driveNext a0 a1 a2 s).skel = s.skel ∧ (driveNext a0 a1 a2 s).mem = s.mem := by
  unfold driveNext
  try dsimp only
  simp
@[simp ↓] theorem driveF_keeps (a0 : Nat) (s : State) : (driveF a0 s).skel = s.skel ∧ (driveF a0 s).mem = s.mem := by
  unfold driveF
  try dsimp only
  simp
@[simp ↓] theorem enterFault_keeps (a0 : Nat) (a1 : Nat) (s : State) : (enterFault a0 a1 s).skel = s.skel ∧ (enterFault a0 a1 s).mem = s.mem := by
  unfold enterFault
  try dsimp only
  simp
@[simp ↓] theorem driveLock_keeps (a0 : Nat) (a1 : Bool) (a2 : Nat) (s : State) : (driveLock a0 a1 a2 s).skel = s.skel ∧ (driveLock a0 a1 a2 s).mem = s.mem := by
  unfold driveLock
  try dsimp only
  simp
@[simp ↓] theorem startLock_keeps (a0 : Nat) (s : State) : (startLock a0 s).skel = s.skel ∧ (startLock a0 s).mem = s.mem := by
  unfold startLock
  try dsimp only
  simp
@[simp ↓] theorem releaseLock_keeps (a0 : Nat) (s : State) : (releaseLock a0 s).skel = s.skel ∧ (releaseLock a0 s).mem = s.mem := by
  unfold releaseLock
  try dsimp only
  simp
@[simp ↓] theorem tryUnlock_keeps (a0 : Nat) (s : State) : (tryUnlock a0 s).skel = s.skel ∧ (tryUnlock a0 s).mem = s.mem := by
  unfold tryUnlock
  try dsimp only
  simp
@[simp ↓] theorem queueClose_keeps (a0 : Nat) (a1 : Nat) (a2 : QEntry) (a3 : Nat) (a4 : Nat) (s : State) : (queueClose a0 a1 a2 a3 a4 s).skel = s.skel ∧ (queueClose a0 a1 a2 a3 a4 s).mem = s.mem := by
  unfold queueClose
  try dsimp only
  simp
@[simp ↓] theorem runSelfTest_keeps (a0 : Nat) (a1 : Nat) (s : State) : (runSelfTest a0 a1 s).skel = s.skel ∧ (runSelfTest a0 a1 s).mem = s.mem := by
  unfold runSelfTest
  try dsimp only
  simp
@[simp ↓] theorem startSelfTest_keeps (a0 : Nat) (a1 : Option CmdRef) (s : State) : (startSelfTest a0 a1 s).skel = s.skel ∧ (startSelfTest a0 a1 s).mem = s.mem := by
  unfold startSelfTest
  try dsimp only
  simp
@[simp ↓] theorem autoClose_keeps (a0 : Nat) (s : State) : (autoClose a0 s).skel = s.skel ∧ (autoClose a0 s).mem = s.mem := by
  unfold autoClose
  try dsimp only
  (repeat' split) <;> simp
@[simp ↓] theorem noteReasons_keeps (a0 : Nat) (a1 : List Nat) (s : State) : (noteReasons a0 a1 s).skel = s.skel ∧ (noteReasons a0 a1 s).mem = s.mem := by
  unfold noteReasons
  try dsimp only
  simp
@[simp ↓] theorem dropBound_keeps (a0 : Nat) (s : State) : (dropBound a0 s).skel = s.skel ∧ (dropBound a0 s).mem = s.mem := by
  unfold dropBound
  try dsimp only
  (repeat' split) <;> simp
@[simp ↓] theorem leaveReady_keeps (a0 : Nat) (a1 : Nat) (s : State) : (leaveReady a0 a1 s).skel = s.skel ∧ (leaveReady a0 a1 s).mem = s.mem := by
  unfold leaveReady
  try dsimp only
  simp
@[simp ↓] theorem ctxReady_keeps (a0 : Nat) (s : State) : (ctxReady a0 s).skel = s.skel ∧ (ctxReady a0 s).mem = s.mem := by
  unfold ctxReady
  try dsimp only
  (repeat' split) <;> simp
@[simp ↓] theorem evaluateBay_keeps (a0 : Nat) (s : State) : (evaluateBay a0 s).skel = s.skel ∧ (evaluateBay a0 s).mem = s.mem := by
  unfold evaluateBay
  try dsimp only
  (repeat' split) <;> simp
@[simp ↓] theorem dropBayEntries_keeps (a0 : Nat) (s : State) : (dropBayEntries a0 s).skel = s.skel ∧ (dropBayEntries a0 s).mem = s.mem := by
  unfold dropBayEntries
  try dsimp only
  simp
@[simp ↓] theorem beginWeldCheck_keeps (a0 : Nat) (a1 : Nat) (s : State) : (beginWeldCheck a0 a1 s).skel = s.skel ∧ (beginWeldCheck a0 a1 s).mem = s.mem := by
  unfold beginWeldCheck
  try dsimp only
  simp
@[simp ↓] theorem coilOff_keeps (a0 : Nat) (a1 : Nat) (s : State) : (coilOff a0 a1 s).skel = s.skel ∧ (coilOff a0 a1 s).mem = s.mem := by
  unfold coilOff
  try dsimp only
  simp
@[simp ↓] theorem sendCan_keeps (a0 : Nat) (a1 : Nat) (a2 : Bytes) (s : State) : (sendCan a0 a1 a2 s).skel = s.skel ∧ (sendCan a0 a1 a2 s).mem = s.mem := by
  unfold sendCan
  try dsimp only
  simp
@[simp ↓] theorem sendHeartbeat_keeps (a0 : Nat) (s : State) : (sendHeartbeat a0 s).skel = s.skel ∧ (sendHeartbeat a0 s).mem = s.mem := by
  unfold sendHeartbeat
  try dsimp only
  simp
@[simp ↓] theorem sendSetpoint_keeps (a0 : Nat) (s : State) : (sendSetpoint a0 s).skel = s.skel ∧ (sendSetpoint a0 s).mem = s.mem := by
  unfold sendSetpoint
  try dsimp only
  simp
@[simp ↓] theorem setpointZero_keeps (a0 : Nat) (a1 : Bool) (s : State) : (setpointZero a0 a1 s).skel = s.skel ∧ (setpointZero a0 a1 s).mem = s.mem := by
  unfold setpointZero
  try dsimp only
  simp
@[simp ↓] theorem normalOpen_keeps (a0 : Nat) (a1 : Nat) (s : State) : (normalOpen a0 a1 s).skel = s.skel ∧ (normalOpen a0 a1 s).mem = s.mem := by
  unfold normalOpen
  try dsimp only
  simp
@[simp ↓] theorem openAtOnce_keeps (a0 : Nat) (a1 : Nat) (s : State) : (openAtOnce a0 a1 s).skel = s.skel ∧ (openAtOnce a0 a1 s).mem = s.mem := by
  unfold openAtOnce
  try dsimp only
  simp
@[simp ↓] theorem toFinishing_keeps (a0 : Nat) (a1 : Nat) (a2 : Nat) (a3 : Nat) (a4 : Nat) (s : State) : (toFinishing a0 a1 a2 a3 a4 s).skel = s.skel ∧ (toFinishing a0 a1 a2 a3 a4 s).mem = s.mem := by
  unfold toFinishing
  try dsimp only
  simp
@[simp ↓] theorem finishCtx_keeps (a0 : Nat) (a1 : Nat) (a2 : Nat) (a3 : Nat) (a4 : Nat) (s : State) : (finishCtx a0 a1 a2 a3 a4 s).skel = s.skel ∧ (finishCtx a0 a1 a2 a3 a4 s).mem = s.mem := by
  unfold finishCtx
  try dsimp only
  simp
@[simp ↓] theorem contactorOpened_keeps (a0 : Nat) (s : State) : (contactorOpened a0 s).skel = s.skel ∧ (contactorOpened a0 s).mem = s.mem := by
  unfold contactorOpened
  try dsimp only
  (repeat' split) <;> simp
@[simp ↓] theorem trip_keeps (a0 : Nat) (a1 : Nat) (a2 : Bool) (s : State) : (trip a0 a1 a2 s).skel = s.skel ∧ (trip a0 a1 a2 s).mem = s.mem := by
  unfold trip
  try dsimp only
  simp
@[simp ↓] theorem stopConverter_keeps (a0 : Nat) (s : State) : (stopConverter a0 s).skel = s.skel ∧ (stopConverter a0 s).mem = s.mem := by
  unfold stopConverter
  try dsimp only
  simp
@[simp ↓] theorem safeStop_keeps (a0 : Nat) (a1 : Nat) (a2 : Nat) (a3 : Bool) (s : State) : (safeStop a0 a1 a2 a3 s).skel = s.skel ∧ (safeStop a0 a1 a2 a3 s).mem = s.mem := by
  unfold safeStop
  try dsimp only
  (repeat' split) <;> simp
@[simp ↓] theorem faultBay_keeps (a0 : Nat) (a1 : Nat) (s : State) : (faultBay a0 a1 s).skel = s.skel ∧ (faultBay a0 a1 s).mem = s.mem := by
  unfold faultBay
  try dsimp only
  (repeat' split) <;> simp
@[simp ↓] theorem refreshSafeOut_keeps (s : State) : (refreshSafeOut s).skel = s.skel ∧ (refreshSafeOut s).mem = s.mem := by
  unfold refreshSafeOut
  try dsimp only
  simp
@[simp ↓] theorem supplyLost_keeps (a0 : Nat) (s : State) : (supplyLost a0 s).skel = s.skel ∧ (supplyLost a0 s).mem = s.mem := by
  unfold supplyLost
  try dsimp only
  (repeat' split) <;> simp
@[simp ↓] theorem enterWelded_keeps (a0 : Nat) (s : State) : (enterWelded a0 s).skel = s.skel ∧ (enterWelded a0 s).mem = s.mem := by
  unfold enterWelded
  try dsimp only
  (repeat' split) <;> simp
@[simp ↓] theorem recordKeyRefusal_keeps (a0 : Nat) (a1 : Nat) (a2 : Requester) (s : State) : (recordKeyRefusal a0 a1 a2 s).skel = s.skel ∧ (recordKeyRefusal a0 a1 a2 s).mem = s.mem := by
  unfold recordKeyRefusal
  try dsimp only
  simp
@[simp ↓] theorem askKey_keeps (a0 : Nat) (a1 : List Nat) (a2 : Nat) (a3 : Requester) (s : State) : (askKey a0 a1 a2 a3 s).skel = s.skel ∧ (askKey a0 a1 a2 a3 s).mem = s.mem := by
  unfold askKey
  try dsimp only
  (repeat' split) <;> simp
@[simp ↓] theorem stage_keeps (a0 : HostPort) (a1 : Nat) (a2 : Bytes) (s : State) : (stage a0 a1 a2 s).skel = s.skel ∧ (stage a0 a1 a2 s).mem = s.mem := by
  unfold stage
  try dsimp only
  simp
@[simp ↓] theorem stageWrite_keeps (a0 : Call) (a1 : Nat) (a2 : Nat) (a3 : Bytes) (s : State) : (stageWrite a0 a1 a2 a3 s).state.skel = s.skel ∧ (stageWrite a0 a1 a2 a3 s).state.mem = s.mem := by
  unfold stageWrite
  try dsimp only
  (repeat' split) <;> simp
@[simp ↓] theorem setParamBody_keeps (a0 : Call) (a1 : Bytes) (s : State) : (setParamBody a0 a1 s).state.skel = s.skel ∧ (setParamBody a0 a1 s).state.mem = s.mem := by
  unfold setParamBody
  try dsimp only
  simp
@[simp ↓] theorem stageObject_keeps (a0 : Call) (a1 : Nat) (a2 : Bytes) (s : State) : (stageObject a0 a1 a2 s).state.skel = s.skel ∧ (stageObject a0 a1 a2 s).state.mem = s.mem := by
  unfold stageObject
  try dsimp only
  simp
@[simp ↓] theorem commitObject_keeps (a0 : Staged) (s : State) : (commitObject a0 s).skel = s.skel ∧ (commitObject a0 s).mem = s.mem := by
  unfold commitObject
  try dsimp only
  simp
@[simp ↓] theorem commitBody_keeps (a0 : Call) (a1 : Bytes) (s : State) : (commitBody a0 a1 s).state.skel = s.skel ∧ (commitBody a0 a1 s).state.mem = s.mem := by
  unfold commitBody
  try dsimp only
  (repeat' split) <;> simp
@[simp ↓] theorem releaseCard_keeps (a0 : Nat) (s : State) : (releaseCard a0 s).skel = s.skel ∧ (releaseCard a0 s).mem = s.mem := by
  unfold releaseCard
  try dsimp only
  (repeat' split) <;> simp
@[simp ↓] theorem restartReader_keeps (a0 : Nat) (s : State) : (restartReader a0 s).skel = s.skel ∧ (restartReader a0 s).mem = s.mem := by
  unfold restartReader
  try dsimp only
  simp
@[simp ↓] theorem parkPulse_keeps (a0 : Nat) (a1 : Nat) (a2 : Nat) (a3 : Nat) (s : State) : (parkPulse a0 a1 a2 a3 s).skel = s.skel ∧ (parkPulse a0 a1 a2 a3 s).mem = s.mem := by
  unfold parkPulse
  try dsimp only
  simp
@[simp ↓] theorem reassignPulse_keeps (a0 : Nat) (a1 : Bytes) (a2 : Bytes) (s : State) : (reassignPulse a0 a1 a2 s).skel = s.skel ∧ (reassignPulse a0 a1 a2 s).mem = s.mem := by
  unfold reassignPulse
  try dsimp only
  simp
@[simp ↓] theorem objectEffect_keeps (id : Nat) (old new : Bytes) (s : State) :
    (objectEffect id old new s).skel = s.skel ∧ (s.wfMem → (objectEffect id old new s).wfMem) := by
  obtain ⟨Q, hQ⟩ : ∃ Q : State → Prop, Q = fun t => t.skel = s.skel ∧ (t.mem = s.mem ∨ t.mem = ([], s.mem.2)) := ⟨_, rfl⟩
  have hi : ∀ (c : Prop) [Decidable c] (a b : State), Q a → Q b → Q (if c then a else b) := by
    intro c _ a b ha hb
    split <;> assumption
  have h : Q (objectEffect id old new s) := by
    unfold objectEffect
    dsimp only
    repeat' with_reducible apply hi
    all_goals rw [hQ]
    all_goals first
      | (refine ⟨by simp, .inl ?_⟩; simp; done)
      | exact ⟨by simp, .inr rfl⟩
  rw [hQ] at h
  refine ⟨h.1, fun w => ?_⟩
  unfold State.wfMem
  rcases h.2 with h | h <;> rw [h]
  · exact w
  · exact ⟨rfl, w.2⟩
@[simp ↓] theorem applyObject_keeps (o : ParamObj) (s : State) :
    (applyObject o s).skel = s.skel ∧ (s.wfMem → (applyObject o s).wfMem) := by
  unfold applyObject
  constructor
  · simp
  · intro h
    exact (objectEffect_keeps _ _ _ _).2 h
@[simp ↓] theorem applyCommits_keeps (sel : Nat → Bool) (s : State) :
    (applyCommits sel s).skel = s.skel ∧ (s.wfMem → (applyCommits sel s).wfMem) := by
  unfold applyCommits
  constructor
  · simp
  · intro h
    exact wfMem_foldl _ (fun _ _ h => (applyObject_keeps _ _).2 h) _ _ h
@[simp ↓] theorem withBay_skel (pl : Bytes) (s : State) (f : Nat → Ans) (h : ∀ b, (f b).state.skel = s.skel) :
    (withBay pl s f).state.skel = s.skel := by
  unfold withBay; dsimp only; split <;> simp [h]
@[simp ↓] theorem withBay_mem (pl : Bytes) (s : State) (f : Nat → Ans) (h : ∀ b, (f b).state.mem = s.mem) :
    (withBay pl s f).state.mem = s.mem := by
  unfold withBay; dsimp only; split <;> simp [h]
@[simp ↓] theorem ackConverter_keeps (a0 : Nat) (s : State) : (ackConverter a0 s).skel = s.skel ∧ (ackConverter a0 s).mem = s.mem := by
  unfold ackConverter
  try dsimp only
  (repeat' split) <;> simp
@[simp ↓] theorem toIdle_keeps (a0 : Nat) (s : State) : (toIdle a0 s).skel = s.skel ∧ (toIdle a0 s).mem = s.mem := by
  unfold toIdle
  try dsimp only
  simp
@[simp ↓] theorem bayEnableBody_keeps (a0 : Nat) (s : State) : (bayEnableBody a0 s).state.skel = s.skel ∧ (bayEnableBody a0 s).state.mem = s.mem := by
  unfold bayEnableBody
  try dsimp only
  (repeat' split) <;> simp
@[simp ↓] theorem disableNow_keeps (a0 : Nat) (a1 : List CmdRef) (s : State) : (disableNow a0 a1 s).skel = s.skel ∧ (disableNow a0 a1 s).mem = s.mem := by
  unfold disableNow
  try dsimp only
  (repeat' split) <;> simp
@[simp ↓] theorem disableBay_keeps (a0 : Nat) (a1 : List CmdRef) (s : State) : (disableBay a0 a1 s).1.skel = s.skel ∧ (disableBay a0 a1 s).1.mem = s.mem := by
  unfold disableBay
  try dsimp only
  (repeat' split) <;> simp
@[simp ↓] theorem sendConfig_keeps (a0 : Nat) (a1 : List CmdRef) (s : State) : (sendConfig a0 a1 s).skel = s.skel ∧ (sendConfig a0 a1 s).mem = s.mem := by
  unfold sendConfig
  try dsimp only
  simp
@[simp ↓] theorem converterConfigureBody_keeps (a0 : Call) (a1 : Nat) (a2 : Bytes) (s : State) : (converterConfigureBody a0 a1 a2 s).state.skel = s.skel ∧ (converterConfigureBody a0 a1 a2 s).state.mem = s.mem := by
  unfold converterConfigureBody
  try dsimp only
  simp
@[simp ↓] theorem plugIn_keeps (a0 : Nat) (s : State) : (plugIn a0 s).skel = s.skel ∧ (plugIn a0 s).mem = s.mem := by
  unfold plugIn
  try dsimp only
  (repeat' split) <;> simp
@[simp ↓] theorem vehicleGone_keeps (a0 : Nat) (a1 : Nat) (s : State) : (vehicleGone a0 a1 s).skel = s.skel ∧ (vehicleGone a0 a1 s).mem = s.mem := by
  unfold vehicleGone
  try dsimp only
  (repeat' split) <;> simp
@[simp ↓] theorem inputTrip_keeps (a0 : Nat) (a1 : Nat) (a2 : Nat) (a3 : Nat) (a4 : Nat) (s : State) : (inputTrip a0 a1 a2 a3 a4 s).skel = s.skel ∧ (inputTrip a0 a1 a2 a3 a4 s).mem = s.mem := by
  unfold inputTrip
  try dsimp only
  (repeat' split) <;> simp
@[simp ↓] theorem leaveForIdle_keeps (a0 : Nat) (a1 : Nat) (s : State) : (leaveForIdle a0 a1 s).skel = s.skel ∧ (leaveForIdle a0 a1 s).mem = s.mem := by
  unfold leaveForIdle
  try dsimp only
  simp
@[simp ↓] theorem settleBay_keeps (a0 : Nat) (a1 : Nat) (s : State) : (settleBay a0 a1 s).skel = s.skel ∧ (settleBay a0 a1 s).mem = s.mem := by
  unfold settleBay
  try dsimp only
  simp
@[simp ↓] theorem onA_keeps (a0 : Nat) (s : State) : (onA a0 s).skel = s.skel ∧ (onA a0 s).mem = s.mem := by
  unfold onA
  try dsimp only
  (repeat' split) <;> simp
@[simp ↓] theorem onPlugged_keeps (a0 : Nat) (a1 : CpState) (a2 : CpState) (s : State) : (onPlugged a0 a1 a2 s).skel = s.skel ∧ (onPlugged a0 a1 a2 s).mem = s.mem := by
  unfold onPlugged
  try dsimp only
  (repeat' split) <;> simp
@[simp ↓] theorem stillPlugged_keeps (a0 : Nat) (s : State) : (stillPlugged a0 s).skel = s.skel ∧ (stillPlugged a0 s).mem = s.mem := by
  unfold stillPlugged
  try dsimp only
  simp
@[simp ↓] theorem filteredCp_keeps (a0 : Nat) (a1 : CpState) (s : State) : (filteredCp a0 a1 s).skel = s.skel ∧ (filteredCp a0 a1 s).mem = s.mem := by
  unfold filteredCp
  try dsimp only
  (repeat' split) <;> simp
@[simp ↓] theorem bridgeOff_keeps (a0 : Nat) (s : State) : (bridgeOff a0 s).skel = s.skel ∧ (bridgeOff a0 s).mem = s.mem := by
  unfold bridgeOff
  try dsimp only
  simp
@[simp ↓] theorem lockDriveFailed_keeps (a0 : Nat) (a1 : LockDrive) (s : State) : (lockDriveFailed a0 a1 s).skel = s.skel ∧ (lockDriveFailed a0 a1 s).mem = s.mem := by
  unfold lockDriveFailed
  try dsimp only
  simp
@[simp ↓] theorem countLookup_keeps (s : State) : (countLookup s).skel = s.skel ∧ (countLookup s).mem = s.mem := by
  unfold countLookup
  try dsimp only
  simp
@[simp ↓] theorem limitChange_keeps (a0 : Nat) (a1 : Nat) (a2 : Nat) (a3 : Nat) (s : State) : (limitChange a0 a1 a2 a3 s).skel = s.skel ∧ (limitChange a0 a1 a2 a3 s).mem = s.mem := by
  unfold limitChange
  try dsimp only
  simp
@[simp ↓] theorem setLimits_keeps (a0 : Nat) (a1 : Nat) (a2 : Nat) (a3 : Nat) (a4 : Nat) (a5 : Nat) (a6 : Nat) (a7 : Nat) (s : State) : (setLimits a0 a1 a2 a3 a4 a5 a6 a7 s).skel = s.skel ∧ (setLimits a0 a1 a2 a3 a4 a5 a6 a7 s).mem = s.mem := by
  unfold setLimits
  try dsimp only
  simp
@[simp ↓] theorem evaluateCtx_keeps (a0 : Nat) (s : State) : (evaluateCtx a0 s).skel = s.skel ∧ (evaluateCtx a0 s).mem = s.mem := by
  unfold evaluateCtx
  try dsimp only
  (repeat' split) <;> simp
@[simp ↓] theorem allowCtxFor_keeps (a0 : Nat) (a1 : Bytes) (a2 : Nat) (a3 : Nat) (a4 : Nat) (a5 : Nat) (a6 : Nat) (a7 : Nat) (a8 : Nat) (a9 : Option Bool) (a10 : Option CmdRef) (s : State) : (allowCtxFor a0 a1 a2 a3 a4 a5 a6 a7 a8 a9 a10 s).skel = s.skel ∧ (allowCtxFor a0 a1 a2 a3 a4 a5 a6 a7 a8 a9 a10 s).mem = s.mem := by
  unfold allowCtxFor
  try dsimp only
  simp
@[simp ↓] theorem allowCtx_keeps (a0 : Nat) (a1 : Bytes) (a2 : Nat) (a3 : Nat) (a4 : Nat) (a5 : Nat) (a6 : Nat) (a7 : Nat) (a8 : Nat) (a9 : Option Bool) (s : State) : (allowCtx a0 a1 a2 a3 a4 a5 a6 a7 a8 a9 s).skel = s.skel ∧ (allowCtx a0 a1 a2 a3 a4 a5 a6 a7 a8 a9 s).mem = s.mem := by
  unfold allowCtx
  try dsimp only
  simp
@[simp ↓] theorem allowTemplate_keeps (a0 : Nat) (a1 : Bytes) (a2 : Nat) (a3 : Nat) (a4 : Nat) (a5 : Nat) (a6 : Option Bool) (s : State) : (allowTemplate a0 a1 a2 a3 a4 a5 a6 s).skel = s.skel ∧ (allowTemplate a0 a1 a2 a3 a4 a5 a6 s).mem = s.mem := by
  unfold allowTemplate
  try dsimp only
  simp
@[simp ↓] theorem allowDefault_keeps (a0 : Nat) (a1 : Bytes) (a2 : Nat) (a3 : Option Bool) (s : State) : (allowDefault a0 a1 a2 a3 s).skel = s.skel ∧ (allowDefault a0 a1 a2 a3 s).mem = s.mem := by
  unfold allowDefault
  try dsimp only
  simp
@[simp ↓] theorem denyCtxFor_keeps (a0 : Nat) (a1 : Option Bool) (a2 : Option CmdRef) (s : State) : (denyCtxFor a0 a1 a2 s).skel = s.skel ∧ (denyCtxFor a0 a1 a2 s).mem = s.mem := by
  unfold denyCtxFor
  try dsimp only
  simp
@[simp ↓] theorem denyCtx_keeps (a0 : Nat) (a1 : Option Bool) (s : State) : (denyCtx a0 a1 s).skel = s.skel ∧ (denyCtx a0 a1 s).mem = s.mem := by
  unfold denyCtx
  try dsimp only
  simp
@[simp ↓] theorem ntfAuthRequest_keeps (a0 : Nat) (a1 : Nat) (a2 : Nat) (a3 : Bytes) (a4 : Bytes) (s : State) : (ntfAuthRequest a0 a1 a2 a3 a4 s).skel = s.skel ∧ (ntfAuthRequest a0 a1 a2 a3 a4 s).mem = s.mem := by
  unfold ntfAuthRequest
  try dsimp only
  simp
@[simp ↓] theorem askHost_keeps (a0 : Nat) (a1 : Nat) (a2 : Nat) (a3 : Bytes) (s : State) : (askHost a0 a1 a2 a3 s).skel = s.skel ∧ (askHost a0 a1 a2 a3 s).mem = s.mem := by
  unfold askHost
  try dsimp only
  simp
@[simp ↓] theorem decide_keeps (a0 : Nat) (a1 : Nat) (a2 : Bytes) (s : State) : (decide a0 a1 a2 s).1.skel = s.skel ∧ (decide a0 a1 a2 s).1.mem = s.mem := by
  unfold decide
  try dsimp only
  (repeat' split) <;> simp
@[simp ↓] theorem learnOperate_keeps (a0 : Nat) (a1 : Nat) (s : State) : (learnOperate a0 a1 s).skel = s.skel ∧ (learnOperate a0 a1 s).mem = s.mem := by
  unfold learnOperate
  try dsimp only
  simp
@[simp ↓] theorem learnRelease_keeps (a0 : Nat) (a1 : Nat) (s : State) : (learnRelease a0 a1 s).skel = s.skel ∧ (learnRelease a0 a1 s).mem = s.mem := by
  unfold learnRelease
  try dsimp only
  simp
@[simp ↓] theorem confirmCharging_keeps (a0 : Nat) (s : State) : (confirmCharging a0 s).skel = s.skel ∧ (confirmCharging a0 s).mem = s.mem := by
  unfold confirmCharging
  try dsimp only
  simp
@[simp ↓] theorem confirmClosure_keeps (a0 : Nat) (a1 : Nat) (s : State) : (confirmClosure a0 a1 s).skel = s.skel ∧ (confirmClosure a0 a1 s).mem = s.mem := by
  unfold confirmClosure
  try dsimp only
  (repeat' split) <;> simp
@[simp ↓] theorem confirmRelease_keeps (a0 : Nat) (a1 : Nat) (s : State) : (confirmRelease a0 a1 s).skel = s.skel ∧ (confirmRelease a0 a1 s).mem = s.mem := by
  unfold confirmRelease
  try dsimp only
  simp
@[simp ↓] theorem weldPassed_keeps (a0 : Nat) (s : State) : (weldPassed a0 s).skel = s.skel ∧ (weldPassed a0 s).mem = s.mem := by
  unfold weldPassed
  try dsimp only
  (repeat' split) <;> simp
@[simp ↓] theorem refuseClose_keeps (a0 : Nat) (a1 : Nat) (a2 : Nat) (s : State) : (refuseClose a0 a1 a2 s).skel = s.skel ∧ (refuseClose a0 a1 a2 s).mem = s.mem := by
  unfold refuseClose
  try dsimp only
  simp
@[simp ↓] theorem issueClose_keeps (a0 : Nat) (s : State) : (issueClose a0 s).skel = s.skel ∧ (issueClose a0 s).mem = s.mem := by
  unfold issueClose
  try dsimp only
  simp
@[simp ↓] theorem coilFails_keeps (a0 : Nat) (s : State) : (coilFails a0 s).skel = s.skel ∧ (coilFails a0 s).mem = s.mem := by
  unfold coilFails
  try dsimp only
  (repeat' split) <;> simp
@[simp ↓] theorem makeClose_keeps (a0 : Nat) (s : State) : (makeClose a0 s).skel = s.skel ∧ (makeClose a0 s).mem = s.mem := by
  unfold makeClose
  try dsimp only
  simp
@[simp ↓] theorem reportSelfTest_keeps (a0 : Nat) (a1 : Bool) (a2 : Nat) (s : State) : (reportSelfTest a0 a1 a2 s).skel = s.skel ∧ (reportSelfTest a0 a1 a2 s).mem = s.mem := by
  unfold reportSelfTest
  try dsimp only
  (repeat' split) <;> simp
@[simp ↓] theorem resumeStart_keeps (a0 : Nat) (s : State) : (resumeStart a0 s).skel = s.skel ∧ (resumeStart a0 s).mem = s.mem := by
  unfold resumeStart
  try dsimp only
  (repeat' split) <;> simp
@[simp ↓] theorem State_modTest_keeps (s : State) (a1 : Nat) (a2 : SelfTest → SelfTest) : (State.modTest s a1 a2).skel = s.skel ∧ (State.modTest s a1 a2).mem = s.mem := by
  unfold State.modTest
  try dsimp only
  simp
@[simp ↓] theorem sdeTrip_keeps (a0 : Nat) (s : State) : (sdeTrip a0 s).skel = s.skel ∧ (sdeTrip a0 s).mem = s.mem := by
  unfold sdeTrip
  try dsimp only
  simp
@[simp ↓] theorem withCtx_skel (pl : Bytes) (s : State) (f : Nat → Ctx → Ans) (h : ∀ c x, (f c x).state.skel = s.skel) :
    (withCtx pl s f).state.skel = s.skel := by
  unfold withCtx; dsimp only; split <;> simp [h]
@[simp ↓] theorem withCtx_mem (pl : Bytes) (s : State) (f : Nat → Ctx → Ans) (h : ∀ c x, (f c x).state.mem = s.mem) :
    (withCtx pl s f).state.mem = s.mem := by
  unfold withCtx; dsimp only; split <;> simp [h]
@[simp ↓] theorem ctxOpenBody_keeps (a0 : Call) (a1 : Bytes) (s : State) : (ctxOpenBody a0 a1 s).state.skel = s.skel ∧ (ctxOpenBody a0 a1 s).state.mem = s.mem := by
  unfold ctxOpenBody
  try dsimp only
  (repeat' split) <;> simp
@[simp ↓] theorem endSession_keeps (a0 : Nat) (a1 : Nat) (a2 : Nat) (s : State) : (endSession a0 a1 a2 s).skel = s.skel ∧ (endSession a0 a1 a2 s).mem = s.mem := by
  unfold endSession
  try dsimp only
  (repeat' split) <;> simp
@[simp ↓] theorem stopCtx_keeps (a0 : Nat) (s : State) : (stopCtx a0 s).skel = s.skel ∧ (stopCtx a0 s).mem = s.mem := by
  unfold stopCtx
  try dsimp only
  (repeat' split) <;> simp
@[simp ↓] theorem replaceLimits_keeps (a0 : Nat) (a1 : Nat) (a2 : Nat) (a3 : Nat) (a4 : Nat) (a5 : Nat) (s : State) : (replaceLimits a0 a1 a2 a3 a4 a5 s).skel = s.skel ∧ (replaceLimits a0 a1 a2 a3 a4 a5 s).mem = s.mem := by
  unfold replaceLimits
  try dsimp only
  simp
@[simp ↓] theorem ctxAuthoriseBody_keeps (a0 : Call) (a1 : Bytes) (s : State) : (ctxAuthoriseBody a0 a1 s).state.skel = s.skel ∧ (ctxAuthoriseBody a0 a1 s).state.mem = s.mem := by
  unfold ctxAuthoriseBody
  try dsimp only
  simp
@[simp ↓] theorem ctxBindBody_keeps (a0 : Call) (a1 : Bytes) (s : State) : (ctxBindBody a0 a1 s).state.skel = s.skel ∧ (ctxBindBody a0 a1 s).state.mem = s.mem := by
  unfold ctxBindBody
  try dsimp only
  simp
@[simp ↓] theorem startClose_keeps (a0 : Nat) (a1 : Nat) (a2 : Option (BitVec 32 × Nat)) (a3 : CmdRef) (s : State) : (startClose a0 a1 a2 a3 s).state.skel = s.skel ∧ (startClose a0 a1 a2 a3 s).state.mem = s.mem := by
  unfold startClose
  try dsimp only
  (repeat' split) <;> simp
@[simp ↓] theorem ctxStartBody_keeps (a0 : Call) (a1 : Bytes) (s : State) : (ctxStartBody a0 a1 s).state.skel = s.skel ∧ (ctxStartBody a0 a1 s).state.mem = s.mem := by
  unfold ctxStartBody
  try dsimp only
  (repeat' split) <;> simp (disch := (intros; (repeat' split) <;> simp))
@[simp ↓] theorem suspendCtx_keeps (a0 : Nat) (a1 : Nat) (a2 : Bytes) (s : State) : (suspendCtx a0 a1 a2 s).skel = s.skel ∧ (suspendCtx a0 a1 a2 s).mem = s.mem := by
  unfold suspendCtx
  try dsimp only
  (repeat' split) <;> simp
@[simp ↓] theorem ctxResumeBody_keeps (a0 : Call) (a1 : Bytes) (s : State) : (ctxResumeBody a0 a1 s).state.skel = s.skel ∧ (ctxResumeBody a0 a1 s).state.mem = s.mem := by
  unfold ctxResumeBody
  try dsimp only
  simp
@[simp ↓] theorem ctxSetQuotaBody_keeps (a0 : Call) (a1 : Bytes) (s : State) : (ctxSetQuotaBody a0 a1 s).state.skel = s.skel ∧ (ctxSetQuotaBody a0 a1 s).state.mem = s.mem := by
  unfold ctxSetQuotaBody
  try dsimp only
  simp
@[simp ↓] theorem ctxSetProfileBody_keeps (a0 : Call) (a1 : Bytes) (s : State) : (ctxSetProfileBody a0 a1 s).state.skel = s.skel ∧ (ctxSetProfileBody a0 a1 s).state.mem = s.mem := by
  unfold ctxSetProfileBody
  try dsimp only
  simp
@[simp ↓] theorem ctxAckBody_keeps (a0 : Call) (a1 : Bytes) (s : State) : (ctxAckBody a0 a1 s).state.skel = s.skel ∧ (ctxAckBody a0 a1 s).state.mem = s.mem := by
  unfold ctxAckBody
  try dsimp only
  simp
@[simp ↓] theorem State_modConv_keeps (s : State) (a1 : Nat) (a2 : BayConverter → BayConverter) : (State.modConv s a1 a2).skel = s.skel ∧ (State.modConv s a1 a2).mem = s.mem := by
  unfold State.modConv
  try dsimp only
  simp
@[simp ↓] theorem ntfConverter_keeps (a0 : Nat) (a1 : Nat) (a2 : Nat) (a3 : Option CmdRef) (a4 : Nat) (s : State) : (ntfConverter a0 a1 a2 a3 a4 s).skel = s.skel ∧ (ntfConverter a0 a1 a2 a3 a4 s).mem = s.mem := by
  unfold ntfConverter
  try dsimp only
  simp
@[simp ↓] theorem converterTrip_keeps (a0 : Nat) (s : State) : (converterTrip a0 s).skel = s.skel ∧ (converterTrip a0 s).mem = s.mem := by
  unfold converterTrip
  try dsimp only
  (repeat' split) <;> simp
@[simp ↓] theorem ntfConfigured_keeps (a0 : Nat) (a1 : Nat) (a2 : List CmdRef) (a3 : Nat) (s : State) : (ntfConfigured a0 a1 a2 a3 s).skel = s.skel ∧ (ntfConfigured a0 a1 a2 a3 s).mem = s.mem := by
  unfold ntfConfigured
  try dsimp only
  simp
@[simp ↓] theorem relayFrame_keeps (a0 : Bytes) (s : State) : (relayFrame a0 s).skel = s.skel ∧ (relayFrame a0 s).mem = s.mem := by
  unfold relayFrame
  try dsimp only
  simp
@[simp ↓] theorem askLinkKey_keeps (a0 : Nat) (s : State) : (askLinkKey a0 s).skel = s.skel ∧ (askLinkKey a0 s).mem = s.mem := by
  unfold askLinkKey
  try dsimp only
  simp
@[simp ↓] theorem originate_keeps (a0 : Nat) (a1 : Limits) (s : State) : (originate a0 a1 s).skel = s.skel ∧ (originate a0 a1 s).mem = s.mem := by
  unfold originate
  try dsimp only
  (repeat' split) <;> simp
@[simp ↓] theorem siteSetBudgetBody_keeps (a0 : Call) (a1 : Bytes) (s : State) : (siteSetBudgetBody a0 a1 s).state.skel = s.skel ∧ (siteSetBudgetBody a0 a1 s).state.mem = s.mem := by
  unfold siteSetBudgetBody
  try dsimp only
  simp
@[simp ↓] theorem takeCurtailment_keeps (a0 : Bytes) (s : State) : (takeCurtailment a0 s).skel = s.skel ∧ (takeCurtailment a0 s).mem = s.mem := by
  unfold takeCurtailment
  try dsimp only
  (repeat' split) <;> simp
@[simp ↓] theorem countSite_keeps (a0 : Nat) (a1 : Nat) (s : State) : (countSite a0 a1 s).skel = s.skel ∧ (countSite a0 a1 s).mem = s.mem := by
  unfold countSite
  try dsimp only
  simp
@[simp ↓] theorem heardPeer_keeps (a0 : Nat) (a1 : Nat) (a2 : Nat) (s : State) : (heardPeer a0 a1 a2 s).skel = s.skel ∧ (heardPeer a0 a1 a2 s).mem = s.mem := by
  unfold heardPeer
  try dsimp only
  simp
@[simp ↓] theorem askSiteKey_keeps (a0 : Nat) (s : State) : (askSiteKey a0 s).skel = s.skel ∧ (askSiteKey a0 s).mem = s.mem := by
  unfold askSiteKey
  try dsimp only
  simp
@[simp ↓] theorem takeCoordinator_keeps (a0 : Nat) (a1 : CoordFrame) (s : State) : (takeCoordinator a0 a1 s).skel = s.skel ∧ (takeCoordinator a0 a1 s).mem = s.mem := by
  unfold takeCoordinator
  try dsimp only
  (repeat' split) <;> simp
@[simp ↓] theorem notePhases_keeps (s : State) : (notePhases s).skel = s.skel ∧ (notePhases s).mem = s.mem := by
  unfold notePhases
  try dsimp only
  simp
@[simp ↓] theorem offer_keeps (a0 : Nat) (a1 : Nat) (s : State) : (offer a0 a1 s).skel = s.skel ∧ (offer a0 a1 s).mem = s.mem := by
  unfold offer
  try dsimp only
  simp
@[simp ↓] theorem setTransfer_keeps (a0 : Nat) (s : State) : (setTransfer a0 s).skel = s.skel ∧ (setTransfer a0 s).mem = s.mem := by
  unfold setTransfer
  try dsimp only
  (repeat' split) <;> simp
@[simp ↓] theorem suspendForGrant_keeps (a0 : Nat) (a1 : Nat) (a2 : Nat) (s : State) : (suspendForGrant a0 a1 a2 s).skel = s.skel ∧ (suspendForGrant a0 a1 a2 s).mem = s.mem := by
  unfold suspendForGrant
  try dsimp only
  simp
@[simp ↓] theorem applyGrant_keeps (a0 : Grant) (s : State) : (applyGrant a0 s).skel = s.skel ∧ (applyGrant a0 s).mem = s.mem := by
  unfold applyGrant
  try dsimp only
  simp
@[simp ↓] theorem writeCheckpoint_keeps (s : State) : (writeCheckpoint s).skel = s.skel ∧ (writeCheckpoint s).mem = s.mem := by
  unfold writeCheckpoint
  try dsimp only
  simp
@[simp ↓] theorem askSafetyKey_keeps (a0 : Nat) (s : State) : (askSafetyKey a0 s).skel = s.skel ∧ (askSafetyKey a0 s).mem = s.mem := by
  unfold askSafetyKey
  try dsimp only
  simp
@[simp ↓] theorem sendSafetyFrames_keeps (s : State) : (sendSafetyFrames s).skel = s.skel ∧ (sendSafetyFrames s).mem = s.mem := by
  unfold sendSafetyFrames
  try dsimp only
  (repeat' split) <;> simp
@[simp ↓] theorem toggleAlive_keeps (s : State) : (toggleAlive s).skel = s.skel ∧ (toggleAlive s).mem = s.mem := by
  unfold toggleAlive
  try dsimp only
  simp
@[simp ↓] theorem halfCycle_keeps (s : State) : (halfCycle s).skel = s.skel ∧ (halfCycle s).mem = s.mem := by
  unfold halfCycle
  try dsimp only
  simp
@[simp ↓] theorem State_modPulse_keeps (s : State) (a1 : Nat) (a2 : PulseOut → PulseOut) : (State.modPulse s a1 a2).skel = s.skel ∧ (State.modPulse s a1 a2).mem = s.mem := by
  unfold State.modPulse
  try dsimp only
  simp
@[simp ↓] theorem strobePulse_keeps (a0 : Nat) (s : State) : (strobePulse a0 s).skel = s.skel ∧ (strobePulse a0 s).mem = s.mem := by
  unfold strobePulse
  try dsimp only
  simp
@[simp ↓] theorem latchStrobe_keeps (a0 : StrobeInput) (s : State) : (latchStrobe a0 s).skel = s.skel ∧ (latchStrobe a0 s).mem = s.mem := by
  unfold latchStrobe
  try dsimp only
  simp
@[simp ↓] theorem State_modReg_keeps (s : State) (a1 : Nat) (a2 : RegSet → RegSet) : (State.modReg s a1 a2).skel = s.skel ∧ (State.modReg s a1 a2).mem = s.mem := by
  unfold State.modReg
  try dsimp only
  simp
@[simp ↓] theorem State_modIntervalSet_keeps (s : State) (a1 : Nat) (a2 : IntervalSet → IntervalSet) : (State.modIntervalSet s a1 a2).skel = s.skel ∧ (State.modIntervalSet s a1 a2).mem = s.mem := by
  unfold State.modIntervalSet
  try dsimp only
  simp
@[simp ↓] theorem safetyCycle_keeps (a0 : Nat) (a1 : Nat) (a2 : BayCycle) (s : State) : (safetyCycle a0 a1 a2 s).skel = s.skel ∧ (safetyCycle a0 a1 a2 s).mem = s.mem := by
  unfold safetyCycle
  try dsimp only
  simp
@[simp ↓] theorem sessionCycle_keeps (a0 : Nat) (a1 : BayCycle) (s : State) : (sessionCycle a0 a1 s).skel = s.skel ∧ (sessionCycle a0 a1 s).mem = s.mem := by
  unfold sessionCycle
  try dsimp only
  (repeat' split) <;> simp
@[simp ↓] theorem commitBay_keeps (a0 : Nat) (a1 : Nat) (a2 : BayCycle) (s : State) : (commitBay a0 a1 a2 s).skel = s.skel ∧ (commitBay a0 a1 a2 s).mem = s.mem := by
  unfold commitBay
  try dsimp only
  simp
@[simp ↓] theorem harmonicCycle_keeps (a0 : Nat) (a1 : List (Int × Int)) (a2 : List (List Int)) (s : State) : (harmonicCycle a0 a1 a2 s).skel = s.skel ∧ (harmonicCycle a0 a1 a2 s).mem = s.mem := by
  unfold harmonicCycle
  try dsimp only
  simp
@[simp ↓] theorem feederCycle_keeps (a0 : Nat) (s : State) : (feederCycle a0 s).skel = s.skel ∧ (feederCycle a0 s).mem = s.mem := by
  unfold feederCycle
  try dsimp only
  simp
@[simp ↓] theorem sharePulses_keeps (a0 : List RegSet) (s : State) : (sharePulses a0 s).skel = s.skel ∧ (sharePulses a0 s).mem = s.mem := by
  unfold sharePulses
  try dsimp only
  simp
@[simp ↓] theorem commitCycle_keeps (a0 : Nat) (a1 : Bool) (s : State) : (commitCycle a0 a1 s).skel = s.skel ∧ (commitCycle a0 a1 s).mem = s.mem := by
  unfold commitCycle
  try dsimp only
  simp
@[simp ↓] theorem clockCycle_keeps (a0 : Nat) (a1 : Int) (s : State) : (clockCycle a0 a1 s).skel = s.skel ∧ (clockCycle a0 a1 s).mem = s.mem := by
  unfold clockCycle
  try dsimp only
  simp
@[simp ↓] theorem noteOffer_keeps (a0 : Nat) (s : State) : (noteOffer a0 s).skel = s.skel ∧ (noteOffer a0 s).mem = s.mem := by
  unfold noteOffer
  try dsimp only
  simp
@[simp ↓] theorem bayBoundary_keeps (a0 : Nat) (s : State) : (bayBoundary a0 s).skel = s.skel ∧ (bayBoundary a0 s).mem = s.mem := by
  unfold bayBoundary
  try dsimp only
  simp
@[simp ↓] theorem openReadings_keeps (a0 : Nat) (s : State) : (openReadings a0 s).skel = s.skel ∧ (openReadings a0 s).mem = s.mem := by
  unfold openReadings
  try dsimp only
  (repeat' split) <;> simp
@[simp ↓] theorem closeReadings_keeps (a0 : Nat) (a1 : Reading) (s : State) : (closeReadings a0 a1 s).skel = s.skel ∧ (closeReadings a0 a1 s).mem = s.mem := by
  unfold closeReadings
  try dsimp only
  (repeat' split) <;> simp
@[simp ↓] theorem quotaEnd_keeps (a0 : Nat) (s : State) : (quotaEnd a0 s).skel = s.skel ∧ (quotaEnd a0 s).mem = s.mem := by
  unfold quotaEnd
  try dsimp only
  simp
@[simp ↓] theorem endCycle_keeps (s : State) : (endCycle s).skel = s.skel ∧ (endCycle s).mem = s.mem := by
  unfold endCycle
  try dsimp only
  simp
@[simp ↓] theorem reportClock_keeps (a0 : ClkState) (a1 : ClkState) (s : State) : (reportClock a0 a1 s).skel = s.skel ∧ (reportClock a0 a1 s).mem = s.mem := by
  unfold reportClock
  try dsimp only
  simp
@[simp ↓] theorem removeClose_keeps (a0 : QEntry) (s : State) : (removeClose a0 s).skel = s.skel ∧ (removeClose a0 s).mem = s.mem := by
  unfold removeClose
  try dsimp only
  (repeat' split) <;> simp
@[simp ↓] theorem removeAcClose_keeps (a0 : QEntry) (s : State) : (removeAcClose a0 s).skel = s.skel ∧ (removeAcClose a0 s).mem = s.mem := by
  unfold removeAcClose
  try dsimp only
  (repeat' split) <;> simp
@[simp ↓] theorem leaveLocked_keeps (s : State) : (leaveLocked s).skel = s.skel ∧ (leaveLocked s).mem = s.mem := by
  unfold leaveLocked
  try dsimp only
  simp
@[simp ↓] theorem loseReference_keeps (s : State) : (loseReference s).skel = s.skel ∧ (loseReference s).mem = s.mem := by
  unfold loseReference
  try dsimp only
  (repeat' split) <;> simp
@[simp ↓] theorem enterLocked_keeps (s : State) : (enterLocked s).skel = s.skel ∧ (enterLocked s).mem = s.mem := by
  unfold enterLocked
  try dsimp only
  simp
@[simp ↓] theorem evaluateSet_keeps (a0 : Nat) (a1 : Nat) (a2 : Nat) (a3 : List Nat) (a4 : Nat) (s : State) : (evaluateSet a0 a1 a2 a3 a4 s).skel = s.skel ∧ (evaluateSet a0 a1 a2 a3 a4 s).mem = s.mem := by
  unfold evaluateSet
  try dsimp only
  simp
@[simp ↓] theorem notePeriod_keeps (a0 : Nat) (a1 : Nat) (s : State) : (notePeriod a0 a1 s).skel = s.skel ∧ (notePeriod a0 a1 s).mem = s.mem := by
  unfold notePeriod
  try dsimp only
  simp
@[simp ↓] theorem closeSub_keeps (s : State) : (closeSub s).skel = s.skel ∧ (closeSub s).mem = s.mem := by
  unfold closeSub
  try dsimp only
  simp
@[simp ↓] theorem openSubAt_keeps (a0 : Nat) (s : State) : (openSubAt a0 s).skel = s.skel ∧ (openSubAt a0 s).mem = s.mem := by
  unfold openSubAt
  try dsimp only
  simp
@[simp ↓] theorem openSub_keeps (s : State) : (openSub s).skel = s.skel ∧ (openSub s).mem = s.mem := by
  unfold openSub
  try dsimp only
  simp
@[simp ↓] theorem closeSubsTo_keeps (n t : Nat) (s : State) : (closeSubsTo n t s).skel = s.skel ∧ (closeSubsTo n t s).mem = s.mem := by
  induction n generalizing s with
  | zero => exact ⟨rfl, rfl⟩
  | succ n ih => unfold closeSubsTo; split <;> simp [ih]
@[simp ↓] theorem evaluateInterval_keeps (s : State) : (evaluateInterval s).skel = s.skel ∧ (evaluateInterval s).mem = s.mem := by
  unfold evaluateInterval
  try dsimp only
  simp
@[simp ↓] theorem storeInterval_keeps (a0 : Nat) (a1 : List Bytes) (s : State) : (storeInterval a0 a1 s).skel = s.skel ∧ (storeInterval a0 a1 s).mem = s.mem := by
  unfold storeInterval
  try dsimp only
  simp
@[simp ↓] theorem legalStore_keeps (s : State) : (legalStore s).skel = s.skel ∧ (legalStore s).mem = s.mem := by
  unfold legalStore
  try dsimp only
  simp
@[simp ↓] theorem closeInterval_keeps (a0 : Nat) (a1 : Bool) (s : State) : (closeInterval a0 a1 s).skel = s.skel ∧ (closeInterval a0 a1 s).mem = s.mem := by
  unfold closeInterval
  try dsimp only
  simp
@[simp ↓] theorem openInterval_keeps (a0 : Nat) (s : State) : (openInterval a0 s).skel = s.skel ∧ (openInterval a0 s).mem = s.mem := by
  unfold openInterval
  try dsimp only
  simp
@[simp ↓] theorem breakInterval_skel (a b : Nat) (f : State → State) (h : ∀ x, (f x).skel = x.skel) (s : State) :
    (breakInterval a b f s).skel = s.skel := by
  unfold breakInterval; dsimp only; split <;> simp [h]
@[simp ↓] theorem breakInterval_mem (a b : Nat) (f : State → State) (h : ∀ x, (f x).mem = x.mem) (s : State) :
    (breakInterval a b f s).mem = s.mem := by
  unfold breakInterval; dsimp only; split <;> simp [h]
@[simp ↓] theorem restamp_keeps (a0 : Nat) (s : State) : (restamp a0 s).skel = s.skel ∧ (restamp a0 s).mem = s.mem := by
  unfold restamp
  try dsimp only
  simp
@[simp ↓] theorem flagSessions_keeps (a0 : Nat) (s : State) : (flagSessions a0 s).skel = s.skel ∧ (flagSessions a0 s).mem = s.mem := by
  unfold flagSessions
  try dsimp only
  (repeat' split) <;> simp (disch := (intros; (repeat' split) <;> simp))
@[simp ↓] theorem selectTariff_keeps (s : State) : (selectTariff s).skel = s.skel ∧ (selectTariff s).mem = s.mem := by
  unfold selectTariff
  try dsimp only
  simp
@[simp ↓] theorem tariffLoadBody_keeps (a0 : Call) (a1 : Bytes) (s : State) : (tariffLoadBody a0 a1 s).state.skel = s.skel ∧ (tariffLoadBody a0 a1 s).state.mem = s.mem := by
  unfold tariffLoadBody
  try dsimp only
  simp
@[simp ↓] theorem tariffGetBody_keeps (a0 : Call) (a1 : Bytes) (s : State) : (tariffGetBody a0 a1 s).state.skel = s.skel ∧ (tariffGetBody a0 a1 s).state.mem = s.mem := by
  unfold tariffGetBody
  try dsimp only
  (repeat' split) <;> simp
@[simp ↓] theorem tariffCancelBody_keeps (a0 : Call) (a1 : Bytes) (s : State) : (tariffCancelBody a0 a1 s).state.skel = s.skel ∧ (tariffCancelBody a0 a1 s).state.mem = s.mem := by
  unfold tariffCancelBody
  try dsimp only
  (repeat' split) <;> simp
@[simp ↓] theorem profileReadBody_keeps (a0 : Call) (a1 : Bytes) (s : State) : (profileReadBody a0 a1 s).state.skel = s.skel ∧ (profileReadBody a0 a1 s).state.mem = s.mem := by
  unfold profileReadBody
  try dsimp only
  simp
@[simp ↓] theorem flagSpanning_keeps (a0 : Nat) (s : State) : (flagSpanning a0 s).skel = s.skel ∧ (flagSpanning a0 s).mem = s.mem := by
  unfold flagSpanning
  try dsimp only
  simp
@[simp ↓] theorem powerDownEntries_keeps (n a b : Nat) (s : State) :
    (powerDownEntries n a b s).skel = s.skel ∧ (powerDownEntries n a b s).mem = s.mem := by
  induction n generalizing a s with
  | zero => exact ⟨rfl, rfl⟩
  | succ n ih => unfold powerDownEntries; dsimp only; split <;> simp [ih]
@[simp ↓] theorem outageEntry_keeps (a0 : Nat) (a1 : Nat) (a2 : Nat) (a3 : Nat) (a4 : Nat) (a5 : List (Nat × Nat × Nat)) (a6 : List Nat) (s : State) : (outageEntry a0 a1 a2 a3 a4 a5 a6 s).skel = s.skel ∧ (outageEntry a0 a1 a2 a3 a4 a5 a6 s).mem = s.mem := by
  unfold outageEntry
  try dsimp only
  simp
@[simp ↓] theorem returnIntervals_keeps (a0 : Bool) (a1 : Nat) (a2 : Nat) (s : State) : (returnIntervals a0 a1 a2 s).skel = s.skel ∧ (returnIntervals a0 a1 a2 s).mem = s.mem := by
  unfold returnIntervals
  try dsimp only
  simp
@[simp ↓] theorem credLookupBody_keeps (a0 : Call) (a1 : Bytes) (s : State) : (credLookupBody a0 a1 s).state.skel = s.skel ∧ (credLookupBody a0 a1 s).state.mem = s.mem := by
  unfold credLookupBody
  try dsimp only
  (repeat' split) <;> simp
@[simp ↓] theorem credBeginBody_keeps (a0 : Call) (a1 : Bytes) (s : State) : (credBeginBody a0 a1 s).state.skel = s.skel ∧ (credBeginBody a0 a1 s).state.mem = s.mem := by
  unfold credBeginBody
  try dsimp only
  simp
@[simp ↓] theorem credDataBody_keeps (a0 : Call) (a1 : Bytes) (s : State) : (credDataBody a0 a1 s).state.skel = s.skel ∧ (credDataBody a0 a1 s).state.mem = s.mem := by
  unfold credDataBody
  try dsimp only
  (repeat' split) <;> simp
@[simp ↓] theorem credCommitBody_keeps (a0 : Call) (a1 : Bytes) (s : State) : (credCommitBody a0 a1 s).state.skel = s.skel ∧ (credCommitBody a0 a1 s).state.mem = s.mem := by
  unfold credCommitBody
  try dsimp only
  (repeat' split) <;> simp
@[simp ↓] theorem restartCreds_keeps (a0 : Bool) (s : State) : (restartCreds a0 s).skel = s.skel ∧ (restartCreds a0 s).mem = s.mem := by
  unfold restartCreds
  try dsimp only
  (repeat' split) <;> simp
@[simp ↓] theorem cacheChain_keeps (a0 : PncChain) (a1 : List Bytes) (s : State) : (cacheChain a0 a1 s).skel = s.skel ∧ (cacheChain a0 a1 s).mem = s.mem := by
  unfold cacheChain
  try dsimp only
  simp
@[simp ↓] theorem decideEmaid_keeps (a0 : Nat) (a1 : PncChain) (a2 : Option CmdRef) (s : State) : (decideEmaid a0 a1 a2 s).skel = s.skel ∧ (decideEmaid a0 a1 a2 s).mem = s.mem := by
  unfold decideEmaid
  try dsimp only
  (repeat' split) <;> simp
@[simp ↓] theorem askOcsp_keeps (a0 : Nat) (a1 : PncChain) (a2 : List Nat) (s : State) : (askOcsp a0 a1 a2 s).skel = s.skel ∧ (askOcsp a0 a1 a2 s).mem = s.mem := by
  unfold askOcsp
  try dsimp only
  simp
@[simp ↓] theorem pncVerifyBody_keeps (a0 : Call) (a1 : Bytes) (s : State) : (pncVerifyBody a0 a1 s).state.skel = s.skel ∧ (pncVerifyBody a0 a1 s).state.mem = s.mem := by
  unfold pncVerifyBody
  try dsimp only
  (repeat' split) <;> simp (disch := (intros; (repeat' split) <;> simp))
@[simp ↓] theorem askAgain_keeps (s : State) : (askAgain s).skel = s.skel ∧ (askAgain s).mem = s.mem := by
  unfold askAgain
  try dsimp only
  (repeat' split) <;> simp (disch := (intros; (repeat' split) <;> simp))
@[simp ↓] theorem State_modMains_keeps (s : State) (a1 : Mains → Mains) : (State.modMains s a1).skel = s.skel ∧ (State.modMains s a1).mem = s.mem := by
  unfold State.modMains
  try dsimp only
  simp
@[simp ↓] theorem State_modNeighbour_keeps (s : State) (a1 : Nat) (a2 : Neighbour → Neighbour) : (State.modNeighbour s a1 a2).skel = s.skel ∧ (State.modNeighbour s a1 a2).mem = s.mem := by
  unfold State.modNeighbour
  try dsimp only
  simp
@[simp ↓] theorem ntfLink_keeps (a0 : Nat) (a1 : Nat) (a2 : Nat) (s : State) : (ntfLink a0 a1 a2 s).skel = s.skel ∧ (ntfLink a0 a1 a2 s).mem = s.mem := by
  unfold ntfLink
  try dsimp only
  simp
@[simp ↓] theorem hearStation_keeps (a0 : Nat) (s : State) : (hearStation a0 s).skel = s.skel ∧ (hearStation a0 s).mem = s.mem := by
  unfold hearStation
  try dsimp only
  simp
@[simp ↓] theorem neighbourFrame_keeps (a0 : FrameSource) (s : State) : (neighbourFrame a0 s).skel = s.skel ∧ (neighbourFrame a0 s).mem = s.mem := by
  unfold neighbourFrame
  try dsimp only
  simp
@[simp ↓] theorem ccoBeacon_keeps (a0 : HeardBeacon) (s : State) : (ccoBeacon a0 s).skel = s.skel ∧ (ccoBeacon a0 s).mem = s.mem := by
  unfold ccoBeacon
  try dsimp only
  simp
@[simp ↓] theorem mapsInForce_keeps (s : State) : (mapsInForce s).skel = s.skel ∧ (mapsInForce s).mem = s.mem := by
  unfold mapsInForce
  try dsimp only
  simp
@[simp ↓] theorem mainsBeacon_keeps (a0 : Option HeardBeacon) (s : State) : (mainsBeacon a0 s).skel = s.skel ∧ (mainsBeacon a0 s).mem = s.mem := by
  unfold mainsBeacon
  try dsimp only
  (repeat' split) <;> simp
@[simp ↓] theorem State_modLink_keeps (s : State) (a1 : Nat) (a2 : BayLink → BayLink) : (State.modLink s a1 a2).skel = s.skel ∧ (State.modLink s a1 a2).mem = s.mem := by
  unfold State.modLink
  try dsimp only
  simp
@[simp ↓] theorem endV2g_keeps (a0 : Nat) (a1 : Nat) (s : State) : (endV2g a0 a1 s).skel = s.skel ∧ (endV2g a0 a1 s).mem = s.mem := by
  unfold endV2g
  try dsimp only
  simp
@[simp ↓] theorem pauseByVehicle_keeps (a0 : Nat) (s : State) : (pauseByVehicle a0 s).skel = s.skel ∧ (pauseByVehicle a0 s).mem = s.mem := by
  unfold pauseByVehicle
  try dsimp only
  (repeat' split) <;> simp
@[simp ↓] theorem loseLink_keeps (a0 : Nat) (a1 : Nat) (s : State) : (loseLink a0 a1 s).skel = s.skel ∧ (loseLink a0 a1 s).mem = s.mem := by
  unfold loseLink
  try dsimp only
  simp
@[simp ↓] theorem refuseSecc_keeps (a0 : Nat) (s : State) : (refuseSecc a0 s).skel = s.skel ∧ (refuseSecc a0 s).mem = s.mem := by
  unfold refuseSecc
  try dsimp only
  simp
@[simp ↓] theorem onTlsHandshake_keeps (a0 : Nat) (a1 : List TlsCurve) (s : State) : (onTlsHandshake a0 a1 s).skel = s.skel ∧ (onTlsHandshake a0 a1 s).mem = s.mem := by
  unfold onTlsHandshake
  try dsimp only
  simp
@[simp ↓] theorem onAppProtocol_keeps (a0 : Nat) (a1 : Bool) (a2 : Bool) (s : State) : (onAppProtocol a0 a1 a2 s).skel = s.skel ∧ (onAppProtocol a0 a1 a2 s).mem = s.mem := by
  unfold onAppProtocol
  try dsimp only
  simp
@[simp ↓] theorem onSessionSetup_keeps (a0 : Nat) (a1 : Bytes) (s : State) : (onSessionSetup a0 a1 s).skel = s.skel ∧ (onSessionSetup a0 a1 s).mem = s.mem := by
  unfold onSessionSetup
  try dsimp only
  (repeat' split) <;> simp
@[simp ↓] theorem onEim_keeps (a0 : Nat) (a1 : Option Bytes) (s : State) : (onEim a0 a1 s).skel = s.skel ∧ (onEim a0 a1 s).mem = s.mem := by
  unfold onEim
  try dsimp only
  (repeat' split) <;> simp
@[simp ↓] theorem setConverter_keeps (a0 : Nat) (a1 : Nat) (a2 : Nat) (a3 : Int) (a4 : Nat) (s : State) : (setConverter a0 a1 a2 a3 a4 s).skel = s.skel ∧ (setConverter a0 a1 a2 a3 a4 s).mem = s.mem := by
  unfold setConverter
  try dsimp only
  simp
@[simp ↓] theorem onCurrentDemand_keeps (a0 : Nat) (a1 : Nat) (a2 : Int) (s : State) : (onCurrentDemand a0 a1 a2 s).skel = s.skel ∧ (onCurrentDemand a0 a1 a2 s).mem = s.mem := by
  unfold onCurrentDemand
  try dsimp only
  simp
@[simp ↓] theorem onMessage_keeps (a0 : Nat) (a1 : V2gMessage) (s : State) : (onMessage a0 a1 s).skel = s.skel ∧ (onMessage a0 a1 s).mem = s.mem := by
  unfold onMessage
  try dsimp only
  (repeat' split) <;> simp
@[simp ↓] theorem notePing_keeps (s : State) : (notePing s).skel = s.skel ∧ (notePing s).mem = s.mem := by
  unfold notePing
  try dsimp only
  simp
@[simp ↓] theorem getParamBody_keeps (a0 : Call) (a1 : Bytes) (s : State) : (getParamBody a0 a1 s).state.skel = s.skel ∧ (getParamBody a0 a1 s).state.mem = s.mem := by
  unfold getParamBody
  try dsimp only
  (repeat' split) <;> simp
@[simp ↓] theorem refuseWorld_keeps (a0 : Call) (a1 : World) (s : State) : (refuseWorld a0 a1 s).state.skel = s.skel ∧ (refuseWorld a0 a1 s).state.mem = s.mem := by
  unfold refuseWorld
  try dsimp only
  simp
@[simp ↓] theorem openWorldBody_keeps (a0 : Call) (a1 : Bytes) (s : State) : (openWorldBody a0 a1 s).state.skel = s.skel ∧ (openWorldBody a0 a1 s).state.mem = s.mem := by
  unfold openWorldBody
  try dsimp only
  (repeat' split) <;> simp
@[simp ↓] theorem closeWorldOn_keeps (a0 : HostPort) (s : State) : (closeWorldOn a0 s).skel = s.skel ∧ (closeWorldOn a0 s).mem = s.mem := by
  unfold closeWorldOn
  try dsimp only
  simp
@[simp ↓] theorem getTimeBody_keeps (a0 : Call) (a1 : Bytes) (s : State) : (getTimeBody a0 a1 s).state.skel = s.skel ∧ (getTimeBody a0 a1 s).state.mem = s.mem := by
  unfold getTimeBody
  try dsimp only
  simp
@[simp ↓] theorem slewBy_keeps (a0 : Int) (s : State) : (slewBy a0 s).skel = s.skel ∧ (slewBy a0 s).mem = s.mem := by
  unfold slewBy
  try dsimp only
  simp
@[simp ↓] theorem acceptStep_keeps (a0 : Nat) (a1 : Nat) (a2 : Nat) (s : State) : (acceptStep a0 a1 a2 s).skel = s.skel ∧ (acceptStep a0 a1 a2 s).mem = s.mem := by
  unfold acceptStep
  try dsimp only
  simp
@[simp ↓] theorem signedStep_keeps (a0 : Call) (a1 : Bytes) (a2 : Nat) (s : State) : (signedStep a0 a1 a2 s).state.skel = s.skel ∧ (signedStep a0 a1 a2 s).state.mem = s.mem := by
  unfold signedStep
  try dsimp only
  (repeat' split) <;> simp
@[simp ↓] theorem setTimeBody_keeps (a0 : Call) (a1 : Bytes) (s : State) : (setTimeBody a0 a1 s).state.skel = s.skel ∧ (setTimeBody a0 a1 s).state.mem = s.mem := by
  unfold setTimeBody
  try dsimp only
  simp
@[simp ↓] theorem adjustTimeBody_keeps (a0 : Call) (a1 : Bytes) (s : State) : (adjustTimeBody a0 a1 s).state.skel = s.skel ∧ (adjustTimeBody a0 a1 s).state.mem = s.mem := by
  unfold adjustTimeBody
  try dsimp only
  simp
@[simp ↓] theorem meterReadHarmonicsBody_keeps (a0 : Call) (a1 : Bytes) (s : State) : (meterReadHarmonicsBody a0 a1 s).state.skel = s.skel ∧ (meterReadHarmonicsBody a0 a1 s).state.mem = s.mem := by
  unfold meterReadHarmonicsBody
  try dsimp only
  (repeat' split) <;> simp
@[simp ↓] theorem legalWrite_keeps (a0 : Call) (a1 : Bytes) (s : State) : (legalWrite a0 a1 s).state.skel = s.skel ∧ (legalWrite a0 a1 s).state.mem = s.mem := by
  unfold legalWrite
  try dsimp only
  (repeat' split) <;> simp
@[simp ↓] theorem markCalibration_keeps (a0 : Nat) (s : State) : (markCalibration a0 s).skel = s.skel ∧ (markCalibration a0 s).mem = s.mem := by
  unfold markCalibration
  try dsimp only
  simp
@[simp ↓] theorem applyLegalWrite_keeps (a0 : LegalWrite) (s : State) : (applyLegalWrite a0 s).skel = s.skel ∧ (applyLegalWrite a0 s).mem = s.mem := by
  unfold applyLegalWrite
  try dsimp only
  simp
@[simp ↓] theorem applyLegal_keeps (s : State) : (applyLegal s).skel = s.skel ∧ (applyLegal s).mem = s.mem := by
  unfold applyLegal
  try dsimp only
  simp
@[simp ↓] theorem beginStep_keeps (a0 : List Nat) (a1 : Nat) (a2 : CmdRef) (s : State) : (beginStep a0 a1 a2 s).skel = s.skel ∧ (beginStep a0 a1 a2 s).mem = s.mem := by
  unfold beginStep
  try dsimp only
  simp
@[simp ↓] theorem beginTest_keeps (a0 : List Nat) (a1 : CmdRef) (s : State) : (beginTest a0 a1 s).skel = s.skel ∧ (beginTest a0 a1 s).mem = s.mem := by
  unfold beginTest
  try dsimp only
  simp
@[simp ↓] theorem meterSelftestBody_keeps (a0 : Call) (a1 : Bytes) (s : State) : (meterSelftestBody a0 a1 s).state.skel = s.skel ∧ (meterSelftestBody a0 a1 s).state.mem = s.mem := by
  unfold meterSelftestBody
  try dsimp only
  simp
@[simp ↓] theorem endTest_keeps (a0 : List Nat) (s : State) : (endTest a0 s).skel = s.skel ∧ (endTest a0 s).mem = s.mem := by
  unfold endTest
  try dsimp only
  simp
@[simp ↓] theorem abortTest_keeps (s : State) : (abortTest s).skel = s.skel ∧ (abortTest s).mem = s.mem := by
  unfold abortTest
  try dsimp only
  (repeat' split) <;> simp
@[simp ↓] theorem newPeers_keeps (a0 s : State) : (newPeers a0 s).skel = s.skel ∧ (newPeers a0 s).mem = s.mem := by
  unfold newPeers
  simp
@[simp ↓] theorem loadBlock_keeps (a0 : List (Nat × Nat × Bytes)) (s : State) : (loadBlock a0 s).skel = s.skel ∧ (loadBlock a0 s).mem = s.mem := by
  unfold loadBlock
  try dsimp only
  simp
@[simp ↓] theorem loadSafety_keeps (a0 : List (Nat × Nat × Bytes)) (s : State) : (loadSafety a0 s).state.skel = s.skel ∧ (loadSafety a0 s).state.mem = s.mem := by
  unfold loadSafety
  try dsimp only
  simp
@[simp ↓] theorem safetyLoadBody_keeps (a0 : Call) (a1 : Bytes) (s : State) : (safetyLoadBody a0 a1 s).state.skel = s.skel ∧ (safetyLoadBody a0 a1 s).state.mem = s.mem := by
  unfold safetyLoadBody
  try dsimp only
  (repeat' split) <;> simp
@[simp ↓] theorem evaluateAll_keeps (s : State) : (evaluateAll s).skel = s.skel ∧ (evaluateAll s).mem = s.mem := by
  unfold evaluateAll
  try dsimp only
  simp
@[simp ↓] theorem resetSde_keeps (a0 : Nat) (s : State) : (resetSde a0 s).state.skel = s.skel ∧ (resetSde a0 s).state.mem = s.mem := by
  unfold resetSde
  try dsimp only
  simp
@[simp ↓] theorem resetWelded_keeps (a0 : Nat) (s : State) : (resetWelded a0 s).state.skel = s.skel ∧ (resetWelded a0 s).state.mem = s.mem := by
  unfold resetWelded
  try dsimp only
  simp
@[simp ↓] theorem resetEstop_keeps (s : State) : (resetEstop s).state.skel = s.skel ∧ (resetEstop s).state.mem = s.mem := by
  unfold resetEstop
  try dsimp only
  simp
@[simp ↓] theorem resetSiteEstop_keeps (a0 : Nat) (s : State) : (resetSiteEstop a0 s).state.skel = s.skel ∧ (resetSiteEstop a0 s).state.mem = s.mem := by
  unfold resetSiteEstop
  try dsimp only
  simp
@[simp ↓] theorem resetOutFault_keeps (a0 : Nat) (s : State) : (resetOutFault a0 s).state.skel = s.skel ∧ (resetOutFault a0 s).state.mem = s.mem := by
  unfold resetOutFault
  try dsimp only
  simp
@[simp ↓] theorem resetFaultBody_keeps (a0 : Call) (a1 : Bytes) (s : State) : (resetFaultBody a0 a1 s).state.skel = s.skel ∧ (resetFaultBody a0 a1 s).state.mem = s.mem := by
  unfold resetFaultBody
  try dsimp only
  (repeat' split) <;> simp
@[simp ↓] theorem stopBays_keeps (a0 : Nat) (a1 : Nat → Bool) (s : State) : (stopBays a0 a1 s).skel = s.skel ∧ (stopBays a0 a1 s).mem = s.mem := by
  unfold stopBays
  try dsimp only
  simp
@[simp ↓] theorem stopAll_keeps (a0 : Nat) (s : State) : (stopAll a0 s).skel = s.skel ∧ (stopAll a0 s).mem = s.mem := by
  unfold stopAll
  try dsimp only
  simp
@[simp ↓] theorem State_modSafety_skel (s : State) (f : Safety → Safety) (h : (f s.safety).peers.length = s.safety.peers.length) :
    (s.modSafety f).skel = s.skel := by simp [State.modSafety, State.skel, h]
@[simp ↓] theorem State_modSafety_mem (s : State) (f : Safety → Safety) : (s.modSafety f).mem = s.mem := rfl
@[simp ↓] theorem setGale_keeps (a0 : Nat) (a1 : Bool) (a2 : Bool) (s : State) : (setGale a0 a1 a2 s).skel = s.skel ∧ (setGale a0 a1 a2 s).mem = s.mem := by
  unfold setGale
  try dsimp only
  simp
@[simp ↓] theorem doorReacts_keeps (a0 : Bool) (s : State) : (doorReacts a0 s).skel = s.skel ∧ (doorReacts a0 s).mem = s.mem := by
  unfold doorReacts
  try dsimp only
  simp
@[simp ↓] theorem pressEstop_keeps (s : State) : (pressEstop s).skel = s.skel ∧ (pressEstop s).mem = s.mem := by
  unfold pressEstop
  try dsimp only
  simp
@[simp ↓] theorem losePeer_keeps (a0 : Nat) (s : State) : (losePeer a0 s).skel = s.skel ∧ (losePeer a0 s).mem = s.mem := by
  unfold losePeer
  try dsimp only
  simp
@[simp ↓] theorem peerGroup_keeps (a0 : Nat) (a1 : Bool) (s : State) : (peerGroup a0 a1 s).skel = s.skel ∧ (peerGroup a0 a1 s).mem = s.mem := by
  unfold peerGroup
  try dsimp only
  simp
@[simp ↓] theorem actOnFrame_keeps (a0 : Nat) (a1 : Bytes) (s : State) : (actOnFrame a0 a1 s).skel = s.skel ∧ (actOnFrame a0 a1 s).mem = s.mem := by
  unfold actOnFrame
  try dsimp only
  simp
@[simp ↓] theorem notePort_keeps (a0 : Nat) (a1 : Bool) (s : State) : (notePort a0 a1 s).skel = s.skel ∧ (notePort a0 a1 s).mem = s.mem := by
  unfold notePort
  try dsimp only
  simp
@[simp ↓] theorem acceptFrame_keeps (a0 : Nat) (a1 : Nat) (a2 : Bytes) (s : State) : (acceptFrame a0 a1 a2 s).skel = s.skel ∧ (acceptFrame a0 a1 a2 s).mem = s.mem := by
  unfold acceptFrame
  try dsimp only
  simp
@[simp ↓] theorem coresLost_keeps (s : State) : (coresLost s).skel = s.skel ∧ (coresLost s).mem = s.mem := by
  unfold coresLost
  try dsimp only
  simp
@[simp ↓] theorem strikeImage_keeps (a0 : ImageKind) (s : State) : (strikeImage a0 s).skel = s.skel ∧ (strikeImage a0 s).mem = s.mem := by
  unfold strikeImage
  try dsimp only
  simp
@[simp ↓] theorem failCore_keeps (a0 : SafetyCore) (a1 : TakeoverCause) (s : State) : (failCore a0 a1 s).skel = s.skel ∧ (failCore a0 a1 s).mem = s.mem := by
  unfold failCore
  try dsimp only
  simp
@[simp ↓] theorem rejoin_keeps (a0 : SafetyCore) (s : State) : (rejoin a0 s).skel = s.skel ∧ (rejoin a0 s).mem = s.mem := by
  unfold rejoin
  try dsimp only
  simp
@[simp ↓] theorem State_modCont_keeps (s : State) (a1 : Continuity → Continuity) : (State.modCont s a1).skel = s.skel ∧ (State.modCont s a1).mem = s.mem := by
  unfold State.modCont
  try dsimp only
  simp
@[simp ↓] theorem blame_keeps (a0 : Nat) (s : State) : (blame a0 s).1.skel = s.skel ∧ (blame a0 s).1.mem = s.mem := by
  unfold blame
  try dsimp only
  simp
@[simp ↓] theorem countTakeover_keeps (s : State) : (countTakeover s).skel = s.skel ∧ (countTakeover s).mem = s.mem := by
  unfold countTakeover
  try dsimp only
  simp
@[simp ↓] theorem ntfOut_keeps (a0 : Nat) (a1 : Nat) (a2 : Nat) (a3 : Nat) (s : State) : (ntfOut a0 a1 a2 a3 s).skel = s.skel ∧ (ntfOut a0 a1 a2 a3 s).mem = s.mem := by
  unfold ntfOut
  try dsimp only
  simp
@[simp ↓] theorem loseMetering_keeps (a0 : Nat) (s : State) : (loseMetering a0 s).skel = s.skel ∧ (loseMetering a0 s).mem = s.mem := by
  unfold loseMetering
  try dsimp only
  simp
@[simp ↓] theorem takeMetering_keeps (a0 : Nat) (a1 : Nat) (s : State) : (takeMetering a0 a1 s).skel = s.skel ∧ (takeMetering a0 a1 s).mem = s.mem := by
  unfold takeMetering
  try dsimp only
  simp
@[simp ↓] theorem loseControl_keeps (s : State) : (loseControl s).skel = s.skel ∧ (loseControl s).mem = s.mem := by
  unfold loseControl
  try dsimp only
  simp
@[simp ↓] theorem swapControl_keeps (a0 : Nat) (a1 : Nat) (a2 : VanState) (s : State) : (swapControl a0 a1 a2 s).skel = s.skel ∧ (swapControl a0 a1 a2 s).mem = s.mem := by
  unfold swapControl
  try dsimp only
  simp
@[simp ↓] theorem stopInstance_keeps (a0 : Nat) (s : State) : (stopInstance a0 s).skel = s.skel ∧ (stopInstance a0 s).mem = s.mem := by
  unfold stopInstance
  try dsimp only
  simp
@[simp ↓] theorem moveInstances_keeps (a0 : Nat) (a1 : Nat) (s : State) : (moveInstances a0 a1 s).skel = s.skel ∧ (moveInstances a0 a1 s).mem = s.mem := by
  unfold moveInstances
  try dsimp only
  simp
@[simp ↓] theorem plannedShunt_keeps (a0 : Nat) (s : State) : (plannedShunt a0 s).skel = s.skel ∧ (plannedShunt a0 s).mem = s.mem := by
  unfold plannedShunt
  try dsimp only
  (repeat' split) <;> simp
@[simp ↓] theorem failCluster_keeps (a0 : Nat) (a1 : Nat) (s : State) : (failCluster a0 a1 s).skel = s.skel ∧ (failCluster a0 a1 s).mem = s.mem := by
  unfold failCluster
  try dsimp only
  (repeat' split) <;> simp
@[simp ↓] theorem releaseOutputs_keeps (s : State) : (releaseOutputs s).skel = s.skel ∧ (releaseOutputs s).mem = s.mem := by
  unfold releaseOutputs
  try dsimp only
  simp
@[simp ↓] theorem beginStart_keeps (a0 : StartClass) (s : State) : (beginStart a0 s).skel = s.skel ∧ (beginStart a0 s).mem = s.mem := by
  unfold beginStart
  try dsimp only
  simp
@[simp ↓] theorem beginReset_keeps (a0 : Bool) (s : State) : (beginReset a0 s).skel = s.skel ∧ (beginReset a0 s).mem = s.mem := by
  unfold beginReset
  try dsimp only
  simp
@[simp ↓] theorem askImageKeys_keeps (s : State) (a1 : ImageKind) (a2 : Nat) (a3 : Bytes) : (askImageKeys s a1 a2 a3).skel = s.skel ∧ (askImageKeys s a1 a2 a3).mem = s.mem := by
  unfold askImageKeys
  try dsimp only
  (repeat' split) <;> simp
@[simp ↓] theorem ntfUpdate_keeps (a0 : ImageKind) (a1 : Nat) (a2 : Nat) (a3 : Nat) (a4 : Bytes) (a5 : Option CmdRef) (s : State) : (ntfUpdate a0 a1 a2 a3 a4 a5 s).skel = s.skel ∧ (ntfUpdate a0 a1 a2 a3 a4 a5 s).mem = s.mem := by
  unfold ntfUpdate
  try dsimp only
  simp
@[simp ↓] theorem State_modImages_skel (s : State) (f : Images → Images) (h : (f s.images).kinds.length = s.images.kinds.length) :
    (s.modImages f).skel = s.skel := by simp [State.modImages, State.skel, h]
@[simp ↓] theorem State_modImages_mem (s : State) (f : Images → Images) : (s.modImages f).mem = s.mem := rfl
@[simp ↓] theorem updateBeginBody_keeps (a0 : Call) (a1 : Bytes) (s : State) : (updateBeginBody a0 a1 s).state.skel = s.skel ∧ (updateBeginBody a0 a1 s).state.mem = s.mem := by
  unfold updateBeginBody
  try dsimp only
  (repeat' split) <;> simp
@[simp ↓] theorem updateDataBody_keeps (a0 : Call) (a1 : Bytes) (s : State) : (updateDataBody a0 a1 s).state.skel = s.skel ∧ (updateDataBody a0 a1 s).state.mem = s.mem := by
  unfold updateDataBody
  try dsimp only
  (repeat' split) <;> simp
@[simp ↓] theorem updateEndBody_keeps (a0 : Call) (a1 : Bytes) (s : State) : (updateEndBody a0 a1 s).state.skel = s.skel ∧ (updateEndBody a0 a1 s).state.mem = s.mem := by
  unfold updateEndBody
  try dsimp only
  (repeat' split) <;> simp
@[simp ↓] theorem startForward_keeps (a0 : ImageKind) (a1 : Nat) (a2 : Option CmdRef) (s : State) : (startForward a0 a1 a2 s).skel = s.skel ∧ (startForward a0 a1 a2 s).mem = s.mem := by
  unfold startForward
  try dsimp only
  simp
@[simp ↓] theorem updateForwardBody_keeps (a0 : Call) (a1 : Bytes) (s : State) : (updateForwardBody a0 a1 s).state.skel = s.skel ∧ (updateForwardBody a0 a1 s).state.mem = s.mem := by
  unfold updateForwardBody
  try dsimp only
  (repeat' split) <;> simp
@[simp ↓] theorem stageImage_keeps (a0 : ImageKind) (a1 : Bytes) (s : State) : (stageImage a0 a1 s).skel = s.skel ∧ (stageImage a0 a1 s).mem = s.mem := by
  unfold stageImage
  try dsimp only
  simp
@[simp ↓] theorem dropTransfer_keeps (a0 : Transfer) (s : State) : (dropTransfer a0 s).skel = s.skel ∧ (dropTransfer a0 s).mem = s.mem := by
  unfold dropTransfer
  try dsimp only
  simp
@[simp ↓] theorem updateAbortBody_keeps (a0 : Call) (a1 : Bytes) (s : State) : (updateAbortBody a0 a1 s).state.skel = s.skel ∧ (updateAbortBody a0 a1 s).state.mem = s.mem := by
  unfold updateAbortBody
  try dsimp only
  (repeat' split) <;> simp
@[simp ↓] theorem isolateVan_keeps (s : State) : (isolateVan s).skel = s.skel ∧ (isolateVan s).mem = s.mem := by
  unfold isolateVan
  try dsimp only
  simp
@[simp ↓] theorem updateActivateBody_keeps (a0 : Call) (a1 : Bytes) (s : State) : (updateActivateBody a0 a1 s).state.skel = s.skel ∧ (updateActivateBody a0 a1 s).state.mem = s.mem := by
  unfold updateActivateBody
  try dsimp only
  (repeat' split) <;> simp
@[simp ↓] theorem switchBank_keeps (a0 : ImageKind) (a1 : ImageMeta) (s : State) : (switchBank a0 a1 s).skel = s.skel ∧ (switchBank a0 a1 s).mem = s.mem := by
  unfold switchBank
  try dsimp only
  (repeat' split) <;> simp
@[simp ↓] theorem plannedTakeover_keeps (a0 : VanState) (s : State) : (plannedTakeover a0 s).skel = s.skel ∧ (plannedTakeover a0 s).mem = s.mem := by
  unfold plannedTakeover
  try dsimp only
  simp
@[simp ↓] theorem reloadCores_keeps (s : State) : (reloadCores s).skel = s.skel ∧ (reloadCores s).mem = s.mem := by
  unfold reloadCores
  try dsimp only
  simp
@[simp ↓] theorem rollClusters_keeps (s : State) : (rollClusters s).skel = s.skel ∧ (rollClusters s).mem = s.mem := by
  unfold rollClusters
  try dsimp only
  simp
@[simp ↓] theorem runProcedure_keeps (a0 : ImageKind) (a1 : VanState) (s : State) : (runProcedure a0 a1 s).skel = s.skel ∧ (runProcedure a0 a1 s).mem = s.mem := by
  unfold runProcedure
  try dsimp only
  (repeat' split) <;> simp
@[simp ↓] theorem enterTrial_keeps (a0 : ImageKind) (s : State) : (enterTrial a0 s).skel = s.skel ∧ (enterTrial a0 s).mem = s.mem := by
  unfold enterTrial
  try dsimp only
  simp
@[simp ↓] theorem completeActivation_keeps (a0 : ImageKind) (s : State) : (completeActivation a0 s).skel = s.skel ∧ (completeActivation a0 s).mem = s.mem := by
  unfold completeActivation
  try dsimp only
  (repeat' split) <;> simp
@[simp ↓] theorem returnBank_keeps (a0 : ImageKind) (s : State) : (returnBank a0 s).skel = s.skel ∧ (returnBank a0 s).mem = s.mem := by
  unfold returnBank
  try dsimp only
  simp
@[simp ↓] theorem ntfFallback_keeps (a0 : ImageKind) (a1 : Nat) (s : State) : (ntfFallback a0 a1 s).skel = s.skel ∧ (ntfFallback a0 a1 s).mem = s.mem := by
  unfold ntfFallback
  try dsimp only
  simp
@[simp ↓] theorem failControl_keeps (a0 : Nat) (a1 : Nat) (s : State) : (failControl a0 a1 s).skel = s.skel ∧ (failControl a0 a1 s).mem = s.mem := by
  unfold failControl
  try dsimp only
  (repeat' split) <;> simp
@[simp ↓] theorem bankEngineFault_keeps (a0 : SramBank) (s : State) : (bankEngineFault a0 s).skel = s.skel ∧ (bankEngineFault a0 s).mem = s.mem := by
  unfold bankEngineFault
  try dsimp only
  (repeat' split) <;> simp
@[simp ↓] theorem rebuildBank_keeps (a0 : SramBank) (a1 : Nat) (s : State) : (rebuildBank a0 a1 s).skel = s.skel ∧ (rebuildBank a0 a1 s).mem = s.mem := by
  unfold rebuildBank
  try dsimp only
  (repeat' split) <;> simp
@[simp ↓] theorem damageProfile_keeps (s : State) : (damageProfile s).skel = s.skel ∧ (damageProfile s).mem = s.mem := by
  unfold damageProfile
  try dsimp only
  simp
@[simp ↓] theorem failAttempt_skel (u kind unit src : Nat) (f : State → State) (h : ∀ x, (f x).skel = x.skel) (s : State) :
    (failAttempt u kind unit src f s).skel = s.skel := by
  unfold failAttempt; dsimp only; split <;> simp [h]
@[simp ↓] theorem failAttempt_mem (u kind unit src : Nat) (f : State → State) (h : ∀ x, (f x).mem = x.mem) (s : State) :
    (failAttempt u kind unit src f s).mem = s.mem := by
  unfold failAttempt; dsimp only; split <;> simp [h]
@[simp ↓] theorem holdSessions_keeps (s : State) : (holdSessions s).skel = s.skel ∧ (holdSessions s).mem = s.mem := by
  unfold holdSessions
  try dsimp only
  (repeat' split) <;> simp (disch := (intros; (repeat' split) <;> simp))
@[simp ↓] theorem exhaustStore_keeps (s : State) : (exhaustStore s).skel = s.skel ∧ (exhaustStore s).mem = s.mem := by
  unfold exhaustStore
  try dsimp only
  simp
@[simp ↓] theorem storeLevel_keeps (s : State) : (storeLevel s).skel = s.skel ∧ (storeLevel s).mem = s.mem := by
  unfold storeLevel
  try dsimp only
  simp
@[simp ↓] theorem waitRecord_keeps (a0 : Nat) (s : State) : (waitRecord a0 s).skel = s.skel ∧ (waitRecord a0 s).mem = s.mem := by
  unfold waitRecord
  try dsimp only
  simp
@[simp ↓] theorem ntfRecordReady_keeps (a0 : RecordSlot) (a1 : Nat) (s : State) : (ntfRecordReady a0 a1 s).skel = s.skel ∧ (ntfRecordReady a0 a1 s).mem = s.mem := by
  unfold ntfRecordReady
  try dsimp only
  simp
@[simp ↓] theorem storeRecord_keeps (a0 : Nat) (a1 : Nat) (a2 : Bool) (s : State) : (storeRecord a0 a1 a2 s).skel = s.skel ∧ (storeRecord a0 a1 a2 s).mem = s.mem := by
  unfold storeRecord
  try dsimp only
  simp
@[simp ↓] theorem State_modDisp_skel (s : State) (f : Display → Display) : (s.modDisp f).skel = s.skel := rfl
@[simp ↓] theorem State_modDisp_mem (s : State) (f : Display → Display) (h : (f s.disp).frame = s.disp.frame) :
    (s.modDisp f).mem = s.mem := by simp [State.modDisp, State.mem, h]
theorem drawRow_wf (s : State) (y a b : Nat) (data : Bytes) (m : List Host.Cell) (h : Memory.wf m = true) :
    Memory.wf (drawRow s y a b data m) = true := by
  unfold drawRow
  generalize List.range ((b + 7) / 8 - a / 8) = l
  induction l generalizing m with
  | nil => exact h
  | cons k l ih => exact ih _ (writeMem_wf h _ _)
theorem drawRect_wf (s : State) (x y w hh : Nat) (data : Bytes) (m : List Host.Cell) (h : Memory.wf m = true) :
    Memory.wf (drawRect s x y w hh data m) = true := by
  unfold drawRect
  dsimp only
  generalize List.range hh = l
  induction l generalizing m with
  | nil => exact h
  | cons k l ih => exact ih _ (drawRow_wf _ _ _ _ _ _ h)
@[simp ↓] theorem dispWriteBody_keeps (c : Call) (pl : Bytes) (s : State) :
    (dispWriteBody c pl s).state.skel = s.skel ∧ (s.wfMem → (dispWriteBody c pl s).state.wfMem) := by
  unfold dispWriteBody
  dsimp only
  repeat' split
  all_goals refine ⟨by simp, fun h => ?_⟩
  all_goals first | exact h | exact ⟨drawRect_wf _ _ _ _ _ _ _ h.1, h.2⟩
@[simp ↓] theorem dispBlinkBody_keeps (a0 : Call) (a1 : Bytes) (s : State) : (dispBlinkBody a0 a1 s).state.skel = s.skel ∧ (dispBlinkBody a0 a1 s).state.mem = s.mem := by
  unfold dispBlinkBody
  try dsimp only
  simp
@[simp ↓] theorem legalMismatch_keeps (a0 : Nat) (a1 : Nat) (s : State) : (legalMismatch a0 a1 s).skel = s.skel ∧ (legalMismatch a0 a1 s).mem = s.mem := by
  unfold legalMismatch
  try dsimp only
  simp
@[simp ↓] theorem refreshPass_keeps (a0 : Nat) (a1 : Nat) (s : State) : (refreshPass a0 a1 s).skel = s.skel ∧ (refreshPass a0 a1 s).mem = s.mem := by
  unfold refreshPass
  try dsimp only
  simp
@[simp ↓] theorem renderLegal_keeps (s : State) : (renderLegal s).skel = s.skel ∧ (renderLegal s).mem = s.mem := by
  unfold renderLegal
  try dsimp only
  simp
@[simp ↓] theorem lastPassOf_keeps (s : State) : (lastPassOf s).skel = s.skel ∧ (lastPassOf s).mem = s.mem := by
  unfold lastPassOf
  try dsimp only
  simp
@[simp ↓] theorem keyListBody_keeps (a0 : Call) (a1 : Bytes) (s : State) : (keyListBody a0 a1 s).state.skel = s.skel ∧ (keyListBody a0 a1 s).state.mem = s.mem := by
  unfold keyListBody
  try dsimp only
  simp
@[simp ↓] theorem keyGetPublicBody_keeps (a0 : Call) (a1 : Bytes) (s : State) : (keyGetPublicBody a0 a1 s).state.skel = s.skel ∧ (keyGetPublicBody a0 a1 s).state.mem = s.mem := by
  unfold keyGetPublicBody
  try dsimp only
  (repeat' split) <;> simp
@[simp ↓] theorem fillSlot_keeps (a0 : Nat) (a1 : KeySlot) (a2 : Bytes) (a3 : Bytes) (s : State) : (fillSlot a0 a1 a2 a3 s).skel = s.skel ∧ (fillSlot a0 a1 a2 a3 s).mem = s.mem := by
  unfold fillSlot
  try dsimp only
  simp
@[simp ↓] theorem keyLogbook_keeps (a0 : Nat) (a1 : Nat) (a2 : Nat) (s : State) : (keyLogbook a0 a1 a2 s).skel = s.skel ∧ (keyLogbook a0 a1 a2 s).mem = s.mem := by
  unfold keyLogbook
  try dsimp only
  simp
@[simp ↓] theorem generateInto_keeps (a0 : Nat) (a1 : KeySlot) (s : State) : (generateInto a0 a1 s).state.skel = s.skel ∧ (generateInto a0 a1 s).state.mem = s.mem := by
  unfold generateInto
  try dsimp only
  simp
@[simp ↓] theorem generateMeter_keeps (a0 : Call) (a1 : Nat) (a2 : Bytes) (s : State) : (generateMeter a0 a1 a2 s).state.skel = s.skel ∧ (generateMeter a0 a1 a2 s).state.mem = s.mem := by
  unfold generateMeter
  try dsimp only
  simp
@[simp ↓] theorem keyGenerateBody_keeps (a0 : Call) (a1 : Bytes) (s : State) : (keyGenerateBody a0 a1 s).state.skel = s.skel ∧ (keyGenerateBody a0 a1 s).state.mem = s.mem := by
  unfold keyGenerateBody
  try dsimp only
  simp
@[simp ↓] theorem importKey_keeps (a0 : Call) (a1 : Nat) (a2 : Nat) (a3 : KeySlot) (a4 : Bytes) (s : State) : (importKey a0 a1 a2 a3 a4 s).state.skel = s.skel ∧ (importKey a0 a1 a2 a3 a4 s).state.mem = s.mem := by
  unfold importKey
  try dsimp only
  (repeat' split) <;> simp
@[simp ↓] theorem keyImportBody_keeps (a0 : Call) (a1 : Bytes) (s : State) : (keyImportBody a0 a1 s).state.skel = s.skel ∧ (keyImportBody a0 a1 s).state.mem = s.mem := by
  unfold keyImportBody
  try dsimp only
  simp
@[simp ↓] theorem keyDeriveBody_keeps (a0 : Call) (a1 : Bytes) (s : State) : (keyDeriveBody a0 a1 s).state.skel = s.skel ∧ (keyDeriveBody a0 a1 s).state.mem = s.mem := by
  unfold keyDeriveBody
  try dsimp only
  (repeat' split) <;> simp
@[simp ↓] theorem closeWorldEverywhere_keeps (a0 : World) (s : State) : (closeWorldEverywhere a0 s).skel = s.skel ∧ (closeWorldEverywhere a0 s).mem = s.mem := by
  unfold closeWorldEverywhere
  try dsimp only
  simp
@[simp ↓] theorem invalidateSlot_keeps (a0 : Nat) (s : State) : (invalidateSlot a0 s).1.skel = s.skel ∧ (invalidateSlot a0 s).1.mem = s.mem := by
  unfold invalidateSlot
  try dsimp only
  (repeat' split) <;> simp
@[simp ↓] theorem keyInvalidateBody_keeps (a0 : Call) (a1 : Bytes) (s : State) : (keyInvalidateBody a0 a1 s).state.skel = s.skel ∧ (keyInvalidateBody a0 a1 s).state.mem = s.mem := by
  unfold keyInvalidateBody
  try dsimp only
  simp
@[simp ↓] theorem attestBody_keeps (a0 : Call) (a1 : Bytes) (s : State) : (attestBody a0 a1 s).state.skel = s.skel ∧ (attestBody a0 a1 s).state.mem = s.mem := by
  unfold attestBody
  try dsimp only
  (repeat' split) <;> simp
@[simp ↓] theorem enterLifecycle_keeps (a0 : Lifecycle) (a1 : Nat) (s : State) : (enterLifecycle a0 a1 s).skel = s.skel ∧ (enterLifecycle a0 a1 s).mem = s.mem := by
  unfold enterLifecycle
  try dsimp only
  simp
@[simp ↓] theorem setLifecycleBody_keeps (a0 : Call) (a1 : Bytes) (s : State) : (setLifecycleBody a0 a1 s).state.skel = s.skel ∧ (setLifecycleBody a0 a1 s).state.mem = s.mem := by
  unfold setLifecycleBody
  try dsimp only
  (repeat' split) <;> simp
@[simp ↓] theorem withChan_skel (pl : Bytes) (s : State) (f : Nat → Ans) (h : ∀ b, (f b).state.skel = s.skel) :
    (withChan pl s f).state.skel = s.skel := by
  unfold withChan; dsimp only; split <;> simp [h]
@[simp ↓] theorem withChan_mem (pl : Bytes) (s : State) (f : Nat → Ans) (h : ∀ b, (f b).state.mem = s.mem) :
    (withChan pl s f).state.mem = s.mem := by
  unfold withChan; dsimp only; split <;> simp [h]
@[simp ↓] theorem lswSetBody_keeps (a0 : Call) (a1 : Bytes) (s : State) : (lswSetBody a0 a1 s).state.skel = s.skel ∧ (lswSetBody a0 a1 s).state.mem = s.mem := by
  unfold lswSetBody
  try dsimp only
  (repeat' split) <;> simp (disch := (intros; (repeat' split) <;> simp))
@[simp ↓] theorem restartCommanded_keeps (a0 : Nat) (s : State) : (restartCommanded a0 s).skel = s.skel ∧ (restartCommanded a0 s).mem = s.mem := by
  unfold restartCommanded
  try dsimp only
  simp
@[simp ↓] theorem lswUnlockBody_keeps (a0 : Nat) (s : State) : (lswUnlockBody a0 s).state.skel = s.skel ∧ (lswUnlockBody a0 s).state.mem = s.mem := by
  unfold lswUnlockBody
  try dsimp only
  simp
@[simp ↓] theorem heldLockFails_keeps (a0 : Nat) (s : State) : (heldLockFails a0 s).skel = s.skel ∧ (heldLockFails a0 s).mem = s.mem := by
  unfold heldLockFails
  try dsimp only
  (repeat' split) <;> simp
@[simp ↓] theorem lockChannelFails_keeps (a0 : Nat) (s : State) : (lockChannelFails a0 s).skel = s.skel ∧ (lockChannelFails a0 s).mem = s.mem := by
  unfold lockChannelFails
  try dsimp only
  (repeat' split) <;> simp
@[simp ↓] theorem holderReacts_keeps (a0 : Nat) (s : State) : (holderReacts a0 s).skel = s.skel ∧ (holderReacts a0 s).mem = s.mem := by
  unfold holderReacts
  try dsimp only
  (repeat' split) <;> simp
@[simp ↓] theorem protectiveOff_keeps (a0 : Nat) (a1 : Nat) (a2 : Chan → Chan) (s : State) : (protectiveOff a0 a1 a2 s).skel = s.skel ∧ (protectiveOff a0 a1 a2 s).mem = s.mem := by
  unfold protectiveOff
  try dsimp only
  simp
@[simp ↓] theorem setUndervolt_keeps (a0 : Nat) (a1 : Bool) (s : State) : (setUndervolt a0 a1 s).skel = s.skel ∧ (setUndervolt a0 a1 s).mem = s.mem := by
  unfold setUndervolt
  try dsimp only
  simp
@[simp ↓] theorem loseSupply_keeps (a0 : Nat) (s : State) : (loseSupply a0 s).skel = s.skel ∧ (loseSupply a0 s).mem = s.mem := by
  unfold loseSupply
  try dsimp only
  (repeat' split) <;> simp
@[simp ↓] theorem shedChan_keeps (a0 : Nat) (s : State) : (shedChan a0 s).skel = s.skel ∧ (shedChan a0 s).mem = s.mem := by
  unfold shedChan
  try dsimp only
  simp
@[simp ↓] theorem shedLoop_keeps (g : Nat) (l : List Nat) (n : Nat) (s : State) :
    (shedLoop g l n s).skel = s.skel ∧ (shedLoop g l n s).mem = s.mem := by
  induction n generalizing s with
  | zero => exact ⟨rfl, rfl⟩
  | succ n ih => unfold shedLoop; split <;> [simp; (split <;> simp [ih])]
@[simp ↓] theorem State_modPower_keeps (s : State) (a1 : Power → Power) : (State.modPower s a1).skel = s.skel ∧ (State.modPower s a1).mem = s.mem := by
  unfold State.modPower
  try dsimp only
  simp
@[simp ↓] theorem resetBody_keeps (a0 : Call) (a1 : Bytes) (s : State) : (resetBody a0 a1 s).state.skel = s.skel ∧ (resetBody a0 a1 s).state.mem = s.mem := by
  unfold resetBody
  try dsimp only
  simp
@[simp ↓] theorem enterPower_keeps (a0 : PowerState) (s : State) : (enterPower a0 s).skel = s.skel ∧ (enterPower a0 s).mem = s.mem := by
  unfold enterPower
  try dsimp only
  simp
@[simp ↓] theorem setPowerStateBody_keeps (a0 : Call) (a1 : Bytes) (s : State) : (setPowerStateBody a0 a1 s).state.skel = s.skel ∧ (setPowerStateBody a0 a1 s).state.mem = s.mem := by
  unfold setPowerStateBody
  try dsimp only
  simp
@[simp ↓] theorem setInput_keeps (a0 : Bool) (a1 : Bool) (s : State) : (setInput a0 a1 s).skel = s.skel ∧ (setInput a0 a1 s).mem = s.mem := by
  unfold setInput
  try dsimp only
  simp
@[simp ↓] theorem vsupReturns_keeps (s : State) : (vsupReturns s).skel = s.skel ∧ (vsupReturns s).mem = s.mem := by
  unfold vsupReturns
  try dsimp only
  simp
@[simp ↓] theorem commitPartial_keeps (s : State) : (commitPartial s).skel = s.skel ∧ (commitPartial s).mem = s.mem := by
  unfold commitPartial
  try dsimp only
  simp
@[simp ↓] theorem closeAtCut_keeps (a0 : Nat) (a1 : Nat) (s : State) : (closeAtCut a0 a1 s).skel = s.skel ∧ (closeAtCut a0 a1 s).mem = s.mem := by
  unfold closeAtCut
  try dsimp only
  (repeat' split) <;> simp
@[simp ↓] theorem stopHeartbeats_keeps (s : State) : (stopHeartbeats s).skel = s.skel ∧ (stopHeartbeats s).mem = s.mem := by
  unfold stopHeartbeats
  try dsimp only
  simp
@[simp ↓] theorem lastPassAtCut_keeps (s : State) : (lastPassAtCut s).skel = s.skel ∧ (lastPassAtCut s).mem = s.mem := by
  unfold lastPassAtCut
  try dsimp only
  simp
@[simp ↓] theorem powerFail_keeps (s : State) : (powerFail s).skel = s.skel ∧ (powerFail s).mem = s.mem := by
  unfold powerFail
  try dsimp only
  simp
@[simp ↓] theorem flushAtEnd_keeps (a0 : Nat) (s : State) : (flushAtEnd a0 s).skel = s.skel ∧ (flushAtEnd a0 s).mem = s.mem := by
  unfold flushAtEnd
  try dsimp only
  simp
@[simp ↓] theorem enterStandby_keeps (s : State) : (enterStandby s).skel = s.skel ∧ (enterStandby s).mem = s.mem := by
  unfold enterStandby
  try dsimp only
  simp
@[simp ↓] theorem eventsReadBody_keeps (a0 : Call) (a1 : Bytes) (s : State) : (eventsReadBody a0 a1 s).state.skel = s.skel ∧ (eventsReadBody a0 a1 s).state.mem = s.mem := by
  unfold eventsReadBody
  try dsimp only
  simp
@[simp ↓] theorem eventsFilterBody_keeps (a0 : Call) (a1 : Bytes) (s : State) : (eventsFilterBody a0 a1 s).state.skel = s.skel ∧ (eventsFilterBody a0 a1 s).state.mem = s.mem := by
  unfold eventsFilterBody
  try dsimp only
  simp
@[simp ↓] theorem State_modPerf_keeps (s : State) (a1 : Perf → Perf) : (State.modPerf s a1).skel = s.skel ∧ (State.modPerf s a1).mem = s.mem := by
  unfold State.modPerf
  try dsimp only
  simp
@[simp ↓] theorem perfConfigureBody_keeps (a0 : Call) (a1 : Bytes) (s : State) : (perfConfigureBody a0 a1 s).state.skel = s.skel ∧ (perfConfigureBody a0 a1 s).state.mem = s.mem := by
  unfold perfConfigureBody
  try dsimp only
  (repeat' split) <;> simp
@[simp ↓] theorem perfReadBody_keeps (a0 : Call) (a1 : Bytes) (s : State) : (perfReadBody a0 a1 s).state.skel = s.skel ∧ (perfReadBody a0 a1 s).state.mem = s.mem := by
  unfold perfReadBody
  try dsimp only
  simp
@[simp ↓] theorem withReader_skel (pl : Bytes) (s : State) (f : Nat → Ans) (h : ∀ b, (f b).state.skel = s.skel) :
    (withReader pl s f).state.skel = s.skel := by
  unfold withReader; dsimp only; split <;> simp [h]
@[simp ↓] theorem withReader_mem (pl : Bytes) (s : State) (f : Nat → Ans) (h : ∀ b, (f b).state.mem = s.mem) :
    (withReader pl s f).state.mem = s.mem := by
  unfold withReader; dsimp only; split <;> simp [h]
@[simp ↓] theorem startPoll_keeps (a0 : Nat) (a1 : Nat) (a2 : Nat) (a3 : Option CmdRef) (s : State) : (startPoll a0 a1 a2 a3 s).skel = s.skel ∧ (startPoll a0 a1 a2 a3 s).mem = s.mem := by
  unfold startPoll
  try dsimp only
  simp
@[simp ↓] theorem rdrPollBody_keeps (a0 : Call) (a1 : Bytes) (s : State) : (rdrPollBody a0 a1 s).state.skel = s.skel ∧ (rdrPollBody a0 a1 s).state.mem = s.mem := by
  unfold rdrPollBody
  try dsimp only
  simp
@[simp ↓] theorem rdrTransceiveBody_keeps (a0 : Call) (a1 : Bytes) (s : State) : (rdrTransceiveBody a0 a1 s).state.skel = s.skel ∧ (rdrTransceiveBody a0 a1 s).state.mem = s.mem := by
  unfold rdrTransceiveBody
  try dsimp only
  (repeat' split) <;> simp
@[simp ↓] theorem detect_keeps (a0 : Nat) (s : State) : (detect a0 s).skel = s.skel ∧ (detect a0 s).mem = s.mem := by
  unfold detect
  try dsimp only
  simp
@[simp ↓] theorem takePing_keeps (a0 : Nat) (a1 : Int) (a2 : Int) (s : State) : (takePing a0 a1 a2 s).skel = s.skel ∧ (takePing a0 a1 a2 s).mem = s.mem := by
  unfold takePing
  try dsimp only
  simp
@[simp ↓] theorem decideCard_keeps (a0 : Nat) (a1 : Nat) (a2 : CardKind × Bytes) (s : State) : (decideCard a0 a1 a2 s).skel = s.skel ∧ (decideCard a0 a1 a2 s).mem = s.mem := by
  unfold decideCard
  try dsimp only
  simp
@[simp ↓] theorem presentCard_keeps (a0 : Nat) (a1 : CardKind × Bytes) (s : State) : (presentCard a0 a1 s).skel = s.skel ∧ (presentCard a0 a1 s).mem = s.mem := by
  unfold presentCard
  try dsimp only
  (repeat' split) <;> simp
@[simp ↓] theorem State_modTag_skel (s : State) (f : Tag → Tag) : (s.modTag f).skel = s.skel := rfl
@[simp ↓] theorem State_modTag_mem (s : State) (f : Tag → Tag) (h : (f s.tag).phys = s.tag.phys) :
    (s.modTag f).mem = s.mem := by simp [State.modTag, State.mem, h]
theorem Tag.shadow_wf (t : Tag) (l : List (Nat × Bytes)) (h : Memory.wf t.phys = true) : Memory.wf (t.shadow l).1.phys = true := by
  unfold Tag.shadow
  dsimp only
  generalize t.pointer.map = m
  generalize ([] : List Nat) = u
  induction l generalizing t m u with
  | nil => exact h
  | cons b l ih => exact ih _ (writeMemN_wf h _ _) _ _
theorem Tag.commit_wf (t : Tag) (l : List (Nat × Bytes)) (h : Memory.wf t.phys = true) : Memory.wf (t.commit l).phys = true :=
  Tag.shadow_wf t l h
@[simp ↓] theorem awaitBlocks_keeps (a0 : Nat) (a1 : Nat) (s : State) : (awaitBlocks a0 a1 s).1.skel = s.skel ∧ (awaitBlocks a0 a1 s).1.mem = s.mem := by
  unfold awaitBlocks
  try dsimp only
  (repeat' split) <;> simp
@[simp ↓] theorem tagReadBody_keeps (a0 : Call) (a1 : Bytes) (s : State) : (tagReadBody a0 a1 s).state.skel = s.skel ∧ (tagReadBody a0 a1 s).state.mem = s.mem := by
  unfold tagReadBody
  try dsimp only
  simp
@[simp ↓] theorem tagWriteBody_keeps (c : Call) (pl : Bytes) (s : State) :
    (tagWriteBody c pl s).state.skel = s.skel ∧ (s.wfMem → (tagWriteBody c pl s).state.wfMem) := by
  have hm : ∀ n w, (awaitBlocks n w s).1.mem = s.mem := fun n w => (awaitBlocks_keeps n w s).2
  unfold tagWriteBody
  dsimp only
  repeat' split
  all_goals refine ⟨by simp, fun h => ?_⟩
  all_goals first
    | exact h
    | (have h2 : (awaitBlocks (fld pl 0 1) 1 s).1.wfMem := by unfold State.wfMem; rw [hm]; exact h
       first | exact h2 | exact ⟨h2.1, Tag.commit_wf _ _ h2.2⟩)
@[simp ↓] theorem fieldAt_keeps (s : State) : (fieldAt s).skel = s.skel ∧ (fieldAt s).mem = s.mem := by
  unfold fieldAt
  try dsimp only
  simp
@[simp ↓] theorem respond_keeps (a0 : Bytes) (a1 : Nat) (s : State) : (respond a0 a1 s).skel = s.skel ∧ (respond a0 a1 s).mem = s.mem := by
  unfold respond
  try dsimp only
  simp
@[simp ↓] theorem holdLocks_keeps (a0 : Nat) (a1 : Nat) (s : State) : (holdLocks a0 a1 s).skel = s.skel ∧ (holdLocks a0 a1 s).mem = s.mem := by
  unfold holdLocks
  try dsimp only
  simp
@[simp ↓] theorem ntfTag_keeps (a0 : Nat) (a1 : Nat) (a2 : Nat) (s : State) : (ntfTag a0 a1 a2 s).skel = s.skel ∧ (ntfTag a0 a1 a2 s).mem = s.mem := by
  unfold ntfTag
  try dsimp only
  simp
@[simp ↓] theorem restartClock_keeps (a0 : StartClass) (s : State) : (restartClock a0 s).skel = s.skel ∧ (restartClock a0 s).mem = s.mem := by
  unfold restartClock
  try dsimp only
  (repeat' split) <;> simp
@[simp ↓] theorem restoreStore_keeps (s : State) : (restoreStore s).skel = s.skel ∧ (restoreStore s).mem = s.mem := by
  unfold restoreStore
  try dsimp only
  (repeat' split) <;> simp
@[simp ↓] theorem restartMetering_keeps (s : State) : (restartMetering s).skel = s.skel ∧ (restartMetering s).mem = s.mem := by
  unfold restartMetering
  try dsimp only
  simp
@[simp ↓] theorem sleptEntries_keeps (n a b : Nat) (s : State) :
    (sleptEntries n a b s).skel = s.skel ∧ (sleptEntries n a b s).mem = s.mem := by
  induction n generalizing a s with
  | zero => exact ⟨rfl, rfl⟩
  | succ n ih => unfold sleptEntries; dsimp only; split <;> simp [ih]
@[simp ↓] theorem reopenInterval_keeps (s : State) : (reopenInterval s).skel = s.skel ∧ (reopenInterval s).mem = s.mem := by
  unfold reopenInterval
  try dsimp only
  simp
@[simp ↓] theorem startImage_keeps (a0 : ImageKind) (a1 : Bool) (a2 : Bool) (s : State) : (startImage a0 a1 a2 s).skel = s.skel ∧ (startImage a0 a1 a2 s).mem = s.mem := by
  unfold startImage
  try dsimp only
  simp
@[simp ↓] theorem startImages_keeps (a0 : StartClass) (a1 : StartConditions) (s : State) : (startImages a0 a1 s).skel = s.skel ∧ (startImages a0 a1 s).mem = s.mem := by
  unfold startImages
  try dsimp only
  (repeat' split) <;> simp
@[simp ↓] theorem reportFailed_keeps (a0 : Nat) (a1 : Nat) (a2 : Bool) (a3 : Nat) (s : State) : (reportFailed a0 a1 a2 a3 s).skel = s.skel ∧ (reportFailed a0 a1 a2 a3 s).mem = s.mem := by
  unfold reportFailed
  try dsimp only
  simp
@[simp ↓] theorem startContinuity_keeps (a0 : StartClass) (a1 : StartConditions) (s : State) : (startContinuity a0 a1 s).skel = s.skel ∧ (startContinuity a0 a1 s).mem = s.mem := by
  unfold startContinuity
  try dsimp only
  simp
@[simp ↓] theorem reportCore_keeps (a0 : Nat) (a1 : Bool) (a2 : Bool) (s : State) : (reportCore a0 a1 a2 s).skel = s.skel ∧ (reportCore a0 a1 a2 s).mem = s.mem := by
  unfold reportCore
  try dsimp only
  simp
@[simp ↓] theorem startSafety_keeps (a0 : StartClass) (a1 : StartConditions) (s : State) : (startSafety a0 a1 s).skel = s.skel ∧ (startSafety a0 a1 s).mem = s.mem := by
  unfold startSafety
  try dsimp only
  simp
@[simp ↓] theorem configureConverters_keeps (a0 : StartClass) (a1 : List Bay) (s : State) : (configureConverters a0 a1 s).skel = s.skel ∧ (configureConverters a0 a1 s).mem = s.mem := by
  unfold configureConverters
  try dsimp only
  simp
@[simp ↓] theorem restartCtx_keeps (a0 : StartClass) (a1 : Nat) (s : State) : (restartCtx a0 a1 s).skel = s.skel ∧ (restartCtx a0 a1 s).mem = s.mem := by
  unfold restartCtx
  try dsimp only
  (repeat' split) <;> simp
@[simp ↓] theorem reportDiscarded_keeps (a0 : List Nat) (a1 : QEntry) (s : State) : (reportDiscarded a0 a1 s).skel = s.skel ∧ (reportDiscarded a0 a1 s).mem = s.mem := by
  unfold reportDiscarded
  try dsimp only
  (repeat' split) <;> simp
@[simp ↓] theorem startChans_keeps (a0 : StartClass) (s : State) : (startChans a0 s).skel = s.skel ∧ (startChans a0 s).mem = s.mem := by
  unfold startChans
  try dsimp only
  simp
@[simp ↓] theorem startRecords_keeps (a0 : StartClass) (s : State) : (startRecords a0 s).skel = s.skel ∧ (startRecords a0 s).mem = s.mem := by
  unfold startRecords
  try dsimp only
  (repeat' split) <;> simp
@[simp ↓] theorem reportStart_keeps (a0 : PowerState) (s : State) : (reportStart a0 s).skel = s.skel ∧ (reportStart a0 s).mem = s.mem := by
  unfold reportStart
  try dsimp only
  simp
@[simp ↓] theorem dropReassembly_keeps (a0 : HostPort) (s : State) : (dropReassembly a0 s).skel = s.skel ∧ (dropReassembly a0 s).mem = s.mem := by
  unfold dropReassembly
  try dsimp only
  simp
@[simp ↓] theorem firstFragment_keeps (a0 : Hdr) (a1 : Nat) (a2 : Bytes) (s : State) : (firstFragment a0 a1 a2 s).skel = s.skel ∧ (firstFragment a0 a1 a2 s).mem = s.mem := by
  unfold firstFragment
  try dsimp only
  simp

@[simp ↓] theorem activateCalendar_keeps (c : Bytes) (rest : List Bytes) (s : State) :
    (activateCalendar c rest s).skel = s.skel ∧ (activateCalendar c rest s).mem = s.mem := by
  unfold activateCalendar
  constructor
  · dsimp only
    rw [skel_foldl _ (by intro a k; split <;> [(split <;> simp); rfl])]
    simp
    intro; apply breakInterval_skel; intro x; rfl
  · dsimp only
    rw [mem_foldl _ (by intro a k; split <;> [(split <;> simp); rfl])]
    simp
    intro; apply breakInterval_mem; intro x; rfl
@[simp ↓] theorem activateDue_keeps (n : Nat) (s : State) : (activateDue n s).skel = s.skel ∧ (activateDue n s).mem = s.mem := by
  induction n generalizing s with
  | zero => exact ⟨rfl, rfl⟩
  | succ n ih => unfold activateDue; split <;> [(split <;> simp [ih]); simp]
@[simp ↓] theorem wakeIntervals_keeps (s : State) : (wakeIntervals s).skel = s.skel ∧ (wakeIntervals s).mem = s.mem := by
  unfold wakeIntervals
  dsimp only
  repeat' split
  all_goals simp
@[simp ↓] theorem clearVolatile_keeps (cls : StartClass) (rtc : Nat) (off : Bool) (s : State) :
    (clearVolatile cls rtc off s).skel = s.skel ∧ (s.wfMem → (clearVolatile cls rtc off s).wfMem) := by
  unfold clearVolatile
  dsimp only
  refine ⟨?_, fun h => ?_⟩
  · repeat' split
    all_goals simp
  · generalize hx : applyCommits _ _ = x
    have h2 : x.wfMem := by
      rw [← hx]
      exact (applyCommits_keeps _ _).2 ⟨rfl, h.2⟩
    unfold State.wfMem at h2 ⊢
    repeat' split
    all_goals simpa using h2
@[simp ↓] theorem startModule_keeps (cls : StartClass) (m : StartConditions) (s : State) :
    (startModule cls m s).skel = s.skel ∧ (s.wfMem → (startModule cls m s).wfMem) := by
  unfold startModule
  dsimp only
  generalize hx : clearVolatile _ _ _ s = x
  have h1 : x.skel = s.skel := by rw [← hx]; simp
  have h2 : s.wfMem → x.wfMem := by rw [← hx]; exact (clearVolatile_keeps _ _ _ _).2
  refine ⟨?_, fun h => ?_⟩
  · repeat' split
    all_goals simp [h1]
  · have h3 := h2 h
    unfold State.wfMem at h3 ⊢
    repeat' split
    all_goals simpa using h3
/-! ### Commands -/

/-- The rules of a command keep what helpers keep. -/
def Command.Keeps (c : Command) : Prop :=
  ∀ call pl s, (c.body call pl s).state.skel = s.skel ∧ (s.wfMem → (c.body call pl s).state.wfMem)

theorem runBody_keeps {c : Command} (hc : c.Keeps) (call : Call) (pl : Bytes) (s : State) :
    (runBody c call pl s).state.skel = s.skel ∧ (s.wfMem → (runBody c call pl s).state.wfMem) := by
  unfold runBody
  split
  · exact ⟨rfl, id⟩
  · repeat' split
    · exact ⟨rfl, id⟩
    · exact ⟨rfl, id⟩
    · exact hc _ _ _
theorem answer_keeps' (c : Command) (call : Call) (pl : Bytes) (len trailer now : Nat) (a : Ans) :
    (answer c call pl len trailer now a).skel = a.state.skel ∧ (answer c call pl len trailer now a).mem = a.state.mem := by
  unfold answer
  dsimp only
  repeat' split
  all_goals simp
theorem runCommand_keeps {c : Command} (hc : c.Keeps) (call : Call) (pl : Bytes) (len trailer : Nat) (s : State) :
    (runCommand c call pl len trailer s).skel = s.skel ∧ (s.wfMem → (runCommand c call pl len trailer s).wfMem) := by
  unfold runCommand
  dsimp only
  generalize hx : s.modPort call.port _ = x
  have h1 : x.skel = s.skel := by rw [← hx]; simp
  have h2 : x.mem = s.mem := by rw [← hx]; simp
  have hb := runBody_keeps hc call pl x
  have ha := answer_keeps' c call pl len trailer s.time.now (runBody c call pl x)
  refine ⟨ha.1.trans (hb.1.trans h1), fun h => ?_⟩
  have := hb.2 (by unfold State.wfMem; rw [h2]; exact h)
  unfold State.wfMem at this ⊢
  rw [ha.2]; exact this
theorem screen_keeps (h : Hdr) (op frag len trailer : Nat) (passes : Bool) (go : State → State)
    (hg : ∀ s, (go s).skel = s.skel ∧ (s.wfMem → (go s).wfMem)) (s : State) :
    (screen h op frag len trailer passes go s).skel = s.skel ∧ (s.wfMem → (screen h op frag len trailer passes go s).wfMem) := by
  have ht : ∀ s, (screen.screenTag h op passes go s).skel = s.skel ∧ (s.wfMem → (screen.screenTag h op passes go s).wfMem) := by
    intro s
    unfold screen.screenTag State.wfMem
    dsimp only
    repeat' split
    · exact hg s
    · exact ⟨rfl, id⟩
    · simp
    · exact hg s
  unfold screen
  dsimp only
  split
  · simp [State.wfMem]
  · split
    · simp [State.wfMem]
    · split
      · split
        · simp [State.wfMem]
        · have := ht (s.modPort h.port fun q => { q with dups := q.dups.filter (·.tag != h.tag) })
          simpa [State.wfMem] using this
      · exact ht s
theorem receive_keeps {c : Command} (hc : c.Keeps) (h : Hdr) (pl : Bytes) (s : State) :
    (receive c h pl s).skel = s.skel ∧ (s.wfMem → (receive c h pl s).wfMem) := by
  unfold receive
  split
  · exact ⟨rfl, id⟩
  · split
    · simp [State.wfMem]
    · have := screen_keeps h c.op 0 pl.length (trailerOf h c.op 0 false pl) false _ (fun s => runCommand_keeps hc
        { port := h.port, world := h.world, op := c.op, tag := h.tag } pl pl.length (trailerOf h c.op 0 false pl) s)
        (touchWorld { port := h.port, world := h.world, op := c.op, tag := h.tag } (arrived h.port pl.length s))
      simpa [State.wfMem] using this
theorem hostCmd_keeps {c : Command} (hc : c.Keeps) (h : Hdr) (pl : Bytes) (s : State) : OutKeeps s (hostCmd c h pl s) :=
  receive_keeps hc h pl s
/-! ### Events -/

theorem OutKeeps.next {s t : State} (h : t.skel = s.skel ∧ t.mem = s.mem) : OutKeeps s (.next t) :=
  ⟨h.1, fun w => by unfold State.wfMem; rw [h.2]; exact w⟩
theorem OutKeeps.next_wf {s t : State} (h : t.skel = s.skel ∧ (s.wfMem → t.wfMem)) : OutKeeps s (.next t) := h
theorem atUnit_keeps (kind : String) (n k : Nat) (s : State) (f : State → State) (h : (f s).skel = s.skel ∧ (f s).mem = s.mem) :
    OutKeeps s (atUnit kind n k s f) := by
  unfold atUnit
  split
  · exact OutKeeps.next h
  · trivial
theorem atBay_keeps (b : Nat) (s : State) (f : State → State) (h : (f s).skel = s.skel ∧ (f s).mem = s.mem) :
    OutKeeps s (atBay b s f) := atUnit_keeps _ _ _ s f h
theorem atCtx_keeps (b : Nat) (s : State) (f : State → State) (h : (f s).skel = s.skel ∧ (f s).mem = s.mem) :
    OutKeeps s (atCtx b s f) := atUnit_keeps _ _ _ s f h
theorem atChan_keeps (b : Nat) (s : State) (f : State → State) (h : (f s).skel = s.skel ∧ (f s).mem = s.mem) :
    OutKeeps s (atChan b s f) := atUnit_keeps _ _ _ s f h
theorem atLiveBay_keeps (b : Nat) (s : State) (f : State → State) (h : (f s).skel = s.skel ∧ (f s).mem = s.mem) :
    OutKeeps s (atLiveBay b s f) := by
  refine atUnit_keeps _ _ _ s _ ?_
  try dsimp only
  split
  · exact h
  · exact ⟨rfl, rfl⟩
theorem atLiveChan_keeps (b : Nat) (s : State) (f : State → State) (h : (f s).skel = s.skel ∧ (f s).mem = s.mem) :
    OutKeeps s (atLiveChan b s f) := by
  refine atUnit_keeps _ _ _ s _ ?_
  try dsimp only
  split
  · exact h
  · exact ⟨rfl, rfl⟩
theorem atLiveGroup_keeps (b : Nat) (s : State) (f : State → State) (h : (f s).skel = s.skel ∧ (f s).mem = s.mem) :
    OutKeeps s (atLiveGroup b s f) := by
  refine atUnit_keeps _ _ _ s _ ?_
  try dsimp only
  split
  · exact h
  · exact ⟨rfl, rfl⟩
theorem canReceive_keeps (m can node : Nat) (data : Bytes) (s : State) (act : Nat → State → State)
    (h : ∀ b x, (act b x).skel = x.skel ∧ (act b x).mem = x.mem) : OutKeeps s (canReceive m can node data s act) := by
  refine atUnit_keeps _ _ _ s _ ?_
  try dsimp only
  split
  · exact ⟨rfl, rfl⟩
  · split
    · exact ⟨rfl, rfl⟩
    · simp [h]
theorem fieldCmd_keeps (s : State) (f : State → State)
    (h : ∀ x, (f x).skel = x.skel ∧ (x.wfMem → (f x).wfMem)) : OutKeeps s (fieldCmd s f) := by
  refine OutKeeps.next_wf ?_
  split
  · simp [State.wfMem]
  · have := h ((fieldAt s).modTag fun t => { t with fieldLocks := [], supplyFrom := some (t.supplyFrom.getD s.time.osc) })
    simpa [State.wfMem] using this

end Sys2Proof.Machine
end

