-- ==== Sys2Proof/Laws/KeepsRows.lean ====
section
/-! SUPPORT. What no row changes: the rules of each command and the meaning of each row keep the queue, the number of units
and the canonical form of both memories. -/

namespace Sys2Proof.Machine

open Sys2Proof

theorem cmdBayConfigure_keeps : cmdBayConfigure.Keeps := by
  intro call pl s
  dsimp only [cmdBayConfigure]
  simp [State.wfMem]
theorem execBayConfigure_keeps (a0 : Hdr) (a1 : Bytes) (s : State) : OutKeeps s (execBayConfigure a0 a1 s) := hostCmd_keeps cmdBayConfigure_keeps _ _ s
theorem cmdBayGetState_keeps : cmdBayGetState.Keeps := by
  intro call pl s
  dsimp only [cmdBayGetState]
  simp [State.wfMem]
theorem execBayGetState_keeps (a0 : Hdr) (a1 : Bytes) (s : State) : OutKeeps s (execBayGetState a0 a1 s) := hostCmd_keeps cmdBayGetState_keeps _ _ s
theorem cmdBayEnable_keeps : cmdBayEnable.Keeps := by
  intro call pl s
  dsimp only [cmdBayEnable]
  simp [State.wfMem]
theorem execBayEnable_keeps (a0 : Hdr) (a1 : Bytes) (s : State) : OutKeeps s (execBayEnable a0 a1 s) := hostCmd_keeps cmdBayEnable_keeps _ _ s
theorem cmdBayDisable_keeps : cmdBayDisable.Keeps := by
  intro call pl s
  dsimp only [cmdBayDisable]
  simp [State.wfMem]
theorem execBayDisable_keeps (a0 : Hdr) (a1 : Bytes) (s : State) : OutKeeps s (execBayDisable a0 a1 s) := hostCmd_keeps cmdBayDisable_keeps _ _ s
theorem cmdBaySetLimit_keeps : cmdBaySetLimit.Keeps := by
  intro call pl s
  dsimp only [cmdBaySetLimit]
  simp [State.wfMem]
theorem execBaySetLimit_keeps (a0 : Hdr) (a1 : Bytes) (s : State) : OutKeeps s (execBaySetLimit a0 a1 s) := hostCmd_keeps cmdBaySetLimit_keeps _ _ s
theorem cmdBayUnlock_keeps : cmdBayUnlock.Keeps := by
  intro call pl s
  dsimp only [cmdBayUnlock]
  simp [State.wfMem]
theorem execBayUnlock_keeps (a0 : Hdr) (a1 : Bytes) (s : State) : OutKeeps s (execBayUnlock a0 a1 s) := hostCmd_keeps cmdBayUnlock_keeps _ _ s
theorem cmdBayTestResidual_keeps : cmdBayTestResidual.Keeps := by
  intro call pl s
  dsimp only [cmdBayTestResidual]
  simp [State.wfMem]
theorem execBayTestResidual_keeps (a0 : Hdr) (a1 : Bytes) (s : State) : OutKeeps s (execBayTestResidual a0 a1 s) := hostCmd_keeps cmdBayTestResidual_keeps _ _ s
theorem cmdConverterConfigure_keeps : cmdConverterConfigure.Keeps := by
  intro call pl s
  dsimp only [cmdConverterConfigure]
  simp [State.wfMem]
theorem execConverterConfigure_keeps (a0 : Hdr) (a1 : Bytes) (s : State) : OutKeeps s (execConverterConfigure a0 a1 s) := hostCmd_keeps cmdConverterConfigure_keeps _ _ s
theorem execCpStateChange_keeps (a0 : Nat) (a1 : Int) (a2 : Int) (s : State) : OutKeeps s (execCpStateChange a0 a1 a2 s) := by
  unfold execCpStateChange
  exact atUnit_keeps _ _ _ _ _ (by simp)
theorem execPpChange_keeps (a0 : Nat) (a1 : Nat) (s : State) : OutKeeps s (execPpChange a0 a1 s) := by
  unfold execPpChange
  exact atUnit_keeps _ _ _ _ _ (by simp)
theorem execGuardChange_keeps (a0 : Nat) (a1 : Bool) (a2 : Bool) (s : State) : OutKeeps s (execGuardChange a0 a1 a2 s) := by
  unfold execGuardChange
  exact atUnit_keeps _ _ _ _ _ (by simp)
theorem execGuardDiscrepancy_keeps (a0 : Nat) (s : State) : OutKeeps s (execGuardDiscrepancy a0 s) := by
  unfold execGuardDiscrepancy
  exact atUnit_keeps _ _ _ _ _ (by (try dsimp only); (repeat' split) <;> simp)
theorem execLockConfirmed_keeps (a0 : Nat) (s : State) : OutKeeps s (execLockConfirmed a0 s) := by
  unfold execLockConfirmed
  exact atUnit_keeps _ _ _ _ _ (by simp)
theorem execLockPulseEnd_keeps (a0 : Nat) (s : State) : OutKeeps s (execLockPulseEnd a0 s) := by
  unfold execLockPulseEnd
  exact atUnit_keeps _ _ _ _ _ (by (try dsimp only); (repeat' split) <;> simp)
theorem execLockTimeout_keeps (a0 : Nat) (s : State) : OutKeeps s (execLockTimeout a0 s) := by
  unfold execLockTimeout
  exact atUnit_keeps _ _ _ _ _ (by (try dsimp only); (repeat' split) <;> simp)
theorem execLockRelease_keeps (a0 : Nat) (s : State) : OutKeeps s (execLockRelease a0 s) := by
  unfold execLockRelease
  exact atUnit_keeps _ _ _ _ _ (by simp)
theorem execLockFeedbackLoss_keeps (a0 : Nat) (s : State) : OutKeeps s (execLockFeedbackLoss a0 s) := by
  unfold execLockFeedbackLoss
  exact atUnit_keeps _ _ _ _ _ (by simp)
theorem execHostWaitExpiry_keeps (a0 : Nat) (s : State) : OutKeeps s (execHostWaitExpiry a0 s) := by
  unfold execHostWaitExpiry
  exact atUnit_keeps _ _ _ _ _ (by (try dsimp only); (repeat' split) <;> simp)
theorem execClosureDetected_keeps (a0 : Nat) (a1 : EdgeWindow) (s : State) : OutKeeps s (execClosureDetected a0 a1 s) := by
  unfold execClosureDetected
  exact atUnit_keeps _ _ _ _ _ (by (try dsimp only); (repeat' split) <;> simp)
theorem execReleaseDetected_keeps (a0 : Nat) (a1 : EdgeWindow) (s : State) : OutKeeps s (execReleaseDetected a0 a1 s) := by
  unfold execReleaseDetected
  exact atUnit_keeps _ _ _ _ _ (by (try dsimp only); (repeat' split) <;> simp)
theorem execWeldCheck_keeps (a0 : Nat) (a1 : Nat) (s : State) : OutKeeps s (execWeldCheck a0 a1 s) := by
  unfold execWeldCheck
  exact atUnit_keeps _ _ _ _ _ (by (try dsimp only); (repeat' split) <;> simp)
theorem execWeldOpenDetect_keeps (a0 : Nat) (s : State) : OutKeeps s (execWeldOpenDetect a0 s) := by
  unfold execWeldOpenDetect
  exact atUnit_keeps _ _ _ _ _ (by simp)
theorem execDcClosureTimeout_keeps (a0 : Nat) (s : State) : OutKeeps s (execDcClosureTimeout a0 s) := by
  unfold execDcClosureTimeout
  exact atUnit_keeps _ _ _ _ _ (by (try dsimp only); (repeat' split) <;> simp)
theorem execDcOpenCurrentLow_keeps (a0 : Nat) (a1 : Int) (s : State) : OutKeeps s (execDcOpenCurrentLow a0 a1 s) := by
  unfold execDcOpenCurrentLow
  exact atUnit_keeps _ _ _ _ _ (by (try dsimp only); (repeat' split) <;> simp)
theorem execSuspendOpenTimeout_keeps (a0 : Nat) (s : State) : OutKeeps s (execSuspendOpenTimeout a0 s) := by
  unfold execSuspendOpenTimeout
  exact atUnit_keeps _ _ _ _ _ (by simp)
@[simp ↓] theorem executeClose_keeps (q : QEntry) (b c : Nat) (s : State) :
    (executeClose q b c s).skel = s.skel ∧ (executeClose q b c s).mem = s.mem := by
  unfold executeClose
  dsimp only
  (repeat' split) <;> simp
@[simp ↓] theorem executeEntry_keeps (q : QEntry) (s : State) : (executeEntry q s).skel = s.skel ∧ (executeEntry q s).mem = s.mem := by
  unfold executeEntry
  dsimp only
  (repeat' split) <;> simp
theorem execTimedAction_keeps (s : State) : OutKeeps s (execTimedAction s) := by
  unfold execTimedAction
  exact OutKeeps.next_wf (by (try dsimp only); (repeat' split) <;> simp_all [State.wfMem])
theorem execResidualSelftestDone_keeps (a0 : Nat) (a1 : SafetyCore) (s : State) : OutKeeps s (execResidualSelftestDone a0 a1 s) := by
  unfold execResidualSelftestDone
  exact atUnit_keeps _ _ _ _ _ (by (try dsimp only); (repeat' split) <;> simp)
theorem execPermissionLapse_keeps (a0 : Nat) (s : State) : OutKeeps s (execPermissionLapse a0 s) := by
  unfold execPermissionLapse
  exact atUnit_keeps _ _ _ _ _ (by (try dsimp only); (repeat' split) <;> simp)
theorem cmdCtxOpen_keeps : cmdCtxOpen.Keeps := by
  intro call pl s
  dsimp only [cmdCtxOpen]
  simp [State.wfMem]
theorem execCtxOpen_keeps (a0 : Hdr) (a1 : Bytes) (s : State) : OutKeeps s (execCtxOpen a0 a1 s) := hostCmd_keeps cmdCtxOpen_keeps _ _ s
theorem cmdCtxAuthorise_keeps : cmdCtxAuthorise.Keeps := by
  intro call pl s
  dsimp only [cmdCtxAuthorise]
  simp [State.wfMem]
theorem execCtxAuthorise_keeps (a0 : Hdr) (a1 : Bytes) (s : State) : OutKeeps s (execCtxAuthorise a0 a1 s) := hostCmd_keeps cmdCtxAuthorise_keeps _ _ s
theorem cmdCtxBind_keeps : cmdCtxBind.Keeps := by
  intro call pl s
  dsimp only [cmdCtxBind]
  simp [State.wfMem]
theorem execCtxBind_keeps (a0 : Hdr) (a1 : Bytes) (s : State) : OutKeeps s (execCtxBind a0 a1 s) := hostCmd_keeps cmdCtxBind_keeps _ _ s
theorem cmdCtxStart_keeps : cmdCtxStart.Keeps := by
  intro call pl s
  dsimp only [cmdCtxStart]
  simp [State.wfMem]
theorem execCtxStart_keeps (a0 : Hdr) (a1 : Bytes) (s : State) : OutKeeps s (execCtxStart a0 a1 s) := hostCmd_keeps cmdCtxStart_keeps _ _ s
theorem cmdCtxSuspend_keeps : cmdCtxSuspend.Keeps := by
  intro call pl s
  dsimp only [cmdCtxSuspend]
  simp [State.wfMem]
theorem execCtxSuspend_keeps (a0 : Hdr) (a1 : Bytes) (s : State) : OutKeeps s (execCtxSuspend a0 a1 s) := hostCmd_keeps cmdCtxSuspend_keeps _ _ s
theorem cmdCtxResume_keeps : cmdCtxResume.Keeps := by
  intro call pl s
  dsimp only [cmdCtxResume]
  simp [State.wfMem]
theorem execCtxResume_keeps (a0 : Hdr) (a1 : Bytes) (s : State) : OutKeeps s (execCtxResume a0 a1 s) := hostCmd_keeps cmdCtxResume_keeps _ _ s
theorem cmdCtxStop_keeps : cmdCtxStop.Keeps := by
  intro call pl s
  dsimp only [cmdCtxStop]
  simp [State.wfMem]
theorem execCtxStop_keeps (a0 : Hdr) (a1 : Bytes) (s : State) : OutKeeps s (execCtxStop a0 a1 s) := hostCmd_keeps cmdCtxStop_keeps _ _ s
theorem cmdCtxSetQuota_keeps : cmdCtxSetQuota.Keeps := by
  intro call pl s
  dsimp only [cmdCtxSetQuota]
  simp [State.wfMem]
theorem execCtxSetQuota_keeps (a0 : Hdr) (a1 : Bytes) (s : State) : OutKeeps s (execCtxSetQuota a0 a1 s) := hostCmd_keeps cmdCtxSetQuota_keeps _ _ s
theorem cmdCtxSetProfile_keeps : cmdCtxSetProfile.Keeps := by
  intro call pl s
  dsimp only [cmdCtxSetProfile]
  simp [State.wfMem]
theorem execCtxSetProfile_keeps (a0 : Hdr) (a1 : Bytes) (s : State) : OutKeeps s (execCtxSetProfile a0 a1 s) := hostCmd_keeps cmdCtxSetProfile_keeps _ _ s
theorem cmdCtxSetPriority_keeps : cmdCtxSetPriority.Keeps := by
  intro call pl s
  dsimp only [cmdCtxSetPriority]
  simp [State.wfMem]
theorem execCtxSetPriority_keeps (a0 : Hdr) (a1 : Bytes) (s : State) : OutKeeps s (execCtxSetPriority a0 a1 s) := hostCmd_keeps cmdCtxSetPriority_keeps _ _ s
theorem cmdCtxGet_keeps : cmdCtxGet.Keeps := by
  intro call pl s
  dsimp only [cmdCtxGet]
  simp [State.wfMem]
theorem execCtxGet_keeps (a0 : Hdr) (a1 : Bytes) (s : State) : OutKeeps s (execCtxGet a0 a1 s) := hostCmd_keeps cmdCtxGet_keeps _ _ s
theorem cmdCtxList_keeps : cmdCtxList.Keeps := by
  intro call pl s
  dsimp only [cmdCtxList]
  simp [State.wfMem]
theorem execCtxList_keeps (a0 : Hdr) (a1 : Bytes) (s : State) : OutKeeps s (execCtxList a0 a1 s) := hostCmd_keeps cmdCtxList_keeps _ _ s
theorem cmdCtxAckRecord_keeps : cmdCtxAckRecord.Keeps := by
  intro call pl s
  dsimp only [cmdCtxAckRecord]
  simp [State.wfMem]
theorem execCtxAckRecord_keeps (a0 : Hdr) (a1 : Bytes) (s : State) : OutKeeps s (execCtxAckRecord a0 a1 s) := hostCmd_keeps cmdCtxAckRecord_keeps _ _ s
theorem cmdCtxRelease_keeps : cmdCtxRelease.Keeps := by
  intro call pl s
  dsimp only [cmdCtxRelease]
  simp [State.wfMem]
theorem execCtxRelease_keeps (a0 : Hdr) (a1 : Bytes) (s : State) : OutKeeps s (execCtxRelease a0 a1 s) := hostCmd_keeps cmdCtxRelease_keeps _ _ s
theorem execTimeLimitExpiry_keeps (a0 : Nat) (s : State) : OutKeeps s (execTimeLimitExpiry a0 s) := by
  unfold execTimeLimitExpiry
  exact atUnit_keeps _ _ _ _ _ (by (try dsimp only); (repeat' split) <;> simp)
theorem execReservationExpiry_keeps (a0 : Nat) (s : State) : OutKeeps s (execReservationExpiry a0 s) := by
  unfold execReservationExpiry
  exact atUnit_keeps _ _ _ _ _ (by (try dsimp only); (repeat' split) <;> simp)
theorem execHeartbeat_keeps (a0 : Nat) (s : State) : OutKeeps s (execHeartbeat a0 s) := by
  unfold execHeartbeat
  exact atUnit_keeps _ _ _ _ _ (by simp)
theorem execConverterStatus_keeps (a0 : Nat) (a1 : Nat) (a2 : Bytes) (s : State) : OutKeeps s (execConverterStatus a0 a1 a2 s) := by
  unfold execConverterStatus
  exact atUnit_keeps _ _ _ _ _ (by (try dsimp only); (repeat' split) <;> simp)
theorem execConverterStatusTimeout_keeps (a0 : Nat) (s : State) : OutKeeps s (execConverterStatusTimeout a0 s) := by
  unfold execConverterStatusTimeout
  exact atUnit_keeps _ _ _ _ _ (by simp)
theorem execIsoMonitor_keeps (a0 : Nat) (a1 : Nat) (a2 : Bytes) (s : State) : OutKeeps s (execIsoMonitor a0 a1 a2 s) := by
  unfold execIsoMonitor
  exact atUnit_keeps _ _ _ _ _ (by (try dsimp only); (repeat' split) <;> simp)
theorem execIsoMonitorTimeout_keeps (a0 : Nat) (s : State) : OutKeeps s (execIsoMonitorTimeout a0 s) := by
  unfold execIsoMonitorTimeout
  exact atUnit_keeps _ _ _ _ _ (by simp)
theorem execCapability_keeps (a0 : Nat) (a1 : Nat) (a2 : Bytes) (s : State) : OutKeeps s (execCapability a0 a1 a2 s) := by
  unfold execCapability
  exact atUnit_keeps _ _ _ _ _ (by (try dsimp only); (repeat' split) <;> simp)
theorem execCapabilityTimeout_keeps (a0 : Nat) (s : State) : OutKeeps s (execCapabilityTimeout a0 s) := by
  unfold execCapabilityTimeout
  exact atUnit_keeps _ _ _ _ _ (by (try dsimp only); (repeat' split) <;> simp)
theorem execConverterFault_keeps (a0 : Nat) (a1 : Nat) (a2 : Bytes) (s : State) : OutKeeps s (execConverterFault a0 a1 a2 s) := by
  unfold execConverterFault
  exact atUnit_keeps _ _ _ _ _ (by (try dsimp only); (repeat' split) <;> simp)
theorem cmdSiteSetBudget_keeps : cmdSiteSetBudget.Keeps := by
  intro call pl s
  dsimp only [cmdSiteSetBudget]
  simp [State.wfMem]
theorem execSiteSetBudget_keeps (a0 : Hdr) (a1 : Bytes) (s : State) : OutKeeps s (execSiteSetBudget a0 a1 s) := hostCmd_keeps cmdSiteSetBudget_keeps _ _ s
theorem cmdSiteGetAllocation_keeps : cmdSiteGetAllocation.Keeps := by
  intro call pl s
  dsimp only [cmdSiteGetAllocation]
  simp [State.wfMem]
theorem execSiteGetAllocation_keeps (a0 : Hdr) (a1 : Bytes) (s : State) : OutKeeps s (execSiteGetAllocation a0 a1 s) := hostCmd_keeps cmdSiteGetAllocation_keeps _ _ s
theorem execSiteLimitLapse_keeps (a0 : LimitSource) (s : State) : OutKeeps s (execSiteLimitLapse a0 s) := by
  unfold execSiteLimitLapse
  try dsimp only
  (repeat' split) <;> exact OutKeeps.next (by simp)
theorem execCurtailmentFrame_keeps (a0 : Bytes) (s : State) : OutKeeps s (execCurtailmentFrame a0 s) := by
  unfold execCurtailmentFrame
  exact OutKeeps.next (by simp)
theorem execCoordinatorSend_keeps (s : State) : OutKeeps s (execCoordinatorSend s) := by
  unfold execCoordinatorSend
  try dsimp only
  (repeat' split) <;> exact OutKeeps.next (by simp)
theorem execCoordinatorFrame_keeps (a0 : CoordFrame) (s : State) : OutKeeps s (execCoordinatorFrame a0 s) := by
  unfold execCoordinatorFrame
  exact OutKeeps.next (by simp)
theorem execCoordinatorLost_keeps (s : State) : OutKeeps s (execCoordinatorLost s) := by
  unfold execCoordinatorLost
  exact OutKeeps.next (by simp)
theorem execAllocatorRecompute_keeps (s : State) : OutKeeps s (execAllocatorRecompute s) := by
  unfold execAllocatorRecompute
  exact OutKeeps.next (by simp)
theorem execAllocationTakesEffect_keeps (s : State) : OutKeeps s (execAllocationTakesEffect s) := by
  unfold execAllocationTakesEffect
  try dsimp only
  (repeat' split) <;> exact OutKeeps.next (by simp)
theorem execCutReservationEnd_keeps (a0 : Nat) (s : State) : OutKeeps s (execCutReservationEnd a0 s) := by
  unfold execCutReservationEnd
  exact atUnit_keeps _ _ _ _ _ (by simp)
theorem execHalfCycleTick_keeps (s : State) : OutKeeps s (execHalfCycleTick s) := by
  unfold execHalfCycleTick
  exact OutKeeps.next (by simp)
theorem execSampleStrobe_keeps (a0 : StrobeInput) (s : State) : OutKeeps s (execSampleStrobe a0 s) := by
  unfold execSampleStrobe
  exact OutKeeps.next (by simp)
theorem execPulseEnd_keeps (a0 : Nat) (s : State) : OutKeeps s (execPulseEnd a0 s) := by
  unfold execPulseEnd
  exact atUnit_keeps _ _ _ _ _ (by simp)
theorem execCycleBoundary_keeps (a0 : Nat) (a1 : Int) (s : State) : OutKeeps s (execCycleBoundary a0 a1 s) := by
  unfold execCycleBoundary
  exact OutKeeps.next (by simp)
theorem execHarmonicBlockEnd_keeps (s : State) : OutKeeps s (execHarmonicBlockEnd s) := by
  unfold execHarmonicBlockEnd
  try dsimp only
  (repeat' split) <;> exact OutKeeps.next (by simp)
theorem execLossOfReference_keeps (a0 : LossCause) (s : State) : OutKeeps s (execLossOfReference a0 s) := by
  unfold execLossOfReference
  exact OutKeeps.next (by simp)
theorem execReferenceValid_keeps (s : State) : OutKeeps s (execReferenceValid s) := by
  unfold execReferenceValid
  exact OutKeeps.next (by simp)
theorem execAcquirePullIn_keeps (s : State) : OutKeeps s (execAcquirePullIn s) := by
  unfold execAcquirePullIn
  exact OutKeeps.next (by simp)
theorem execLockEntry_keeps (s : State) : OutKeeps s (execLockEntry s) := by
  unfold execLockEntry
  exact OutKeeps.next_wf (by (try dsimp only); (repeat' split) <;> simp_all [State.wfMem])
theorem execHoldoverExpiry_keeps (s : State) : OutKeeps s (execHoldoverExpiry s) := by
  unfold execHoldoverExpiry
  exact OutKeeps.next (by simp)
theorem execIntervalClose_keeps (s : State) : OutKeeps s (execIntervalClose s) := by
  unfold execIntervalClose
  exact OutKeeps.next (by simp)
theorem execSubintervalClose_keeps (s : State) : OutKeeps s (execSubintervalClose s) := by
  unfold execSubintervalClose
  exact OutKeeps.next (by simp)
theorem execLegalStoreWrite_keeps (s : State) : OutKeeps s (execLegalStoreWrite s) := by
  unfold execLegalStoreWrite
  exact OutKeeps.next (by simp)
theorem execClockStepTakesEffect_keeps (s : State) : OutKeeps s (execClockStepTakesEffect s) := by
  unfold execClockStepTakesEffect
  try dsimp only
  (repeat' split) <;> exact OutKeeps.next (by simp)
theorem execCalendarActivation_keeps (s : State) : OutKeeps s (execCalendarActivation s) := by
  unfold execCalendarActivation
  exact OutKeeps.next (by simp)
theorem cmdTariffLoadCalendar_keeps : cmdTariffLoadCalendar.Keeps := by
  intro call pl s
  dsimp only [cmdTariffLoadCalendar]
  simp [State.wfMem]
theorem execTariffLoadCalendar_keeps (a0 : Hdr) (a1 : Bytes) (s : State) : OutKeeps s (execTariffLoadCalendar a0 a1 s) := hostCmd_keeps cmdTariffLoadCalendar_keeps _ _ s
theorem cmdTariffGet_keeps : cmdTariffGet.Keeps := by
  intro call pl s
  dsimp only [cmdTariffGet]
  simp [State.wfMem]
theorem execTariffGet_keeps (a0 : Hdr) (a1 : Bytes) (s : State) : OutKeeps s (execTariffGet a0 a1 s) := hostCmd_keeps cmdTariffGet_keeps _ _ s
theorem cmdTariffCancelPending_keeps : cmdTariffCancelPending.Keeps := by
  intro call pl s
  dsimp only [cmdTariffCancelPending]
  simp [State.wfMem]
theorem execTariffCancelPending_keeps (a0 : Hdr) (a1 : Bytes) (s : State) : OutKeeps s (execTariffCancelPending a0 a1 s) := hostCmd_keeps cmdTariffCancelPending_keeps _ _ s
theorem cmdProfileRead_keeps : cmdProfileRead.Keeps := by
  intro call pl s
  dsimp only [cmdProfileRead]
  simp [State.wfMem]
theorem execProfileRead_keeps (a0 : Hdr) (a1 : Bytes) (s : State) : OutKeeps s (execProfileRead a0 a1 s) := hostCmd_keeps cmdProfileRead_keeps _ _ s
theorem cmdProfileConfigure_keeps : cmdProfileConfigure.Keeps := by
  intro call pl s
  dsimp only [cmdProfileConfigure]
  simp [State.wfMem]
theorem execProfileConfigure_keeps (a0 : Hdr) (a1 : Bytes) (s : State) : OutKeeps s (execProfileConfigure a0 a1 s) := hostCmd_keeps cmdProfileConfigure_keeps _ _ s
theorem cmdDemandRead_keeps : cmdDemandRead.Keeps := by
  intro call pl s
  dsimp only [cmdDemandRead]
  simp [State.wfMem]
theorem execDemandRead_keeps (a0 : Hdr) (a1 : Bytes) (s : State) : OutKeeps s (execDemandRead a0 a1 s) := hostCmd_keeps cmdDemandRead_keeps _ _ s
theorem cmdLogbookRead_keeps : cmdLogbookRead.Keeps := by
  intro call pl s
  dsimp only [cmdLogbookRead]
  simp [State.wfMem]
theorem execLogbookRead_keeps (a0 : Hdr) (a1 : Bytes) (s : State) : OutKeeps s (execLogbookRead a0 a1 s) := hostCmd_keeps cmdLogbookRead_keeps _ _ s
theorem cmdCredLookup_keeps : cmdCredLookup.Keeps := by
  intro call pl s
  dsimp only [cmdCredLookup]
  simp [State.wfMem]
theorem execCredLookup_keeps (a0 : Hdr) (a1 : Bytes) (s : State) : OutKeeps s (execCredLookup a0 a1 s) := hostCmd_keeps cmdCredLookup_keeps _ _ s
theorem cmdCredStats_keeps : cmdCredStats.Keeps := by
  intro call pl s
  dsimp only [cmdCredStats]
  simp [State.wfMem]
theorem execCredStats_keeps (a0 : Hdr) (a1 : Bytes) (s : State) : OutKeeps s (execCredStats a0 a1 s) := hostCmd_keeps cmdCredStats_keeps _ _ s
theorem cmdCredUpdateBegin_keeps : cmdCredUpdateBegin.Keeps := by
  intro call pl s
  dsimp only [cmdCredUpdateBegin]
  simp [State.wfMem]
theorem execCredUpdateBegin_keeps (a0 : Hdr) (a1 : Bytes) (s : State) : OutKeeps s (execCredUpdateBegin a0 a1 s) := hostCmd_keeps cmdCredUpdateBegin_keeps _ _ s
theorem cmdCredUpdateData_keeps : cmdCredUpdateData.Keeps := by
  intro call pl s
  dsimp only [cmdCredUpdateData]
  simp [State.wfMem]
theorem execCredUpdateData_keeps (a0 : Hdr) (a1 : Bytes) (s : State) : OutKeeps s (execCredUpdateData a0 a1 s) := hostCmd_keeps cmdCredUpdateData_keeps _ _ s
theorem cmdCredUpdateCommit_keeps : cmdCredUpdateCommit.Keeps := by
  intro call pl s
  dsimp only [cmdCredUpdateCommit]
  simp [State.wfMem]
theorem execCredUpdateCommit_keeps (a0 : Hdr) (a1 : Bytes) (s : State) : OutKeeps s (execCredUpdateCommit a0 a1 s) := hostCmd_keeps cmdCredUpdateCommit_keeps _ _ s
theorem execCredCommitDurable_keeps (s : State) : OutKeeps s (execCredCommitDurable s) := by
  unfold execCredCommitDurable
  try dsimp only
  (repeat' split) <;> exact OutKeeps.next (by simp)
theorem execCredBatchTimeout_keeps (s : State) : OutKeeps s (execCredBatchTimeout s) := by
  unfold execCredBatchTimeout
  exact OutKeeps.next (by dsimp only; (repeat' split) <;> simp)
theorem execPncChainReceived_keeps (a0 : Nat) (a1 : PncChain) (s : State) : OutKeeps s (execPncChainReceived a0 a1 s) := by
  unfold execPncChainReceived
  exact atUnit_keeps _ _ _ _ _ (by (try dsimp only); (repeat' split) <;> simp)
theorem cmdPncVerify_keeps : cmdPncVerify.Keeps := by
  intro call pl s
  dsimp only [cmdPncVerify]
  simp [State.wfMem]
theorem execPncVerify_keeps (a0 : Hdr) (a1 : Bytes) (s : State) : OutKeeps s (execPncVerify a0 a1 s) := hostCmd_keeps cmdPncVerify_keeps _ _ s
theorem cmdPlcConfigure_keeps : cmdPlcConfigure.Keeps := by
  intro call pl s
  dsimp only [cmdPlcConfigure]
  simp [State.wfMem]
theorem execPlcConfigure_keeps (a0 : Hdr) (a1 : Bytes) (s : State) : OutKeeps s (execPlcConfigure a0 a1 s) := hostCmd_keeps cmdPlcConfigure_keeps _ _ s
theorem cmdV2gConfigure_keeps : cmdV2gConfigure.Keeps := by
  intro call pl s
  dsimp only [cmdV2gConfigure]
  simp [State.wfMem]
theorem execV2gConfigure_keeps (a0 : Hdr) (a1 : Bytes) (s : State) : OutKeeps s (execV2gConfigure a0 a1 s) := hostCmd_keeps cmdV2gConfigure_keeps _ _ s
theorem cmdSiteConfigure_keeps : cmdSiteConfigure.Keeps := by
  intro call pl s
  dsimp only [cmdSiteConfigure]
  simp [State.wfMem]
theorem execSiteConfigure_keeps (a0 : Hdr) (a1 : Bytes) (s : State) : OutKeeps s (execSiteConfigure a0 a1 s) := hostCmd_keeps cmdSiteConfigure_keeps _ _ s
theorem cmdPlcGetLink_keeps : cmdPlcGetLink.Keeps := by
  intro call pl s
  dsimp only [cmdPlcGetLink]
  simp [State.wfMem]
theorem execPlcGetLink_keeps (a0 : Hdr) (a1 : Bytes) (s : State) : OutKeeps s (execPlcGetLink a0 a1 s) := hostCmd_keeps cmdPlcGetLink_keeps _ _ s
theorem cmdPlcTonemapInfo_keeps : cmdPlcTonemapInfo.Keeps := by
  intro call pl s
  dsimp only [cmdPlcTonemapInfo]
  simp [State.wfMem]
theorem execPlcTonemapInfo_keeps (a0 : Hdr) (a1 : Bytes) (s : State) : OutKeeps s (execPlcTonemapInfo a0 a1 s) := hostCmd_keeps cmdPlcTonemapInfo_keeps _ _ s
theorem cmdSiteGetPeers_keeps : cmdSiteGetPeers.Keeps := by
  intro call pl s
  dsimp only [cmdSiteGetPeers]
  simp [State.wfMem]
theorem execSiteGetPeers_keeps (a0 : Hdr) (a1 : Bytes) (s : State) : OutKeeps s (execSiteGetPeers a0 a1 s) := hostCmd_keeps cmdSiteGetPeers_keeps _ _ s
theorem execGreenPhyFrame_keeps (a0 : Nat) (a1 : List Int) (a2 : Bool) (a3 : FrameSource) (s : State) : OutKeeps s (execGreenPhyFrame a0 a1 a2 a3 s) := by
  unfold execGreenPhyFrame
  exact atUnit_keeps _ _ _ _ _ (by simp)
theorem execBeacon_keeps (a0 : Option HeardBeacon) (s : State) : OutKeeps s (execBeacon a0 s) := by
  unfold execBeacon
  exact OutKeeps.next (by simp)
theorem execCcoElection_keeps (a0 : Bool) (s : State) : OutKeeps s (execCcoElection a0 s) := by
  unfold execCcoElection
  exact OutKeeps.next (by simp)
theorem execToneMapRefresh_keeps (a0 : Nat) (a1 : Option Sounding) (s : State) : OutKeeps s (execToneMapRefresh a0 a1 s) := by
  unfold execToneMapRefresh
  exact OutKeeps.next (by dsimp only; (repeat' split) <;> simp)
theorem execNeighbourLost_keeps (a0 : Nat) (s : State) : OutKeeps s (execNeighbourLost a0 s) := by
  unfold execNeighbourLost
  exact OutKeeps.next_wf (by (try dsimp only); (repeat' split) <;> simp_all [State.wfMem])
theorem execVehicleLinkLost_keeps (a0 : Nat) (s : State) : OutKeeps s (execVehicleLinkLost a0 s) := by
  unfold execVehicleLinkLost
  exact atUnit_keeps _ _ _ _ _ (by simp)
theorem execSlacParmReq_keeps (a0 : Nat) (a1 : List (List Nat)) (s : State) : OutKeeps s (execSlacParmReq a0 a1 s) := by
  unfold execSlacParmReq
  exact atUnit_keeps _ _ _ _ _ (by simp)
theorem execSlacTimeout_keeps (a0 : Nat) (s : State) : OutKeeps s (execSlacTimeout a0 s) := by
  unfold execSlacTimeout
  exact atUnit_keeps _ _ _ _ _ (by simp)
theorem execV2gMessage_keeps (a0 : Nat) (a1 : V2gMessage) (s : State) : OutKeeps s (execV2gMessage a0 a1 s) := by
  unfold execV2gMessage
  exact atUnit_keeps _ _ _ _ _ (by simp)
theorem cmdPing_keeps : cmdPing.Keeps := by
  intro call pl s
  dsimp only [cmdPing]
  simp [State.wfMem]
theorem execPing_keeps (a0 : Hdr) (a1 : Bytes) (s : State) : OutKeeps s (execPing a0 a1 s) := hostCmd_keeps cmdPing_keeps _ _ s
theorem cmdGetIdentity_keeps : cmdGetIdentity.Keeps := by
  intro call pl s
  dsimp only [cmdGetIdentity]
  simp [State.wfMem]
theorem execGetIdentity_keeps (a0 : Hdr) (a1 : Bytes) (s : State) : OutKeeps s (execGetIdentity a0 a1 s) := hostCmd_keeps cmdGetIdentity_keeps _ _ s
theorem cmdGetStatus_keeps : cmdGetStatus.Keeps := by
  intro call pl s
  dsimp only [cmdGetStatus]
  simp [State.wfMem]
theorem execGetStatus_keeps (a0 : Hdr) (a1 : Bytes) (s : State) : OutKeeps s (execGetStatus a0 a1 s) := hostCmd_keeps cmdGetStatus_keeps _ _ s
theorem cmdGetHealth_keeps : cmdGetHealth.Keeps := by
  intro call pl s
  dsimp only [cmdGetHealth]
  simp [State.wfMem]
theorem execGetHealth_keeps (a0 : Hdr) (a1 : Bytes) (s : State) : OutKeeps s (execGetHealth a0 a1 s) := hostCmd_keeps cmdGetHealth_keeps _ _ s
theorem cmdGetParam_keeps : cmdGetParam.Keeps := by
  intro call pl s
  dsimp only [cmdGetParam]
  simp [State.wfMem]
theorem execGetParam_keeps (a0 : Hdr) (a1 : Bytes) (s : State) : OutKeeps s (execGetParam a0 a1 s) := hostCmd_keeps cmdGetParam_keeps _ _ s
theorem cmdSetParam_keeps : cmdSetParam.Keeps := by
  intro call pl s
  dsimp only [cmdSetParam]
  simp [State.wfMem]
theorem execSetParam_keeps (a0 : Hdr) (a1 : Bytes) (s : State) : OutKeeps s (execSetParam a0 a1 s) := hostCmd_keeps cmdSetParam_keeps _ _ s
theorem cmdCommitParams_keeps : cmdCommitParams.Keeps := by
  intro call pl s
  dsimp only [cmdCommitParams]
  have h := applyCommits_keeps effectAtReply (commitBody call pl s).state
  have hc := commitBody_keeps call pl s
  exact ⟨h.1.trans hc.1, fun w => h.2 (by unfold State.wfMem; rw [hc.2]; exact w)⟩
theorem execCommitParams_keeps (a0 : Hdr) (a1 : Bytes) (s : State) : OutKeeps s (execCommitParams a0 a1 s) := hostCmd_keeps cmdCommitParams_keeps _ _ s
theorem execParamsTakeEffect_keeps (s : State) : OutKeeps s (execParamsTakeEffect s) := OutKeeps.next_wf (applyCommits_keeps _ s)
theorem cmdOpenWorld_keeps : cmdOpenWorld.Keeps := by
  intro call pl s
  dsimp only [cmdOpenWorld]
  simp [State.wfMem]
theorem execOpenWorld_keeps (a0 : Hdr) (a1 : Bytes) (s : State) : OutKeeps s (execOpenWorld a0 a1 s) := hostCmd_keeps cmdOpenWorld_keeps _ _ s
theorem cmdCloseWorld_keeps : cmdCloseWorld.Keeps := by
  intro call pl s
  dsimp only [cmdCloseWorld]
  simp [State.wfMem]
theorem execCloseWorld_keeps (a0 : Hdr) (a1 : Bytes) (s : State) : OutKeeps s (execCloseWorld a0 a1 s) := hostCmd_keeps cmdCloseWorld_keeps _ _ s
theorem execWorldIdleTimeout_keeps (a0 : HostPort) (s : State) : OutKeeps s (execWorldIdleTimeout a0 s) := by
  unfold execWorldIdleTimeout
  exact OutKeeps.next (by simp)
theorem execOpenWorldLockoutEnd_keeps (a0 : HostPort) (a1 : World) (s : State) : OutKeeps s (execOpenWorldLockoutEnd a0 a1 s) := by
  unfold execOpenWorldLockoutEnd
  exact OutKeeps.next (by simp)
theorem cmdGetTime_keeps : cmdGetTime.Keeps := by
  intro call pl s
  dsimp only [cmdGetTime]
  simp [State.wfMem]
theorem execGetTime_keeps (a0 : Hdr) (a1 : Bytes) (s : State) : OutKeeps s (execGetTime a0 a1 s) := hostCmd_keeps cmdGetTime_keeps _ _ s
theorem cmdSetTime_keeps : cmdSetTime.Keeps := by
  intro call pl s
  dsimp only [cmdSetTime]
  simp [State.wfMem]
theorem execSetTime_keeps (a0 : Hdr) (a1 : Bytes) (s : State) : OutKeeps s (execSetTime a0 a1 s) := hostCmd_keeps cmdSetTime_keeps _ _ s
theorem cmdAdjustTime_keeps : cmdAdjustTime.Keeps := by
  intro call pl s
  dsimp only [cmdAdjustTime]
  simp [State.wfMem]
theorem execAdjustTime_keeps (a0 : Hdr) (a1 : Bytes) (s : State) : OutKeeps s (execAdjustTime a0 a1 s) := hostCmd_keeps cmdAdjustTime_keeps _ _ s
theorem cmdMeterReadInstant_keeps : cmdMeterReadInstant.Keeps := by
  intro call pl s
  dsimp only [cmdMeterReadInstant]
  simp [State.wfMem]
theorem execMeterReadInstant_keeps (a0 : Hdr) (a1 : Bytes) (s : State) : OutKeeps s (execMeterReadInstant a0 a1 s) := hostCmd_keeps cmdMeterReadInstant_keeps _ _ s
theorem cmdMeterReadRegisters_keeps : cmdMeterReadRegisters.Keeps := by
  intro call pl s
  dsimp only [cmdMeterReadRegisters]
  simp [State.wfMem]
theorem execMeterReadRegisters_keeps (a0 : Hdr) (a1 : Bytes) (s : State) : OutKeeps s (execMeterReadRegisters a0 a1 s) := hostCmd_keeps cmdMeterReadRegisters_keeps _ _ s
theorem cmdMeterReadHarmonics_keeps : cmdMeterReadHarmonics.Keeps := by
  intro call pl s
  dsimp only [cmdMeterReadHarmonics]
  simp [State.wfMem]
theorem execMeterReadHarmonics_keeps (a0 : Hdr) (a1 : Bytes) (s : State) : OutKeeps s (execMeterReadHarmonics a0 a1 s) := hostCmd_keeps cmdMeterReadHarmonics_keeps _ _ s
theorem cmdPulseAssign_keeps : cmdPulseAssign.Keeps := by
  intro call pl s
  dsimp only [cmdPulseAssign]
  simp [State.wfMem]
theorem execPulseAssign_keeps (a0 : Hdr) (a1 : Bytes) (s : State) : OutKeeps s (execPulseAssign a0 a1 s) := hostCmd_keeps cmdPulseAssign_keeps _ _ s
theorem cmdLegalParamRead_keeps : cmdLegalParamRead.Keeps := by
  intro call pl s
  dsimp only [cmdLegalParamRead]
  (repeat' split) <;> simp [State.wfMem]
theorem execLegalParamRead_keeps (a0 : Hdr) (a1 : Bytes) (s : State) : OutKeeps s (execLegalParamRead a0 a1 s) := hostCmd_keeps cmdLegalParamRead_keeps _ _ s
theorem cmdLegalParamWrite_keeps : cmdLegalParamWrite.Keeps := by
  intro call pl s
  dsimp only [cmdLegalParamWrite]
  simp [State.wfMem]
theorem execLegalParamWrite_keeps (a0 : Hdr) (a1 : Bytes) (s : State) : OutKeeps s (execLegalParamWrite a0 a1 s) := hostCmd_keeps cmdLegalParamWrite_keeps _ _ s
theorem execLegalParamTakesEffect_keeps (s : State) : OutKeeps s (execLegalParamTakesEffect s) := by
  unfold execLegalParamTakesEffect
  exact OutKeeps.next (by simp)
theorem cmdMeterSelftest_keeps : cmdMeterSelftest.Keeps := by
  intro call pl s
  dsimp only [cmdMeterSelftest]
  simp [State.wfMem]
theorem execMeterSelftest_keeps (a0 : Hdr) (a1 : Bytes) (s : State) : OutKeeps s (execMeterSelftest a0 a1 s) := hostCmd_keeps cmdMeterSelftest_keeps _ _ s
theorem execSelftestStepEnd_keeps (s : State) : OutKeeps s (execSelftestStepEnd s) := by
  unfold execSelftestStepEnd
  try dsimp only
  (repeat' split) <;> exact OutKeeps.next (by simp)
theorem execStreamFault_keeps (a0 : Nat) (s : State) : OutKeeps s (execStreamFault a0 s) := by
  unfold execStreamFault
  exact atUnit_keeps _ _ _ _ _ (by simp)
theorem execStreamFaultClear_keeps (a0 : Nat) (s : State) : OutKeeps s (execStreamFaultClear a0 s) := by
  unfold execStreamFaultClear
  exact atUnit_keeps _ _ _ _ _ (by simp)
theorem cmdSafetyGetState_keeps : cmdSafetyGetState.Keeps := by
  intro call pl s
  dsimp only [cmdSafetyGetState]
  simp [State.wfMem]
theorem execSafetyGetState_keeps (a0 : Hdr) (a1 : Bytes) (s : State) : OutKeeps s (execSafetyGetState a0 a1 s) := hostCmd_keeps cmdSafetyGetState_keeps _ _ s
theorem cmdSafetyGetCheck_keeps : cmdSafetyGetCheck.Keeps := by
  intro call pl s
  dsimp only [cmdSafetyGetCheck]
  simp [State.wfMem]
theorem execSafetyGetCheck_keeps (a0 : Hdr) (a1 : Bytes) (s : State) : OutKeeps s (execSafetyGetCheck a0 a1 s) := hostCmd_keeps cmdSafetyGetCheck_keeps _ _ s
theorem cmdSafetyLoadParams_keeps : cmdSafetyLoadParams.Keeps := by
  intro call pl s
  dsimp only [cmdSafetyLoadParams]
  simp [State.wfMem]
theorem execSafetyLoadParams_keeps (a0 : Hdr) (a1 : Bytes) (s : State) : OutKeeps s (execSafetyLoadParams a0 a1 s) := hostCmd_keeps cmdSafetyLoadParams_keeps _ _ s
theorem cmdSiteSafetyConfigure_keeps : cmdSiteSafetyConfigure.Keeps := by
  intro call pl s
  dsimp only [cmdSiteSafetyConfigure]
  simp [State.wfMem]
theorem execSiteSafetyConfigure_keeps (a0 : Hdr) (a1 : Bytes) (s : State) : OutKeeps s (execSiteSafetyConfigure a0 a1 s) := hostCmd_keeps cmdSiteSafetyConfigure_keeps _ _ s
theorem cmdSafetyConfirm_keeps : cmdSafetyConfirm.Keeps := by
  intro call pl s
  dsimp only [cmdSafetyConfirm]
  simp [State.wfMem]
theorem execSafetyConfirm_keeps (a0 : Hdr) (a1 : Bytes) (s : State) : OutKeeps s (execSafetyConfirm a0 a1 s) := hostCmd_keeps cmdSafetyConfirm_keeps _ _ s
theorem cmdSafetyResetFault_keeps : cmdSafetyResetFault.Keeps := by
  intro call pl s
  dsimp only [cmdSafetyResetFault]
  simp [State.wfMem]
theorem execSafetyResetFault_keeps (a0 : Hdr) (a1 : Bytes) (s : State) : OutKeeps s (execSafetyResetFault a0 a1 s) := hostCmd_keeps cmdSafetyResetFault_keeps _ _ s
theorem execResidualTierTrip_keeps (a0 : Nat) (a1 : Tier) (s : State) : OutKeeps s (execResidualTierTrip a0 a1 s) := by
  unfold execResidualTierTrip
  exact atUnit_keeps _ _ _ _ _ (by simp)
theorem execGaleTrip_keeps (a0 : Nat) (a1 : Bool) (a2 : List Int) (a3 : Int) (s : State) : OutKeeps s (execGaleTrip a0 a1 a2 a3 s) := by
  unfold execGaleTrip
  exact atUnit_keeps _ _ _ _ _ (by simp)
theorem execGaleTripRelease_keeps (a0 : Nat) (a1 : GaleSamples) (s : State) : OutKeeps s (execGaleTripRelease a0 a1 s) := by
  unfold execGaleTripRelease
  exact atUnit_keeps _ _ _ _ _ (by simp)
theorem execSlcExcess_keeps (a0 : Nat) (s : State) : OutKeeps s (execSlcExcess a0 s) := by
  unfold execSlcExcess
  exact atUnit_keeps _ _ _ _ _ (by simp)
theorem execSdiExportStop_keeps (a0 : Nat) (s : State) : OutKeeps s (execSdiExportStop a0 s) := by
  unfold execSdiExportStop
  exact atUnit_keeps _ _ _ _ _ (by simp)
theorem execDoorChange_keeps (a0 : Bool) (a1 : Bool) (s : State) : OutKeeps s (execDoorChange a0 a1 s) := by
  unfold execDoorChange
  try dsimp only
  (repeat' split) <;> exact OutKeeps.next (by simp)
theorem execEstopChange_keeps (a0 : Bool) (a1 : Bool) (s : State) : OutKeeps s (execEstopChange a0 a1 s) := by
  unfold execEstopChange
  try dsimp only
  (repeat' split) <;> exact OutKeeps.next (by simp)
theorem execSafetyInputDiscrepancy_keeps (a0 : Bool) (s : State) : OutKeeps s (execSafetyInputDiscrepancy a0 s) := by
  unfold execSafetyInputDiscrepancy
  try dsimp only
  (repeat' split) <;> exact OutKeeps.next (by simp)
theorem execSafeOutReadback_keeps (a0 : Nat) (a1 : Bool) (a2 : Bool) (s : State) : OutKeeps s (execSafeOutReadback a0 a1 a2 s) := by
  unfold execSafeOutReadback
  exact atUnit_keeps _ _ _ _ _ (by simp)
theorem execSafetyFrameReceived_keeps (a0 : Bool) (a1 : Bytes) (s : State) : OutKeeps s (execSafetyFrameReceived a0 a1 s) := by
  unfold execSafetyFrameReceived
  try dsimp only
  (repeat' split) <;> exact OutKeeps.next (by simp)
theorem execPeerConnectionLost_keeps (a0 : Nat) (s : State) : OutKeeps s (execPeerConnectionLost a0 s) := by
  unfold execPeerConnectionLost
  exact atUnit_keeps _ _ _ _ _ (by simp)
theorem execRedundancyLost_keeps (a0 : Nat) (s : State) : OutKeeps s (execRedundancyLost a0 s) := by
  unfold execRedundancyLost
  exact atUnit_keeps _ _ _ _ _ (by simp)
theorem execFeederOverloadTrip_keeps (a0 : Nat) (s : State) : OutKeeps s (execFeederOverloadTrip a0 s) := by
  unfold execFeederOverloadTrip
  exact atUnit_keeps _ _ _ _ _ (by simp)
theorem execFeederOverloadBitEnd_keeps (a0 : Nat) (s : State) : OutKeeps s (execFeederOverloadBitEnd a0 s) := by
  unfold execFeederOverloadBitEnd
  exact atUnit_keeps _ _ _ _ _ (by simp)
theorem execCoreLoss_keeps (a0 : SafetyCore) (a1 : Bool) (s : State) : OutKeeps s (execCoreLoss a0 a1 s) := by
  unfold execCoreLoss
  try dsimp only
  (repeat' split) <;> exact OutKeeps.next (by (try dsimp only); (repeat' split) <;> simp (disch := (intros; (repeat' split) <;> simp)))
theorem execSafetyCoreFailure_keeps (a0 : SafetyCore) (a1 : CoreFault) (s : State) : OutKeeps s (execSafetyCoreFailure a0 a1 s) := by
  unfold execSafetyCoreFailure
  exact OutKeeps.next (by dsimp only; (repeat' split) <;> simp)
theorem execCoreRejoin_keeps (a0 : SafetyCore) (a1 : Bool) (s : State) : OutKeeps s (execCoreRejoin a0 a1 s) := by
  unfold execCoreRejoin
  try dsimp only
  (repeat' split) <;> exact OutKeeps.next (by simp)
theorem execAloneLimit_keeps (s : State) : OutKeeps s (execAloneLimit s) := by
  unfold execAloneLimit
  exact OutKeeps.next (by simp)
theorem execMeteringValuesMissing_keeps (a0 : Nat) (s : State) : OutKeeps s (execMeteringValuesMissing a0 s) := by
  unfold execMeteringValuesMissing
  exact atUnit_keeps _ _ _ _ _ (by simp)
theorem cmdUpdateBegin_keeps : cmdUpdateBegin.Keeps := by
  intro call pl s
  dsimp only [cmdUpdateBegin]
  simp [State.wfMem]
theorem execUpdateBegin_keeps (a0 : Hdr) (a1 : Bytes) (s : State) : OutKeeps s (execUpdateBegin a0 a1 s) := hostCmd_keeps cmdUpdateBegin_keeps _ _ s
theorem cmdUpdateData_keeps : cmdUpdateData.Keeps := by
  intro call pl s
  dsimp only [cmdUpdateData]
  simp [State.wfMem]
theorem execUpdateData_keeps (a0 : Hdr) (a1 : Bytes) (s : State) : OutKeeps s (execUpdateData a0 a1 s) := hostCmd_keeps cmdUpdateData_keeps _ _ s
theorem cmdUpdateEnd_keeps : cmdUpdateEnd.Keeps := by
  intro call pl s
  dsimp only [cmdUpdateEnd]
  simp [State.wfMem]
theorem execUpdateEnd_keeps (a0 : Hdr) (a1 : Bytes) (s : State) : OutKeeps s (execUpdateEnd a0 a1 s) := hostCmd_keeps cmdUpdateEnd_keeps _ _ s
theorem execUpdateTransferTimeout_keeps (s : State) : OutKeeps s (execUpdateTransferTimeout s) := by
  unfold execUpdateTransferTimeout
  exact OutKeeps.next_wf (by (try dsimp only); (repeat' split) <;> simp_all [State.wfMem])
theorem cmdConsistConfigure_keeps : cmdConsistConfigure.Keeps := by
  intro call pl s
  dsimp only [cmdConsistConfigure]
  simp [State.wfMem]
theorem execConsistConfigure_keeps (a0 : Hdr) (a1 : Bytes) (s : State) : OutKeeps s (execConsistConfigure a0 a1 s) := hostCmd_keeps cmdConsistConfigure_keeps _ _ s
theorem cmdUpdateForward_keeps : cmdUpdateForward.Keeps := by
  intro call pl s
  dsimp only [cmdUpdateForward]
  simp [State.wfMem]
theorem execUpdateForward_keeps (a0 : Hdr) (a1 : Bytes) (s : State) : OutKeeps s (execUpdateForward a0 a1 s) := hostCmd_keeps cmdUpdateForward_keeps _ _ s
theorem execForwardDelivered_keeps (a0 : Nat) (s : State) : OutKeeps s (execForwardDelivered a0 s) := by
  unfold execForwardDelivered
  exact OutKeeps.next_wf (by (try dsimp only); (repeat' split) <;> simp_all [State.wfMem])
theorem execForwardRetry_keeps (s : State) : OutKeeps s (execForwardRetry s) := by
  unfold execForwardRetry
  exact OutKeeps.next (by dsimp only; (repeat' split) <;> simp)
theorem execConsistImageReceived_keeps (a0 : Nat) (a1 : ImageKind) (a2 : Bytes) (s : State) : OutKeeps s (execConsistImageReceived a0 a1 a2 s) := by
  unfold execConsistImageReceived
  exact OutKeeps.next (by simp)
theorem execImageVerified_keeps (s : State) : OutKeeps s (execImageVerified s) := by
  unfold execImageVerified
  exact OutKeeps.next (by dsimp only; (repeat' split) <;> simp)
theorem cmdUpdateStatus_keeps : cmdUpdateStatus.Keeps := by
  intro call pl s
  dsimp only [cmdUpdateStatus]
  simp [State.wfMem]
theorem execUpdateStatus_keeps (a0 : Hdr) (a1 : Bytes) (s : State) : OutKeeps s (execUpdateStatus a0 a1 s) := hostCmd_keeps cmdUpdateStatus_keeps _ _ s
theorem cmdUpdateAbort_keeps : cmdUpdateAbort.Keeps := by
  intro call pl s
  dsimp only [cmdUpdateAbort]
  simp [State.wfMem]
theorem execUpdateAbort_keeps (a0 : Hdr) (a1 : Bytes) (s : State) : OutKeeps s (execUpdateAbort a0 a1 s) := hostCmd_keeps cmdUpdateAbort_keeps _ _ s
theorem cmdUpdateActivate_keeps : cmdUpdateActivate.Keeps := by
  intro call pl s
  dsimp only [cmdUpdateActivate]
  simp [State.wfMem]
theorem execUpdateActivate_keeps (a0 : Hdr) (a1 : Bytes) (s : State) : OutKeeps s (execUpdateActivate a0 a1 s) := hostCmd_keeps cmdUpdateActivate_keeps _ _ s
theorem execActivationComplete_keeps (a0 : ImageKind) (s : State) : OutKeeps s (execActivationComplete a0 s) := by
  unfold execActivationComplete
  exact OutKeeps.next (by simp)
theorem execImageConfirmed_keeps (a0 : ImageKind) (s : State) : OutKeeps s (execImageConfirmed a0 s) := by
  unfold execImageConfirmed
  exact OutKeeps.next (by simp)
theorem execImageFallback_keeps (a0 : ImageKind) (a1 : Bool) (s : State) : OutKeeps s (execImageFallback a0 a1 s) := by
  unfold execImageFallback
  exact OutKeeps.next_wf (by (try dsimp only); (repeat' split) <;> simp_all [State.wfMem])
theorem execMeTakeover_keeps (a0 : TakeoverCause) (a1 : Nat) (s : State) : OutKeeps s (execMeTakeover a0 a1 s) := by
  unfold execMeTakeover
  exact OutKeeps.next (by simp)
theorem execMeteringLost_keeps (s : State) : OutKeeps s (execMeteringLost s) := by
  unfold execMeteringLost
  exact OutKeeps.next (by simp)
theorem execCeTakeover_keeps (a0 : TakeoverCause) (a1 : Nat) (s : State) : OutKeeps s (execCeTakeover a0 a1 s) := by
  unfold execCeTakeover
  exact OutKeeps.next_wf (by (try dsimp only); (repeat' split) <;> simp_all [State.wfMem])
theorem execControlCheckpoint_keeps (s : State) : OutKeeps s (execControlCheckpoint s) := by
  unfold execControlCheckpoint
  exact OutKeeps.next (by simp)
theorem execDspShunt_keeps (a0 : Nat) (a1 : TakeoverCause) (s : State) : OutKeeps s (execDspShunt a0 a1 s) := by
  unfold execDspShunt
  exact atUnit_keeps _ _ _ _ _ (by simp)
theorem execBankReplace_keeps (a0 : SramBank) (a1 : Nat) (s : State) : OutKeeps s (execBankReplace a0 a1 s) := by
  unfold execBankReplace
  exact OutKeeps.next (by simp)
theorem execNandBlockFault_keeps (a0 : Nat) (a1 : Nat) (a2 : BlockFault) (s : State) : OutKeeps s (execNandBlockFault a0 a1 a2 s) := by
  unfold execNandBlockFault
  exact OutKeeps.next (by simp)
theorem execModuleWatchdog_keeps (s : State) : OutKeeps s (execModuleWatchdog s) := by
  unfold execModuleWatchdog
  exact OutKeeps.next_wf (by (try dsimp only); (repeat' split) <;> simp_all [State.wfMem])
theorem execRegulatorPhaseLost_keeps (a0 : Nat) (s : State) : OutKeeps s (execRegulatorPhaseLost a0 s) := by
  unfold execRegulatorPhaseLost
  exact OutKeeps.next (by simp)
theorem execRecordSign_keeps (a0 : Nat) (s : State) : OutKeeps s (execRecordSign a0 s) := by
  unfold execRecordSign
  exact atUnit_keeps _ _ _ _ _ (by (try dsimp only); (repeat' split) <;> simp)
theorem execRecordSlotFreed_keeps (a0 : Nat) (s : State) : OutKeeps s (execRecordSlotFreed a0 s) := by
  unfold execRecordSlotFreed
  exact OutKeeps.next (by simp)
theorem cmdRecordRead_keeps : cmdRecordRead.Keeps := by
  intro call pl s
  dsimp only [cmdRecordRead]
  (repeat' split) <;> simp [State.wfMem]
theorem execRecordRead_keeps (a0 : Hdr) (a1 : Bytes) (s : State) : OutKeeps s (execRecordRead a0 a1 s) := hostCmd_keeps cmdRecordRead_keeps _ _ s
theorem cmdDispConfigure_keeps : cmdDispConfigure.Keeps := by
  intro call pl s
  dsimp only [cmdDispConfigure]
  simp [State.wfMem]
theorem execDispConfigure_keeps (a0 : Hdr) (a1 : Bytes) (s : State) : OutKeeps s (execDispConfigure a0 a1 s) := hostCmd_keeps cmdDispConfigure_keeps _ _ s
theorem cmdDispWrite_keeps : cmdDispWrite.Keeps := dispWriteBody_keeps
theorem execDispWrite_keeps (a0 : Hdr) (a1 : Bytes) (s : State) : OutKeeps s (execDispWrite a0 a1 s) := hostCmd_keeps cmdDispWrite_keeps _ _ s
theorem cmdDispBlink_keeps : cmdDispBlink.Keeps := by
  intro call pl s
  dsimp only [cmdDispBlink]
  simp [State.wfMem]
theorem execDispBlink_keeps (a0 : Hdr) (a1 : Bytes) (s : State) : OutKeeps s (execDispBlink a0 a1 s) := hostCmd_keeps cmdDispBlink_keeps _ _ s
theorem cmdDispGetCheck_keeps : cmdDispGetCheck.Keeps := by
  intro call pl s
  dsimp only [cmdDispGetCheck]
  simp [State.wfMem]
theorem execDispGetCheck_keeps (a0 : Hdr) (a1 : Bytes) (s : State) : OutKeeps s (execDispGetCheck a0 a1 s) := hostCmd_keeps cmdDispGetCheck_keeps _ _ s
theorem execRefreshPass_keeps (a0 : Nat) (a1 : Nat) (s : State) : OutKeeps s (execRefreshPass a0 a1 s) := by
  unfold execRefreshPass
  exact OutKeeps.next (by simp)
theorem execLegalRegionRender_keeps (s : State) : OutKeeps s (execLegalRegionRender s) := by
  unfold execLegalRegionRender
  exact OutKeeps.next (by simp)
theorem execErrorPatternEnd_keeps (s : State) : OutKeeps s (execErrorPatternEnd s) := by
  unfold execErrorPatternEnd
  exact OutKeeps.next (by simp)
theorem execScDisplayEnd_keeps (s : State) : OutKeeps s (execScDisplayEnd s) := by
  unfold execScDisplayEnd
  exact OutKeeps.next (by simp)
theorem execVcomToggle_keeps (s : State) : OutKeeps s (execVcomToggle s) := by
  unfold execVcomToggle
  exact OutKeeps.next (by simp)
theorem cmdKeyList_keeps : cmdKeyList.Keeps := by
  intro call pl s
  dsimp only [cmdKeyList]
  simp [State.wfMem]
theorem execKeyList_keeps (a0 : Hdr) (a1 : Bytes) (s : State) : OutKeeps s (execKeyList a0 a1 s) := hostCmd_keeps cmdKeyList_keeps _ _ s
theorem cmdKeyGetPublic_keeps : cmdKeyGetPublic.Keeps := by
  intro call pl s
  dsimp only [cmdKeyGetPublic]
  simp [State.wfMem]
theorem execKeyGetPublic_keeps (a0 : Hdr) (a1 : Bytes) (s : State) : OutKeeps s (execKeyGetPublic a0 a1 s) := hostCmd_keeps cmdKeyGetPublic_keeps _ _ s
theorem cmdKeyGenerate_keeps : cmdKeyGenerate.Keeps := by
  intro call pl s
  dsimp only [cmdKeyGenerate]
  simp [State.wfMem]
theorem execKeyGenerate_keeps (a0 : Hdr) (a1 : Bytes) (s : State) : OutKeeps s (execKeyGenerate a0 a1 s) := hostCmd_keeps cmdKeyGenerate_keeps _ _ s
theorem cmdKeyImport_keeps : cmdKeyImport.Keeps := by
  intro call pl s
  dsimp only [cmdKeyImport]
  simp [State.wfMem]
theorem execKeyImport_keeps (a0 : Hdr) (a1 : Bytes) (s : State) : OutKeeps s (execKeyImport a0 a1 s) := hostCmd_keeps cmdKeyImport_keeps _ _ s
theorem cmdKeyDerive_keeps : cmdKeyDerive.Keeps := by
  intro call pl s
  dsimp only [cmdKeyDerive]
  simp [State.wfMem]
theorem execKeyDerive_keeps (a0 : Hdr) (a1 : Bytes) (s : State) : OutKeeps s (execKeyDerive a0 a1 s) := hostCmd_keeps cmdKeyDerive_keeps _ _ s
theorem cmdKeyInvalidate_keeps : cmdKeyInvalidate.Keeps := by
  intro call pl s
  dsimp only [cmdKeyInvalidate]
  simp [State.wfMem]
theorem execKeyInvalidate_keeps (a0 : Hdr) (a1 : Bytes) (s : State) : OutKeeps s (execKeyInvalidate a0 a1 s) := hostCmd_keeps cmdKeyInvalidate_keeps _ _ s
theorem cmdAttest_keeps : cmdAttest.Keeps := by
  intro call pl s
  dsimp only [cmdAttest]
  simp [State.wfMem]
theorem execAttest_keeps (a0 : Hdr) (a1 : Bytes) (s : State) : OutKeeps s (execAttest a0 a1 s) := hostCmd_keeps cmdAttest_keeps _ _ s
theorem cmdSetLifecycle_keeps : cmdSetLifecycle.Keeps := by
  intro call pl s
  dsimp only [cmdSetLifecycle]
  simp [State.wfMem]
theorem execSetLifecycle_keeps (a0 : Hdr) (a1 : Bytes) (s : State) : OutKeeps s (execSetLifecycle a0 a1 s) := hostCmd_keeps cmdSetLifecycle_keeps _ _ s
theorem execManufacturedFuse_keeps (s : State) : OutKeeps s (execManufacturedFuse s) := by
  unfold execManufacturedFuse
  exact OutKeeps.next (by simp)
theorem execDebugPortAccess_keeps (a0 : DebugAccess) (s : State) : OutKeeps s (execDebugPortAccess a0 s) := by
  unfold execDebugPortAccess
  try dsimp only
  (repeat' split) <;> exact OutKeeps.next (by simp)
theorem cmdLswConfigure_keeps : cmdLswConfigure.Keeps := by
  intro call pl s
  dsimp only [cmdLswConfigure]
  simp [State.wfMem]
theorem execLswConfigure_keeps (a0 : Hdr) (a1 : Bytes) (s : State) : OutKeeps s (execLswConfigure a0 a1 s) := hostCmd_keeps cmdLswConfigure_keeps _ _ s
theorem cmdLswSet_keeps : cmdLswSet.Keeps := by
  intro call pl s
  dsimp only [cmdLswSet]
  simp [State.wfMem]
theorem execLswSet_keeps (a0 : Hdr) (a1 : Bytes) (s : State) : OutKeeps s (execLswSet a0 a1 s) := hostCmd_keeps cmdLswSet_keeps _ _ s
theorem cmdLswGet_keeps : cmdLswGet.Keeps := by
  intro call pl s
  dsimp only [cmdLswGet]
  simp [State.wfMem]
theorem execLswGet_keeps (a0 : Hdr) (a1 : Bytes) (s : State) : OutKeeps s (execLswGet a0 a1 s) := hostCmd_keeps cmdLswGet_keeps _ _ s
theorem cmdLswUnlock_keeps : cmdLswUnlock.Keeps := by
  intro call pl s
  dsimp only [cmdLswUnlock]
  simp [State.wfMem]
theorem execLswUnlock_keeps (a0 : Hdr) (a1 : Bytes) (s : State) : OutKeeps s (execLswUnlock a0 a1 s) := hostCmd_keeps cmdLswUnlock_keeps _ _ s
theorem execShort_keeps (a0 : ShortSample) (s : State) : OutKeeps s (execShort a0 s) := by
  unfold execShort
  exact atUnit_keeps _ _ _ _ _ (by simp)
theorem execOverload_keeps (a0 : SecondCharge) (s : State) : OutKeeps s (execOverload a0 s) := by
  unfold execOverload
  exact atUnit_keeps _ _ _ _ _ (by simp)
theorem execThermalLatchSet_keeps (a0 : Nat) (a1 : Nat) (s : State) : OutKeeps s (execThermalLatchSet a0 a1 s) := by
  unfold execThermalLatchSet
  exact atUnit_keeps _ _ _ _ _ (by simp)
theorem execThermalLatchClear_keeps (a0 : Nat) (a1 : Nat) (s : State) : OutKeeps s (execThermalLatchClear a0 a1 s) := by
  unfold execThermalLatchClear
  exact atUnit_keeps _ _ _ _ _ (by simp)
theorem execOpenLoad_keeps (a0 : Nat) (a1 : LoadWindow) (s : State) : OutKeeps s (execOpenLoad a0 a1 s) := by
  unfold execOpenLoad
  refine atUnit_keeps _ _ _ _ _ ?_
  dsimp only
  (repeat' split) <;> simp
theorem execRetry_keeps (a0 : Nat) (s : State) : OutKeeps s (execRetry a0 s) := by
  unfold execRetry
  exact atUnit_keeps _ _ _ _ _ (by simp)
theorem execRetriesRefill_keeps (a0 : Nat) (s : State) : OutKeeps s (execRetriesRefill a0 s) := by
  unfold execRetriesRefill
  exact atUnit_keeps _ _ _ _ _ (by simp)
theorem execInrushWindowEnd_keeps (a0 : Nat) (s : State) : OutKeeps s (execInrushWindowEnd a0 s) := by
  unfold execInrushWindowEnd
  exact atUnit_keeps _ _ _ _ _ (by simp)
theorem execVloadUndervoltage_keeps (a0 : LoadSupply) (s : State) : OutKeeps s (execVloadUndervoltage a0 s) := by
  unfold execVloadUndervoltage
  exact atUnit_keeps _ _ _ _ _ (by simp)
theorem execVloadRecovery_keeps (a0 : LoadSupply) (s : State) : OutKeeps s (execVloadRecovery a0 s) := by
  unfold execVloadRecovery
  exact atUnit_keeps _ _ _ _ _ (by simp)
theorem execGroupOverload_keeps (a0 : Nat) (a1 : List Nat) (s : State) : OutKeeps s (execGroupOverload a0 a1 s) := by
  unfold execGroupOverload
  exact atUnit_keeps _ _ _ _ _ (by simp)
theorem cmdReset_keeps : cmdReset.Keeps := by
  intro call pl s
  dsimp only [cmdReset]
  simp [State.wfMem]
theorem execReset_keeps (a0 : Hdr) (a1 : Bytes) (s : State) : OutKeeps s (execReset a0 a1 s) := hostCmd_keeps cmdReset_keeps _ _ s
theorem cmdSetPowerState_keeps : cmdSetPowerState.Keeps := by
  intro call pl s
  dsimp only [cmdSetPowerState]
  simp [State.wfMem]
theorem execSetPowerState_keeps (a0 : Hdr) (a1 : Bytes) (s : State) : OutKeeps s (execSetPowerState a0 a1 s) := hostCmd_keeps cmdSetPowerState_keeps _ _ s
theorem execQuietExit_keeps (s : State) : OutKeeps s (execQuietExit s) := by
  unfold execQuietExit
  exact OutKeeps.next (by simp)
theorem changeInput_keeps (a0 : Bool) (a1 : Bool) (s : State) :
    (changeInput a0 a1 s).skel = s.skel ∧ (changeInput a0 a1 s).mem = s.mem := by
  unfold changeInput
  simp
theorem execVsupInputChange_keeps (a0 : Bool) (a1 : InputLevel) (s : State) : OutKeeps s (execVsupInputChange a0 a1 s) := by
  unfold execVsupInputChange
  refine OutKeeps.next ?_
  split
  · exact changeInput_keeps _ _ _
  · exact ⟨rfl, rfl⟩
theorem execVholdReady_keeps (s : State) : OutKeeps s (execVholdReady s) := by
  unfold execVholdReady
  exact OutKeeps.next (by simp)
theorem execVholdLow_keeps (a0 : Nat) (s : State) : OutKeeps s (execVholdLow a0 s) := by
  unfold execVholdLow
  exact OutKeeps.next (by simp)
theorem execPfail_keeps (s : State) : OutKeeps s (execPfail s) := by
  unfold execPfail
  exact OutKeeps.next (by simp)
theorem execVbackupLoss_keeps (s : State) : OutKeeps s (execVbackupLoss s) := by
  unfold execVbackupLoss
  exact OutKeeps.next (by simp)
theorem execResetN_keeps (a0 : Nat) (s : State) : OutKeeps s (execResetN a0 s) := by
  unfold execResetN
  try dsimp only
  (repeat' split) <;> exact OutKeeps.next (by simp)
theorem execStandbyEntry_keeps (s : State) : OutKeeps s (execStandbyEntry s) := by
  unfold execStandbyEntry
  exact OutKeeps.next (by simp)
theorem execWakeSource_keeps (a0 : Nat) (s : State) : OutKeeps s (execWakeSource a0 s) := by
  unfold execWakeSource
  exact OutKeeps.next (by simp)
theorem cmdEventsRead_keeps : cmdEventsRead.Keeps := by
  intro call pl s
  dsimp only [cmdEventsRead]
  simp [State.wfMem]
theorem execEventsRead_keeps (a0 : Hdr) (a1 : Bytes) (s : State) : OutKeeps s (execEventsRead a0 a1 s) := hostCmd_keeps cmdEventsRead_keeps _ _ s
theorem cmdEventsInfo_keeps : cmdEventsInfo.Keeps := by
  intro call pl s
  dsimp only [cmdEventsInfo]
  simp [State.wfMem]
theorem execEventsInfo_keeps (a0 : Hdr) (a1 : Bytes) (s : State) : OutKeeps s (execEventsInfo a0 a1 s) := hostCmd_keeps cmdEventsInfo_keeps _ _ s
theorem cmdEventsFilter_keeps : cmdEventsFilter.Keeps := by
  intro call pl s
  dsimp only [cmdEventsFilter]
  simp [State.wfMem]
theorem execEventsFilter_keeps (a0 : Hdr) (a1 : Bytes) (s : State) : OutKeeps s (execEventsFilter a0 a1 s) := hostCmd_keeps cmdEventsFilter_keeps _ _ s
theorem execEventFlush_keeps (s : State) : OutKeeps s (execEventFlush s) := by
  unfold execEventFlush
  exact OutKeeps.next (by simp)
theorem execRepeatWindowLapse_keeps (a0 : Nat) (s : State) : OutKeeps s (execRepeatWindowLapse a0 s) := by
  unfold execRepeatWindowLapse
  exact OutKeeps.next (by simp)
theorem cmdPerfConfigure_keeps : cmdPerfConfigure.Keeps := by
  intro call pl s
  dsimp only [cmdPerfConfigure]
  simp [State.wfMem]
theorem execPerfConfigure_keeps (a0 : Hdr) (a1 : Bytes) (s : State) : OutKeeps s (execPerfConfigure a0 a1 s) := hostCmd_keeps cmdPerfConfigure_keeps _ _ s
theorem cmdPerfRead_keeps : cmdPerfRead.Keeps := by
  intro call pl s
  dsimp only [cmdPerfRead]
  simp [State.wfMem]
theorem execPerfRead_keeps (a0 : Hdr) (a1 : Bytes) (s : State) : OutKeeps s (execPerfRead a0 a1 s) := hostCmd_keeps cmdPerfRead_keeps _ _ s
theorem cmdPerfAccess_keeps : cmdPerfAccess.Keeps := by
  intro call pl s
  dsimp only [cmdPerfAccess]
  simp [State.wfMem]
theorem execPerfAccess_keeps (a0 : Hdr) (a1 : Bytes) (s : State) : OutKeeps s (execPerfAccess a0 a1 s) := hostCmd_keeps cmdPerfAccess_keeps _ _ s
theorem execPerfWindowEnd_keeps (a0 : Nat) (s : State) : OutKeeps s (execPerfWindowEnd a0 s) := by
  unfold execPerfWindowEnd
  exact atUnit_keeps _ _ _ _ _ (by simp)
theorem cmdRdrConfigure_keeps : cmdRdrConfigure.Keeps := by
  intro call pl s
  dsimp only [cmdRdrConfigure]
  simp [State.wfMem]
theorem execRdrConfigure_keeps (a0 : Hdr) (a1 : Bytes) (s : State) : OutKeeps s (execRdrConfigure a0 a1 s) := hostCmd_keeps cmdRdrConfigure_keeps _ _ s
theorem cmdRdrPoll_keeps : cmdRdrPoll.Keeps := by
  intro call pl s
  dsimp only [cmdRdrPoll]
  simp [State.wfMem]
theorem execRdrPoll_keeps (a0 : Hdr) (a1 : Bytes) (s : State) : OutKeeps s (execRdrPoll a0 a1 s) := hostCmd_keeps cmdRdrPoll_keeps _ _ s
theorem cmdRdrTransceive_keeps : cmdRdrTransceive.Keeps := by
  intro call pl s
  dsimp only [cmdRdrTransceive]
  simp [State.wfMem]
theorem execRdrTransceive_keeps (a0 : Hdr) (a1 : Bytes) (s : State) : OutKeeps s (execRdrTransceive a0 a1 s) := hostCmd_keeps cmdRdrTransceive_keeps _ _ s
theorem execDrizzlePing_keeps (a0 : Nat) (a1 : Int) (a2 : Int) (s : State) : OutKeeps s (execDrizzlePing a0 a1 a2 s) := by
  unfold execDrizzlePing
  exact atUnit_keeps _ _ _ _ _ (by simp)
theorem execPollComplete_keeps (a0 : Nat) (s : State) : OutKeeps s (execPollComplete a0 s) := by
  unfold execPollComplete
  exact atUnit_keeps _ _ _ _ _ (by simp)
theorem execCardRelease_keeps (a0 : Nat) (s : State) : OutKeeps s (execCardRelease a0 s) := by
  unfold execCardRelease
  exact atUnit_keeps _ _ _ _ _ (by simp)
theorem execCardFound_keeps (a0 : Nat) (a1 : CardKind) (a2 : Bytes) (s : State) : OutKeeps s (execCardFound a0 a1 a2 s) := by
  unfold execCardFound
  exact atUnit_keeps _ _ _ _ _ (by simp)
theorem cmdTagRead_keeps : cmdTagRead.Keeps := by
  intro call pl s
  dsimp only [cmdTagRead]
  simp [State.wfMem]
theorem execTagRead_keeps (a0 : Hdr) (a1 : Bytes) (s : State) : OutKeeps s (execTagRead a0 a1 s) := hostCmd_keeps cmdTagRead_keeps _ _ s
theorem cmdTagWrite_keeps : cmdTagWrite.Keeps := tagWriteBody_keeps
theorem execTagWrite_keeps (a0 : Hdr) (a1 : Bytes) (s : State) : OutKeeps s (execTagWrite a0 a1 s) := hostCmd_keeps cmdTagWrite_keeps _ _ s
theorem cmdTagConfigure_keeps : cmdTagConfigure.Keeps := by
  intro call pl s
  dsimp only [cmdTagConfigure]
  simp [State.wfMem]
theorem execTagConfigure_keeps (a0 : Hdr) (a1 : Bytes) (s : State) : OutKeeps s (execTagConfigure a0 a1 s) := hostCmd_keeps cmdTagConfigure_keeps _ _ s
theorem execTagReadBinary_keeps (a0 : Nat) (a1 : Nat) (a2 : Nat) (s : State) : OutKeeps s (execTagReadBinary a0 a1 a2 s) := by
  unfold execTagReadBinary
  exact OutKeeps.next (by dsimp only; (repeat' split) <;> simp)
theorem execTagUpdateBinary_keeps (file offset : Nat) (data : Bytes) (s : State) : OutKeeps s (execTagUpdateBinary file offset data s) := by
  refine fieldCmd_keeps s _ fun x => ?_
  dsimp only
  split
  · simp [State.wfMem]
  · simp only [holdLocks_keeps, ntfTag_keeps, respond_keeps, State.wfMem]
    exact ⟨rfl, fun h => ⟨h.1, Tag.commit_wf _ _ h.2⟩⟩
theorem execTagGetChallenge_keeps (s : State) : OutKeeps s (execTagGetChallenge s) := by
  unfold execTagGetChallenge
  exact OutKeeps.next (by simp)
theorem execTagExternalAuthenticate_keeps (a0 : Bytes) (s : State) : OutKeeps s (execTagExternalAuthenticate a0 s) := by
  unfold execTagExternalAuthenticate
  exact OutKeeps.next (by dsimp only; (repeat' split) <;> simp)
theorem execTagDeselect_keeps (s : State) : OutKeeps s (execTagDeselect s) := by
  unfold execTagDeselect
  exact OutKeeps.next (by simp)
theorem execTagPowerUp_keeps (s : State) : OutKeeps s (execTagPowerUp s) := by
  unfold execTagPowerUp
  exact OutKeeps.next (by simp)
theorem execStart_keeps (m : StartConditions) (s : State) : OutKeeps s (execStart m s) := by
  unfold execStart
  split
  · exact OutKeeps.next_wf (startModule_keeps _ _ _)
  · exact OutKeeps.next_wf ⟨rfl, id⟩
theorem execHostPacketDiscarded_keeps (a0 : HostPort) (a1 : Bool) (a2 : Nat) (a3 : Nat) (a4 : Nat) (s : State) : OutKeeps s (execHostPacketDiscarded a0 a1 a2 a3 a4 s) := by
  unfold execHostPacketDiscarded
  exact OutKeeps.next_wf (by (try dsimp only); (repeat' split) <;> simp_all [State.wfMem])
theorem execReassemblyTimeout_keeps (a0 : HostPort) (s : State) : OutKeeps s (execReassemblyTimeout a0 s) := by
  unfold execReassemblyTimeout
  exact OutKeeps.next_wf (by (try dsimp only); (repeat' split) <;> simp_all [State.wfMem])
theorem execSpiTransaction_keeps (a0 : Nat) (a1 : Bool) (s : State) : OutKeeps s (execSpiTransaction a0 a1 s) := by
  unfold execSpiTransaction
  exact OutKeeps.next (by simp)
theorem execNotificationSend_keeps (a0 : HostPort) (s : State) : OutKeeps s (execNotificationSend a0 s) := by
  unfold execNotificationSend
  exact OutKeeps.next_wf (by (try dsimp only); (repeat' split) <;> simp_all [State.wfMem])
theorem execUartBaudFallback_keeps (s : State) : OutKeeps s (execUartBaudFallback s) := by
  unfold execUartBaudFallback
  exact OutKeeps.next (by simp)

theorem Tag.cutCommit_wf (t : Tag) (l : List (Nat × Bytes)) (ph : CutPhase) (h : Memory.wf t.phys = true) :
    Memory.wf (t.cutCommit l ph).phys = true := by
  cases ph
  · exact h
  all_goals exact Tag.shadow_wf t l h
theorem execFieldCollapse_keeps (cut : Option CutWrite) (s : State) : OutKeeps s (execFieldCollapse cut s) := by
  unfold execFieldCollapse
  refine OutKeeps.next_wf ?_
  dsimp only
  split
  · exact ⟨rfl, id⟩
  · split
    · exact ⟨rfl, id⟩
    · split
      · refine ⟨by simp, fun h => ?_⟩
        unfold State.wfMem
        rw [(ntfTag_keeps _ _ _ _).2]
        exact ⟨h.1, Tag.cutCommit_wf _ _ _ h.2⟩
      · exact ⟨rfl, fun h => ⟨h.1, Tag.cutCommit_wf _ _ _ h.2⟩⟩
theorem cutMirror_keeps (s : State) : (cutMirror s).skel = s.skel ∧ (s.wfMem → (cutMirror s).wfMem) := by
  unfold cutMirror
  split
  · exact ⟨rfl, id⟩
  · generalize mirrorBlock s = blk
    dsimp only
    refine ⟨by simp, fun h => ⟨h.1, ?_⟩⟩
    exact Tag.cutCommit_wf _ _ _ h.2
theorem execFlushEnd_keeps (a0 : Nat) (a1 : Bool) (s : State) : OutKeeps s (execFlushEnd a0 a1 s) := by
  unfold execFlushEnd
  refine OutKeeps.next_wf ?_
  split
  · exact ⟨rfl, id⟩
  · dsimp only
    split
    · simp [State.wfMem]
    · have := cutMirror_keeps (flushAtEnd a0 s)
      simpa [State.wfMem] using this
theorem execMirrorUpdate_keeps (s : State) : OutKeeps s (execMirrorUpdate s) := by
  unfold execMirrorUpdate
  refine OutKeeps.next_wf ?_
  split
  · exact ⟨rfl, id⟩
  · generalize mirrorBlock s = blk
    refine ⟨State_modTag_skel _ _, fun h => ⟨h.1, ?_⟩⟩
    change Memory.wf (s.tag.commit [(0, blk)]).phys = true
    exact Tag.commit_wf _ _ h.2
theorem execReCoupling_keeps (unit : CoupledUnit) (passed : Bool) (s : State) : OutKeeps s (execReCoupling unit passed s) := by
  unfold execReCoupling
  dsimp only
  split
  · exact OutKeeps.next ⟨rfl, rfl⟩
  · cases unit with
    | me =>
      refine OutKeeps.next ?_
      (repeat' split) <;> simp
    | ce =>
      refine OutKeeps.next ?_
      (repeat' split) <;> simp
    | cluster k =>
      refine atUnit_keeps _ _ _ s _ ?_
      (repeat' split) <;> simp
theorem commands1_keep : ∀ c ∈ commands1, c.Keeps :=
  List.forall_iff_forall_mem.1 (show List.Forall Command.Keeps commands1 from
    ⟨cmdPing_keeps, cmdGetIdentity_keeps, cmdGetStatus_keeps, cmdReset_keeps, cmdSetPowerState_keeps, cmdGetParam_keeps,
    cmdSetParam_keeps, cmdCommitParams_keeps, cmdOpenWorld_keeps, cmdCloseWorld_keeps, cmdGetTime_keeps,
    cmdSetTime_keeps, cmdAdjustTime_keeps, cmdGetHealth_keeps, cmdBayConfigure_keeps, cmdBayGetState_keeps,
    cmdBayEnable_keeps, cmdBayDisable_keeps⟩)
theorem commands2_keep : ∀ c ∈ commands2, c.Keeps :=
  List.forall_iff_forall_mem.1 (show List.Forall Command.Keeps commands2 from
    ⟨cmdBaySetLimit_keeps, cmdBayUnlock_keeps, cmdBayTestResidual_keeps, cmdConverterConfigure_keeps, cmdCtxOpen_keeps,
    cmdCtxAuthorise_keeps, cmdCtxBind_keeps, cmdCtxStart_keeps, cmdCtxSuspend_keeps, cmdCtxResume_keeps,
    cmdCtxStop_keeps, cmdCtxSetQuota_keeps, cmdCtxSetProfile_keeps, cmdCtxGet_keeps, cmdCtxList_keeps,
    cmdCtxAckRecord_keeps, cmdCtxRelease_keeps, cmdSiteSetBudget_keeps⟩)
theorem commands3_keep : ∀ c ∈ commands3, c.Keeps :=
  List.forall_iff_forall_mem.1 (show List.Forall Command.Keeps commands3 from
    ⟨cmdSiteGetAllocation_keeps, cmdCtxSetPriority_keeps, cmdMeterReadInstant_keeps, cmdMeterReadRegisters_keeps,
    cmdMeterReadHarmonics_keeps, cmdPulseAssign_keeps, cmdLegalParamRead_keeps, cmdLegalParamWrite_keeps,
    cmdMeterSelftest_keeps, cmdTariffLoadCalendar_keeps, cmdTariffGet_keeps, cmdTariffCancelPending_keeps,
    cmdProfileRead_keeps, cmdProfileConfigure_keeps, cmdDemandRead_keeps, cmdLogbookRead_keeps, cmdRecordRead_keeps,
    cmdCredLookup_keeps⟩)
theorem commands4_keep : ∀ c ∈ commands4, c.Keeps :=
  List.forall_iff_forall_mem.1 (show List.Forall Command.Keeps commands4 from
    ⟨cmdCredUpdateBegin_keeps, cmdCredUpdateData_keeps, cmdCredUpdateCommit_keeps, cmdCredStats_keeps,
    cmdPncVerify_keeps, cmdSafetyGetState_keeps, cmdSafetyLoadParams_keeps, cmdSafetyGetCheck_keeps,
    cmdSafetyConfirm_keeps, cmdSafetyResetFault_keeps, cmdSiteSafetyConfigure_keeps, cmdKeyList_keeps,
    cmdKeyGenerate_keeps, cmdKeyImport_keeps, cmdKeyDerive_keeps, cmdKeyInvalidate_keeps, cmdKeyGetPublic_keeps,
    cmdAttest_keeps⟩)
theorem commands5_keep : ∀ c ∈ commands5, c.Keeps :=
  List.forall_iff_forall_mem.1 (show List.Forall Command.Keeps commands5 from
    ⟨cmdSetLifecycle_keeps, cmdUpdateBegin_keeps, cmdUpdateData_keeps, cmdUpdateEnd_keeps, cmdUpdateActivate_keeps,
    cmdUpdateStatus_keeps, cmdUpdateAbort_keeps, cmdConsistConfigure_keeps, cmdUpdateForward_keeps,
    cmdEventsRead_keeps, cmdEventsInfo_keeps, cmdEventsFilter_keeps, cmdPerfConfigure_keeps, cmdPerfRead_keeps,
    cmdPerfAccess_keeps, cmdLswConfigure_keeps, cmdLswSet_keeps, cmdLswGet_keeps⟩)
theorem commands6_keep : ∀ c ∈ commands6, c.Keeps :=
  List.forall_iff_forall_mem.1 (show List.Forall Command.Keeps commands6 from
    ⟨cmdLswUnlock_keeps, cmdDispConfigure_keeps, cmdDispWrite_keeps, cmdDispBlink_keeps, cmdDispGetCheck_keeps,
    cmdRdrConfigure_keeps, cmdRdrPoll_keeps, cmdRdrTransceive_keeps, cmdTagRead_keeps, cmdTagWrite_keeps,
    cmdTagConfigure_keeps, cmdPlcConfigure_keeps, cmdPlcGetLink_keeps, cmdPlcTonemapInfo_keeps, cmdV2gConfigure_keeps,
    cmdSiteConfigure_keeps, cmdSiteGetPeers_keeps⟩)
/-- Every command of the table keeps what helpers keep. -/
theorem commandOf_keeps {op : Nat} {c : Command} (h : commandOf op = some c) : c.Keeps := by
  have hm := List.mem_of_find?_eq_some h
  simp only [List.mem_append] at hm
  rcases hm with ((((hm | hm) | hm) | hm) | hm) | hm
  exacts [commands1_keep c hm, commands2_keep c hm, commands3_keep c hm, commands4_keep c hm, commands5_keep c hm, commands6_keep c hm]
theorem completeFragments_keeps (h : Hdr) (op : Nat) (data : Bytes) (s : State) :
    (completeFragments h op data s).skel = s.skel ∧ (s.wfMem → (completeFragments h op data s).wfMem) := by
  unfold completeFragments
  dsimp only
  split
  · rename_i c hc
    have := runCommand_keeps (commandOf_keeps hc) { port := h.port, world := h.world, op := op, tag := h.tag } data 4084
      (trailerOf h op 0 true (data.take 4084)) (dropReassembly h.port s)
    simpa [State.wfMem] using this
  · simp [State.wfMem]
theorem laterFragment_keeps (h : Hdr) (op frag : Nat) (mf : Bool) (pl : Bytes) (s : State) :
    (laterFragment h op frag mf pl s).skel = s.skel ∧ (s.wfMem → (laterFragment h op frag mf pl s).wfMem) := by
  unfold laterFragment
  split
  · simp [State.wfMem]
  · split
    · simp [State.wfMem]
    · split
      · simp [State.wfMem]
      · split
        · simp [State.wfMem]
        · exact completeFragments_keeps _ _ _ _
theorem execFragment_keeps (h : Hdr) (op frag : Nat) (mf : Bool) (pl : Bytes) (s : State) : OutKeeps s (execFragment h op frag mf pl s) := by
  unfold execFragment
  refine OutKeeps.next_wf ?_
  have ha : ∀ n, (arrived h.port n s).skel = s.skel ∧ (arrived h.port n s).mem = s.mem := fun n => arrived_keeps _ n s
  generalize hc : (fun x : State => touchWorld { port := h.port, world := h.world, op := op, tag := h.tag } (arrived h.port pl.length x)) = came
  have hcs : (came s).skel = s.skel ∧ (came s).mem = s.mem := by subst hc; simp
  have hs : ∀ f l t p g, (∀ x, (g x).skel = x.skel ∧ (x.wfMem → (g x).wfMem)) →
      (screen h op f l t p g (came s)).skel = s.skel ∧ (s.wfMem → (screen h op f l t p g (came s)).wfMem) := by
    intro f l t p g hg
    have := screen_keeps h op f l t p g hg (came s)
    simpa [State.wfMem, hcs] using this
  dsimp only
  split
  · exact ⟨rfl, id⟩
  · split
    · simp [State.wfMem]
    · split
      · split
        · rename_i c hc
          exact receive_keeps (commandOf_keeps hc) h pl s
        · exact hs _ _ _ _ _ (fun x => by simp [State.wfMem])
      · split
        · exact hs _ _ _ _ _ (fun x => by simp [State.wfMem])
        · exact hs _ _ _ _ _ (fun x => laterFragment_keeps h op frag mf pl x)

end Sys2Proof.Machine
end

