-- ==== Sys2Proof/WellFormed.lean ====
section
/-! DEFINITION. Well-formed commands and events: the operands lie in the ranges that the module's pins, packets and frames
can carry. The meanings of Dispatch are defined for every operand; this check says which ones can arise. -/

namespace Sys2Proof

/-- A packet header that framing lets through, and a payload of one packet (R278). -/
def Hdr.wellFormed (h : Hdr) (pl : Bytes) : Bool :=
  h.version < 256 && h.world < 256 && h.flags < 128 && h.tag < 65536 && pl.length ≤ 4084

/-- Two data frames' worth of a CAN FD frame of the converter link (R151). -/
def canWellFormed (can node : Nat) (data : Bytes) : Bool := can < 2 && node < 32 && data.length == 16

/-- A run of decimated values: at most 2 048 of them, each within the decimator's full scale of 2^24 (R44). -/
def stageOk (l : List Int) : Bool := l.length ≤ 2048 && l.all fun x => x.natAbs ≤ 2 ^ 24

/-- A window of two decimated streams beside each other. -/
def edgeWindowOk (w : EdgeWindow) : Bool := w.ua.length == w.uo.length && stageOk w.ua && stageOk w.uo

/-- A sounding covers four angle slots of 1 155 carriers, with bits that a map may assign (R171, R174). -/
def soundingOk (x : Sounding) : Bool :=
  x.txMap.length == 4 && x.txMap.all (fun l => l.length == 1155 && l.all fun b => [0, 1, 2, 3, 4, 6, 8, 10].contains b) &&
    x.snr.length == 4 && x.snr.all fun l => l.length == 1155

namespace Instr

/-- Whether the operands of a command or event lie in their ranges. -/
def wellFormed : Instr → Bool
  | .ping h pl => h.wellFormed pl
  | .getIdentity h pl => h.wellFormed pl
  | .getStatus h pl => h.wellFormed pl
  | .reset h pl => h.wellFormed pl
  | .setPowerState h pl => h.wellFormed pl
  | .getParam h pl => h.wellFormed pl
  | .setParam h pl => h.wellFormed pl
  | .commitParams h pl => h.wellFormed pl
  | .openWorld h pl => h.wellFormed pl
  | .closeWorld h pl => h.wellFormed pl
  | .getTime h pl => h.wellFormed pl
  | .setTime h pl => h.wellFormed pl
  | .adjustTime h pl => h.wellFormed pl
  | .getHealth h pl => h.wellFormed pl
  | .bayConfigure h pl => h.wellFormed pl
  | .bayGetState h pl => h.wellFormed pl
  | .bayEnable h pl => h.wellFormed pl
  | .bayDisable h pl => h.wellFormed pl
  | .baySetLimit h pl => h.wellFormed pl
  | .bayUnlock h pl => h.wellFormed pl
  | .bayTestResidual h pl => h.wellFormed pl
  | .converterConfigure h pl => h.wellFormed pl
  | .ctxOpen h pl => h.wellFormed pl
  | .ctxAuthorise h pl => h.wellFormed pl
  | .ctxBind h pl => h.wellFormed pl
  | .ctxStart h pl => h.wellFormed pl
  | .ctxSuspend h pl => h.wellFormed pl
  | .ctxResume h pl => h.wellFormed pl
  | .ctxStop h pl => h.wellFormed pl
  | .ctxSetQuota h pl => h.wellFormed pl
  | .ctxSetProfile h pl => h.wellFormed pl
  | .ctxGet h pl => h.wellFormed pl
  | .ctxList h pl => h.wellFormed pl
  | .ctxAckRecord h pl => h.wellFormed pl
  | .ctxRelease h pl => h.wellFormed pl
  | .siteSetBudget h pl => h.wellFormed pl
  | .siteGetAllocation h pl => h.wellFormed pl
  | .ctxSetPriority h pl => h.wellFormed pl
  | .meterReadInstant h pl => h.wellFormed pl
  | .meterReadRegisters h pl => h.wellFormed pl
  | .meterReadHarmonics h pl => h.wellFormed pl
  | .pulseAssign h pl => h.wellFormed pl
  | .legalParamRead h pl => h.wellFormed pl
  | .legalParamWrite h pl => h.wellFormed pl
  | .meterSelftest h pl => h.wellFormed pl
  | .tariffLoadCalendar h pl => h.wellFormed pl
  | .tariffGet h pl => h.wellFormed pl
  | .tariffCancelPending h pl => h.wellFormed pl
  | .profileRead h pl => h.wellFormed pl
  | .profileConfigure h pl => h.wellFormed pl
  | .demandRead h pl => h.wellFormed pl
  | .logbookRead h pl => h.wellFormed pl
  | .recordRead h pl => h.wellFormed pl
  | .credLookup h pl => h.wellFormed pl
  | .credUpdateBegin h pl => h.wellFormed pl
  | .credUpdateData h pl => h.wellFormed pl
  | .credUpdateCommit h pl => h.wellFormed pl
  | .credStats h pl => h.wellFormed pl
  | .pncVerify h pl => h.wellFormed pl
  | .safetyGetState h pl => h.wellFormed pl
  | .safetyLoadParams h pl => h.wellFormed pl
  | .safetyGetCheck h pl => h.wellFormed pl
  | .safetyConfirm h pl => h.wellFormed pl
  | .safetyResetFault h pl => h.wellFormed pl
  | .siteSafetyConfigure h pl => h.wellFormed pl
  | .keyList h pl => h.wellFormed pl
  | .keyGenerate h pl => h.wellFormed pl
  | .keyImport h pl => h.wellFormed pl
  | .keyDerive h pl => h.wellFormed pl
  | .keyInvalidate h pl => h.wellFormed pl
  | .keyGetPublic h pl => h.wellFormed pl
  | .attest h pl => h.wellFormed pl
  | .setLifecycle h pl => h.wellFormed pl
  | .updateBegin h pl => h.wellFormed pl
  | .updateData h pl => h.wellFormed pl
  | .updateEnd h pl => h.wellFormed pl
  | .updateActivate h pl => h.wellFormed pl
  | .updateStatus h pl => h.wellFormed pl
  | .updateAbort h pl => h.wellFormed pl
  | .consistConfigure h pl => h.wellFormed pl
  | .updateForward h pl => h.wellFormed pl
  | .eventsRead h pl => h.wellFormed pl
  | .eventsInfo h pl => h.wellFormed pl
  | .eventsFilter h pl => h.wellFormed pl
  | .perfConfigure h pl => h.wellFormed pl
  | .perfRead h pl => h.wellFormed pl
  | .perfAccess h pl => h.wellFormed pl
  | .lswConfigure h pl => h.wellFormed pl
  | .lswSet h pl => h.wellFormed pl
  | .lswGet h pl => h.wellFormed pl
  | .lswUnlock h pl => h.wellFormed pl
  | .dispConfigure h pl => h.wellFormed pl
  | .dispWrite h pl => h.wellFormed pl
  | .dispBlink h pl => h.wellFormed pl
  | .dispGetCheck h pl => h.wellFormed pl
  | .rdrConfigure h pl => h.wellFormed pl
  | .rdrPoll h pl => h.wellFormed pl
  | .rdrTransceive h pl => h.wellFormed pl
  | .tagRead h pl => h.wellFormed pl
  | .tagWrite h pl => h.wellFormed pl
  | .tagConfigure h pl => h.wellFormed pl
  | .plcConfigure h pl => h.wellFormed pl
  | .plcGetLink h pl => h.wellFormed pl
  | .plcTonemapInfo h pl => h.wellFormed pl
  | .v2gConfigure h pl => h.wellFormed pl
  | .siteConfigure h pl => h.wellFormed pl
  | .siteGetPeers h pl => h.wellFormed pl
  | .hostPacketDiscarded _ _ world op tag => world < 256 && op < 65536 && tag < 65536
  | .fragment h op frag _ pl => h.wellFormed pl && op < 65536 && frag < 65536
  | .reassemblyTimeout _ => true
  | .spiTransaction hostLen _ => hostLen < 65536
  | .notificationSend _ => true
  | .uartBaudFallback => true
  | .worldIdleTimeout _ => true
  | .openWorldLockoutEnd _ _ => true
  | .sampleStrobe x => x.bits.length == 260 && x.bits.all (· < 2 ^ 15870) && x.frac < 4294967296 && x.fresh ≤ 8
  | .pulseEnd out => out < 5
  | .cycleBoundary freqMhz phaseErr => freqMhz < 4294967296 && -32768 ≤ phaseErr && phaseErr < 32768
  | .halfCycleTick => true
  | .paramsTakeEffect => true
  | .legalParamTakesEffect => true
  | .clockStepTakesEffect => true
  | .intervalClose => true
  | .subintervalClose => true
  | .calendarActivation => true
  | .harmonicBlockEnd => true
  | .legalStoreWrite => true
  | .streamFault stream => stream < 260
  | .streamFaultClear stream => stream < 260
  | .lossOfReference _ => true
  | .referenceValid => true
  | .acquirePullIn => true
  | .lockEntry => true
  | .holdoverExpiry => true
  | .timedAction => true
  | .residualTierTrip bay _ => bay < 32
  | .galeTrip bay _ r x => bay < 32 && stageOk (x :: r)
  | .galeTripRelease bay w => bay < 32 && stageOk w.samples
  | .cpStateChange bay _ _ => bay < 32
  | .ppChange bay _ => bay < 32
  | .guardChange bay _ _ => bay < 32
  | .guardDiscrepancy bay => bay < 32
  | .lockConfirmed bay => bay < 32
  | .lockTimeout bay => bay < 32
  | .closureDetected bay w => bay < 32 && edgeWindowOk w
  | .releaseDetected bay w => bay < 32 && edgeWindowOk w
  | .weldCheck bay _ => bay < 32
  | .weldOpenDetect bay => bay < 32
  | .dcClosureTimeout bay => bay < 32
  | .dcOpenCurrentLow bay _ => bay < 32
  | .suspendOpenTimeout bay => bay < 32
  | .heartbeat can => can < 2
  | .converterStatus can node data => canWellFormed can node data
  | .converterStatusTimeout bay => bay < 32
  | .isoMonitor can node data => canWellFormed can node data
  | .isoMonitorTimeout bay => bay < 32
  | .capability can node data => canWellFormed can node data
  | .capabilityTimeout bay => bay < 32
  | .converterFault can node data => canWellFormed can node data
  | .residualSelftestDone bay _ => bay < 32
  | .permissionLapse bay => bay < 32
  | .slcExcess bay => bay < 32
  | .sdiExportStop bay => bay < 32
  | .lockFeedbackLoss bay => bay < 32
  | .doorChange _ _ => true
  | .estopChange _ _ => true
  | .safetyInputDiscrepancy _ => true
  | .safeOutReadback pair _ _ => pair < 4
  | .safetyFrameReceived _ frame => frame.length == 60
  | .peerConnectionLost peer => peer < 8
  | .redundancyLost peer => peer < 8
  | .feederOverloadTrip group => group < 4
  | .feederOverloadBitEnd group => group < 4
  | .coreLoss _ _ => true
  | .safetyCoreFailure _ fault => match fault with | .failed _ => true | .differs bay fn _ _ => bay < 32 && fn < 12
  | .coreRejoin _ _ => true
  | .aloneLimit => true
  | .meteringValuesMissing bay => bay < 32
  | .meTakeover _ _ => true
  | .ceTakeover _ _ => true
  | .controlCheckpoint => true
  | .dspShunt cluster _ => cluster < 10
  | .bankReplace _ _ => true
  | .nandBlockFault block partition _ => block < 4096 && partition < 11
  | .reCoupling _ _ => true
  | .meteringLost => true
  | .moduleWatchdog => true
  | .regulatorPhaseLost phase => phase < 256
  | .allocatorRecompute => true
  | .allocationTakesEffect => true
  | .cutReservationEnd ctx => ctx < 256
  | .timeLimitExpiry ctx => ctx < 256
  | .reservationExpiry ctx => ctx < 256
  | .hostWaitExpiry ctx => ctx < 256
  | .pncChainReceived bay _ => bay < 32
  | .credBatchTimeout => true
  | .credCommitDurable => true
  | .recordSign ctx => ctx < 256
  | .recordSlotFreed _ => true
  | .slacParmReq bay sounds => bay < 32 && sounds.all fun x => x.length == (sounds.headD []).length
  | .slacTimeout bay => bay < 32
  | .v2gMessage bay _ => bay < 32
  | .greenPhyFrame inst _ _ _ => inst ≤ 32
  | .beacon _ => true
  | .ccoElection _ => true
  | .toneMapRefresh _ x => match x with | some x => soundingOk x | none => true
  | .neighbourLost _ => true
  | .curtailmentFrame _ => true
  | .coordinatorSend => true
  | .coordinatorFrame _ => true
  | .coordinatorLost => true
  | .siteLimitLapse _ => true
  | .drizzlePing port _ _ => port < 4
  | .pollComplete port => port < 4
  | .cardFound port _ uid => port < 4 && uid.length ≤ 16
  | .cardRelease port => port < 4
  | .tagGetChallenge => true
  | .tagExternalAuthenticate answer => answer.length ≤ 255
  | .tagUpdateBinary _ _ data => data.length ≤ 255
  | .tagReadBinary _ _ len => len ≤ 256
  | .fieldCollapse _ => true
  | .tagPowerUp => true
  | .mirrorUpdate => true
  | .refreshPass _ _ => true
  | .legalRegionRender => true
  | .errorPatternEnd => true
  | .scDisplayEnd => true
  | .short x => x.ch < 112
  | .overload x => x.ch < 112
  | .thermalLatchSet ch _ => ch < 112
  | .thermalLatchClear ch _ => ch < 112
  | .openLoad ch _ => ch < 112
  | .retry ch => ch < 112
  | .retriesRefill ch => ch < 112
  | .groupOverload group currents => group < 14 && currents.length == 8
  | .vloadUndervoltage x => x.group < 14
  | .vloadRecovery x => x.group < 14
  | .vsupInputChange _ _ => true
  | .pfail => true
  | .flushEnd _ _ => true
  | .start m => m.rtc < 2 ^ 64 && m.dspOk.length == 10 && m.activeOk.length == 5 && m.previousOk.length == 5
  | .resetN _ => true
  | .vholdReady => true
  | .vholdLow _ => true
  | .vbackupLoss => true
  | .standbyEntry => true
  | .wakeSource source => source < 5 || source == 16
  | .quietExit => true
  | .eventFlush => true
  | .repeatWindowLapse _ => true
  | .perfWindowEnd counter => counter < 64
  | .updateTransferTimeout => true
  | .imageVerified => true
  | .activationComplete _ => true
  | .imageConfirmed _ => true
  | .imageFallback _ _ => true
  | .consistImageReceived _ _ _ => true
  | .forwardRetry => true
  | .inrushWindowEnd ch => ch < 112
  | .lockPulseEnd bay => bay < 32
  | .lockRelease bay => bay < 32
  | .vehicleLinkLost bay => bay < 32
  | .selftestStepEnd => true
  | .tagDeselect => true
  | .vcomToggle => true
  | .forwardDelivered _ => true
  | .manufacturedFuse => true
  | .debugPortAccess a => match a with | .writeNand p => p < 11 | .writeLegal x => x < 2 ^ 32 | _ => true

end Instr

end Sys2Proof
end

