-- ==== Sys2Proof/Laws/PerInstr.lean ====
section
/-! SUPPORT. What is said of every row as syntax: the rows of host commands, and only they, carry a packet, and such a row is
well formed exactly where its packet is. -/

namespace Sys2Proof.Laws.HostRows

open Sys2Proof Sys2Proof.Machine

/-- A row that carries a packet is well formed exactly where the packet is (R278). -/
def Statement (i : Instr) : Prop :=
  ∀ c h pl, hostRow i = some (c, h, pl) → i.wellFormed = h.wellFormed pl

theorem ping (h : Hdr) (pl : Bytes) : Statement (.ping h pl) := by
  intro _ _ _ e; cases e; rfl
theorem getIdentity (h : Hdr) (pl : Bytes) : Statement (.getIdentity h pl) := by
  intro _ _ _ e; cases e; rfl
theorem getStatus (h : Hdr) (pl : Bytes) : Statement (.getStatus h pl) := by
  intro _ _ _ e; cases e; rfl
theorem reset (h : Hdr) (pl : Bytes) : Statement (.reset h pl) := by
  intro _ _ _ e; cases e; rfl
theorem setPowerState (h : Hdr) (pl : Bytes) : Statement (.setPowerState h pl) := by
  intro _ _ _ e; cases e; rfl
theorem getParam (h : Hdr) (pl : Bytes) : Statement (.getParam h pl) := by
  intro _ _ _ e; cases e; rfl
theorem setParam (h : Hdr) (pl : Bytes) : Statement (.setParam h pl) := by
  intro _ _ _ e; cases e; rfl
theorem commitParams (h : Hdr) (pl : Bytes) : Statement (.commitParams h pl) := by
  intro _ _ _ e; cases e; rfl
theorem openWorld (h : Hdr) (pl : Bytes) : Statement (.openWorld h pl) := by
  intro _ _ _ e; cases e; rfl
theorem closeWorld (h : Hdr) (pl : Bytes) : Statement (.closeWorld h pl) := by
  intro _ _ _ e; cases e; rfl
theorem getTime (h : Hdr) (pl : Bytes) : Statement (.getTime h pl) := by
  intro _ _ _ e; cases e; rfl
theorem setTime (h : Hdr) (pl : Bytes) : Statement (.setTime h pl) := by
  intro _ _ _ e; cases e; rfl
theorem adjustTime (h : Hdr) (pl : Bytes) : Statement (.adjustTime h pl) := by
  intro _ _ _ e; cases e; rfl
theorem getHealth (h : Hdr) (pl : Bytes) : Statement (.getHealth h pl) := by
  intro _ _ _ e; cases e; rfl
theorem bayConfigure (h : Hdr) (pl : Bytes) : Statement (.bayConfigure h pl) := by
  intro _ _ _ e; cases e; rfl
theorem bayGetState (h : Hdr) (pl : Bytes) : Statement (.bayGetState h pl) := by
  intro _ _ _ e; cases e; rfl
theorem bayEnable (h : Hdr) (pl : Bytes) : Statement (.bayEnable h pl) := by
  intro _ _ _ e; cases e; rfl
theorem bayDisable (h : Hdr) (pl : Bytes) : Statement (.bayDisable h pl) := by
  intro _ _ _ e; cases e; rfl
theorem baySetLimit (h : Hdr) (pl : Bytes) : Statement (.baySetLimit h pl) := by
  intro _ _ _ e; cases e; rfl
theorem bayUnlock (h : Hdr) (pl : Bytes) : Statement (.bayUnlock h pl) := by
  intro _ _ _ e; cases e; rfl
theorem bayTestResidual (h : Hdr) (pl : Bytes) : Statement (.bayTestResidual h pl) := by
  intro _ _ _ e; cases e; rfl
theorem converterConfigure (h : Hdr) (pl : Bytes) : Statement (.converterConfigure h pl) := by
  intro _ _ _ e; cases e; rfl
theorem ctxOpen (h : Hdr) (pl : Bytes) : Statement (.ctxOpen h pl) := by
  intro _ _ _ e; cases e; rfl
theorem ctxAuthorise (h : Hdr) (pl : Bytes) : Statement (.ctxAuthorise h pl) := by
  intro _ _ _ e; cases e; rfl
theorem ctxBind (h : Hdr) (pl : Bytes) : Statement (.ctxBind h pl) := by
  intro _ _ _ e; cases e; rfl
theorem ctxStart (h : Hdr) (pl : Bytes) : Statement (.ctxStart h pl) := by
  intro _ _ _ e; cases e; rfl
theorem ctxSuspend (h : Hdr) (pl : Bytes) : Statement (.ctxSuspend h pl) := by
  intro _ _ _ e; cases e; rfl
theorem ctxResume (h : Hdr) (pl : Bytes) : Statement (.ctxResume h pl) := by
  intro _ _ _ e; cases e; rfl
theorem ctxStop (h : Hdr) (pl : Bytes) : Statement (.ctxStop h pl) := by
  intro _ _ _ e; cases e; rfl
theorem ctxSetQuota (h : Hdr) (pl : Bytes) : Statement (.ctxSetQuota h pl) := by
  intro _ _ _ e; cases e; rfl
theorem ctxSetProfile (h : Hdr) (pl : Bytes) : Statement (.ctxSetProfile h pl) := by
  intro _ _ _ e; cases e; rfl
theorem ctxGet (h : Hdr) (pl : Bytes) : Statement (.ctxGet h pl) := by
  intro _ _ _ e; cases e; rfl
theorem ctxList (h : Hdr) (pl : Bytes) : Statement (.ctxList h pl) := by
  intro _ _ _ e; cases e; rfl
theorem ctxAckRecord (h : Hdr) (pl : Bytes) : Statement (.ctxAckRecord h pl) := by
  intro _ _ _ e; cases e; rfl
theorem ctxRelease (h : Hdr) (pl : Bytes) : Statement (.ctxRelease h pl) := by
  intro _ _ _ e; cases e; rfl
theorem siteSetBudget (h : Hdr) (pl : Bytes) : Statement (.siteSetBudget h pl) := by
  intro _ _ _ e; cases e; rfl
theorem siteGetAllocation (h : Hdr) (pl : Bytes) : Statement (.siteGetAllocation h pl) := by
  intro _ _ _ e; cases e; rfl
theorem ctxSetPriority (h : Hdr) (pl : Bytes) : Statement (.ctxSetPriority h pl) := by
  intro _ _ _ e; cases e; rfl
theorem meterReadInstant (h : Hdr) (pl : Bytes) : Statement (.meterReadInstant h pl) := by
  intro _ _ _ e; cases e; rfl
theorem meterReadRegisters (h : Hdr) (pl : Bytes) : Statement (.meterReadRegisters h pl) := by
  intro _ _ _ e; cases e; rfl
theorem meterReadHarmonics (h : Hdr) (pl : Bytes) : Statement (.meterReadHarmonics h pl) := by
  intro _ _ _ e; cases e; rfl
theorem pulseAssign (h : Hdr) (pl : Bytes) : Statement (.pulseAssign h pl) := by
  intro _ _ _ e; cases e; rfl
theorem legalParamRead (h : Hdr) (pl : Bytes) : Statement (.legalParamRead h pl) := by
  intro _ _ _ e; cases e; rfl
theorem legalParamWrite (h : Hdr) (pl : Bytes) : Statement (.legalParamWrite h pl) := by
  intro _ _ _ e; cases e; rfl
theorem meterSelftest (h : Hdr) (pl : Bytes) : Statement (.meterSelftest h pl) := by
  intro _ _ _ e; cases e; rfl
theorem tariffLoadCalendar (h : Hdr) (pl : Bytes) : Statement (.tariffLoadCalendar h pl) := by
  intro _ _ _ e; cases e; rfl
theorem tariffGet (h : Hdr) (pl : Bytes) : Statement (.tariffGet h pl) := by
  intro _ _ _ e; cases e; rfl
theorem tariffCancelPending (h : Hdr) (pl : Bytes) : Statement (.tariffCancelPending h pl) := by
  intro _ _ _ e; cases e; rfl
theorem profileRead (h : Hdr) (pl : Bytes) : Statement (.profileRead h pl) := by
  intro _ _ _ e; cases e; rfl
theorem profileConfigure (h : Hdr) (pl : Bytes) : Statement (.profileConfigure h pl) := by
  intro _ _ _ e; cases e; rfl
theorem demandRead (h : Hdr) (pl : Bytes) : Statement (.demandRead h pl) := by
  intro _ _ _ e; cases e; rfl
theorem logbookRead (h : Hdr) (pl : Bytes) : Statement (.logbookRead h pl) := by
  intro _ _ _ e; cases e; rfl
theorem recordRead (h : Hdr) (pl : Bytes) : Statement (.recordRead h pl) := by
  intro _ _ _ e; cases e; rfl
theorem credLookup (h : Hdr) (pl : Bytes) : Statement (.credLookup h pl) := by
  intro _ _ _ e; cases e; rfl
theorem credUpdateBegin (h : Hdr) (pl : Bytes) : Statement (.credUpdateBegin h pl) := by
  intro _ _ _ e; cases e; rfl
theorem credUpdateData (h : Hdr) (pl : Bytes) : Statement (.credUpdateData h pl) := by
  intro _ _ _ e; cases e; rfl
theorem credUpdateCommit (h : Hdr) (pl : Bytes) : Statement (.credUpdateCommit h pl) := by
  intro _ _ _ e; cases e; rfl
theorem credStats (h : Hdr) (pl : Bytes) : Statement (.credStats h pl) := by
  intro _ _ _ e; cases e; rfl
theorem pncVerify (h : Hdr) (pl : Bytes) : Statement (.pncVerify h pl) := by
  intro _ _ _ e; cases e; rfl
theorem safetyGetState (h : Hdr) (pl : Bytes) : Statement (.safetyGetState h pl) := by
  intro _ _ _ e; cases e; rfl
theorem safetyLoadParams (h : Hdr) (pl : Bytes) : Statement (.safetyLoadParams h pl) := by
  intro _ _ _ e; cases e; rfl
theorem safetyGetCheck (h : Hdr) (pl : Bytes) : Statement (.safetyGetCheck h pl) := by
  intro _ _ _ e; cases e; rfl
theorem safetyConfirm (h : Hdr) (pl : Bytes) : Statement (.safetyConfirm h pl) := by
  intro _ _ _ e; cases e; rfl
theorem safetyResetFault (h : Hdr) (pl : Bytes) : Statement (.safetyResetFault h pl) := by
  intro _ _ _ e; cases e; rfl
theorem siteSafetyConfigure (h : Hdr) (pl : Bytes) : Statement (.siteSafetyConfigure h pl) := by
  intro _ _ _ e; cases e; rfl
theorem keyList (h : Hdr) (pl : Bytes) : Statement (.keyList h pl) := by
  intro _ _ _ e; cases e; rfl
theorem keyGenerate (h : Hdr) (pl : Bytes) : Statement (.keyGenerate h pl) := by
  intro _ _ _ e; cases e; rfl
theorem keyImport (h : Hdr) (pl : Bytes) : Statement (.keyImport h pl) := by
  intro _ _ _ e; cases e; rfl
theorem keyDerive (h : Hdr) (pl : Bytes) : Statement (.keyDerive h pl) := by
  intro _ _ _ e; cases e; rfl
theorem keyInvalidate (h : Hdr) (pl : Bytes) : Statement (.keyInvalidate h pl) := by
  intro _ _ _ e; cases e; rfl
theorem keyGetPublic (h : Hdr) (pl : Bytes) : Statement (.keyGetPublic h pl) := by
  intro _ _ _ e; cases e; rfl
theorem attest (h : Hdr) (pl : Bytes) : Statement (.attest h pl) := by
  intro _ _ _ e; cases e; rfl
theorem setLifecycle (h : Hdr) (pl : Bytes) : Statement (.setLifecycle h pl) := by
  intro _ _ _ e; cases e; rfl
theorem updateBegin (h : Hdr) (pl : Bytes) : Statement (.updateBegin h pl) := by
  intro _ _ _ e; cases e; rfl
theorem updateData (h : Hdr) (pl : Bytes) : Statement (.updateData h pl) := by
  intro _ _ _ e; cases e; rfl
theorem updateEnd (h : Hdr) (pl : Bytes) : Statement (.updateEnd h pl) := by
  intro _ _ _ e; cases e; rfl
theorem updateActivate (h : Hdr) (pl : Bytes) : Statement (.updateActivate h pl) := by
  intro _ _ _ e; cases e; rfl
theorem updateStatus (h : Hdr) (pl : Bytes) : Statement (.updateStatus h pl) := by
  intro _ _ _ e; cases e; rfl
theorem updateAbort (h : Hdr) (pl : Bytes) : Statement (.updateAbort h pl) := by
  intro _ _ _ e; cases e; rfl
theorem consistConfigure (h : Hdr) (pl : Bytes) : Statement (.consistConfigure h pl) := by
  intro _ _ _ e; cases e; rfl
theorem updateForward (h : Hdr) (pl : Bytes) : Statement (.updateForward h pl) := by
  intro _ _ _ e; cases e; rfl
theorem eventsRead (h : Hdr) (pl : Bytes) : Statement (.eventsRead h pl) := by
  intro _ _ _ e; cases e; rfl
theorem eventsInfo (h : Hdr) (pl : Bytes) : Statement (.eventsInfo h pl) := by
  intro _ _ _ e; cases e; rfl
theorem eventsFilter (h : Hdr) (pl : Bytes) : Statement (.eventsFilter h pl) := by
  intro _ _ _ e; cases e; rfl
theorem perfConfigure (h : Hdr) (pl : Bytes) : Statement (.perfConfigure h pl) := by
  intro _ _ _ e; cases e; rfl
theorem perfRead (h : Hdr) (pl : Bytes) : Statement (.perfRead h pl) := by
  intro _ _ _ e; cases e; rfl
theorem perfAccess (h : Hdr) (pl : Bytes) : Statement (.perfAccess h pl) := by
  intro _ _ _ e; cases e; rfl
theorem lswConfigure (h : Hdr) (pl : Bytes) : Statement (.lswConfigure h pl) := by
  intro _ _ _ e; cases e; rfl
theorem lswSet (h : Hdr) (pl : Bytes) : Statement (.lswSet h pl) := by
  intro _ _ _ e; cases e; rfl
theorem lswGet (h : Hdr) (pl : Bytes) : Statement (.lswGet h pl) := by
  intro _ _ _ e; cases e; rfl
theorem lswUnlock (h : Hdr) (pl : Bytes) : Statement (.lswUnlock h pl) := by
  intro _ _ _ e; cases e; rfl
theorem dispConfigure (h : Hdr) (pl : Bytes) : Statement (.dispConfigure h pl) := by
  intro _ _ _ e; cases e; rfl
theorem dispWrite (h : Hdr) (pl : Bytes) : Statement (.dispWrite h pl) := by
  intro _ _ _ e; cases e; rfl
theorem dispBlink (h : Hdr) (pl : Bytes) : Statement (.dispBlink h pl) := by
  intro _ _ _ e; cases e; rfl
theorem dispGetCheck (h : Hdr) (pl : Bytes) : Statement (.dispGetCheck h pl) := by
  intro _ _ _ e; cases e; rfl
theorem rdrConfigure (h : Hdr) (pl : Bytes) : Statement (.rdrConfigure h pl) := by
  intro _ _ _ e; cases e; rfl
theorem rdrPoll (h : Hdr) (pl : Bytes) : Statement (.rdrPoll h pl) := by
  intro _ _ _ e; cases e; rfl
theorem rdrTransceive (h : Hdr) (pl : Bytes) : Statement (.rdrTransceive h pl) := by
  intro _ _ _ e; cases e; rfl
theorem tagRead (h : Hdr) (pl : Bytes) : Statement (.tagRead h pl) := by
  intro _ _ _ e; cases e; rfl
theorem tagWrite (h : Hdr) (pl : Bytes) : Statement (.tagWrite h pl) := by
  intro _ _ _ e; cases e; rfl
theorem tagConfigure (h : Hdr) (pl : Bytes) : Statement (.tagConfigure h pl) := by
  intro _ _ _ e; cases e; rfl
theorem plcConfigure (h : Hdr) (pl : Bytes) : Statement (.plcConfigure h pl) := by
  intro _ _ _ e; cases e; rfl
theorem plcGetLink (h : Hdr) (pl : Bytes) : Statement (.plcGetLink h pl) := by
  intro _ _ _ e; cases e; rfl
theorem plcTonemapInfo (h : Hdr) (pl : Bytes) : Statement (.plcTonemapInfo h pl) := by
  intro _ _ _ e; cases e; rfl
theorem v2gConfigure (h : Hdr) (pl : Bytes) : Statement (.v2gConfigure h pl) := by
  intro _ _ _ e; cases e; rfl
theorem siteConfigure (h : Hdr) (pl : Bytes) : Statement (.siteConfigure h pl) := by
  intro _ _ _ e; cases e; rfl
theorem siteGetPeers (h : Hdr) (pl : Bytes) : Statement (.siteGetPeers h pl) := by
  intro _ _ _ e; cases e; rfl
theorem hostPacketDiscarded (p : HostPort) (crcOnly : Bool) (world op tag : Nat) : Statement (.hostPacketDiscarded p crcOnly world op tag) := by
  intro _ _ _ e; cases e
theorem fragment (h : Hdr) (op frag : Nat) (mf : Bool) (pl : Bytes) : Statement (.fragment h op frag mf pl) := by
  intro _ _ _ e; cases e
theorem reassemblyTimeout (p : HostPort) : Statement (.reassemblyTimeout p) := by
  intro _ _ _ e; cases e
theorem spiTransaction (hostLen : Nat) (aborted : Bool) : Statement (.spiTransaction hostLen aborted) := by
  intro _ _ _ e; cases e
theorem notificationSend (p : HostPort) : Statement (.notificationSend p) := by
  intro _ _ _ e; cases e
theorem worldIdleTimeout (p : HostPort) : Statement (.worldIdleTimeout p) := by
  intro _ _ _ e; cases e
theorem openWorldLockoutEnd (p : HostPort) (w : World) : Statement (.openWorldLockoutEnd p w) := by
  intro _ _ _ e; cases e
theorem sampleStrobe (x : StrobeInput) : Statement (.sampleStrobe x) := by
  intro _ _ _ e; cases e
theorem pulseEnd (out : Nat) : Statement (.pulseEnd out) := by
  intro _ _ _ e; cases e
theorem cycleBoundary (freqMhz : Nat) (phaseErr : Int) : Statement (.cycleBoundary freqMhz phaseErr) := by
  intro _ _ _ e; cases e
theorem streamFault (stream : Nat) : Statement (.streamFault stream) := by
  intro _ _ _ e; cases e
theorem streamFaultClear (stream : Nat) : Statement (.streamFaultClear stream) := by
  intro _ _ _ e; cases e
theorem lossOfReference (cause : LossCause) : Statement (.lossOfReference cause) := by
  intro _ _ _ e; cases e
theorem residualTierTrip (bay : Nat) (tier : Tier) : Statement (.residualTierTrip bay tier) := by
  intro _ _ _ e; cases e
theorem galeTrip (bay : Nat) (engineB : Bool) (earlier : List Int) (sample : Int) : Statement (.galeTrip bay engineB earlier sample) := by
  intro _ _ _ e; cases e
theorem galeTripRelease (bay : Nat) (w : GaleSamples) : Statement (.galeTripRelease bay w) := by
  intro _ _ _ e; cases e
theorem cpStateChange (bay : Nat) (plateauMv negMv : Int) : Statement (.cpStateChange bay plateauMv negMv) := by
  intro _ _ _ e; cases e
theorem ppChange (bay : Nat) (ohms : Nat) : Statement (.ppChange bay ohms) := by
  intro _ _ _ e; cases e
theorem guardChange (bay : Nat) (chB closed : Bool) : Statement (.guardChange bay chB closed) := by
  intro _ _ _ e; cases e
theorem guardDiscrepancy (bay : Nat) : Statement (.guardDiscrepancy bay) := by
  intro _ _ _ e; cases e
theorem lockConfirmed (bay : Nat) : Statement (.lockConfirmed bay) := by
  intro _ _ _ e; cases e
theorem lockTimeout (bay : Nat) : Statement (.lockTimeout bay) := by
  intro _ _ _ e; cases e
theorem closureDetected (bay : Nat) (w : EdgeWindow) : Statement (.closureDetected bay w) := by
  intro _ _ _ e; cases e
theorem releaseDetected (bay : Nat) (w : EdgeWindow) : Statement (.releaseDetected bay w) := by
  intro _ _ _ e; cases e
theorem weldCheck (bay : Nat) (uoMv : Nat) : Statement (.weldCheck bay uoMv) := by
  intro _ _ _ e; cases e
theorem weldOpenDetect (bay : Nat) : Statement (.weldOpenDetect bay) := by
  intro _ _ _ e; cases e
theorem dcClosureTimeout (bay : Nat) : Statement (.dcClosureTimeout bay) := by
  intro _ _ _ e; cases e
theorem dcOpenCurrentLow (bay : Nat) (iDcMa : Int) : Statement (.dcOpenCurrentLow bay iDcMa) := by
  intro _ _ _ e; cases e
theorem suspendOpenTimeout (bay : Nat) : Statement (.suspendOpenTimeout bay) := by
  intro _ _ _ e; cases e
theorem heartbeat (can : Nat) : Statement (.heartbeat can) := by
  intro _ _ _ e; cases e
theorem converterStatus (can node : Nat) (data : Bytes) : Statement (.converterStatus can node data) := by
  intro _ _ _ e; cases e
theorem converterStatusTimeout (bay : Nat) : Statement (.converterStatusTimeout bay) := by
  intro _ _ _ e; cases e
theorem isoMonitor (can node : Nat) (data : Bytes) : Statement (.isoMonitor can node data) := by
  intro _ _ _ e; cases e
theorem isoMonitorTimeout (bay : Nat) : Statement (.isoMonitorTimeout bay) := by
  intro _ _ _ e; cases e
theorem capability (can node : Nat) (data : Bytes) : Statement (.capability can node data) := by
  intro _ _ _ e; cases e
theorem capabilityTimeout (bay : Nat) : Statement (.capabilityTimeout bay) := by
  intro _ _ _ e; cases e
theorem converterFault (can node : Nat) (data : Bytes) : Statement (.converterFault can node data) := by
  intro _ _ _ e; cases e
theorem residualSelftestDone (bay : Nat) (core : SafetyCore) : Statement (.residualSelftestDone bay core) := by
  intro _ _ _ e; cases e
theorem permissionLapse (bay : Nat) : Statement (.permissionLapse bay) := by
  intro _ _ _ e; cases e
theorem slcExcess (bay : Nat) : Statement (.slcExcess bay) := by
  intro _ _ _ e; cases e
theorem sdiExportStop (bay : Nat) : Statement (.sdiExportStop bay) := by
  intro _ _ _ e; cases e
theorem lockFeedbackLoss (bay : Nat) : Statement (.lockFeedbackLoss bay) := by
  intro _ _ _ e; cases e
theorem doorChange (a b : Bool) : Statement (.doorChange a b) := by
  intro _ _ _ e; cases e
theorem estopChange (a b : Bool) : Statement (.estopChange a b) := by
  intro _ _ _ e; cases e
theorem safetyInputDiscrepancy (estop : Bool) : Statement (.safetyInputDiscrepancy estop) := by
  intro _ _ _ e; cases e
theorem safeOutReadback (pair : Nat) (lineB readOk : Bool) : Statement (.safeOutReadback pair lineB readOk) := by
  intro _ _ _ e; cases e
theorem safetyFrameReceived (siteB : Bool) (frame : Bytes) : Statement (.safetyFrameReceived siteB frame) := by
  intro _ _ _ e; cases e
theorem peerConnectionLost (peer : Nat) : Statement (.peerConnectionLost peer) := by
  intro _ _ _ e; cases e
theorem redundancyLost (peer : Nat) : Statement (.redundancyLost peer) := by
  intro _ _ _ e; cases e
theorem feederOverloadTrip (group : Nat) : Statement (.feederOverloadTrip group) := by
  intro _ _ _ e; cases e
theorem feederOverloadBitEnd (group : Nat) : Statement (.feederOverloadBitEnd group) := by
  intro _ _ _ e; cases e
theorem coreLoss (core : SafetyCore) (confirmed : Bool) : Statement (.coreLoss core confirmed) := by
  intro _ _ _ e; cases e
theorem safetyCoreFailure (core : SafetyCore) (fault : CoreFault) : Statement (.safetyCoreFailure core fault) := by
  intro _ _ _ e; cases e
theorem coreRejoin (core : SafetyCore) (passed : Bool) : Statement (.coreRejoin core passed) := by
  intro _ _ _ e; cases e
theorem meteringValuesMissing (bay : Nat) : Statement (.meteringValuesMissing bay) := by
  intro _ _ _ e; cases e
theorem meTakeover (cause : TakeoverCause) (durationUs : Nat) : Statement (.meTakeover cause durationUs) := by
  intro _ _ _ e; cases e
theorem ceTakeover (cause : TakeoverCause) (durationUs : Nat) : Statement (.ceTakeover cause durationUs) := by
  intro _ _ _ e; cases e
theorem dspShunt (cluster : Nat) (cause : TakeoverCause) : Statement (.dspShunt cluster cause) := by
  intro _ _ _ e; cases e
theorem bankReplace (bank : SramBank) (number : Nat) : Statement (.bankReplace bank number) := by
  intro _ _ _ e; cases e
theorem nandBlockFault (block : Nat) (partition : Nat) (kind : BlockFault) : Statement (.nandBlockFault block partition kind) := by
  intro _ _ _ e; cases e
theorem reCoupling (unit : CoupledUnit) (passed : Bool) : Statement (.reCoupling unit passed) := by
  intro _ _ _ e; cases e
theorem regulatorPhaseLost (phase : Nat) : Statement (.regulatorPhaseLost phase) := by
  intro _ _ _ e; cases e
theorem cutReservationEnd (ctx : Nat) : Statement (.cutReservationEnd ctx) := by
  intro _ _ _ e; cases e
theorem timeLimitExpiry (ctx : Nat) : Statement (.timeLimitExpiry ctx) := by
  intro _ _ _ e; cases e
theorem reservationExpiry (ctx : Nat) : Statement (.reservationExpiry ctx) := by
  intro _ _ _ e; cases e
theorem hostWaitExpiry (ctx : Nat) : Statement (.hostWaitExpiry ctx) := by
  intro _ _ _ e; cases e
theorem pncChainReceived (bay : Nat) (chain : PncChain) : Statement (.pncChainReceived bay chain) := by
  intro _ _ _ e; cases e
theorem recordSign (ctx : Nat) : Statement (.recordSign ctx) := by
  intro _ _ _ e; cases e
theorem recordSlotFreed (seq : Nat) : Statement (.recordSlotFreed seq) := by
  intro _ _ _ e; cases e
theorem slacParmReq (bay : Nat) (sounds : List (List Nat)) : Statement (.slacParmReq bay sounds) := by
  intro _ _ _ e; cases e
theorem slacTimeout (bay : Nat) : Statement (.slacTimeout bay) := by
  intro _ _ _ e; cases e
theorem v2gMessage (bay : Nat) (m : V2gMessage) : Statement (.v2gMessage bay m) := by
  intro _ _ _ e; cases e
theorem greenPhyFrame (inst : Nat) (samples : List Int) (decoded : Bool) (station : FrameSource) : Statement (.greenPhyFrame inst samples decoded station) := by
  intro _ _ _ e; cases e
theorem beacon (heard : Option HeardBeacon) : Statement (.beacon heard) := by
  intro _ _ _ e; cases e
theorem ccoElection (lowerSerialSeen : Bool) : Statement (.ccoElection lowerSerialSeen) := by
  intro _ _ _ e; cases e
theorem toneMapRefresh (station : Nat) (sounding : Option Sounding) : Statement (.toneMapRefresh station sounding) := by
  intro _ _ _ e; cases e
theorem neighbourLost (station : Nat) : Statement (.neighbourLost station) := by
  intro _ _ _ e; cases e
theorem curtailmentFrame (frame : Bytes) : Statement (.curtailmentFrame frame) := by
  intro _ _ _ e; cases e
theorem coordinatorFrame (f : CoordFrame) : Statement (.coordinatorFrame f) := by
  intro _ _ _ e; cases e
theorem siteLimitLapse (src : LimitSource) : Statement (.siteLimitLapse src) := by
  intro _ _ _ e; cases e
theorem drizzlePing (port : Nat) (amp phase : Int) : Statement (.drizzlePing port amp phase) := by
  intro _ _ _ e; cases e
theorem pollComplete (port : Nat) : Statement (.pollComplete port) := by
  intro _ _ _ e; cases e
theorem cardFound (port : Nat) (kind : CardKind) (uid : Bytes) : Statement (.cardFound port kind uid) := by
  intro _ _ _ e; cases e
theorem cardRelease (port : Nat) : Statement (.cardRelease port) := by
  intro _ _ _ e; cases e
theorem tagExternalAuthenticate (answer : Bytes) : Statement (.tagExternalAuthenticate answer) := by
  intro _ _ _ e; cases e
theorem tagUpdateBinary (file offset : Nat) (data : Bytes) : Statement (.tagUpdateBinary file offset data) := by
  intro _ _ _ e; cases e
theorem tagReadBinary (file offset len : Nat) : Statement (.tagReadBinary file offset len) := by
  intro _ _ _ e; cases e
theorem fieldCollapse (cut : Option CutWrite) : Statement (.fieldCollapse cut) := by
  intro _ _ _ e; cases e
theorem refreshPass (legalFlip outsideFlip : Nat) : Statement (.refreshPass legalFlip outsideFlip) := by
  intro _ _ _ e; cases e
theorem short (x : ShortSample) : Statement (.short x) := by
  intro _ _ _ e; cases e
theorem overload (x : SecondCharge) : Statement (.overload x) := by
  intro _ _ _ e; cases e
theorem thermalLatchSet (ch : Nat) (tj : Nat) : Statement (.thermalLatchSet ch tj) := by
  intro _ _ _ e; cases e
theorem thermalLatchClear (ch : Nat) (tj : Nat) : Statement (.thermalLatchClear ch tj) := by
  intro _ _ _ e; cases e
theorem openLoad (ch : Nat) (w : LoadWindow) : Statement (.openLoad ch w) := by
  intro _ _ _ e; cases e
theorem retry (ch : Nat) : Statement (.retry ch) := by
  intro _ _ _ e; cases e
theorem retriesRefill (ch : Nat) : Statement (.retriesRefill ch) := by
  intro _ _ _ e; cases e
theorem groupOverload (group : Nat) (currents : List Nat) : Statement (.groupOverload group currents) := by
  intro _ _ _ e; cases e
theorem vloadUndervoltage (x : LoadSupply) : Statement (.vloadUndervoltage x) := by
  intro _ _ _ e; cases e
theorem vloadRecovery (x : LoadSupply) : Statement (.vloadRecovery x) := by
  intro _ _ _ e; cases e
theorem vsupInputChange (inputB : Bool) (x : InputLevel) : Statement (.vsupInputChange inputB x) := by
  intro _ _ _ e; cases e
theorem flushEnd (written : Nat) (vbackupPresent : Bool) : Statement (.flushEnd written vbackupPresent) := by
  intro _ _ _ e; cases e
theorem start (m : StartConditions) : Statement (.start m) := by
  intro _ _ _ e; cases e
theorem resetN (lowUs : Nat) : Statement (.resetN lowUs) := by
  intro _ _ _ e; cases e
theorem vholdLow (mv : Nat) : Statement (.vholdLow mv) := by
  intro _ _ _ e; cases e
theorem wakeSource (source : Nat) : Statement (.wakeSource source) := by
  intro _ _ _ e; cases e
theorem repeatWindowLapse (seq : Nat) : Statement (.repeatWindowLapse seq) := by
  intro _ _ _ e; cases e
theorem perfWindowEnd (counter : Nat) : Statement (.perfWindowEnd counter) := by
  intro _ _ _ e; cases e
theorem activationComplete (kind : ImageKind) : Statement (.activationComplete kind) := by
  intro _ _ _ e; cases e
theorem imageConfirmed (kind : ImageKind) : Statement (.imageConfirmed kind) := by
  intro _ _ _ e; cases e
theorem imageFallback (kind : ImageKind) (fault : Bool) : Statement (.imageFallback kind fault) := by
  intro _ _ _ e; cases e
theorem consistImageReceived (sender : Nat) (kind : ImageKind) (image : Bytes) : Statement (.consistImageReceived sender kind image) := by
  intro _ _ _ e; cases e
theorem inrushWindowEnd (ch : Nat) : Statement (.inrushWindowEnd ch) := by
  intro _ _ _ e; cases e
theorem lockPulseEnd (bay : Nat) : Statement (.lockPulseEnd bay) := by
  intro _ _ _ e; cases e
theorem lockRelease (bay : Nat) : Statement (.lockRelease bay) := by
  intro _ _ _ e; cases e
theorem vehicleLinkLost (bay : Nat) : Statement (.vehicleLinkLost bay) := by
  intro _ _ _ e; cases e
theorem forwardDelivered (serial : Nat) : Statement (.forwardDelivered serial) := by
  intro _ _ _ e; cases e
theorem debugPortAccess (a : DebugAccess) : Statement (.debugPortAccess a) := by
  intro _ _ _ e; cases e
theorem uartBaudFallback : Statement (.uartBaudFallback) := by
  intro _ _ _ e; cases e
theorem halfCycleTick : Statement (.halfCycleTick) := by
  intro _ _ _ e; cases e
theorem paramsTakeEffect : Statement (.paramsTakeEffect) := by
  intro _ _ _ e; cases e
theorem legalParamTakesEffect : Statement (.legalParamTakesEffect) := by
  intro _ _ _ e; cases e
theorem clockStepTakesEffect : Statement (.clockStepTakesEffect) := by
  intro _ _ _ e; cases e
theorem intervalClose : Statement (.intervalClose) := by
  intro _ _ _ e; cases e
theorem subintervalClose : Statement (.subintervalClose) := by
  intro _ _ _ e; cases e
theorem calendarActivation : Statement (.calendarActivation) := by
  intro _ _ _ e; cases e
theorem harmonicBlockEnd : Statement (.harmonicBlockEnd) := by
  intro _ _ _ e; cases e
theorem legalStoreWrite : Statement (.legalStoreWrite) := by
  intro _ _ _ e; cases e
theorem referenceValid : Statement (.referenceValid) := by
  intro _ _ _ e; cases e
theorem acquirePullIn : Statement (.acquirePullIn) := by
  intro _ _ _ e; cases e
theorem lockEntry : Statement (.lockEntry) := by
  intro _ _ _ e; cases e
theorem holdoverExpiry : Statement (.holdoverExpiry) := by
  intro _ _ _ e; cases e
theorem timedAction : Statement (.timedAction) := by
  intro _ _ _ e; cases e
theorem aloneLimit : Statement (.aloneLimit) := by
  intro _ _ _ e; cases e
theorem controlCheckpoint : Statement (.controlCheckpoint) := by
  intro _ _ _ e; cases e
theorem meteringLost : Statement (.meteringLost) := by
  intro _ _ _ e; cases e
theorem moduleWatchdog : Statement (.moduleWatchdog) := by
  intro _ _ _ e; cases e
theorem allocatorRecompute : Statement (.allocatorRecompute) := by
  intro _ _ _ e; cases e
theorem allocationTakesEffect : Statement (.allocationTakesEffect) := by
  intro _ _ _ e; cases e
theorem credBatchTimeout : Statement (.credBatchTimeout) := by
  intro _ _ _ e; cases e
theorem credCommitDurable : Statement (.credCommitDurable) := by
  intro _ _ _ e; cases e
theorem coordinatorSend : Statement (.coordinatorSend) := by
  intro _ _ _ e; cases e
theorem coordinatorLost : Statement (.coordinatorLost) := by
  intro _ _ _ e; cases e
theorem tagGetChallenge : Statement (.tagGetChallenge) := by
  intro _ _ _ e; cases e
theorem tagPowerUp : Statement (.tagPowerUp) := by
  intro _ _ _ e; cases e
theorem mirrorUpdate : Statement (.mirrorUpdate) := by
  intro _ _ _ e; cases e
theorem legalRegionRender : Statement (.legalRegionRender) := by
  intro _ _ _ e; cases e
theorem errorPatternEnd : Statement (.errorPatternEnd) := by
  intro _ _ _ e; cases e
theorem scDisplayEnd : Statement (.scDisplayEnd) := by
  intro _ _ _ e; cases e
theorem pfail : Statement (.pfail) := by
  intro _ _ _ e; cases e
theorem vholdReady : Statement (.vholdReady) := by
  intro _ _ _ e; cases e
theorem vbackupLoss : Statement (.vbackupLoss) := by
  intro _ _ _ e; cases e
theorem standbyEntry : Statement (.standbyEntry) := by
  intro _ _ _ e; cases e
theorem quietExit : Statement (.quietExit) := by
  intro _ _ _ e; cases e
theorem eventFlush : Statement (.eventFlush) := by
  intro _ _ _ e; cases e
theorem updateTransferTimeout : Statement (.updateTransferTimeout) := by
  intro _ _ _ e; cases e
theorem imageVerified : Statement (.imageVerified) := by
  intro _ _ _ e; cases e
theorem forwardRetry : Statement (.forwardRetry) := by
  intro _ _ _ e; cases e
theorem selftestStepEnd : Statement (.selftestStepEnd) := by
  intro _ _ _ e; cases e
theorem tagDeselect : Statement (.tagDeselect) := by
  intro _ _ _ e; cases e
theorem vcomToggle : Statement (.vcomToggle) := by
  intro _ _ _ e; cases e
theorem manufacturedFuse : Statement (.manufacturedFuse) := by
  intro _ _ _ e; cases e

end Sys2Proof.Laws.HostRows
end

