-- ==== Sys2Proof/Laws/Registers.lean ====
section
/-! SUPPORT. What no command's rules change: the energy registers and the maximum-demand records. One lemma per function that
a command can reach. -/

namespace Sys2Proof.Machine

open Sys2Proof

@[simp ↓] theorem met_regs_ite (c : Prop) [Decidable c] (a b : State) : (if c then a else b).met.regs = if c then a.met.regs else b.met.regs := by
  split <;> rfl
@[simp ↓] theorem met_regs_foldl {α : Type} (f : State → α → State) (h : ∀ s a, (f s a).met.regs = s.met.regs) (l : List α) (s : State) :
    (l.foldl f s).met.regs = s.met.regs := by
  induction l generalizing s with
  | nil => rfl
  | cons a l ih => rw [List.foldl_cons, ih, h]
@[simp ↓] theorem ans_ite_regs (c : Prop) [Decidable c] (a b : Ans) : (if c then a else b).state = if c then a.state else b.state := by
  split <;> rfl

/-! ### Helpers, in the order of the files -/

@[simp ↓] theorem State_modBay_regs (s : State) (a1 : Nat) (a2 : Bay → Bay) : (State.modBay s a1 a2).met.regs = s.met.regs := by
  unfold State.modBay
  (try dsimp only) <;> simp
@[simp ↓] theorem State_modCtx_regs (s : State) (a1 : Nat) (a2 : Ctx → Ctx) : (State.modCtx s a1 a2).met.regs = s.met.regs := by
  unfold State.modCtx
  (try dsimp only) <;> simp
@[simp ↓] theorem State_modChan_regs (s : State) (a1 : Nat) (a2 : Chan → Chan) : (State.modChan s a1 a2).met.regs = s.met.regs := by
  unfold State.modChan
  (try dsimp only) <;> simp
@[simp ↓] theorem State_modKey_regs (s : State) (a1 : Nat) (a2 : KeySlot → KeySlot) : (State.modKey s a1 a2).met.regs = s.met.regs := by
  unfold State.modKey
  (try dsimp only) <;> simp
@[simp ↓] theorem State_modReader_regs (s : State) (a1 : Nat) (a2 : Reader → Reader) : (State.modReader s a1 a2).met.regs = s.met.regs := by
  unfold State.modReader
  (try dsimp only) <;> simp
@[simp ↓] theorem State_modPort_regs (s : State) (a1 : HostPort) (a2 : PortState → PortState) : (State.modPort s a1 a2).met.regs = s.met.regs := by
  unfold State.modPort
  (try dsimp only) <;> (repeat' split) <;> simp
@[simp ↓] theorem State_modImage_regs (s : State) (a1 : ImageKind) (a2 : ImageSlot → ImageSlot) : (State.modImage s a1 a2).met.regs = s.met.regs := by
  unfold State.modImage
  (try dsimp only) <;> simp
@[simp ↓] theorem State_putParam_regs (s : State) (a1 : Nat) (a2 : Bytes) : (State.putParam s a1 a2).met.regs = s.met.regs := by
  unfold State.putParam
  (try dsimp only) <;> simp
@[simp ↓] theorem State_random_regs (s : State) (a1 : Nat) : (State.random s a1).2.met.regs = s.met.regs := by
  unfold State.random
  (try dsimp only) <;> simp
@[simp ↓] theorem State_choice_regs (s : State) : (State.choice s).2.met.regs = s.met.regs := by
  unfold State.choice
  (try dsimp only) <;> simp
@[simp ↓] theorem modCounters_regs (a0 : Nat) (a1 : Nat) (a2 : Counter → Counter) (s : State) : (modCounters a0 a1 a2 s).met.regs = s.met.regs := by
  unfold modCounters
  (try dsimp only) <;> simp
@[simp ↓] theorem count_regs (a0 : Nat) (a1 : Nat) (a2 : Nat) (s : State) : (count a0 a1 a2 s).met.regs = s.met.regs := by
  unfold count
  (try dsimp only) <;> simp
@[simp ↓] theorem level_regs (a0 : Nat) (a1 : Nat) (a2 : Nat) (s : State) : (level a0 a1 a2 s).met.regs = s.met.regs := by
  unfold level
  (try dsimp only) <;> simp
@[simp ↓] theorem bufferRecord_regs (a0 : Nat) (a1 : Nat) (a2 : Nat) (a3 : Bytes) (a4 : Bool) (s : State) : (bufferRecord a0 a1 a2 a3 a4 s).met.regs = s.met.regs := by
  unfold bufferRecord
  (try dsimp only) <;> simp
@[simp ↓] theorem recordAs_regs (a0 : Nat) (a1 : Nat) (a2 : Nat) (a3 : Bytes) (a4 : Bool) (s : State) : (recordAs a0 a1 a2 a3 a4 s).met.regs = s.met.regs := by
  unfold recordAs
  (try dsimp only) <;> (repeat' split) <;> simp
@[simp ↓] theorem record_regs (a0 : Nat) (a1 : Nat) (a2 : Nat) (a3 : Bytes) (s : State) : (record a0 a1 a2 a3 s).met.regs = s.met.regs := by
  unfold record
  (try dsimp only) <;> simp
@[simp ↓] theorem flushRecords_regs (a0 : EventRec → Bool) (s : State) : (flushRecords a0 s).met.regs = s.met.regs := by
  unfold flushRecords
  (try dsimp only) <;> simp
@[simp ↓] theorem flushAllRecords_regs (s : State) : (flushAllRecords s).met.regs = s.met.regs := by
  unfold flushAllRecords
  (try dsimp only) <;> simp
@[simp ↓] theorem logbook_regs (a0 : Nat) (a1 : Nat) (a2 : Bytes) (a3 : Bytes) (s : State) : (logbook a0 a1 a2 a3 s).met.regs = s.met.regs := by
  unfold logbook
  (try dsimp only) <;> simp
@[simp ↓] theorem logbookNow_regs (a0 : Nat) (a1 : Nat) (a2 : Bytes) (s : State) : (logbookNow a0 a1 a2 s).met.regs = s.met.regs := by
  unfold logbookNow
  (try dsimp only) <;> simp
@[simp ↓] theorem ntfToPort_regs (a0 : Nat) (a1 : Bytes) (a2 : Option CmdRef) (a3 : Nat) (a4 : HostPort) (s : State) : (ntfToPort a0 a1 a2 a3 a4 s).met.regs = s.met.regs := by
  unfold ntfToPort
  (try dsimp only) <;> simp
@[simp ↓] theorem freeTag_regs (a0 : Option CmdRef) (s : State) : (freeTag a0 s).met.regs = s.met.regs := by
  unfold freeTag
  (try dsimp only) <;> (repeat' split) <;> simp
@[simp ↓] theorem notifyFull_regs (a0 : Nat) (a1 : Nat) (a2 : Nat) (a3 : Bytes) (a4 : Option CmdRef) (a5 : Nat) (s : State) : (notifyFull a0 a1 a2 a3 a4 a5 s).met.regs = s.met.regs := by
  unfold notifyFull
  (try dsimp only) <;> (repeat' split) <;> simp
@[simp ↓] theorem notify_regs (a0 : Nat) (a1 : Nat) (a2 : Bytes) (s : State) : (notify a0 a1 a2 s).met.regs = s.met.regs := by
  unfold notify
  (try dsimp only) <;> simp
@[simp ↓] theorem ntfBayFull_regs (a0 : Nat) (a1 : Nat) (a2 : Bytes) (a3 : Option CmdRef) (a4 : Nat) (s : State) : (ntfBayFull a0 a1 a2 a3 a4 s).met.regs = s.met.regs := by
  unfold ntfBayFull
  (try dsimp only) <;> simp
@[simp ↓] theorem ntfBay_regs (a0 : Nat) (a1 : Nat) (a2 : Bytes) (s : State) : (ntfBay a0 a1 a2 s).met.regs = s.met.regs := by
  unfold ntfBay
  (try dsimp only) <;> simp
@[simp ↓] theorem ntfCtxFull_regs (a0 : Nat) (a1 : CtxState) (a2 : CtxState) (a3 : Nat) (a4 : Bytes) (a5 : Option CmdRef) (a6 : Nat) (s : State) : (ntfCtxFull a0 a1 a2 a3 a4 a5 a6 s).met.regs = s.met.regs := by
  unfold ntfCtxFull
  (try dsimp only) <;> simp
@[simp ↓] theorem ntfCtx_regs (a0 : Nat) (a1 : Nat) (a2 : Bytes) (s : State) : (ntfCtx a0 a1 a2 s).met.regs = s.met.regs := by
  unfold ntfCtx
  (try dsimp only) <;> simp
@[simp ↓] theorem ntfSafety_regs (a0 : Nat) (a1 : Nat) (a2 : Nat) (s : State) : (ntfSafety a0 a1 a2 s).met.regs = s.met.regs := by
  unfold ntfSafety
  (try dsimp only) <;> simp
@[simp ↓] theorem ntfPower_regs (a0 : Nat) (a1 : Bytes) (s : State) : (ntfPower a0 a1 s).met.regs = s.met.regs := by
  unfold ntfPower
  (try dsimp only) <;> simp
@[simp ↓] theorem ntfLswFull_regs (a0 : Nat) (a1 : Nat) (a2 : Option CmdRef) (a3 : Nat) (s : State) : (ntfLswFull a0 a1 a2 a3 s).met.regs = s.met.regs := by
  unfold ntfLswFull
  (try dsimp only) <;> simp
@[simp ↓] theorem ntfLsw_regs (a0 : Nat) (a1 : Nat) (s : State) : (ntfLsw a0 a1 s).met.regs = s.met.regs := by
  unfold ntfLsw
  (try dsimp only) <;> simp
@[simp ↓] theorem ntfTakeover_regs (a0 : Nat) (a1 : Nat) (a2 : Nat) (a3 : Nat) (a4 : Nat) (a5 : Nat) (a6 : Nat) (s : State) : (ntfTakeover a0 a1 a2 a3 a4 a5 a6 s).met.regs = s.met.regs := by
  unfold ntfTakeover
  (try dsimp only) <;> simp
@[simp ↓] theorem ntfRdrFull_regs (a0 : Nat) (a1 : Nat) (a2 : Option (CardKind × Bytes)) (a3 : Nat) (a4 : Nat) (a5 : Nat) (a6 : Nat) (a7 : Option CmdRef) (a8 : Nat) (s : State) : (ntfRdrFull a0 a1 a2 a3 a4 a5 a6 a7 a8 s).met.regs = s.met.regs := by
  unfold ntfRdrFull
  (try dsimp only) <;> simp
@[simp ↓] theorem ntfRdr_regs (a0 : Nat) (a1 : Nat) (a2 : Option (CardKind × Bytes)) (s : State) : (ntfRdr a0 a1 a2 s).met.regs = s.met.regs := by
  unfold ntfRdr
  (try dsimp only) <;> simp
@[simp ↓] theorem switchOn_regs (a0 : Nat) (s : State) : (switchOn a0 s).met.regs = s.met.regs := by
  unfold switchOn
  (try dsimp only) <;> simp
@[simp ↓] theorem switchOff_regs (a0 : Nat) (s : State) : (switchOff a0 s).met.regs = s.met.regs := by
  unfold switchOff
  (try dsimp only) <;> simp
@[simp ↓] theorem commandOn_regs (a0 : Nat) (s : State) : (commandOn a0 s).met.regs = s.met.regs := by
  unfold commandOn
  (try dsimp only) <;> simp
@[simp ↓] theorem commandOff_regs (a0 : Nat) (s : State) : (commandOff a0 s).met.regs = s.met.regs := by
  unfold commandOff
  (try dsimp only) <;> simp
@[simp ↓] theorem hostOn_regs (a0 : Nat) (s : State) : (hostOn a0 s).met.regs = s.met.regs := by
  unfold hostOn
  (try dsimp only) <;> simp
@[simp ↓] theorem dropEntries_regs (a0 : QEntry → Bool) (s : State) : (dropEntries a0 s).met.regs = s.met.regs := by
  unfold dropEntries
  (try dsimp only) <;> simp
@[simp ↓] theorem enqueue_regs (a0 : QEntry) (s : State) : (enqueue a0 s).met.regs = s.met.regs := by
  unfold enqueue
  (try dsimp only) <;> simp
@[simp ↓] theorem refuse_regs (s : State) (a1 : Nat) : (refuse s a1).state.met.regs = s.met.regs := by
  unfold refuse
  (try dsimp only) <;> simp
@[simp ↓] theorem ok_regs (s : State) : (ok s).state.met.regs = s.met.regs := by
  unfold ok
  (try dsimp only) <;> simp
@[simp ↓] theorem okWith_regs (s : State) (a1 : Bytes) : (okWith s a1).state.met.regs = s.met.regs := by
  unfold okWith
  (try dsimp only) <;> simp
@[simp ↓] theorem pending_regs (s : State) : (pending s).state.met.regs = s.met.regs := by
  unfold pending
  (try dsimp only) <;> simp
@[simp ↓] theorem send_regs (a0 : HostPort) (a1 : List OutPkt) (s : State) : (send a0 a1 s).met.regs = s.met.regs := by
  unfold send
  (try dsimp only) <;> (repeat' split) <;> simp
@[simp ↓] theorem reply_regs (a0 : HostPort) (a1 : Nat) (a2 : Nat) (a3 : Nat) (a4 : Bool) (a5 : Bytes) (s : State) : (reply a0 a1 a2 a3 a4 a5 s).met.regs = s.met.regs := by
  unfold reply
  (try dsimp only) <;> simp
@[simp ↓] theorem replyStatus_regs (a0 : HostPort) (a1 : Nat) (a2 : Nat) (a3 : Nat) (a4 : Nat) (s : State) : (replyStatus a0 a1 a2 a3 a4 s).met.regs = s.met.regs := by
  unfold replyStatus
  (try dsimp only) <;> simp
@[simp ↓] theorem touchWorld_regs (a0 : Call) (s : State) : (touchWorld a0 s).met.regs = s.met.regs := by
  unfold touchWorld
  (try dsimp only) <;> simp
@[simp ↓] theorem arrived_regs (a0 : HostPort) (a1 : Nat) (s : State) : (arrived a0 a1 s).met.regs = s.met.regs := by
  unfold arrived
  (try dsimp only) <;> (repeat' split) <;> simp
@[simp ↓] theorem grantPermission_regs (a0 : Nat) (s : State) : (grantPermission a0 s).met.regs = s.met.regs := by
  unfold grantPermission
  (try dsimp only) <;> simp
@[simp ↓] theorem withdrawEnables_regs (a0 : Nat) (s : State) : (withdrawEnables a0 s).met.regs = s.met.regs := by
  unfold withdrawEnables
  (try dsimp only) <;> simp
@[simp ↓] theorem State_modHd_regs (s : State) (a1 : Nat) (a2 : CtxHeader → CtxHeader) : (State.modHd s a1 a2).met.regs = s.met.regs := by
  unfold State.modHd
  (try dsimp only) <;> simp
@[simp ↓] theorem State_modWk_regs (s : State) (a1 : Nat) (a2 : CtxWork → CtxWork) : (State.modWk s a1 a2).met.regs = s.met.regs := by
  unfold State.modWk
  (try dsimp only) <;> simp
@[simp ↓] theorem markDirty_regs (s : State) : (markDirty s).met.regs = s.met.regs := by
  unfold markDirty
  (try dsimp only) <;> simp
@[simp ↓] theorem completeStart_regs (a0 : Nat) (a1 : Nat) (a2 : CtxState) (s : State) : (completeStart a0 a1 a2 s).met.regs = s.met.regs := by
  unfold completeStart
  (try dsimp only) <;> simp
@[simp ↓] theorem wakeQuiet_regs (s : State) : (wakeQuiet s).met.regs = s.met.regs := by
  unfold wakeQuiet
  (try dsimp only) <;> simp
@[simp ↓] theorem toCtxState_regs (a0 : Nat) (a1 : CtxState) (a2 : Nat) (a3 : Bytes) (a4 : Option CmdRef) (a5 : Nat) (s : State) : (toCtxState a0 a1 a2 a3 a4 a5 s).met.regs = s.met.regs := by
  unfold toCtxState
  (try dsimp only) <;> simp
@[simp ↓] theorem moveCtx_regs (a0 : Nat) (a1 : CtxState) (a2 : Nat) (a3 : Bytes) (a4 : Nat) (s : State) : (moveCtx a0 a1 a2 a3 a4 s).met.regs = s.met.regs := by
  unfold moveCtx
  (try dsimp only) <;> simp
@[simp ↓] theorem bindTo_regs (a0 : Nat) (a1 : Nat) (s : State) : (bindTo a0 a1 s).met.regs = s.met.regs := by
  unfold bindTo
  (try dsimp only) <;> simp
@[simp ↓] theorem openCtx_regs (a0 : Nat) (a1 : Bool) (a2 : Option Nat) (a3 : Nat) (a4 : Nat) (s : State) : (openCtx a0 a1 a2 a3 a4 s).met.regs = s.met.regs := by
  unfold openCtx
  (try dsimp only) <;> simp
@[simp ↓] theorem openForBay_regs (a0 : Nat) (s : State) : (openForBay a0 s).met.regs = s.met.regs := by
  unfold openForBay
  (try dsimp only) <;> (repeat' split) <;> simp
@[simp ↓] theorem serveWaiting_regs (s : State) : (serveWaiting s).met.regs = s.met.regs := by
  unfold serveWaiting
  (try dsimp only) <;> (repeat' split) <;> simp
@[simp ↓] theorem unbind_regs (a0 : Nat) (s : State) : (unbind a0 s).met.regs = s.met.regs := by
  unfold unbind
  (try dsimp only) <;> (repeat' split) <;> simp
@[simp ↓] theorem freeContext_regs (a0 : Nat) (a1 : Nat) (a2 : Bytes) (s : State) : (freeContext a0 a1 a2 s).met.regs = s.met.regs := by
  unfold freeContext
  (try dsimp only) <;> simp
@[simp ↓] theorem setBayFull_regs (a0 : Nat) (a1 : BayState) (a2 : Nat) (a3 : Option CmdRef) (a4 : Nat) (s : State) : (setBayFull a0 a1 a2 a3 a4 s).met.regs = s.met.regs := by
  unfold setBayFull
  (try dsimp only) <;> simp
@[simp ↓] theorem setBay_regs (a0 : Nat) (a1 : BayState) (a2 : Nat) (s : State) : (setBay a0 a1 a2 s).met.regs = s.met.regs := by
  unfold setBay
  (try dsimp only) <;> simp
@[simp ↓] theorem setBayFor_regs (a0 : Nat) (a1 : BayState) (a2 : Nat) (a3 : List CmdRef) (s : State) : (setBayFor a0 a1 a2 a3 s).met.regs = s.met.regs := by
  unfold setBayFor
  (try dsimp only) <;> simp
@[simp ↓] theorem driveNext_regs (a0 : Nat) (a1 : CpoDrive) (a2 : Nat) (s : State) : (driveNext a0 a1 a2 s).met.regs = s.met.regs := by
  unfold driveNext
  (try dsimp only) <;> simp
@[simp ↓] theorem driveLock_regs (a0 : Nat) (a1 : Bool) (a2 : Nat) (s : State) : (driveLock a0 a1 a2 s).met.regs = s.met.regs := by
  unfold driveLock
  (try dsimp only) <;> simp
@[simp ↓] theorem startLock_regs (a0 : Nat) (s : State) : (startLock a0 s).met.regs = s.met.regs := by
  unfold startLock
  (try dsimp only) <;> simp
@[simp ↓] theorem releaseLock_regs (a0 : Nat) (s : State) : (releaseLock a0 s).met.regs = s.met.regs := by
  unfold releaseLock
  (try dsimp only) <;> simp
@[simp ↓] theorem tryUnlock_regs (a0 : Nat) (s : State) : (tryUnlock a0 s).met.regs = s.met.regs := by
  unfold tryUnlock
  (try dsimp only) <;> simp
@[simp ↓] theorem queueClose_regs (a0 : Nat) (a1 : Nat) (a2 : QEntry) (a3 : Nat) (a4 : Nat) (s : State) : (queueClose a0 a1 a2 a3 a4 s).met.regs = s.met.regs := by
  unfold queueClose
  (try dsimp only) <;> simp
@[simp ↓] theorem runSelfTest_regs (a0 : Nat) (a1 : Nat) (s : State) : (runSelfTest a0 a1 s).met.regs = s.met.regs := by
  unfold runSelfTest
  (try dsimp only) <;> simp
@[simp ↓] theorem startSelfTest_regs (a0 : Nat) (a1 : Option CmdRef) (s : State) : (startSelfTest a0 a1 s).met.regs = s.met.regs := by
  unfold startSelfTest
  (try dsimp only) <;> simp
@[simp ↓] theorem autoClose_regs (a0 : Nat) (s : State) : (autoClose a0 s).met.regs = s.met.regs := by
  unfold autoClose
  (try dsimp only) <;> (repeat' split) <;> simp
@[simp ↓] theorem noteReasons_regs (a0 : Nat) (a1 : List Nat) (s : State) : (noteReasons a0 a1 s).met.regs = s.met.regs := by
  unfold noteReasons
  (try dsimp only) <;> simp
@[simp ↓] theorem dropBound_regs (a0 : Nat) (s : State) : (dropBound a0 s).met.regs = s.met.regs := by
  unfold dropBound
  (try dsimp only) <;> (repeat' split) <;> simp
@[simp ↓] theorem leaveReady_regs (a0 : Nat) (a1 : Nat) (s : State) : (leaveReady a0 a1 s).met.regs = s.met.regs := by
  unfold leaveReady
  (try dsimp only) <;> simp
@[simp ↓] theorem ctxReady_regs (a0 : Nat) (s : State) : (ctxReady a0 s).met.regs = s.met.regs := by
  unfold ctxReady
  (try dsimp only) <;> (repeat' split) <;> simp
@[simp ↓] theorem evaluateBay_regs (a0 : Nat) (s : State) : (evaluateBay a0 s).met.regs = s.met.regs := by
  unfold evaluateBay
  (try dsimp only) <;> (repeat' split) <;> simp
@[simp ↓] theorem dropBayEntries_regs (a0 : Nat) (s : State) : (dropBayEntries a0 s).met.regs = s.met.regs := by
  unfold dropBayEntries
  (try dsimp only) <;> simp
@[simp ↓] theorem beginWeldCheck_regs (a0 : Nat) (a1 : Nat) (s : State) : (beginWeldCheck a0 a1 s).met.regs = s.met.regs := by
  unfold beginWeldCheck
  (try dsimp only) <;> simp
@[simp ↓] theorem coilOff_regs (a0 : Nat) (a1 : Nat) (s : State) : (coilOff a0 a1 s).met.regs = s.met.regs := by
  unfold coilOff
  (try dsimp only) <;> simp
@[simp ↓] theorem sendCan_regs (a0 : Nat) (a1 : Nat) (a2 : Bytes) (s : State) : (sendCan a0 a1 a2 s).met.regs = s.met.regs := by
  unfold sendCan
  (try dsimp only) <;> simp
@[simp ↓] theorem sendSetpoint_regs (a0 : Nat) (s : State) : (sendSetpoint a0 s).met.regs = s.met.regs := by
  unfold sendSetpoint
  (try dsimp only) <;> simp
@[simp ↓] theorem setpointZero_regs (a0 : Nat) (a1 : Bool) (s : State) : (setpointZero a0 a1 s).met.regs = s.met.regs := by
  unfold setpointZero
  (try dsimp only) <;> simp
@[simp ↓] theorem normalOpen_regs (a0 : Nat) (a1 : Nat) (s : State) : (normalOpen a0 a1 s).met.regs = s.met.regs := by
  unfold normalOpen
  (try dsimp only) <;> simp
@[simp ↓] theorem toFinishing_regs (a0 : Nat) (a1 : Nat) (a2 : Nat) (a3 : Nat) (a4 : Nat) (s : State) : (toFinishing a0 a1 a2 a3 a4 s).met.regs = s.met.regs := by
  unfold toFinishing
  (try dsimp only) <;> simp
@[simp ↓] theorem finishCtx_regs (a0 : Nat) (a1 : Nat) (a2 : Nat) (a3 : Nat) (a4 : Nat) (s : State) : (finishCtx a0 a1 a2 a3 a4 s).met.regs = s.met.regs := by
  unfold finishCtx
  (try dsimp only) <;> simp
@[simp ↓] theorem refreshSafeOut_regs (s : State) : (refreshSafeOut s).met.regs = s.met.regs := by
  unfold refreshSafeOut
  (try dsimp only) <;> simp
@[simp ↓] theorem recordKeyRefusal_regs (a0 : Nat) (a1 : Nat) (a2 : Requester) (s : State) : (recordKeyRefusal a0 a1 a2 s).met.regs = s.met.regs := by
  unfold recordKeyRefusal
  (try dsimp only) <;> simp
@[simp ↓] theorem askKey_regs (a0 : Nat) (a1 : List Nat) (a2 : Nat) (a3 : Requester) (s : State) : (askKey a0 a1 a2 a3 s).met.regs = s.met.regs := by
  unfold askKey
  try dsimp only
  (repeat' split) <;> simp
@[simp ↓] theorem stage_regs (a0 : HostPort) (a1 : Nat) (a2 : Bytes) (s : State) : (stage a0 a1 a2 s).met.regs = s.met.regs := by
  unfold stage
  (try dsimp only) <;> simp
@[simp ↓] theorem stageWrite_regs (a0 : Call) (a1 : Nat) (a2 : Nat) (a3 : Bytes) (s : State) : (stageWrite a0 a1 a2 a3 s).state.met.regs = s.met.regs := by
  unfold stageWrite
  (try dsimp only) <;> (repeat' split) <;> simp
@[simp ↓] theorem setParamBody_regs (a0 : Call) (a1 : Bytes) (s : State) : (setParamBody a0 a1 s).state.met.regs = s.met.regs := by
  unfold setParamBody
  (try dsimp only) <;> simp
@[simp ↓] theorem stageObject_regs (a0 : Call) (a1 : Nat) (a2 : Bytes) (s : State) : (stageObject a0 a1 a2 s).state.met.regs = s.met.regs := by
  unfold stageObject
  (try dsimp only) <;> simp
@[simp ↓] theorem commitObject_regs (a0 : Staged) (s : State) : (commitObject a0 s).met.regs = s.met.regs := by
  unfold commitObject
  (try dsimp only) <;> simp
@[simp ↓] theorem commitBody_regs (a0 : Call) (a1 : Bytes) (s : State) : (commitBody a0 a1 s).state.met.regs = s.met.regs := by
  unfold commitBody
  (try dsimp only) <;> (repeat' split) <;> simp
@[simp ↓] theorem releaseCard_regs (a0 : Nat) (s : State) : (releaseCard a0 s).met.regs = s.met.regs := by
  unfold releaseCard
  (try dsimp only) <;> (repeat' split) <;> simp
@[simp ↓] theorem restartReader_regs (a0 : Nat) (s : State) : (restartReader a0 s).met.regs = s.met.regs := by
  unfold restartReader
  (try dsimp only) <;> simp
@[simp ↓] theorem parkPulse_regs (a0 : Nat) (a1 : Nat) (a2 : Nat) (a3 : Nat) (s : State) : (parkPulse a0 a1 a2 a3 s).met.regs = s.met.regs := by
  unfold parkPulse
  (try dsimp only) <;> simp
@[simp ↓] theorem reassignPulse_regs (a0 : Nat) (a1 : Bytes) (a2 : Bytes) (s : State) : (reassignPulse a0 a1 a2 s).met.regs = s.met.regs := by
  unfold reassignPulse
  (try dsimp only) <;> simp
@[simp ↓] theorem objectEffect_regs (a0 : Nat) (a1 : Bytes) (a2 : Bytes) (s : State) : (objectEffect a0 a1 a2 s).met.regs = s.met.regs := by
  unfold objectEffect
  (try dsimp only) <;> simp
@[simp ↓] theorem applyObject_regs (a0 : ParamObj) (s : State) : (applyObject a0 s).met.regs = s.met.regs := by
  unfold applyObject
  (try dsimp only) <;> simp
@[simp ↓] theorem applyCommits_regs (a0 : Nat → Bool) (s : State) : (applyCommits a0 s).met.regs = s.met.regs := by
  unfold applyCommits
  (try dsimp only) <;> simp
@[simp ↓] theorem withBay_regs (pl : Bytes) (s : State) (f : Nat → Ans) (h : ∀ b, (f b).state.met.regs = s.met.regs) :
    (withBay pl s f).state.met.regs = s.met.regs := by
  unfold withBay; dsimp only; split <;> simp [h]
@[simp ↓] theorem ackConverter_regs (a0 : Nat) (s : State) : (ackConverter a0 s).met.regs = s.met.regs := by
  unfold ackConverter
  (try dsimp only) <;> (repeat' split) <;> simp
@[simp ↓] theorem toIdle_regs (a0 : Nat) (s : State) : (toIdle a0 s).met.regs = s.met.regs := by
  unfold toIdle
  (try dsimp only) <;> simp
@[simp ↓] theorem bayEnableBody_regs (a0 : Nat) (s : State) : (bayEnableBody a0 s).state.met.regs = s.met.regs := by
  unfold bayEnableBody
  (try dsimp only) <;> (repeat' split) <;> simp
@[simp ↓] theorem disableNow_regs (a0 : Nat) (a1 : List CmdRef) (s : State) : (disableNow a0 a1 s).met.regs = s.met.regs := by
  unfold disableNow
  (try dsimp only) <;> (repeat' split) <;> simp
@[simp ↓] theorem disableBay_regs (a0 : Nat) (a1 : List CmdRef) (s : State) : (disableBay a0 a1 s).1.met.regs = s.met.regs := by
  unfold disableBay
  (try dsimp only) <;> (repeat' split) <;> simp
@[simp ↓] theorem sendConfig_regs (a0 : Nat) (a1 : List CmdRef) (s : State) : (sendConfig a0 a1 s).met.regs = s.met.regs := by
  unfold sendConfig
  (try dsimp only) <;> simp
@[simp ↓] theorem converterConfigureBody_regs (a0 : Call) (a1 : Nat) (a2 : Bytes) (s : State) : (converterConfigureBody a0 a1 a2 s).state.met.regs = s.met.regs := by
  unfold converterConfigureBody
  (try dsimp only) <;> simp
@[simp ↓] theorem countLookup_regs (s : State) : (countLookup s).met.regs = s.met.regs := by
  unfold countLookup
  (try dsimp only) <;> simp
@[simp ↓] theorem limitChange_regs (a0 : Nat) (a1 : Nat) (a2 : Nat) (a3 : Nat) (s : State) : (limitChange a0 a1 a2 a3 s).met.regs = s.met.regs := by
  unfold limitChange
  (try dsimp only) <;> simp
@[simp ↓] theorem setLimits_regs (a0 : Nat) (a1 : Nat) (a2 : Nat) (a3 : Nat) (a4 : Nat) (a5 : Nat) (a6 : Nat) (a7 : Nat) (s : State) : (setLimits a0 a1 a2 a3 a4 a5 a6 a7 s).met.regs = s.met.regs := by
  unfold setLimits
  (try dsimp only) <;> simp
@[simp ↓] theorem evaluateCtx_regs (a0 : Nat) (s : State) : (evaluateCtx a0 s).met.regs = s.met.regs := by
  unfold evaluateCtx
  (try dsimp only) <;> (repeat' split) <;> simp
@[simp ↓] theorem allowCtxFor_regs (a0 : Nat) (a1 : Bytes) (a2 : Nat) (a3 : Nat) (a4 : Nat) (a5 : Nat) (a6 : Nat) (a7 : Nat) (a8 : Nat) (a9 : Option Bool) (a10 : Option CmdRef) (s : State) : (allowCtxFor a0 a1 a2 a3 a4 a5 a6 a7 a8 a9 a10 s).met.regs = s.met.regs := by
  unfold allowCtxFor
  (try dsimp only) <;> simp
@[simp ↓] theorem allowCtx_regs (a0 : Nat) (a1 : Bytes) (a2 : Nat) (a3 : Nat) (a4 : Nat) (a5 : Nat) (a6 : Nat) (a7 : Nat) (a8 : Nat) (a9 : Option Bool) (s : State) : (allowCtx a0 a1 a2 a3 a4 a5 a6 a7 a8 a9 s).met.regs = s.met.regs := by
  unfold allowCtx
  (try dsimp only) <;> simp
@[simp ↓] theorem denyCtxFor_regs (a0 : Nat) (a1 : Option Bool) (a2 : Option CmdRef) (s : State) : (denyCtxFor a0 a1 a2 s).met.regs = s.met.regs := by
  unfold denyCtxFor
  (try dsimp only) <;> simp
@[simp ↓] theorem denyCtx_regs (a0 : Nat) (a1 : Option Bool) (s : State) : (denyCtx a0 a1 s).met.regs = s.met.regs := by
  unfold denyCtx
  (try dsimp only) <;> simp
@[simp ↓] theorem withCtx_regs (pl : Bytes) (s : State) (f : Nat → Ctx → Ans) (h : ∀ c x, (f c x).state.met.regs = s.met.regs) :
    (withCtx pl s f).state.met.regs = s.met.regs := by
  unfold withCtx; dsimp only; split <;> simp [h]
@[simp ↓] theorem ctxOpenBody_regs (a0 : Call) (a1 : Bytes) (s : State) : (ctxOpenBody a0 a1 s).state.met.regs = s.met.regs := by
  unfold ctxOpenBody
  (try dsimp only) <;> (repeat' split) <;> simp
@[simp ↓] theorem endSession_regs (a0 : Nat) (a1 : Nat) (a2 : Nat) (s : State) : (endSession a0 a1 a2 s).met.regs = s.met.regs := by
  unfold endSession
  (try dsimp only) <;> (repeat' split) <;> simp
@[simp ↓] theorem stopCtx_regs (a0 : Nat) (s : State) : (stopCtx a0 s).met.regs = s.met.regs := by
  unfold stopCtx
  (try dsimp only) <;> (repeat' split) <;> simp
@[simp ↓] theorem replaceLimits_regs (a0 : Nat) (a1 : Nat) (a2 : Nat) (a3 : Nat) (a4 : Nat) (a5 : Nat) (s : State) : (replaceLimits a0 a1 a2 a3 a4 a5 s).met.regs = s.met.regs := by
  unfold replaceLimits
  (try dsimp only) <;> simp
@[simp ↓] theorem ctxAuthoriseBody_regs (a0 : Call) (a1 : Bytes) (s : State) : (ctxAuthoriseBody a0 a1 s).state.met.regs = s.met.regs := by
  unfold ctxAuthoriseBody
  (try dsimp only) <;> simp
@[simp ↓] theorem ctxBindBody_regs (a0 : Call) (a1 : Bytes) (s : State) : (ctxBindBody a0 a1 s).state.met.regs = s.met.regs := by
  unfold ctxBindBody
  (try dsimp only) <;> simp
@[simp ↓] theorem startClose_regs (a0 : Nat) (a1 : Nat) (a2 : Option (BitVec 32 × Nat)) (a3 : CmdRef) (s : State) : (startClose a0 a1 a2 a3 s).state.met.regs = s.met.regs := by
  unfold startClose
  (try dsimp only) <;> (repeat' split) <;> simp
@[simp ↓] theorem ctxStartBody_regs (a0 : Call) (a1 : Bytes) (s : State) : (ctxStartBody a0 a1 s).state.met.regs = s.met.regs := by
  unfold ctxStartBody
  (try dsimp only) <;> (repeat' split) <;> simp (disch := (intros; (repeat' split) <;> simp))
@[simp ↓] theorem suspendCtx_regs (a0 : Nat) (a1 : Nat) (a2 : Bytes) (s : State) : (suspendCtx a0 a1 a2 s).met.regs = s.met.regs := by
  unfold suspendCtx
  (try dsimp only) <;> (repeat' split) <;> simp
@[simp ↓] theorem ctxResumeBody_regs (a0 : Call) (a1 : Bytes) (s : State) : (ctxResumeBody a0 a1 s).state.met.regs = s.met.regs := by
  unfold ctxResumeBody
  (try dsimp only) <;> simp
@[simp ↓] theorem ctxSetQuotaBody_regs (a0 : Call) (a1 : Bytes) (s : State) : (ctxSetQuotaBody a0 a1 s).state.met.regs = s.met.regs := by
  unfold ctxSetQuotaBody
  (try dsimp only) <;> simp
@[simp ↓] theorem ctxSetProfileBody_regs (a0 : Call) (a1 : Bytes) (s : State) : (ctxSetProfileBody a0 a1 s).state.met.regs = s.met.regs := by
  unfold ctxSetProfileBody
  (try dsimp only) <;> simp
@[simp ↓] theorem ctxAckBody_regs (a0 : Call) (a1 : Bytes) (s : State) : (ctxAckBody a0 a1 s).state.met.regs = s.met.regs := by
  unfold ctxAckBody
  (try dsimp only) <;> simp
@[simp ↓] theorem relayFrame_regs (a0 : Bytes) (s : State) : (relayFrame a0 s).met.regs = s.met.regs := by
  unfold relayFrame
  (try dsimp only) <;> simp
@[simp ↓] theorem askLinkKey_regs (a0 : Nat) (s : State) : (askLinkKey a0 s).met.regs = s.met.regs := by
  unfold askLinkKey
  try dsimp only
  simp
@[simp ↓] theorem originate_regs (a0 : Nat) (a1 : Limits) (s : State) : (originate a0 a1 s).met.regs = s.met.regs := by
  unfold originate
  (try dsimp only) <;> (repeat' split) <;> simp
@[simp ↓] theorem siteSetBudgetBody_regs (a0 : Call) (a1 : Bytes) (s : State) : (siteSetBudgetBody a0 a1 s).state.met.regs = s.met.regs := by
  unfold siteSetBudgetBody
  (try dsimp only) <;> simp
@[simp ↓] theorem tariffLoadBody_regs (a0 : Call) (a1 : Bytes) (s : State) : (tariffLoadBody a0 a1 s).state.met.regs = s.met.regs := by
  unfold tariffLoadBody
  (try dsimp only) <;> simp
@[simp ↓] theorem tariffGetBody_regs (a0 : Call) (a1 : Bytes) (s : State) : (tariffGetBody a0 a1 s).state.met.regs = s.met.regs := by
  unfold tariffGetBody
  (try dsimp only) <;> (repeat' split) <;> simp
@[simp ↓] theorem tariffCancelBody_regs (a0 : Call) (a1 : Bytes) (s : State) : (tariffCancelBody a0 a1 s).state.met.regs = s.met.regs := by
  unfold tariffCancelBody
  (try dsimp only) <;> (repeat' split) <;> simp
@[simp ↓] theorem profileReadBody_regs (a0 : Call) (a1 : Bytes) (s : State) : (profileReadBody a0 a1 s).state.met.regs = s.met.regs := by
  unfold profileReadBody
  (try dsimp only) <;> simp
@[simp ↓] theorem credLookupBody_regs (a0 : Call) (a1 : Bytes) (s : State) : (credLookupBody a0 a1 s).state.met.regs = s.met.regs := by
  unfold credLookupBody
  (try dsimp only) <;> (repeat' split) <;> simp
@[simp ↓] theorem credBeginBody_regs (a0 : Call) (a1 : Bytes) (s : State) : (credBeginBody a0 a1 s).state.met.regs = s.met.regs := by
  unfold credBeginBody
  (try dsimp only) <;> simp
@[simp ↓] theorem credDataBody_regs (a0 : Call) (a1 : Bytes) (s : State) : (credDataBody a0 a1 s).state.met.regs = s.met.regs := by
  unfold credDataBody
  (try dsimp only) <;> (repeat' split) <;> simp
@[simp ↓] theorem credCommitBody_regs (a0 : Call) (a1 : Bytes) (s : State) : (credCommitBody a0 a1 s).state.met.regs = s.met.regs := by
  unfold credCommitBody
  (try dsimp only) <;> (repeat' split) <;> simp
@[simp ↓] theorem cacheChain_regs (a0 : PncChain) (a1 : List Bytes) (s : State) : (cacheChain a0 a1 s).met.regs = s.met.regs := by
  unfold cacheChain
  (try dsimp only) <;> simp
@[simp ↓] theorem decideEmaid_regs (a0 : Nat) (a1 : PncChain) (a2 : Option CmdRef) (s : State) : (decideEmaid a0 a1 a2 s).met.regs = s.met.regs := by
  unfold decideEmaid
  (try dsimp only) <;> (repeat' split) <;> simp
@[simp ↓] theorem pncVerifyBody_regs (a0 : Call) (a1 : Bytes) (s : State) : (pncVerifyBody a0 a1 s).state.met.regs = s.met.regs := by
  unfold pncVerifyBody
  (try dsimp only) <;> (repeat' split) <;> simp (disch := (intros; (repeat' split) <;> simp))
@[simp ↓] theorem notePing_regs (s : State) : (notePing s).met.regs = s.met.regs := by
  unfold notePing
  (try dsimp only) <;> simp
@[simp ↓] theorem getParamBody_regs (a0 : Call) (a1 : Bytes) (s : State) : (getParamBody a0 a1 s).state.met.regs = s.met.regs := by
  unfold getParamBody
  (try dsimp only) <;> (repeat' split) <;> simp
@[simp ↓] theorem refuseWorld_regs (a0 : Call) (a1 : World) (s : State) : (refuseWorld a0 a1 s).state.met.regs = s.met.regs := by
  unfold refuseWorld
  (try dsimp only) <;> simp
@[simp ↓] theorem openWorldBody_regs (a0 : Call) (a1 : Bytes) (s : State) : (openWorldBody a0 a1 s).state.met.regs = s.met.regs := by
  unfold openWorldBody
  (try dsimp only) <;> (repeat' split) <;> simp
@[simp ↓] theorem closeWorldOn_regs (a0 : HostPort) (s : State) : (closeWorldOn a0 s).met.regs = s.met.regs := by
  unfold closeWorldOn
  (try dsimp only) <;> simp
@[simp ↓] theorem getTimeBody_regs (a0 : Call) (a1 : Bytes) (s : State) : (getTimeBody a0 a1 s).state.met.regs = s.met.regs := by
  unfold getTimeBody
  (try dsimp only) <;> simp
@[simp ↓] theorem slewBy_regs (a0 : Int) (s : State) : (slewBy a0 s).met.regs = s.met.regs := by
  unfold slewBy
  (try dsimp only) <;> simp
@[simp ↓] theorem acceptStep_regs (a0 : Nat) (a1 : Nat) (a2 : Nat) (s : State) : (acceptStep a0 a1 a2 s).met.regs = s.met.regs := by
  unfold acceptStep
  (try dsimp only) <;> simp
@[simp ↓] theorem signedStep_regs (a0 : Call) (a1 : Bytes) (a2 : Nat) (s : State) : (signedStep a0 a1 a2 s).state.met.regs = s.met.regs := by
  unfold signedStep
  (try dsimp only) <;> (repeat' split) <;> simp
@[simp ↓] theorem setTimeBody_regs (a0 : Call) (a1 : Bytes) (s : State) : (setTimeBody a0 a1 s).state.met.regs = s.met.regs := by
  unfold setTimeBody
  (try dsimp only) <;> simp
@[simp ↓] theorem adjustTimeBody_regs (a0 : Call) (a1 : Bytes) (s : State) : (adjustTimeBody a0 a1 s).state.met.regs = s.met.regs := by
  unfold adjustTimeBody
  (try dsimp only) <;> simp
@[simp ↓] theorem meterReadHarmonicsBody_regs (a0 : Call) (a1 : Bytes) (s : State) : (meterReadHarmonicsBody a0 a1 s).state.met.regs = s.met.regs := by
  unfold meterReadHarmonicsBody
  (try dsimp only) <;> (repeat' split) <;> simp
@[simp ↓] theorem legalWrite_regs (a0 : Call) (a1 : Bytes) (s : State) : (legalWrite a0 a1 s).state.met.regs = s.met.regs := by
  unfold legalWrite
  (try dsimp only) <;> (repeat' split) <;> simp
@[simp ↓] theorem beginStep_regs (a0 : List Nat) (a1 : Nat) (a2 : CmdRef) (s : State) : (beginStep a0 a1 a2 s).met.regs = s.met.regs := by
  unfold beginStep
  (try dsimp only) <;> simp
@[simp ↓] theorem beginTest_regs (a0 : List Nat) (a1 : CmdRef) (s : State) : (beginTest a0 a1 s).met.regs = s.met.regs := by
  unfold beginTest
  (try dsimp only) <;> simp
@[simp ↓] theorem meterSelftestBody_regs (a0 : Call) (a1 : Bytes) (s : State) : (meterSelftestBody a0 a1 s).state.met.regs = s.met.regs := by
  unfold meterSelftestBody
  (try dsimp only) <;> simp
@[simp ↓] theorem newPeers_regs (a0 s : State) : (newPeers a0 s).met.regs = s.met.regs := by
  unfold newPeers
  rfl
@[simp ↓] theorem loadBlock_regs (a0 : List (Nat × Nat × Bytes)) (s : State) : (loadBlock a0 s).met.regs = s.met.regs := by
  unfold loadBlock
  (try dsimp only) <;> simp
@[simp ↓] theorem loadSafety_regs (a0 : List (Nat × Nat × Bytes)) (s : State) : (loadSafety a0 s).state.met.regs = s.met.regs := by
  unfold loadSafety
  (try dsimp only) <;> simp
@[simp ↓] theorem safetyLoadBody_regs (a0 : Call) (a1 : Bytes) (s : State) : (safetyLoadBody a0 a1 s).state.met.regs = s.met.regs := by
  unfold safetyLoadBody
  (try dsimp only) <;> (repeat' split) <;> simp
@[simp ↓] theorem evaluateAll_regs (s : State) : (evaluateAll s).met.regs = s.met.regs := by
  unfold evaluateAll
  (try dsimp only) <;> simp
@[simp ↓] theorem resetSde_regs (a0 : Nat) (s : State) : (resetSde a0 s).state.met.regs = s.met.regs := by
  unfold resetSde
  (try dsimp only) <;> simp
@[simp ↓] theorem resetWelded_regs (a0 : Nat) (s : State) : (resetWelded a0 s).state.met.regs = s.met.regs := by
  unfold resetWelded
  (try dsimp only) <;> simp
@[simp ↓] theorem resetEstop_regs (s : State) : (resetEstop s).state.met.regs = s.met.regs := by
  unfold resetEstop
  (try dsimp only) <;> simp
@[simp ↓] theorem resetSiteEstop_regs (a0 : Nat) (s : State) : (resetSiteEstop a0 s).state.met.regs = s.met.regs := by
  unfold resetSiteEstop
  (try dsimp only) <;> simp
@[simp ↓] theorem resetOutFault_regs (a0 : Nat) (s : State) : (resetOutFault a0 s).state.met.regs = s.met.regs := by
  unfold resetOutFault
  (try dsimp only) <;> simp
@[simp ↓] theorem resetFaultBody_regs (a0 : Call) (a1 : Bytes) (s : State) : (resetFaultBody a0 a1 s).state.met.regs = s.met.regs := by
  unfold resetFaultBody
  (try dsimp only) <;> (repeat' split) <;> simp
@[simp ↓] theorem State_modCont_regs (s : State) (a1 : Continuity → Continuity) : (State.modCont s a1).met.regs = s.met.regs := by
  unfold State.modCont
  (try dsimp only) <;> simp
@[simp ↓] theorem releaseOutputs_regs (s : State) : (releaseOutputs s).met.regs = s.met.regs := by
  unfold releaseOutputs
  (try dsimp only) <;> simp
@[simp ↓] theorem beginStart_regs (a0 : StartClass) (s : State) : (beginStart a0 s).met.regs = s.met.regs := by
  unfold beginStart
  (try dsimp only) <;> simp
@[simp ↓] theorem beginReset_regs (a0 : Bool) (s : State) : (beginReset a0 s).met.regs = s.met.regs := by
  unfold beginReset
  (try dsimp only) <;> simp
@[simp ↓] theorem ntfUpdate_regs (a0 : ImageKind) (a1 : Nat) (a2 : Nat) (a3 : Nat) (a4 : Bytes) (a5 : Option CmdRef) (s : State) : (ntfUpdate a0 a1 a2 a3 a4 a5 s).met.regs = s.met.regs := by
  unfold ntfUpdate
  (try dsimp only) <;> simp
@[simp ↓] theorem State_modImages_regs (s : State) (a1 : Images → Images) : (State.modImages s a1).met.regs = s.met.regs := by
  unfold State.modImages
  (try dsimp only) <;> simp
@[simp ↓] theorem updateBeginBody_regs (a0 : Call) (a1 : Bytes) (s : State) : (updateBeginBody a0 a1 s).state.met.regs = s.met.regs := by
  unfold updateBeginBody
  (try dsimp only) <;> (repeat' split) <;> simp
@[simp ↓] theorem updateDataBody_regs (a0 : Call) (a1 : Bytes) (s : State) : (updateDataBody a0 a1 s).state.met.regs = s.met.regs := by
  unfold updateDataBody
  (try dsimp only) <;> (repeat' split) <;> simp
@[simp ↓] theorem updateEndBody_regs (a0 : Call) (a1 : Bytes) (s : State) : (updateEndBody a0 a1 s).state.met.regs = s.met.regs := by
  unfold updateEndBody
  (try dsimp only) <;> (repeat' split) <;> simp
@[simp ↓] theorem startForward_regs (a0 : ImageKind) (a1 : Nat) (a2 : Option CmdRef) (s : State) : (startForward a0 a1 a2 s).met.regs = s.met.regs := by
  unfold startForward
  (try dsimp only) <;> simp
@[simp ↓] theorem updateForwardBody_regs (a0 : Call) (a1 : Bytes) (s : State) : (updateForwardBody a0 a1 s).state.met.regs = s.met.regs := by
  unfold updateForwardBody
  (try dsimp only) <;> (repeat' split) <;> simp
@[simp ↓] theorem dropTransfer_regs (a0 : Transfer) (s : State) : (dropTransfer a0 s).met.regs = s.met.regs := by
  unfold dropTransfer
  (try dsimp only) <;> simp
@[simp ↓] theorem updateAbortBody_regs (a0 : Call) (a1 : Bytes) (s : State) : (updateAbortBody a0 a1 s).state.met.regs = s.met.regs := by
  unfold updateAbortBody
  (try dsimp only) <;> (repeat' split) <;> simp
@[simp ↓] theorem isolateVan_regs (s : State) : (isolateVan s).met.regs = s.met.regs := by
  unfold isolateVan
  (try dsimp only) <;> simp
@[simp ↓] theorem updateActivateBody_regs (a0 : Call) (a1 : Bytes) (s : State) : (updateActivateBody a0 a1 s).state.met.regs = s.met.regs := by
  unfold updateActivateBody
  (try dsimp only) <;> (repeat' split) <;> simp
@[simp ↓] theorem State_modDisp_regs (s : State) (a1 : Display → Display) : (State.modDisp s a1).met.regs = s.met.regs := by
  unfold State.modDisp
  (try dsimp only) <;> simp
@[simp ↓] theorem dispWriteBody_regs (a0 : Call) (a1 : Bytes) (s : State) : (dispWriteBody a0 a1 s).state.met.regs = s.met.regs := by
  unfold dispWriteBody
  (try dsimp only) <;> simp
@[simp ↓] theorem dispBlinkBody_regs (a0 : Call) (a1 : Bytes) (s : State) : (dispBlinkBody a0 a1 s).state.met.regs = s.met.regs := by
  unfold dispBlinkBody
  (try dsimp only) <;> simp
@[simp ↓] theorem keyListBody_regs (a0 : Call) (a1 : Bytes) (s : State) : (keyListBody a0 a1 s).state.met.regs = s.met.regs := by
  unfold keyListBody
  (try dsimp only) <;> simp
@[simp ↓] theorem keyGetPublicBody_regs (a0 : Call) (a1 : Bytes) (s : State) : (keyGetPublicBody a0 a1 s).state.met.regs = s.met.regs := by
  unfold keyGetPublicBody
  (try dsimp only) <;> (repeat' split) <;> simp
@[simp ↓] theorem fillSlot_regs (a0 : Nat) (a1 : KeySlot) (a2 : Bytes) (a3 : Bytes) (s : State) : (fillSlot a0 a1 a2 a3 s).met.regs = s.met.regs := by
  unfold fillSlot
  (try dsimp only) <;> simp
@[simp ↓] theorem keyLogbook_regs (a0 : Nat) (a1 : Nat) (a2 : Nat) (s : State) : (keyLogbook a0 a1 a2 s).met.regs = s.met.regs := by
  unfold keyLogbook
  (try dsimp only) <;> simp
@[simp ↓] theorem generateInto_regs (a0 : Nat) (a1 : KeySlot) (s : State) : (generateInto a0 a1 s).state.met.regs = s.met.regs := by
  unfold generateInto
  (try dsimp only) <;> simp
@[simp ↓] theorem generateMeter_regs (a0 : Call) (a1 : Nat) (a2 : Bytes) (s : State) : (generateMeter a0 a1 a2 s).state.met.regs = s.met.regs := by
  unfold generateMeter
  (try dsimp only) <;> simp
@[simp ↓] theorem keyGenerateBody_regs (a0 : Call) (a1 : Bytes) (s : State) : (keyGenerateBody a0 a1 s).state.met.regs = s.met.regs := by
  unfold keyGenerateBody
  (try dsimp only) <;> simp
@[simp ↓] theorem importKey_regs (a0 : Call) (a1 : Nat) (a2 : Nat) (a3 : KeySlot) (a4 : Bytes) (s : State) : (importKey a0 a1 a2 a3 a4 s).state.met.regs = s.met.regs := by
  unfold importKey
  (try dsimp only) <;> (repeat' split) <;> simp
@[simp ↓] theorem keyImportBody_regs (a0 : Call) (a1 : Bytes) (s : State) : (keyImportBody a0 a1 s).state.met.regs = s.met.regs := by
  unfold keyImportBody
  (try dsimp only) <;> simp
@[simp ↓] theorem keyDeriveBody_regs (a0 : Call) (a1 : Bytes) (s : State) : (keyDeriveBody a0 a1 s).state.met.regs = s.met.regs := by
  unfold keyDeriveBody
  (try dsimp only) <;> (repeat' split) <;> simp
@[simp ↓] theorem closeWorldEverywhere_regs (a0 : World) (s : State) : (closeWorldEverywhere a0 s).met.regs = s.met.regs := by
  unfold closeWorldEverywhere
  (try dsimp only) <;> simp
@[simp ↓] theorem invalidateSlot_regs (a0 : Nat) (s : State) : (invalidateSlot a0 s).1.met.regs = s.met.regs := by
  unfold invalidateSlot
  (try dsimp only) <;> (repeat' split) <;> simp
@[simp ↓] theorem keyInvalidateBody_regs (a0 : Call) (a1 : Bytes) (s : State) : (keyInvalidateBody a0 a1 s).state.met.regs = s.met.regs := by
  unfold keyInvalidateBody
  (try dsimp only) <;> simp
@[simp ↓] theorem attestBody_regs (a0 : Call) (a1 : Bytes) (s : State) : (attestBody a0 a1 s).state.met.regs = s.met.regs := by
  unfold attestBody
  (try dsimp only) <;> (repeat' split) <;> simp
@[simp ↓] theorem enterLifecycle_regs (a0 : Lifecycle) (a1 : Nat) (s : State) : (enterLifecycle a0 a1 s).met.regs = s.met.regs := by
  unfold enterLifecycle
  (try dsimp only) <;> simp
@[simp ↓] theorem setLifecycleBody_regs (a0 : Call) (a1 : Bytes) (s : State) : (setLifecycleBody a0 a1 s).state.met.regs = s.met.regs := by
  unfold setLifecycleBody
  (try dsimp only) <;> (repeat' split) <;> simp
@[simp ↓] theorem withChan_regs (pl : Bytes) (s : State) (f : Nat → Ans) (h : ∀ b, (f b).state.met.regs = s.met.regs) :
    (withChan pl s f).state.met.regs = s.met.regs := by
  unfold withChan; dsimp only; split <;> simp [h]
@[simp ↓] theorem lswSetBody_regs (a0 : Call) (a1 : Bytes) (s : State) : (lswSetBody a0 a1 s).state.met.regs = s.met.regs := by
  unfold lswSetBody
  (try dsimp only) <;> (repeat' split) <;> simp (disch := (intros; (repeat' split) <;> simp))
@[simp ↓] theorem restartCommanded_regs (a0 : Nat) (s : State) : (restartCommanded a0 s).met.regs = s.met.regs := by
  unfold restartCommanded
  (try dsimp only) <;> simp
@[simp ↓] theorem lswUnlockBody_regs (a0 : Nat) (s : State) : (lswUnlockBody a0 s).state.met.regs = s.met.regs := by
  unfold lswUnlockBody
  (try dsimp only) <;> simp
@[simp ↓] theorem State_modPower_regs (s : State) (a1 : Power → Power) : (State.modPower s a1).met.regs = s.met.regs := by
  unfold State.modPower
  (try dsimp only) <;> simp
@[simp ↓] theorem resetBody_regs (a0 : Call) (a1 : Bytes) (s : State) : (resetBody a0 a1 s).state.met.regs = s.met.regs := by
  unfold resetBody
  (try dsimp only) <;> simp
@[simp ↓] theorem enterPower_regs (a0 : PowerState) (s : State) : (enterPower a0 s).met.regs = s.met.regs := by
  unfold enterPower
  (try dsimp only) <;> simp
@[simp ↓] theorem setPowerStateBody_regs (a0 : Call) (a1 : Bytes) (s : State) : (setPowerStateBody a0 a1 s).state.met.regs = s.met.regs := by
  unfold setPowerStateBody
  (try dsimp only) <;> simp
@[simp ↓] theorem eventsReadBody_regs (a0 : Call) (a1 : Bytes) (s : State) : (eventsReadBody a0 a1 s).state.met.regs = s.met.regs := by
  unfold eventsReadBody
  (try dsimp only) <;> simp
@[simp ↓] theorem eventsFilterBody_regs (a0 : Call) (a1 : Bytes) (s : State) : (eventsFilterBody a0 a1 s).state.met.regs = s.met.regs := by
  unfold eventsFilterBody
  (try dsimp only) <;> simp
@[simp ↓] theorem State_modPerf_regs (s : State) (a1 : Perf → Perf) : (State.modPerf s a1).met.regs = s.met.regs := by
  unfold State.modPerf
  (try dsimp only) <;> simp
@[simp ↓] theorem perfConfigureBody_regs (a0 : Call) (a1 : Bytes) (s : State) : (perfConfigureBody a0 a1 s).state.met.regs = s.met.regs := by
  unfold perfConfigureBody
  (try dsimp only) <;> (repeat' split) <;> simp
@[simp ↓] theorem perfReadBody_regs (a0 : Call) (a1 : Bytes) (s : State) : (perfReadBody a0 a1 s).state.met.regs = s.met.regs := by
  unfold perfReadBody
  (try dsimp only) <;> simp
@[simp ↓] theorem withReader_regs (pl : Bytes) (s : State) (f : Nat → Ans) (h : ∀ b, (f b).state.met.regs = s.met.regs) :
    (withReader pl s f).state.met.regs = s.met.regs := by
  unfold withReader; dsimp only; split <;> simp [h]
@[simp ↓] theorem startPoll_regs (a0 : Nat) (a1 : Nat) (a2 : Nat) (a3 : Option CmdRef) (s : State) : (startPoll a0 a1 a2 a3 s).met.regs = s.met.regs := by
  unfold startPoll
  (try dsimp only) <;> simp
@[simp ↓] theorem rdrPollBody_regs (a0 : Call) (a1 : Bytes) (s : State) : (rdrPollBody a0 a1 s).state.met.regs = s.met.regs := by
  unfold rdrPollBody
  (try dsimp only) <;> simp
@[simp ↓] theorem rdrTransceiveBody_regs (a0 : Call) (a1 : Bytes) (s : State) : (rdrTransceiveBody a0 a1 s).state.met.regs = s.met.regs := by
  unfold rdrTransceiveBody
  (try dsimp only) <;> (repeat' split) <;> simp
@[simp ↓] theorem State_modTag_regs (s : State) (a1 : Tag → Tag) : (State.modTag s a1).met.regs = s.met.regs := by
  unfold State.modTag
  (try dsimp only) <;> simp
@[simp ↓] theorem awaitBlocks_regs (a0 : Nat) (a1 : Nat) (s : State) : (awaitBlocks a0 a1 s).1.met.regs = s.met.regs := by
  unfold awaitBlocks
  (try dsimp only) <;> (repeat' split) <;> simp
@[simp ↓] theorem tagReadBody_regs (a0 : Call) (a1 : Bytes) (s : State) : (tagReadBody a0 a1 s).state.met.regs = s.met.regs := by
  unfold tagReadBody
  (try dsimp only) <;> simp
@[simp ↓] theorem tagWriteBody_regs (a0 : Call) (a1 : Bytes) (s : State) : (tagWriteBody a0 a1 s).state.met.regs = s.met.regs := by
  unfold tagWriteBody
  (try dsimp only) <;> simp

/-! ### Receiving -/

/-- The rules of a command leave the registers. -/
def Command.LeavesRegs (c : Command) : Prop := ∀ call pl s, (c.body call pl s).state.met.regs = s.met.regs

theorem answer_regs (c : Command) (call : Call) (pl : Bytes) (len trailer now : Nat) (a : Ans) :
    (answer c call pl len trailer now a).met.regs = a.state.met.regs := by
  unfold answer
  dsimp only
  repeat' split
  all_goals simp
theorem receive_regs {c : Command} (hc : c.LeavesRegs) (h : Hdr) (pl : Bytes) (s : State) :
    (receive c h pl s).met.regs = s.met.regs := by
  have hr : ∀ call len tr (x : State), (runCommand c call pl len tr x).met.regs = x.met.regs := by
    intro call len tr x
    unfold runCommand runBody
    dsimp only
    rw [answer_regs]
    repeat' split
    all_goals first
      | (simp; done)
      | (rw [hc]; simp)
  unfold receive screen screen.screenTag
  dsimp only
  repeat' split
  all_goals simp [hr]

end Sys2Proof.Machine
end

