-- ==== Sys2Proof/Tests/Slice0.lean ====
section
/-! SUPPORT. Tests: ill-formed operands are refused, worked examples of the manual, single steps, and for every statement of
Certificates/Slice0/Obligations.lean with hypotheses a witness of each clause: a state and operands that meet the hypotheses
together. Where a hypothesis is about a free value, the witness takes that value as a premise. -/

namespace Sys2Proof.Tests

open Sys2Proof Sys2Proof.Machine

set_option Elab.async false

/-- A payload of `n` bytes, zero but for fields of given offset, width in bytes and value. -/
def pay (n : Nat) (fs : List (Nat × Nat × Nat)) : Bytes :=
  fs.foldl (fun a f => overlay a f.1 (le f.2.1 f.2.2)) (List.replicate n 0)

/-- The header of a correct packet of a world on SPI, with tag 1. -/
def hd (world : Nat) : Hdr := { port := .spi, world := world, tag := 1 }

/-- The delivered module in a life-cycle state, with a world open on SPI and the door open. -/
def inLife (l : Lifecycle) (w : World) : State :=
  { State.reset with
    life := l
    spi := { State.reset.spi with world := w }
    safety := { State.reset.safety with doorOpen := true } }

def com : State := inLife .commissioned .host
def srv : State := inLife .commissioned .service

/-- The commissioned module `us` microseconds after its start. -/
def late (us : Nat) : State := { com with time := { com.time with osc := us } }

def onBay (b : Nat) (f : Bay → Bay) (s : State) : State := s.modBay b f

def onCtx (c : Nat) (st : CtxState) (b : Option Nat) (s : State) : State :=
  s.modCtx c fun x => { x with hd := { x.hd with state := st, bay := b } }

/-- Bytes put into a parameter object. -/
def poke (id off : Nat) (bs : Bytes) (s : State) : State := s.putParam id (overlay (s.param id) off bs)

/-- Bytes put into a safety object of both copies. -/
def pokeSafety (id off : Nat) (bs : Bytes) (s : State) : State :=
  let f (l : List SafetyObj) := l.map fun o => if o.id == id then { o with data := overlay o.data off bs } else o
  { s with safety := { s.safety with sc1Block := f s.safety.sc1Block, sc2Block := f s.safety.sc2Block } }

def dcBay (b : Nat) (s : State) : State := poke (0x0100 + b) 0 [2] s

/-- A class A key that the site link, every world and the control engine may use. -/
def openKey (type usage : Nat) : KeySlot :=
  { parent := 0x3FF, state := .valid, type := type, usage := usage, worlds := 0xF, masters := 0xF, lifecycles := 0x3F }

def keyBytes : Bytes := [1, 2, 3]
def wrapKey : KeySlot := { openKey 1 0x3F with material := keyBytes }
def attestKey : KeySlot := openKey 2 0x04
def seccKey : KeySlot := openKey 3 0x04
def tagKey : KeySlot := { attestKey with usage := 0x08, classB := true, engine := 4, worlds := 0, masters := 0 }
def freshKey : KeySlot := { openKey 2 0x08 with state := .empty }
def childKey (parent : Nat) : KeySlot := { freshKey with parent := parent }

/-- The module with a usable key for the mains network, and for the site link in a role. -/
def linked : State := poke 0x0501 4 (le 2 511) (com.modKey 511 fun _ => wrapKey)
def siteAs (role : Nat) (s : State) : State := poke 0x0510 0 (le 1 role ++ [0] ++ le 2 511) (s.modKey 511 fun _ => wrapKey)

def curtFrame : Bytes :=
  let b := pay 80 [(12, 1, 3), (24, 8, 1)]
  b ++ (hmac keyBytes b).take 16

/-- The module with a peer of serial 7 on connection 1, and a frame of it. -/
def peered : State :=
  pokeSafety 0x0302 0 (pay 32 [(0, 1, 1), (1, 1, 1), (4, 2, 511), (16, 8, 7), (24, 4, 1)]) (com.modKey 511 fun _ => wrapKey)

def peerFrame (seq : Nat) : Bytes :=
  let b := pay 48 [(0, 8, 7), (8, 4, 1), (12, 4, seq)]
  let c := b ++ (hmac keyBytes b).take 8
  c ++ le 4 (crc32c c)

def canData (m node alive : Nat) : Bytes :=
  let b := pay 14 [(0, 1, alive)]
  b ++ le 2 (crc16 (le 2 (0x400 + 32 * m + node) ++ b))

def bayImage (b : Nat) : Bytes := (bayConfigLayout b).defaults
def lswImage : Bytes := (lswLayout 111).defaults
def readerImage : Bytes := readerLayout.defaults
def dispImage : Bytes := dispLayout.defaults

def lswEntry : QEntry := { chan := 111, bay := none, kind := .lsw false, cycle := 0, angle := 0 }

/-- A session bound to bay 31, which permits a start, with the phase clock locked. -/
def startable : State :=
  let s := onBay 31 (fun y => { y with
    state := .ready
    ctx := some 255
    guards := { y.guards with aClosed := true, bClosed := true, gstOk := true }
    lock := { y.lock with locked := true }
    safety := { y.safety with selfTest := { y.safety.selfTest with passUntil := some 0 } } })
    (pokeSafety 0x032F 0 [1] (onCtx 255 .bound (some 31) com))
  { s with
    clk := { s.clk with state := .locked }
    safety := { s.safety with confirmed := true, doorOpen := false } }

/-- The module with bay 31 calibrated and its meter key. -/
def calibrated : State := poke 0x045F 0 (List.replicate 128 1) (com.modKey 0x030 fun k => { k with state := .valid })

/-- A session on bay 31 whose readings are closed, and a usable meter key. -/
def closedCtx (s : State) : State :=
  ((onCtx 255 .finishing (some 31) s).modCtx 255 fun x => { x with wk := { x.wk with closing := some ⟨0, 0, 0, 0⟩ } }).modKey
    0x030 fun _ => { openKey 3 0x04 with classB := true, worlds := 0, masters := 0 }

def linkedBay : State := onBay 31 (fun y => { y with link := { y.link with link := 3 } }) com

def testImage : ImageMeta := { release := 1, secVer := 0, stateFmt := 0, minRel := [0, 0, 0, 0, 0], digest := [], confirmS := 600 }
def onTrial : State := srv.modImage .disp fun i => { i with state := .trial }
def activating (k : ImageKind) (fmt : Nat) : State :=
  srv.modImage k fun i => { i with state := .activating, previous := some { testImage with stateFmt := fmt } }

def recorded : State :=
  { com with recorder := { com.recorder with
    nextSeq := 2
    log := [{ type := 1, source := 0, severity := 0, seq := 1, time := 0, payload := [], lastAt := 0 }] } }

def tagOpen (s : State) : State := s.modTag fun t => { t with authed := true }

/-- A calendar of one season, one week and one day profile. -/
def calendarImage : Bytes :=
  pay 3952 [(4, 8, 1000000), (24, 1, 1), (25, 1, 1), (26, 1, 1), (0x40, 2, 0x0101), (0xF0, 1, 1), (0xF4, 4, 0x10000)]

/-- A challenge of SERVICE on SPI has been given, and its right answer. -/
def challenged : State := com.modPort .spi fun p => { p with challenges := [⟨.service, [], 0⟩] }
def worldAnswer : Bytes :=
  (hmac (challenged.key (worldSlot .service)).material
    ([] ++ [byte World.service.code, byte (hd 0).port.code] ++ le 8 serialNum)).take 16
theorem challenge_met : ([⟨.service, [], 0⟩] : List Challenge).find? (fun x => x.world == World.service && Decidable.decide (challenged.time.osc ≤ x.deadline) &&
    worldAnswer == List.take 16 (hmac (challenged.key (worldSlot .service)).material
      (x.value ++ [byte World.service.code, byte (hd 0).port.code] ++ le 8 serialNum))) = some ⟨.service, [], 0⟩ := by
  unfold worldAnswer
  simp
  decide +kernel

def pointKey : KeySlot := { freshKey with type := 5 }

def oneCert : PncChain := ⟨[], [⟨[], [], [], [], 0, 0⟩]⟩

/-- A vehicle in session on bay 31, a contract root, and a cached response for the chain. -/
def certified : State :=
  let s := poke 0x0520 0 [1] (onBay 31 (fun y => { y with ctx := some 255, link := { y.link with link := 3, config := 8 } })
    (onCtx 255 .reserved (some 31) com))
  { s with
    time := { s.time with valid := true }
    creds := { s.creds with cache := [(oneCert, [[]])] } }


/-- The module with every record of bay 31 at a gain of 1 and a scale of 1 000 000. -/
def scaled (s : State) : State :=
  poke 0x045F 0 ((List.range 8).flatMap fun _ => le 4 (2 ^ 30) ++ le 4 0 ++ le 4 1000000 ++ le 4 0) s

def edge (uo : Int) : EdgeWindow := ⟨1000, List.replicate 45 0, List.replicate 45 uo⟩

/-- Bay 31 used, its streams scaled, and one cycle of samples of IRES before the last one. -/
def gauged : State := pokeSafety 0x032F 0 [1] (scaled com)
def fullScale (n : Nat) : List Int := List.replicate n (2 ^ 24)
def galeList : List Int := galeSamples gauged 31 ((2 ^ 24 :: fullScale 2000).take (galeSize gauged))

def closing31 (s : State) : State :=
  onBay 31 (fun y => { y with state := .closing, ctx := some 255, coil := { y.coil with on := true } }) s

/-- A residual self-test of bay 31 whose cycles are over. -/
def tested (vs : List (Int × Nat)) (fails : Nat) (w : Option (Option (BitVec 32 × Nat))) : State :=
  onBay 31 (fun y => { y with
    ctx := some 255
    coil := { y.coil with startWait := w }
    safety := { y.safety with selfTest := { runningTo := some 0, values := vs, failures := fails } } }) com
def goodTest : List (Int × Nat) := [(0, 0), (0, 0), (0, 0), (10000, 0), (10000, 0), (0, 0), (0, 0)]
def badTest : List (Int × Nat) := List.replicate 7 (0, 0)

def permitted (s : State) : State := onBay 31 (fun y => { y with ctx := some 255, safety := { y.safety with permitUntil := some 0 } }) s
def asapEntry : QEntry := { chan := 31, bay := some 31, kind := .close 255, cycle := 0, angle := 0, asap := true }

/-- An image of DISP without a body, and the module that holds the keys of Kolmoend. -/
def goodImage : Bytes :=
  pay 44 [(0, 4, 0x4B474C31), (4, 1, 4), (5, 1, 0x45), (6, 2, 1)] ++ sha256 [] ++ pay 276 []
def kolmoend (s : State) : State :=
  let k : KeySlot := { openKey 6 0x3F with classB := true, engine := 2, worlds := 0, masters := 0 }
  (s.modKey 2 fun _ => k).modKey 1 fun _ => { k with type := 1, usage := 2, material := keyBytes }

/-- That image has arrived from a neighbour. -/
def received : State :=
  let s := kolmoend srv
  { s with images := { s.images with
    transfer := some ⟨some .spi, 1, .disp, 352, goodImage, 0, true, none, some 7⟩ } }

/-- The module with bay 31 on a matched vehicle link. -/
def matched (config : Nat) : State :=
  onBay 31 (fun y => { y with link := { y.link with link := 2, tls := true, config := config } }) (com.modKey 511 fun _ => seccKey)

def linkedMains (n : Neighbour) : State :=
  { poke 0x0501 0 [2] com with mains := { com.mains with neighbours := [n] } }

/-! ### Ill-formed operands are refused -/

theorem test_wellFormed_host_packets :
    Instr.wellFormed (.ping { hd 0 with version := 256 } []) = false ∧ Instr.wellFormed (.ping (hd 256) []) = false ∧
    Instr.wellFormed (.ping { hd 0 with flags := 128 } []) = false ∧ Instr.wellFormed (.ping { hd 0 with tag := 65536 } []) = false ∧
    Instr.wellFormed (.ping (hd 0) (List.replicate 4085 0)) = false ∧ Instr.wellFormed (.ping (hd 255) (List.replicate 4084 0)) = true ∧
    Instr.wellFormed (.hostPacketDiscarded .spi true 256 0 0) = false ∧ Instr.wellFormed (.hostPacketDiscarded .spi true 0 65536 0) = false ∧
    Instr.wellFormed (.hostPacketDiscarded .spi true 0 0 65536) = false ∧ Instr.wellFormed (.fragment (hd 0) 65536 0 true []) = false ∧
    Instr.wellFormed (.fragment (hd 0) 0 65536 true []) = false ∧ Instr.wellFormed (.spiTransaction 65536 false) = false := by decide +kernel

theorem test_wellFormed_units :
    Instr.wellFormed (.pulseEnd 5) = false ∧ Instr.wellFormed (.streamFault 260) = false ∧ Instr.wellFormed (.galeTripRelease 32 ⟨true, []⟩) = false ∧
    Instr.wellFormed (.heartbeat 2) = false ∧ Instr.wellFormed (.safeOutReadback 4 true true) = false ∧
    Instr.wellFormed (.peerConnectionLost 8) = false ∧ Instr.wellFormed (.feederOverloadTrip 4) = false ∧
    Instr.wellFormed (.dspShunt 10 .ecc) = false ∧ Instr.wellFormed (.regulatorPhaseLost 256) = false ∧
    Instr.wellFormed (.recordSign 256) = false ∧ Instr.wellFormed (.pollComplete 4) = false ∧ Instr.wellFormed (.short ⟨112, 0, 0⟩) = false ∧
    Instr.wellFormed (.vloadRecovery ⟨14, 0, 0⟩) = false ∧ Instr.wellFormed (.wakeSource 5) = false ∧ Instr.wellFormed (.wakeSource 16) = true ∧
    Instr.wellFormed (.perfWindowEnd 64) = false ∧ Instr.wellFormed (.greenPhyFrame 33 [] true {}) = false ∧
    Instr.wellFormed (.greenPhyFrame 32 [] true {}) = true := by decide +kernel

theorem test_wellFormed_contents :
    Instr.wellFormed (.cycleBoundary (2 ^ 32) 0) = false ∧
    Instr.wellFormed (.cycleBoundary 0 32768) = false ∧ Instr.wellFormed (.cycleBoundary 0 (-32769)) = false ∧
    Instr.wellFormed (.converterStatus 2 0 (List.replicate 16 0)) = false ∧ Instr.wellFormed (.isoMonitor 0 32 (List.replicate 16 0)) = false ∧
    Instr.wellFormed (.capability 0 0 (List.replicate 15 0)) = false ∧ Instr.wellFormed (.safetyFrameReceived true (List.replicate 59 0)) = false ∧
    Instr.wellFormed (.nandBlockFault 4096 0 .program) = false ∧ Instr.wellFormed (.nandBlockFault 0 11 .program) = false ∧
    Instr.wellFormed (.cardFound 0 .iso15693 (List.replicate 17 0)) = false ∧
    Instr.wellFormed (.tagExternalAuthenticate (List.replicate 256 0)) = false ∧
    Instr.wellFormed (.tagUpdateBinary 0 0 (List.replicate 256 0)) = false ∧ Instr.wellFormed (.tagReadBinary 0 0 257) = false ∧
    Instr.wellFormed (.groupOverload 0 (List.replicate 7 0)) = false := by decide +kernel

theorem test_wellFormed_samples :
    Instr.wellFormed (.sampleStrobe ⟨List.replicate 259 0, 0, 0⟩) = false ∧
    Instr.wellFormed (.sampleStrobe ⟨List.replicate 260 (2 ^ 15870), 0, 0⟩) = false ∧
    Instr.wellFormed (.sampleStrobe ⟨List.replicate 260 0, 2 ^ 32, 0⟩) = false ∧
    Instr.wellFormed (.sampleStrobe ⟨List.replicate 260 0, 0, 9⟩) = false ∧
    Instr.wellFormed (.galeTrip 0 true (List.replicate 2048 0) 0) = false ∧ Instr.wellFormed (.galeTrip 0 true [] (2 ^ 24 + 1)) = false ∧
    Instr.wellFormed (.closureDetected 0 ⟨0, [0], []⟩) = false ∧ Instr.wellFormed (.releaseDetected 0 ⟨0, [2 ^ 25], [0]⟩) = false ∧
    Instr.wellFormed (.slacParmReq 0 [[0], []]) = false ∧ Instr.wellFormed (.toneMapRefresh 7 (some ⟨[], [], 0⟩)) = false ∧
    Instr.wellFormed (.safetyCoreFailure .sc1 (.differs 32 0 true false)) = false ∧
    Instr.wellFormed (.safetyCoreFailure .sc1 (.differs 0 12 true false)) = false ∧
    Instr.wellFormed (.start { dspOk := [] }) = false ∧ Instr.wellFormed (.start { rtc := 2 ^ 64 }) = false ∧
    Instr.wellFormed (.debugPortAccess (.writeNand 11)) = false := by decide +kernel

/-! ### Worked examples of the manual -/

/-- The check values over "123456789" (R279, R235). -/
theorem test_crc_check_values :
    crc32c (("123456789".toList).map fun c => byte c.toNat) = 0xE3069283 ∧
    crc32 (("123456789".toList).map fun c => byte c.toNat) = 0xCBF43926 := by decide +kernel

/-- Closing a contactor at a chosen angle: the worked examples of R35 and of the session walk-through. -/
theorem test_close_arithmetic :
    usToAu 11500 60000 = 2826 ∧ movePoint 10 1365 (-2826) = (9, 2635) ∧ usToAu 14000 50000 = 2867 ∧
    movePoint 200 0 (-2867) = (199, 1229) := by decide +kernel

/-- A reply of 9 000 bytes travels as two fragments of 4 084 bytes with MF and one of 832 without (R287). -/
theorem test_fragments :
    (replyPackets 0 0x0100 1 false (List.replicate 9000 0)).map (fun p => (p.frag, p.mf, p.payload.length)) =
      [(0, true, 4084), (1, true, 4084), (2, false, 832)] := by decide +kernel

/-- The group budget while a lamp of 1 000 mA has its inrush: 21 000 mA, in halves of a milliampere (worked example after R395). -/
theorem test_group_budget :
    groupBudget ((poke 0x0262 0 [1, 0, 0xE8, 0x03] com).modChan 98 fun c => { c with out := true, inrush := true }) 12 = 42000 := by decide +kernel

/-! ### Single steps -/

/-- The block runs the command in front and leaves the next one waiting. PING from HOST answers status OK. -/
theorem test_ping_answers :
    (match step { com with pending := [.ping (hd 0) [], .halfCycleTick] } with
      | .next t => (t.pending, t.spi.txQueue.map fun p => (p.op, p.tag, p.payload.take 2))
      | _ => ([], [])) = ([.halfCycleTick], [(0x0100, 1, [0, 0])]) := by decide +kernel

/-- UPDATE_BEGIN from HOST is refused with ERR_WORLD, and its tag is not outstanding afterwards. -/
theorem test_world_is_checked :
    (match exec (.updateBegin (hd 0) (pay 8 [(4, 4, 1)])) com with
      | .next t => (t.spi.outstanding, t.spi.txQueue.map (·.payload), t.images.transfer)
      | _ => ([], [], none)) = ([], [le 2 errWorld], none) := by decide +kernel

/-- An event of a channel that the module does not have stops. -/
theorem test_no_such_channel : exec (.short ⟨112, 0, 0⟩) com = .fault (.noSuchUnit "channel" 112) := by rfl

/-- With no command waiting one microsecond passes. -/
theorem test_idle_step : (match step com with | .next t => t.time.osc | _ => 0) = 1 := by decide +kernel


/-! ### Hypotheses that can be met -/

/-- States and operands that meet the hypotheses of each clause of `SystemQueriesAnswer`. -/
theorem witness_SystemQueriesAnswer :
    (∃ (h : Hdr) (pl : Bytes) (s : State), Accepted cmdPing h pl s) ∧
    (∃ (h : Hdr) (pl : Bytes) (s : State), Accepted cmdGetIdentity h pl s) ∧
    (∃ (h : Hdr) (pl : Bytes) (s : State), Accepted cmdGetStatus h pl s) ∧
    (∃ (h : Hdr) (pl : Bytes) (s : State), Accepted cmdGetHealth h pl s) ∧
    (∃ (h : Hdr) (pl : Bytes) (s : State), Accepted cmdGetTime h pl s) := by
  refine ⟨⟨hd 0, [], com, ?_⟩,
    ⟨hd 0, [], com, ?_⟩,
    ⟨hd 0, [], com, ?_⟩,
    ⟨hd 0, [], com, ?_⟩,
    ⟨hd 0, [], com, ?_⟩⟩
  all_goals (unfold Accepted; decide +kernel)

/-- States and operands that meet the hypotheses of each clause of `WorldsOpenAndClose`. -/
theorem witness_WorldsOpenAndClose :
    (∃ (h : Hdr) (pl : Bytes) (s : State) (w : World), w ≠ World.host ∧ Accepted cmdOpenWorld h pl s ∧ fld pl 1 1 = w.code ∧
      ((s.port h.port).lockouts.getD w.code none = none ∨ s.dueOpt ((s.port h.port).lockouts.getD w.code none) = true) ∧
      keyFailure s (worldSlot w) [1, 2] 3 (Requester.command h.port w.code) = none ∧ fld pl 0 1 = 0) ∧
    (∃ (h : Hdr) (pl : Bytes) (s : State) (w : World) (ch : Challenge), w ≠ World.host ∧ Accepted cmdOpenWorld h pl s ∧ fld
      pl 1 1 = w.code ∧ ((s.port h.port).lockouts.getD w.code none = none ∨ s.dueOpt ((s.port h.port).lockouts.getD w.code
      none) = true) ∧ keyFailure s (worldSlot w) [1, 2] 3 (Requester.command h.port w.code) = none ∧ fld pl 0 1 = 1 ∧
      List.find? (fun x => x.world == w && Decidable.decide (s.time.osc ≤ x.deadline) && slice pl 4 16 == List.take 16 (hmac
      (s.key (worldSlot w)).material (x.value ++ [byte w.code, byte h.port.code] ++ le 8 serialNum))) (s.port
      h.port).challenges = some ch) ∧
    (∃ (h : Hdr) (pl : Bytes) (s : State) (w : World), w ≠ World.host ∧ Accepted cmdOpenWorld h pl s ∧ fld pl 1 1 = w.code ∧
      ((s.port h.port).lockouts.getD w.code none = none ∨ s.dueOpt ((s.port h.port).lockouts.getD w.code none) = true) ∧
      keyFailure s (worldSlot w) [1, 2] 3 (Requester.command h.port w.code) = none ∧ fld pl 0 1 = 1 ∧ List.find? (fun x =>
      x.world == w && Decidable.decide (s.time.osc ≤ x.deadline) && slice pl 4 16 == List.take 16 (hmac (s.key (worldSlot
      w)).material (x.value ++ [byte w.code, byte h.port.code] ++ le 8 serialNum))) (s.port h.port).challenges = none) ∧
    (∃ (h : Hdr) (pl : Bytes) (s : State) (w : World), w ≠ World.host ∧ Accepted cmdCloseWorld h pl s) ∧
    (∃ (h : Hdr) (pl : Bytes) (s : State) (w : World) (p : HostPort), w ≠ World.host ∧ (s.port p).world ≠ World.host ∧
      (s.port p).worldIdle ≤ s.time.osc) ∧
    (∃ (h : Hdr) (pl : Bytes) (s : State) (w : World) (p : HostPort), w ≠ World.host ∧ s.dueOpt ((s.port p).lockouts.getD
      w.code none) = true) := by
  refine ⟨⟨hd 0, pay 4 [(1, 1, 1)], com, .service, ?_⟩,
    ⟨hd 0, pay 4 [(0, 1, 1), (1, 1, 1)] ++ worldAnswer, challenged, .service, ⟨.service, [], 0⟩, ?_⟩,
    ⟨hd 0, pay 20 [(0, 1, 1), (1, 1, 1)], com, .service, ?_⟩,
    ⟨hd 0, [], com, .service, ?_⟩,
    ⟨hd 0, [], srv, .legal, .spi, ?_⟩,
    ⟨hd 0, [], com.modPort .uart fun p => { p with lockouts := [none, some 0, none, none] }, .service, .uart, ?_⟩⟩
  · unfold Accepted; decide +kernel
  · exact ⟨(by decide +kernel), (by unfold Accepted; decide +kernel), (by decide +kernel), (by decide +kernel),
      (by decide +kernel), (by decide +kernel),
      (by have e : slice (pay 4 [(0, 1, 1), (1, 1, 1)] ++ worldAnswer) 4 16 = worldAnswer := (by unfold slice; rw [List.drop_left' (by decide +kernel)]; unfold worldAnswer; rw [List.take_take, Nat.min_self]); rw [e]; exact challenge_met)⟩
  · unfold Accepted; decide +kernel
  · unfold Accepted; decide +kernel
  · decide +kernel
  · decide +kernel

/-- States and operands that meet the hypotheses of each clause of `ParametersReadAndWritten`. -/
theorem witness_ParametersReadAndWritten :
    (∃ (h : Hdr) (pl : Bytes) (s : State) (l : Layout) (bs : Bytes), Accepted cmdGetParam h pl s ∧ fld pl 2 1 = 0 ∧ layout
      (fld pl 0 2) = some l ∧ objectSlice (objectBytes s (fld pl 0 2)) (fld pl 4 2) (fld pl 6 2) = some bs) ∧
    (∃ (h : Hdr) (pl : Bytes) (s : State) (l : Layout) (new : Bytes), Accepted cmdSetParam h pl s ∧ layout (fld pl 0 2) =
      some l ∧ isSafetyObj (fld pl 0 2) = false ∧ isLegalObj (fld pl 0 2) = false ∧ inBlock (fld pl 0 2) 1344 32 = false ∧ fld
      pl 0 2 ≠ 33 ∧ fld pl 0 2 ≠ 39 ∧ (writeWorlds (fld pl 0 2)).contains h.world = true ∧ fld pl 2 2 + (List.length pl - 8) ≤
      l.size ∧ overlay (stageBase s h.port (fld pl 0 2)) (fld pl 2 2) (List.drop 8 pl) = new ∧ objectOk l (stageBase s h.port
      (fld pl 0 2)) new = true ∧ ((stagedOf (s.port h.port) (fld pl 0 2)).isSome = true ∨ (s.port h.port).staging.length <
      64)) ∧
    (∃ (h : Hdr) (pl : Bytes) (s : State), Accepted cmdCommitParams h pl s ∧ fld pl 0 1 = 0 ∧ (∀ g ∈ (s.port
      h.port).staging, commitRefusal s (callOf cmdCommitParams h) g = none) ∧ ((s.port h.port).staging = [] ∨ s.takesWrites
      paramPartition = true)) ∧
    (∃ (h : Hdr) (pl : Bytes) (s : State), Accepted cmdCommitParams h pl s ∧ fld pl 0 1 = 0 ∧ (∀ g ∈ (s.port
      h.port).staging, commitRefusal s (callOf cmdCommitParams h) g = none) ∧ (s.port h.port).staging ≠ [] ∧ s.takesWrites
      paramPartition = false) := by
  refine ⟨⟨hd 0, pay 8 [(0, 2, 0x0020), (4, 2, 7), (6, 2, 1)], com, pclkConfigLayout, [0], ?_⟩,
    ⟨hd 0, pay 8 [(0, 2, 0x0020), (4, 2, 4)] ++ le 4 65000, com, pclkConfigLayout, le 4 65000 ++ le 4 230000, ?_⟩,
    ⟨hd 0, pay 4 [], com, ?_⟩,
    ⟨hd 0, pay 4 [],
      { com.modPort .spi fun p => { p with staging := [⟨0x0020, 0, le 4 65000 ++ le 4 230000⟩] } with cont := { com.cont with nandFailed := List.range 16 } },
      ?_⟩⟩
  all_goals (unfold Accepted; decide +kernel)

/-- States and operands that meet the hypotheses of each clause of `ModuleTimeSet`. -/
theorem witness_ModuleTimeSet :
    (∃ (h : Hdr) (pl : Bytes) (s : State), Accepted cmdSetTime h pl s ∧ s.time.valid = true ∧ ((fld pl 0 8 : Int) -
      s.time.now).natAbs ≤ 9000000) ∧
    (∃ (h : Hdr) (pl : Bytes) (s : State), Accepted cmdSetTime h pl s ∧ 9000000 < ((fld pl 0 8 : Int) - s.time.now).natAbs ∧
      -3600000000 ≤ (fld pl 0 8 : Int) - s.time.now ∧ s.legal.logbook.length < 4096 ∧ h.world = 2) ∧
    (∃ (h : Hdr) (pl : Bytes) (s : State), Accepted cmdAdjustTime h pl s ∧ (signed 32 (fld pl 0 4)).natAbs ≤ 9000000) := by
  refine ⟨⟨hd 0, le 8 9000000, { com with time := { com.time with valid := true } }, ?_⟩,
    ⟨hd 2, le 8 9000001, inLife .commissioned .legal, ?_⟩,
    ⟨hd 0, le 4 9000000, com, ?_⟩⟩
  all_goals (unfold Accepted; decide +kernel)

/-- States and operands that meet the hypotheses of each clause of `BayCommandsSettle`. -/
theorem witness_BayCommandsSettle :
    (∃ (h : Hdr) (pl : Bytes) (s : State) (b : Nat) (l : Layout) (new : Bytes), b < 32 ∧ fld pl 0 1 = b ∧ Accepted
      cmdBayConfigure h pl s ∧ layout (256 + b) = some l ∧ overlay (stageBase s h.port (256 + b)) 0 (List.drop 4 pl) = new ∧
      List.length pl - 4 ≤ l.size ∧ objectOk l (stageBase s h.port (256 + b)) new = true ∧ ((stagedOf (s.port h.port) (256 +
      b)).isSome = true ∨ (s.port h.port).staging.length < 64)) ∧
    (∃ (h : Hdr) (pl : Bytes) (s : State) (b : Nat), b < 32 ∧ fld pl 0 1 = b ∧ Accepted cmdBayGetState h pl s) ∧
    (∃ (h : Hdr) (pl : Bytes) (s : State) (b : Nat), b < 32 ∧ fld pl 0 1 = b ∧ Accepted cmdBaySetLimit h pl s ∧ (fld pl 4 4
      = 0 ∨ 6000 ≤ fld pl 4 4 ∧ fld pl 4 4 ≤ 80000)) ∧
    (∃ (h : Hdr) (pl : Bytes) (s : State) (b : Nat), b < 32 ∧ fld pl 0 1 = b ∧ Accepted cmdBayUnlock h pl s ∧ mayUnlock s b
      = true) ∧
    (∃ (h : Hdr) (pl : Bytes) (s : State) (b : Nat), b < 32 ∧ fld pl 0 1 = b ∧ Accepted cmdBayTestResidual h pl s ∧ s.kind b
      ≠ 2 ∧ (s.bay b).coil.on = false ∧ (s.bay b).safety.selfTest.runningTo = none) := by
  refine ⟨⟨hd 0, pay 4 [(0, 1, 31)] ++ bayImage 31, com, 31, bayConfigLayout 31, bayImage 31, ?_⟩,
    ⟨hd 0, pay 4 [(0, 1, 31)], com, 31, ?_⟩,
    ⟨hd 0, pay 8 [(0, 1, 31), (4, 4, 80000)], com, 31, ?_⟩,
    ⟨hd 0, [31], com, 31, ?_⟩,
    ⟨hd 0, [31], com, 31, ?_⟩⟩
  all_goals (unfold Accepted; decide +kernel)

/-- States and operands that meet the hypotheses of each clause of `BaysEnableAndDisable`. -/
theorem witness_BaysEnableAndDisable :
    (∃ (h : Hdr) (pl : Bytes) (s : State) (b : Nat), b < 32 ∧ fld pl 0 1 = b ∧ Accepted cmdBayEnable h pl s ∧ ((s.bay
      b).state = BayState.disabled ∨ (s.bay b).state = BayState.fault) ∧ enableRefusal s b = none) ∧
    (∃ (h : Hdr) (pl : Bytes) (s : State) (b : Nat), b < 32 ∧ fld pl 0 1 = b ∧ Accepted cmdBayEnable h pl s ∧ (s.bay
      b).state ≠ BayState.disabled ∧ (s.bay b).state ≠ BayState.fault ∧ (s.bay b).state ≠ BayState.welded) ∧
    (∃ (h : Hdr) (pl : Bytes) (s : State) (b : Nat), b < 32 ∧ fld pl 0 1 = b ∧ Accepted cmdBayDisable h pl s ∧ (s.bay
      b).state ≠ BayState.welded ∧ openNotOver (s.bay b) = false) ∧
    (∃ (h : Hdr) (pl : Bytes) (s : State) (b : Nat) (c : Nat), b < 32 ∧ fld pl 0 1 = b ∧ Accepted cmdBayDisable h pl s ∧
      (s.bay b).state = BayState.energised ∧ (s.bay b).coil.openAt = none ∧ (s.bay b).ctx = some c) ∧
    (∃ (h : Hdr) (pl : Bytes) (s : State) (b : Nat), b < 32 ∧ fld pl 0 1 = b ∧ Accepted cmdConverterConfigure h pl s ∧
      objectInRange convConfigLayout (List.drop 4 pl) = true ∧ (∀ k ∈ convertersOn s b (fieldOf (List.drop 4 pl) 0 1), s.field
      (1344 + k) 8 5 ≠ fieldOf (List.drop 4 pl) 8 5) ∧ (convertersOn s b (fieldOf (List.drop 4 pl) 0 1)).length < 16 ∧ (s.bay
      b).state = BayState.disabled) := by
  refine ⟨⟨hd 0, [31], calibrated, 31, ?_⟩,
    ⟨hd 0, [31], onBay 31 (fun y => { y with state := .idle }) com, 31, ?_⟩,
    ⟨hd 0, [31], com, 31, ?_⟩,
    ⟨hd 0, [31], onBay 31 (fun y => { y with state := .energised, ctx := some 255 }) com, 31, 255, ?_⟩,
    ⟨hd 0, pay 8 [(0, 1, 31), (5, 1, 31)], com, 31, ?_⟩⟩
  all_goals (unfold Accepted; decide +kernel)

/-- States and operands that meet the hypotheses of each clause of `BayInputsTakeEffect`. -/
theorem witness_BayInputsTakeEffect :
    (∃ (s : State) (b : Nat) (pos : Int) (neg : Int) (st : CpState), b < 32 ∧ outputsDriven s = true ∧ (s.bay b).pilot.drive
      ≠ CpoDrive.stateF ∧ cpRead (s.bay b).pilot.drive pos neg = st ∧ (st ≠ (s.bay b).pilot.cp ∨ (s.bay b).pilot.awaitFirst =
      true)) ∧
    (∃ (s : State) (b : Nat) (ohms : Nat), b < 32 ∧ outputsDriven s = true ∧ s.tethered b = false ∧ ppClass ohms ≠ (s.bay
      b).pilot.pp) ∧
    (∃ (s : State) (b : Nat) (chB : Bool) (closed : Bool), b < 32 ∧ outputsDriven s = true ∧ (if chB = true then (s.bay
      b).guards.bClosed else (s.bay b).guards.aClosed) ≠ closed) ∧
    (∃ (s : State) (b : Nat) (t : Nat), b < 32 ∧ outputsDriven s = true ∧ (s.bay b).guards.diffSince = some t ∧ t + 50000 <
      s.time.osc) := by
  refine ⟨⟨onBay 31 (fun y => { y with pilot := { y.pilot with drive := .pwm } }) com, 31, 9000, -12000, .b, ?_⟩,
    ⟨com, 31, 4500, ?_⟩,
    ⟨com, 31, false, true, ?_⟩,
    ⟨onBay 31 (fun y => { y with guards := { y.guards with diffSince := some 0 } }) (late 50001), 31, 0, ?_⟩⟩
  all_goals (decide +kernel)

/-- States and operands that meet the hypotheses of each clause of `BayLocksRun`. -/
theorem witness_BayLocksRun :
    (∃ (s : State) (b : Nat) (d : LockDrive), b < 32 ∧ outputsDriven s = true ∧ (s.bay b).lock.drive = some d ∧ d.locking =
      true ∧ s.time.osc ≤ d.start + 1000 * s.bayField b 112 16) ∧
    (∃ (s : State) (b : Nat) (d : LockDrive), b < 32 ∧ outputsDriven s = true ∧ (s.bay b).lock.drive = some d ∧ d.pulse =
      true ∧ d.locking = true ∧ (s.bay b).lock.locked = false ∧ d.start + 1000 * s.bayField b 96 16 ≤ s.time.osc) ∧
    (∃ (s : State) (b : Nat) (d : LockDrive), b < 32 ∧ outputsDriven s = true ∧ (s.bay b).lock.drive = some d ∧ d.locking =
      true ∧ (s.bay b).lock.locked = false ∧ d.start + 1000 * s.bayField b 112 16 ≤ s.time.osc) ∧
    (∃ (s : State) (b : Nat), b < 32 ∧ outputsDriven s = true ∧ lockWanted s b = false ∧ controlRuns s = true ∧ ((s.bay
      b).lock.locked = true ∨ (s.bay b).lock.held = true) ∧ mayUnlock s b = true) ∧
    (∃ (s : State) (b : Nat), b < 32 ∧ outputsDriven s = true) := by
  refine ⟨⟨onBay 31 (fun y => { y with lock := { y.lock with drive := some ⟨1, true, 0, true⟩ } }) (late 600000), 31,
      ⟨1, true, 0, true⟩, ?_⟩,
    ⟨onBay 31 (fun y => { y with lock := { y.lock with drive := some ⟨1, true, 0, true⟩ } }) (late 300000), 31,
      ⟨1, true, 0, true⟩, ?_⟩,
    ⟨onBay 31 (fun y => { y with lock := { y.lock with drive := some ⟨1, true, 0, true⟩ } }) (late 600000), 31,
      ⟨1, true, 0, true⟩, ?_⟩,
    ⟨onBay 31 (fun y => { y with lock := { y.lock with locked := true } }) com, 31, ?_⟩,
    ⟨com, 31, ?_⟩⟩
  all_goals (decide +kernel)

/-- States and operands that meet the hypotheses of each clause of `ContactorsFollowTheirCoils`. -/
theorem witness_ContactorsFollowTheirCoils :
    (∃ (s : State) (b : Nat) (w : EdgeWindow) (t : Nat), b < 32 ∧ outputsDriven s = true ∧ (s.bay b).state =
      BayState.closing ∧ (s.bay b).coil.on = true ∧ closureAt s b w = some t) ∧
    (∃ (s : State) (b : Nat) (w : EdgeWindow), b < 32 ∧ outputsDriven s = true ∧ closureAt s b w = none) ∧
    (∃ (s : State) (b : Nat) (w : EdgeWindow) (t : Nat) (o : Nat), b < 32 ∧ outputsDriven s = true ∧ (s.bay b).coil.openAt =
      some o ∧ releaseAt s b w = some t) ∧
    (∃ (s : State) (b : Nat) (w : EdgeWindow), b < 32 ∧ outputsDriven s = true ∧ releaseAt s b w = none) ∧
    (∃ (s : State) (b : Nat) (mv : Nat) (t : Nat), b < 32 ∧ outputsDriven s = true ∧ (s.bay b).coil.openAt = some t ∧ mv <
      30000 ∧ s.time.osc ≤ t + 200000) ∧
    (∃ (s : State) (b : Nat) (mv : Nat) (t : Nat), b < 32 ∧ outputsDriven s = true ∧ (s.bay b).coil.openAt = some t ∧ 30000
      ≤ mv ∧ t + 200000 ≤ s.time.osc) ∧
    (∃ (s : State) (b : Nat), b < 32 ∧ outputsDriven s = true ∧ s.kind b ≠ 2 ∧ (s.bay b).coil.on = false ∧ (s.bay
      b).coil.openAt = none ∧ (s.bay b).state ≠ BayState.welded ∧ 200000 ≤ (s.bay b).safety.uoHighUs) ∧
    (∃ (s : State) (b : Nat) (q : QEntry), b < 32 ∧ outputsDriven s = true ∧ nextEntry s = some q) := by
  refine ⟨⟨closing31 (scaled com), 31, edge 0, (closureAt (closing31 (scaled com)) 31 (edge 0)).get (by decide +kernel), ?_⟩,
    ⟨scaled com, 31, edge (2 ^ 24), ?_⟩,
    ⟨onBay 31 (fun y => { y with coil := { y.coil with openAt := some 0 } }) (scaled com), 31, edge (2 ^ 24), 1000, 0, ?_⟩,
    ⟨scaled com, 31, edge 0, ?_⟩,
    ⟨onBay 31 (fun y => { y with coil := { y.coil with openAt := some 0 } }) (late 200000), 31, 29999, 0, ?_⟩,
    ⟨onBay 31 (fun y => { y with coil := { y.coil with openAt := some 0 } }) (late 200000), 31, 30000, 0, ?_⟩,
    ⟨onBay 31 (fun y => { y with safety := { y.safety with uoHighUs := 200000 } }) com, 31, ?_⟩,
    ⟨{ com with queue := [lswEntry] }, 31, lswEntry, ?_⟩⟩
  · exact ⟨(by decide +kernel), (by decide +kernel), (by decide +kernel), (by decide +kernel), (by exact (Option.some_get _).symm)⟩
  · decide +kernel
  · decide +kernel
  · decide +kernel
  · decide +kernel
  · decide +kernel
  · decide +kernel
  · decide +kernel

/-- States and operands that meet the hypotheses of each clause of `ContactorTimersAct`. -/
theorem witness_ContactorTimersAct :
    (∃ (s : State) (b : Nat) (core : SafetyCore) (t : Nat), b < 32 ∧ outputsDriven s = true ∧ coreOk s core = true ∧ (s.bay
      b).safety.selfTest.runningTo = some t ∧ t ≤ s.time.osc ∧ 7 ≤ (s.bay b).safety.selfTest.values.length ∧ selfTestPasses
      (s.bay b).safety.selfTest.values = true) ∧
    (∃ (s : State) (b : Nat) (core : SafetyCore) (t : Nat), b < 32 ∧ outputsDriven s = true ∧ coreOk s core = true ∧ (s.bay
      b).safety.selfTest.runningTo = some t ∧ t ≤ s.time.osc ∧ 7 ≤ (s.bay b).safety.selfTest.values.length ∧ selfTestPasses
      (s.bay b).safety.selfTest.values = false ∧ (s.bay b).safety.selfTest.failures = 0) ∧
    (∃ (s : State) (b : Nat) (core : SafetyCore) (t : Nat) (c : Nat) (p : Option (BitVec 32 × Nat)), b < 32 ∧ outputsDriven
      s = true ∧ coreOk s core = true ∧ (s.bay b).safety.selfTest.runningTo = some t ∧ t ≤ s.time.osc ∧ 7 ≤ (s.bay
      b).safety.selfTest.values.length ∧ selfTestPasses (s.bay b).safety.selfTest.values = false ∧ (s.bay
      b).safety.selfTest.failures ≠ 0 ∧ ((s.bay b).ctx = none ∨ (s.bay b).coil.startWait = none)) ∧
    (∃ (s : State) (b : Nat) (core : SafetyCore) (t : Nat) (c : Nat) (p : Option (BitVec 32 × Nat)), b < 32 ∧ outputsDriven
      s = true ∧ coreOk s core = true ∧ (s.bay b).safety.selfTest.runningTo = some t ∧ t ≤ s.time.osc ∧ 7 ≤ (s.bay
      b).safety.selfTest.values.length ∧ selfTestPasses (s.bay b).safety.selfTest.values = false ∧ (s.bay
      b).safety.selfTest.failures ≠ 0 ∧ (s.bay b).ctx = some c ∧ (s.bay b).coil.startWait = some p) ∧
    (∃ (s : State) (b : Nat) (core : SafetyCore), b < 32 ∧ outputsDriven s = true ∧ (coreOk s core = false ∨ s.dueOpt (s.bay
      b).safety.selfTest.runningTo = false)) ∧
    (∃ (s : State) (b : Nat) (t : Nat), b < 32 ∧ outputsDriven s = true ∧ (s.bay b).safety.permitUntil = some t ∧ t ≤
      s.time.osc ∧ (s.bay b).coil.on = false ∧ (∀ q ∈ s.queue, q.bay = some b → q.asap = false)) ∧
    (∃ (s : State) (b : Nat) (t : Nat) (q : QEntry) (c : Nat), b < 32 ∧ outputsDriven s = true ∧ (s.bay
      b).safety.permitUntil = some t ∧ t ≤ s.time.osc ∧ (s.bay b).coil.on = false ∧ List.find? (fun q => q.bay == some b &&
      q.asap) s.queue = some q ∧ (s.bay b).ctx = some c) ∧
    (∃ (s : State) (b : Nat), b < 32 ∧ outputsDriven s = true ∧ (s.dueOpt (s.bay b).safety.permitUntil = false ∨ (s.bay
      b).coil.on = true)) ∧
    (∃ (s : State) (b : Nat) (t : Nat), b < 32 ∧ outputsDriven s = true ∧ (s.bay b).coil.ua50At = some t ∧ t + 50000 ≤
      s.time.osc ∧ s.kind b = 2 ∧ (s.bay b).state = BayState.closing) ∧
    (∃ (s : State) (b : Nat), b < 32 ∧ outputsDriven s = true ∧ ((s.bay b).coil.ua50At = none ∨ s.kind b ≠ 2 ∨ (s.bay
      b).state ≠ BayState.closing)) ∧
    (∃ (s : State) (b : Nat) (t : Nat) (ma : Int), b < 32 ∧ outputsDriven s = true ∧ (s.bay b).coil.dcOpenAt = some t ∧
      (ma.natAbs < 5000 ∨ t + 1000000 ≤ s.time.osc)) ∧
    (∃ (s : State) (b : Nat) (ma : Int), b < 32 ∧ outputsDriven s = true ∧ (s.bay b).coil.dcOpenAt = none) ∧
    (∃ (s : State) (b : Nat) (t : Nat), b < 32 ∧ outputsDriven s = true ∧ (s.bay b).coil.suspendAt = some t ∧ t ≤ s.time.osc
      ∧ controlRuns s = true) ∧
    (∃ (s : State) (b : Nat), b < 32 ∧ outputsDriven s = true ∧ (s.dueOpt (s.bay b).coil.suspendAt = false ∨ controlRuns s =
      false)) := by
  refine ⟨⟨tested goodTest 0 none, 31, .sc1, 0, ?_⟩,
    ⟨tested badTest 0 none, 31, .sc1, 0, ?_⟩,
    ⟨tested badTest 1 none, 31, .sc1, 0, 0, none, ?_⟩,
    ⟨tested badTest 1 (some none), 31, .sc1, 0, 255, none, ?_⟩,
    ⟨com, 31, .sc1, ?_⟩,
    ⟨permitted com, 31, 0, ?_⟩,
    ⟨permitted { com with queue := [asapEntry] }, 31, 0, asapEntry, 255, ?_⟩,
    ⟨com, 31, ?_⟩,
    ⟨onBay 31 (fun y => { y with state := .closing, coil := { y.coil with ua50At := some 0 } }) (dcBay 31 (late 50000)), 31,
      0, ?_⟩,
    ⟨com, 31, ?_⟩,
    ⟨onBay 31 (fun y => { y with coil := { y.coil with dcOpenAt := some 0 } }) com, 31, 0, -4999, ?_⟩,
    ⟨com, 31, 5000, ?_⟩,
    ⟨onBay 31 (fun y => { y with coil := { y.coil with suspendAt := some 0 } }) com, 31, 0, ?_⟩,
    ⟨com, 31, ?_⟩⟩
  all_goals (decide +kernel)

/-- States and operands that meet the hypotheses of each clause of `ConvertersReport`. -/
theorem witness_ConvertersReport :
    (∃ (s : State) (can : Nat), outputsDriven s = true ∧ can < 2) ∧
    (∃ (s : State) (can : Nat) (node : Nat) (b : Nat) (data : Bytes), outputsDriven s = true ∧ can < 2 ∧ converterBay s can
      node = some b ∧ canValid 4 node ((s.bay b).conv.alive.getD 0 none) data = true) ∧
    (∃ (s : State) (can : Nat) (node : Nat) (b : Nat) (data : Bytes), outputsDriven s = true ∧ can < 2 ∧ converterBay s can
      node = some b ∧ canValid 5 node ((s.bay b).conv.alive.getD 1 none) data = true ∧ fld data 1 1 = 0) ∧
    (∃ (s : State) (can : Nat) (node : Nat) (b : Nat) (data : Bytes), outputsDriven s = true ∧ can < 2 ∧ converterBay s can
      node = some b ∧ canValid 6 node ((s.bay b).conv.alive.getD 2 none) data = true) ∧
    (∃ (s : State) (can : Nat) (node : Nat) (b : Nat) (data : Bytes), outputsDriven s = true ∧ can < 2 ∧ converterBay s can
      node = some b ∧ canValid 7 node ((s.bay b).conv.alive.getD 3 none) data = true ∧ fld data 2 1 = 0) ∧
    (∃ (s : State) (b : Nat) (t : Nat), outputsDriven s = true ∧ b < 32 ∧ s.kind b = 2 ∧ (s.bay b).state ≠ BayState.disabled
      ∧ (s.bay b).state ≠ BayState.fault ∧ (s.bay b).state ≠ BayState.welded ∧ (s.bay b).conv.statusAt = some t ∧ t + 60000 ≤
      s.time.osc) ∧
    (∃ (s : State) (b : Nat) (t : Nat), outputsDriven s = true ∧ b < 32 ∧ s.kind b = 2 ∧ (s.bay b).isEnergised = true ∧
      (s.bay b).conv.isoAt = some t ∧ t + 300000 ≤ s.time.osc) ∧
    (∃ (s : State) (b : Nat) (t : Nat), outputsDriven s = true ∧ b < 32 ∧ (s.bay b).conv.configAt = some t ∧ t + 500000 ≤
      s.time.osc) := by
  refine ⟨⟨com, 1, ?_⟩,
    ⟨dcBay 31 com, 0, 0, 31, canData 4 0 0, ?_⟩,
    ⟨dcBay 31 com, 0, 0, 31, canData 5 0 0, ?_⟩,
    ⟨dcBay 31 com, 0, 0, 31, canData 6 0 0, ?_⟩,
    ⟨dcBay 31 com, 0, 0, 31, canData 7 0 0, ?_⟩,
    ⟨onBay 31 (fun y => { y with state := .idle, conv := { y.conv with statusAt := some 0 } }) (dcBay 31 (late 60000)), 31,
      0, ?_⟩,
    ⟨onBay 31 (fun y => { y with state := .energised, conv := { y.conv with isoAt := some 0 } }) (dcBay 31 (late 300000)),
      31, 0, ?_⟩,
    ⟨onBay 31 (fun y => { y with conv := { y.conv with configAt := some 0 } }) (late 500000), 31, 0, ?_⟩⟩
  all_goals (decide +kernel)

/-- States and operands that meet the hypotheses of each clause of `SessionsOpenAndStart`. -/
theorem witness_SessionsOpenAndStart :
    (∃ (h : Hdr) (pl : Bytes) (s : State) (c : Nat), Accepted cmdCtxOpen h pl s ∧ (fld pl 0 1 < 32 ∨ fld pl 0 1 = 255) ∧ fld
      pl 1 1 ≤ 7 ∧ storeBlocks s = false ∧ freeCtx s = some c) ∧
    (∃ (h : Hdr) (pl : Bytes) (s : State) (c : Nat), Accepted cmdCtxAuthorise h pl s ∧ fld pl 0 1 = c ∧ fld pl 1 1 = 1 ∧ fld
      pl 2 1 ≤ 7 ∧ limitOk (fld pl 4 4) 1000 500000 = true ∧ limitOk (fld pl 8 4) 6000 80000 = true ∧ limitOk (fld pl 12 4) 60
      604800 = true ∧ (s.ctx c).wk.offline = none ∧ (s.ctx c).wk.hostWait = none ∧ (s.ctx c).hd.state = CtxState.reserved) ∧
    (∃ (h : Hdr) (pl : Bytes) (s : State) (c : Nat) (b : Nat), Accepted cmdCtxBind h pl s ∧ fld pl 0 1 = c ∧ fld pl 1 1 = b
      ∧ b < 32 ∧ ((s.ctx c).hd.state = CtxState.reserved ∨ (s.ctx c).hd.state = CtxState.authorised) ∧ (s.ctx c).hd.bay = none
      ∧ ((s.bay b).state = BayState.occupied ∨ (s.bay b).state = BayState.ready) ∧ (s.bay b).ctx = none ∧ (s.bay
      b).meter.underTest = false ∧ (s.bay b).pilot.awaitA = false) ∧
    (∃ (h : Hdr) (pl : Bytes) (s : State) (c : Nat) (b : Nat) (p : ExecPoint), Accepted cmdCtxStart h pl s ∧ fld pl 0 1 = c
      ∧ execPoint (slice pl 8 8) = some p ∧ p.at_ = true ∧ heldByStore s (s.ctx c) = false ∧ (s.ctx c).hd.state =
      CtxState.bound ∧ (s.ctx c).wk.startCmd = none ∧ (s.ctx c).hd.bay = some b ∧ (pointRefusal s (s.coilLsw b) p.cycle
      (issuePoint s b p.cycle p.angle).1 (issuePoint s b p.cycle p.angle).2 !s.isDc b) = none ∧ permits s b = true) := by
  refine ⟨⟨hd 0, pay 12 [(0, 1, 255), (1, 1, 7)], com, 0, ?_⟩,
    ⟨hd 0, pay 20 [(0, 1, 255), (1, 1, 1), (2, 1, 7), (4, 4, 500000), (8, 4, 80000), (12, 4, 604800)],
      onCtx 255 .reserved none com, 255, ?_⟩,
    ⟨hd 0, pay 4 [(0, 1, 255), (1, 1, 31)], onBay 31 (fun y => { y with state := .ready }) (onCtx 255 .authorised none com),
      255, 31, ?_⟩,
    ⟨hd 0, pay 8 [(0, 1, 255)] ++ pay 8 [(0, 4, 2), (7, 1, 0x80)], startable, 255, 31, ⟨true, 2, 0⟩, ?_⟩⟩
  all_goals (unfold Accepted; decide +kernel)

/-- States and operands that meet the hypotheses of each clause of `SessionsPauseAndEnd`. -/
theorem witness_SessionsPauseAndEnd :
    (∃ (h : Hdr) (pl : Bytes) (s : State) (c : Nat), c < 256 ∧ fld pl 0 1 = c ∧ Accepted cmdCtxSuspend h pl s ∧ ((s.ctx
      c).hd.state = CtxState.bound ∨ (s.ctx c).hd.state = CtxState.energising ∨ (s.ctx c).hd.state = CtxState.charging ∨
      (s.ctx c).hd.state = CtxState.suspendedEv)) ∧
    (∃ (h : Hdr) (pl : Bytes) (s : State) (c : Nat) (b : Nat), c < 256 ∧ fld pl 0 1 = c ∧ Accepted cmdCtxResume h pl s ∧
      (s.ctx c).hd.state = CtxState.suspendedEvse ∧ (s.ctx c).hd.bay = some b ∧ (s.bay b).state = BayState.ready ∧ heldByStore
      s (s.ctx c) = false) ∧
    (∃ (h : Hdr) (pl : Bytes) (s : State) (c : Nat) (b : Nat), c < 256 ∧ fld pl 0 1 = c ∧ Accepted cmdCtxResume h pl s ∧
      (s.ctx c).hd.state = CtxState.suspendedEvse ∧ (s.ctx c).hd.bay = some b ∧ ((s.bay b).state ≠ BayState.ready ∨
      heldByStore s (s.ctx c) = true)) ∧
    (∃ (h : Hdr) (pl : Bytes) (s : State) (c : Nat), c < 256 ∧ fld pl 0 1 = c ∧ Accepted cmdCtxStop h pl s ∧ (s.ctx
      c).hd.state ≠ CtxState.free ∧ (s.ctx c).hd.state ≠ CtxState.finishing ∧ (s.ctx c).hd.state ≠ CtxState.closed) ∧
    (∃ (h : Hdr) (pl : Bytes) (s : State) (c : Nat), c < 256 ∧ fld pl 0 1 = c ∧ Accepted cmdCtxRelease h pl s ∧ unstarted
      (s.ctx c).hd.state = true) ∧
    (∃ (h : Hdr) (pl : Bytes) (s : State) (c : Nat), c < 256 ∧ fld pl 0 1 = c ∧ Accepted cmdCtxAckRecord h pl s ∧ (s.ctx
      c).hd.state = CtxState.closed ∧ fld pl 4 4 = (s.ctx c).hd.seq) ∧
    (∃ (h : Hdr) (pl : Bytes) (s : State) (c : Nat) (t : Nat), c < 256 ∧ fld pl 0 1 = c ∧ (s.ctx c).wk.chargingAt = some t ∧
      (s.ctx c).hd.timeLimit ≠ 0 ∧ endable (s.ctx c) = true ∧ t + 1000000 * (s.ctx c).hd.timeLimit ≤ s.time.osc) ∧
    (∃ (h : Hdr) (pl : Bytes) (s : State) (c : Nat), c < 256 ∧ fld pl 0 1 = c ∧ (s.ctx c).hd.expiry ≠ 0 ∧ (s.ctx
      c).hd.expiry ≤ s.time.now ∧ unstarted (s.ctx c).hd.state = true ∧ (s.ctx c).wk.energised = false) ∧
    (∃ (h : Hdr) (pl : Bytes) (s : State) (c : Nat) (w : HostWait), c < 256 ∧ fld pl 0 1 = c ∧ (s.ctx c).wk.hostWait = some
      w ∧ w.deadline ≤ s.time.osc ∧ (s.ctx c).hd.state = CtxState.reserved) := by
  refine ⟨⟨hd 0, [255], onCtx 255 .suspendedEv none com, 255, ?_⟩,
    ⟨hd 0, [255], onBay 31 (fun y => { y with state := .ready }) (onCtx 255 .suspendedEvse (some 31) com), 255, 31, ?_⟩,
    ⟨hd 0, [255], onCtx 255 .suspendedEvse (some 31) com, 255, 31, ?_⟩,
    ⟨hd 0, [255], onCtx 255 .charging none com, 255, ?_⟩,
    ⟨hd 0, [255], onCtx 255 .bound none com, 255, ?_⟩,
    ⟨hd 0, pay 8 [(0, 1, 255)], onCtx 255 .closed none com, 255, ?_⟩,
    ⟨hd 0, [255],
      (onCtx 255 .charging none (late 60000000)).modCtx 255 fun x => { hd := { x.hd with timeLimit := 60 }, wk := { x.wk with chargingAt := some 0 } },
      255, 0, ?_⟩,
    ⟨hd 0, [255],
      { (onCtx 255 .bound none com).modCtx 255 fun x => { x with hd := { x.hd with expiry := 1 } } with time := { com.time with now := 1 } },
      255, ?_⟩,
    ⟨hd 0, [255],
      (onCtx 255 .reserved none com).modCtx 255 fun x => { x with wk := { x.wk with hostWait := some ⟨0, 0, 0, []⟩ } }, 255,
      ⟨0, 0, 0, []⟩, ?_⟩⟩
  · unfold Accepted; decide +kernel
  · unfold Accepted; decide +kernel
  · unfold Accepted; decide +kernel
  · unfold Accepted; decide +kernel
  · unfold Accepted; decide +kernel
  · unfold Accepted; decide +kernel
  · decide +kernel
  · decide +kernel
  · decide +kernel

/-- States and operands that meet the hypotheses of each clause of `SessionTermsSetAndRead`. -/
theorem witness_SessionTermsSetAndRead :
    (∃ (h : Hdr) (pl : Bytes) (s : State) (c : Nat), fld pl 0 1 = c ∧ Accepted cmdCtxSetQuota h pl s ∧ fld pl 8 8 ≠ 0 ∧
      limitable (s.ctx c).hd.state = true ∧ (s.ctx c).hd.quota ≠ fld pl 8 8) ∧
    (∃ (h : Hdr) (pl : Bytes) (s : State) (c : Nat), fld pl 0 1 = c ∧ Accepted cmdCtxSetProfile h pl s ∧ 1 ≤ fld pl 1 1 ∧
      fld pl 1 1 ≤ 24 ∧ (∀ k < fld pl 1 1, zeroAt pl (16 + 16 * k) 4 = true) ∧ fld pl 4 4 = 0 ∧ ascending (profilePeriods pl)
      = true ∧ limitable (s.ctx c).hd.state = true) ∧
    (∃ (h : Hdr) (pl : Bytes) (s : State) (c : Nat), fld pl 0 1 = c ∧ Accepted cmdCtxSetPriority h pl s ∧ fld pl 1 1 ≤ 7 ∧
      limitable (s.ctx c).hd.state = true) ∧
    (∃ (h : Hdr) (pl : Bytes) (s : State) (c : Nat), fld pl 0 1 = c ∧ Accepted cmdCtxGet h pl s ∧ (s.ctx c).hd.state ≠
      CtxState.free) ∧
    (∃ (h : Hdr) (pl : Bytes) (s : State) (c : Nat), fld pl 0 1 = c ∧ Accepted cmdCtxList h pl s) := by
  refine ⟨⟨hd 0, pay 16 [(0, 1, 255), (8, 8, 1)], onCtx 255 .charging none com, 255, ?_⟩,
    ⟨hd 0, pay 20 [(0, 1, 255), (1, 1, 1)], onCtx 255 .reserved none com, 255, ?_⟩,
    ⟨hd 0, pay 4 [(0, 1, 255), (1, 1, 7)], onCtx 255 .suspendedEvse none com, 255, ?_⟩,
    ⟨hd 0, [255], onCtx 255 .closed none com, 255, ?_⟩,
    ⟨hd 0, pay 4 [], com, 0, ?_⟩⟩
  all_goals (unfold Accepted; decide +kernel)

/-- States and operands that meet the hypotheses of each clause of `SiteLimitsArriveAndLapse`. -/
theorem witness_SiteLimitsArriveAndLapse :
    (∃ (h : Hdr) (pl : Bytes) (s : State), Accepted cmdSiteSetBudget h pl s ∧ s.time.now < fld pl 0 8) ∧
    (∃ (h : Hdr) (pl : Bytes) (s : State), Accepted cmdSiteGetAllocation h pl s) ∧
    (∃ (h : Hdr) (pl : Bytes) (s : State) (l : Limits) (t : Nat), s.budget.host = some (l, t) ∧ t ≤ s.time.now ∧
      s.budget.hostLapsed = false) ∧
    (∃ (h : Hdr) (pl : Bytes) (s : State) (frame : Bytes) (key : Bytes), linkKey s 3 = some key ∧ linkKey s 2 = some key ∧
      mainsCarries s = true ∧ hostReady s = true ∧ List.length frame = 96 ∧ slice frame 80 16 = List.take 16 (hmac key
      (List.take 80 frame)) ∧ (∀ k ∈ s.budget.curtail, k.origin = fld frame 0 8 → k.seq < fld frame 8 4) ∧ s.time.now < fld
      frame 24 8) ∧
    (∃ (h : Hdr) (pl : Bytes) (s : State) (key : Bytes), siteKey s 2 = some key ∧ siteRole s = 2 ∧ controlRuns s = true ∧
      siteCarries s = true ∧ (∀ (t : Nat), s.budget.sentAt = some t → t + 1000000 ≤ s.time.osc)) ∧
    (∃ (h : Hdr) (pl : Bytes) (s : State) (f : CoordFrame) (key : Bytes) (links : Nat) (u : State), siteKey s 3 = some key ∧
      siteRole s = 1 ∧ controlRuns s = true ∧ siteCarries s = true ∧ f.siteId = s.field 1296 128 32 ∧ f.sender = s.field 1296
      32 64 ∧ f.mac = Config.coordMac key f.sender f.siteId f.validUntil (limitList f.limits) ∧ s.time.now < f.validUntil ∧
      (siteLinks s = 4 ∧ links = 4 ∧ u = countSite 16 4 s ∨ siteLinks s ≠ 4 ∧ links = 1 + Config.openChoice s.draws % 3 ∧ u =
      countSite 16 links { s with draws := s.draws + 1 })) ∧
    (∃ (h : Hdr) (pl : Bytes) (s : State), siteRole s = 1 ∧ controlRuns s = true ∧ s.budget.siteLost = false ∧ (∀ (t : Nat),
      s.budget.siteSeen = some t → t + 3000000 ≤ s.time.osc)) := by
  refine ⟨⟨hd 0, pay 44 [(0, 8, 1)], com, ?_⟩,
    ⟨hd 0, [], com, ?_⟩,
    ⟨hd 0, [], { com with budget := { com.budget with host := some (⟨0, [], []⟩, 0) } }, ⟨0, [], []⟩, 0, ?_⟩,
    ⟨hd 0, [], { linked with mains := { linked.mains with link := 2 } }, curtFrame, keyBytes, ?_⟩,
    ⟨hd 0, [], siteAs 2 com, keyBytes, ?_⟩,
    ⟨hd 0, [], siteAs 1 com, ⟨0, 0, ⟨0, [], []⟩, 1, Config.coordMac keyBytes 0 0 1 (limitList ⟨0, [], []⟩)⟩, keyBytes,
      1 + Config.openChoice (siteAs 1 com).draws % 3,
      countSite 16 (1 + Config.openChoice (siteAs 1 com).draws % 3) { siteAs 1 com with draws := (siteAs 1 com).draws + 1 },
      ?_⟩,
    ⟨hd 0, [], siteAs 1 com, ?_⟩⟩
  · unfold Accepted; decide +kernel
  · unfold Accepted; decide +kernel
  · decide +kernel
  · decide +kernel
  · exact ⟨(by decide +kernel), (by decide +kernel), (by decide +kernel), (by decide +kernel), (by intro t h; cases h)⟩
  · exact ⟨(by decide +kernel), (by decide +kernel), (by decide +kernel), (by decide +kernel), (by decide +kernel),
      (by decide +kernel), rfl, (by decide +kernel), (by exact Or.inr ⟨by decide +kernel, rfl, rfl⟩)⟩
  · exact ⟨(by decide +kernel), (by decide +kernel), (by decide +kernel), (by intro t h; cases h)⟩

/-- States and operands that meet the hypotheses of each clause of `AllocatorRuns`. -/
theorem witness_AllocatorRuns :
    (∃ (s : State), controlRuns s = true ∧ (s.budget.dirty = true ∨ s.time.now / 1000000 ≠ s.budget.lastSecond ∨
      s.budget.used ≠ some (limitsInForce s))) ∧
    (∃ (s : State) (gs : List Grant), controlRuns s = true ∧ s.budget.next = some gs ∧ s.budget.nextCycle ≠
      s.clk.cycle.toNat) ∧
    (∃ (s : State) (c : Nat) (b : Nat), controlRuns s = true ∧ c < 256 ∧ (s.ctx c).hd.bay = some b) := by
  refine ⟨⟨{ com with budget := { com.budget with dirty := true } }, ?_⟩,
    ⟨{ com with budget := { com.budget with next := some [], nextCycle := 1 } }, [], ?_⟩,
    ⟨com.modCtx 255 fun x => { x with hd := { x.hd with bay := some 31 } }, 255, 31, ?_⟩⟩
  all_goals (decide +kernel)

/-- States and operands that meet the hypotheses of each clause of `ClockChangesState`. -/
theorem witness_ClockChangesState :
    (∃ (s : State) (cause : LossCause), clockRuns s = true ∧ lossHolds cause s = true ∧ s.clk.state = ClkState.locked) ∧
    (∃ (s : State) (cause : LossCause), clockRuns s = true ∧ lossHolds cause s = true ∧ s.clk.state = ClkState.acquire) ∧
    (∃ (s : State), clockRuns s = true ∧ 4 ≤ s.clk.goodCycles ∧ (s.clk.state = ClkState.holdover ∨ s.clk.state =
      ClkState.deadReckon)) ∧
    (∃ (s : State), clockRuns s = true ∧ 8 ≤ s.clk.pullInCycles ∧ s.clk.state = ClkState.acquire ∧ s.clk.transition = none ∧
      s.clk.angle = 0) ∧
    (∃ (s : State) (c : BitVec 32), clockRuns s = true ∧ s.clk.state = ClkState.acquire ∧ s.clk.transition = some c ∧
      s.clk.cycle = c + 1) ∧
    (∃ (s : State), clockRuns s = true ∧ 10 ≤ s.clk.holdCycles ∧ s.clk.state = ClkState.holdover) := by
  refine ⟨⟨{ com with clk := { com.clk with state := .locked, lossVoltage := 2 } }, .voltage, ?_⟩,
    ⟨{ com with clk := { com.clk with state := .acquire, refFault := true } }, .streamFault, ?_⟩,
    ⟨{ com with clk := { com.clk with goodCycles := 4 } }, ?_⟩,
    ⟨{ com with clk := { com.clk with state := .acquire, pullInCycles := 8 } }, ?_⟩,
    ⟨{ com with clk := { com.clk with state := .acquire, transition := some 1, cycle := 2 } }, 1, ?_⟩,
    ⟨{ com with clk := { com.clk with state := .holdover, holdCycles := 10 } }, ?_⟩⟩
  all_goals (decide +kernel)

/-- States and operands that meet the hypotheses of each clause of `CyclesRun`. -/
theorem witness_CyclesRun :
    (∃ (s : State) (x : StrobeInput), metersRun s = true ∧ s.met.strobes.length < 128 ∧ (32 * s.met.strobes.length ≤
      s.clk.angle ∨ s.clk.state = ClkState.acquire ∧ s.clk.transition = some s.clk.cycle)) ∧
    (∃ (s : State) (k : Nat), k < 5 ∧ (s.met.pulses.getD k { }).high = true ∧ (s.met.pulses.getD k { }).endAt ≤ s.time.osc) ∧
    (∃ (s : State) (f : Nat) (e : Int), clockRuns s = true ∧ boundaryDue s.clk = true ∧ (metersRun s = true → s.met.whole =
      true → s.met.strobes.length = 128)) ∧
    (∃ (s : State), s.met.harm.ended = true ∧ s.met.harm.cycles = 0) ∧
    (∃ (s : State), s.met.harm.ended = true ∧ 0 < s.met.harm.cycles) ∧
    (∃ (s : State), s.power.state ≠ PowerState.standby ∧ 2048 ≤ s.clk.angle ∧ s.clk.halfDone = false) ∧
    (∃ (s : State), s.power.state ≠ PowerState.standby ∧ (s.clk.angle < 2048 ∨ s.clk.halfDone = true)) ∧
    (∃ (s : State), s.power.state = PowerState.standby) := by
  refine ⟨⟨com, ⟨[], 0, 0⟩, ?_⟩,
    ⟨{ com with met := { com.met with pulses := List.replicate 5 { high := true } } }, 4, ?_⟩,
    ⟨{ { com with clk := { com.clk with angle := 4095 } } with met := { com.met with strobes := List.replicate 128 [] } },
      50000, 0, ?_⟩,
    ⟨{ com with met := { com.met with harm := { ended := true } } }, ?_⟩,
    ⟨{ com with met := { com.met with harm := { ended := true, cycles := 1 } } }, ?_⟩,
    ⟨{ com with clk := { com.clk with angle := 2048 } }, ?_⟩,
    ⟨{ com with clk := { com.clk with angle := 2047 } }, ?_⟩,
    ⟨{ com with power := { com.power with state := .standby } }, ?_⟩⟩
  all_goals (decide +kernel)

/-- States and operands that meet the hypotheses of each clause of `BoundariesTakeEffect`. -/
theorem witness_BoundariesTakeEffect :
    (∃ (s : State), metersRun s = true ∧ s.intervals.closed = false ∧ intervalEnd s ≤ s.clk.cycleStart) ∧
    (∃ (s : State), metersRun s = true ∧ isSliding s = true ∧ s.intervals.closed = false ∧ s.intervals.subStart + subUs s ≤
      s.clk.cycleStart) ∧
    (∃ (s : State), metersRun s = true ∧ s.legal.storedAt + 900000000 ≤ s.time.osc) ∧
    (∃ (s : State) (p : ClockStep), s.time.step = some p ∧ s.intervals.closed = false) ∧
    (∃ (s : State), metersRun s = true) ∧
    (∃ (s : State) (c : Bytes), s.cals.pending = [c] ∧ activateAt c ≤ s.clk.cycleStart) := by
  refine ⟨⟨{ com with clk := { com.clk with cycleStart := 900000000 } }, ?_⟩,
    ⟨poke 0x0404 1 [1] ({ com with clk := { com.clk with cycleStart := 300000000 } }), ?_⟩,
    ⟨late 900000000, ?_⟩,
    ⟨{ com with time := { com.time with step := some ⟨0, 0, 0, 0⟩ } }, ⟨0, 0, 0, 0⟩, ?_⟩,
    ⟨com, ?_⟩,
    ⟨{ com with cals := { com.cals with pending := [[]] } }, [], ?_⟩⟩
  all_goals (decide +kernel)

/-- States and operands that meet the hypotheses of each clause of `BillingCommandsAnswer`. -/
theorem witness_BillingCommandsAnswer :
    (∃ (h : Hdr) (pl : Bytes) (s : State), Accepted cmdTariffLoadCalendar h pl s ∧ calendarOk pl = true ∧ s.time.now +
      1000000 ≤ activateAt pl ∧ (∀ c ∈ s.cals.pending, activateAt c ≠ activateAt pl) ∧ s.cals.pending.length < 3) ∧
    (∃ (h : Hdr) (pl : Bytes) (s : State) (c : Bytes), Accepted cmdTariffGet h pl s ∧ fld pl 0 1 ≤ 3 ∧ (if fld pl 0 1 = 0
      then s.cals.active else s.cals.pending[fld pl 0 1 - 1]?) = some c) ∧
    (∃ (h : Hdr) (pl : Bytes) (s : State) (c : Bytes), Accepted cmdTariffCancelPending h pl s ∧ List.find? (fun c => calId c
      == fld pl 0 4 && activateAt c == fld pl 8 8) s.cals.pending = some c ∧ 1000000000 ≤ (activateAt c - s.time.now) *
      s.clk.freq) ∧
    (∃ (h : Hdr) (pl : Bytes) (s : State) (newest : ProfileInterval) (oldest : ProfileInterval), Accepted cmdProfileRead h
      pl s ∧ fld pl 0 1 ≤ 32 ∧ 0 < fld pl 2 2 ∧ s.intervals.ring.head? = some newest ∧ s.intervals.ring.getLast? = some oldest
      ∧ oldest.index ≤ fld pl 4 4 ∧ fld pl 4 4 ≤ newest.index) ∧
    (∃ (h : Hdr) (pl : Bytes) (s : State), Accepted cmdProfileConfigure h pl s ∧ objectInRange profileNotifyLayout pl = true
      ∧ s.takesWrites paramPartition = true) ∧
    (∃ (h : Hdr) (pl : Bytes) (s : State), Accepted cmdDemandRead h pl s ∧ fld pl 0 1 ≤ 32) ∧
    (∃ (h : Hdr) (pl : Bytes) (s : State), Accepted cmdLogbookRead h pl s ∧ 0 < fld pl 4 1 ∧ fld pl 4 1 ≤ 31 ∧ fld pl 0 4 <
      s.legal.logbook.length) := by
  refine ⟨⟨hd 0, calendarImage, com, ?_⟩,
    ⟨hd 0, [3], { com with cals := { com.cals with pending := [[], [], []] } }, [], ?_⟩,
    ⟨hd 0, pay 16 [(8, 8, 20000)], { com with cals := { com.cals with pending := [pay 12 [(4, 8, 20000)]] } },
      pay 12 [(4, 8, 20000)], ?_⟩,
    ⟨hd 0, pay 8 [(0, 1, 32), (2, 2, 1), (4, 4, 1)],
      { com with intervals := { com.intervals with ring := [⟨2, []⟩, ⟨1, []⟩] } }, ⟨2, []⟩, ⟨1, []⟩, ?_⟩,
    ⟨hd 0, pay 8 [(4, 1, 1)], com, ?_⟩,
    ⟨hd 0, [32], com, ?_⟩,
    ⟨hd 0, pay 8 [(4, 1, 31)], com, ?_⟩⟩
  all_goals (unfold Accepted; decide +kernel)

/-- States and operands that meet the hypotheses of each clause of `MetersAnswer`. -/
theorem witness_MetersAnswer :
    (∃ (h : Hdr) (pl : Bytes) (s : State), Accepted cmdMeterReadInstant h pl s ∧ fld pl 0 1 ≤ 32) ∧
    (∃ (h : Hdr) (pl : Bytes) (s : State), Accepted cmdMeterReadRegisters h pl s ∧ fld pl 0 1 ≤ 32) ∧
    (∃ (h : Hdr) (pl : Bytes) (s : State) (j : Nat) (k : HarmonicBlock), Accepted cmdMeterReadHarmonics h pl s ∧
      harmonicIndex s (fld pl 0 1) (fld pl 1 1) = some j ∧ s.met.blocks.getD j none = some k) ∧
    (∃ (h : Hdr) (pl : Bytes) (s : State) (l : Layout) (new : Bytes), Accepted cmdPulseAssign h pl s ∧ fld pl 0 1 ≤ 3 ∧
      layout (48 + fld pl 0 1) = some l ∧ (writeWorlds (48 + fld pl 0 1)).contains h.world = true ∧ overlay (stageBase s
      h.port (48 + fld pl 0 1)) 0 (slice pl 4 8) = new ∧ List.length (slice pl 4 8) ≤ l.size ∧ objectOk l (stageBase s h.port
      (48 + fld pl 0 1)) new = true ∧ ((stagedOf (s.port h.port) (48 + fld pl 0 1)).isSome = true ∨ (s.port
      h.port).staging.length < 64)) ∧
    (∃ (h : Hdr) (pl : Bytes) (s : State) (bs : Bytes), Accepted cmdLegalParamRead h pl s ∧ isLegalObj (fld pl 0 2) = true ∧
      objectSlice (s.param (fld pl 0 2)) (fld pl 2 2) (fld pl 4 2) = some bs) := by
  refine ⟨⟨hd 0, [32], com, ?_⟩,
    ⟨hd 0, [32], com, ?_⟩,
    ⟨hd 0, [32, 5], { com with met := { com.met with blocks := List.replicate 195 (some ⟨0, false, false, 0, 0, 0, []⟩) } },
      194, ⟨0, false, false, 0, 0, 0, []⟩, ?_⟩,
    ⟨hd 0, pay 12 [(0, 1, 3), (4, 1, 32), (8, 4, 1000)], com, pulseLayout, pay 8 [(0, 1, 32), (4, 4, 1000)], ?_⟩,
    ⟨hd 0, pay 6 [(0, 2, 0x0404), (2, 2, 3), (4, 2, 1)], com, [0], ?_⟩⟩
  all_goals (unfold Accepted; decide +kernel)

/-- States and operands that meet the hypotheses of each clause of `LegalParametersWritten`. -/
theorem witness_LegalParametersWritten :
    (∃ (h : Hdr) (pl : Bytes) (s : State) (l : Layout) (data : List Byte) (old : Bytes) (new : Bytes), Accepted
      cmdLegalParamWrite h pl s ∧ s.legal.logbook.length < 4096 ∧ 8 ≤ List.length pl ∧ isLegalObj (fld pl 0 2) = true ∧ layout
      (fld pl 0 2) = some l ∧ List.drop 8 pl = data ∧ 0 < data.length ∧ data.length ≤ 32 ∧ fld pl 4 1 = data.length ∧ zeroAt
      pl 5 3 = true ∧ legalContent s (fld pl 0 2) = old ∧ fld pl 2 2 + data.length ≤ List.length old ∧ overlay old (fld pl 2
      2) data = new ∧ objectOk l old new = true ∧ legalRule s (fld pl 0 2) new = none ∧ s.takesWrites legalPartition = true) ∧
    (∃ (h : Hdr) (pl : Bytes) (s : State), metersRun s = true ∧ s.legal.pending ≠ [] ∧ (∀ w ∈ s.legal.pending, w.id ≠ 1028 ∧
      w.id ≠ 1025)) ∧
    (∃ (h : Hdr) (pl : Bytes) (s : State), metersRun s = true ∧ s.intervals.closed = false ∧ (∃ w ∈ s.legal.pending, w.id =
      1028)) := by
  refine ⟨⟨hd 2, pay 8 [(0, 2, 0x0404), (4, 1, 1)] ++ [60], inLife .calibrated .legal, demandConfigLayout, [60],
      pay 4 [(0, 1, 15)], pay 4 [(0, 1, 60)], ?_⟩,
    ⟨hd 2, [], { com with legal := { com.legal with pending := [⟨0x0405, 0, [0]⟩] } }, ?_⟩,
    ⟨hd 2, [], { com with legal := { com.legal with pending := [⟨0x0404, 0, [30]⟩] } }, ?_⟩⟩
  · unfold Accepted; decide +kernel
  · decide +kernel
  · decide +kernel

/-- States and operands that meet the hypotheses of each clause of `MeterChecksRun`. -/
theorem witness_MeterChecksRun :
    (∃ (s : State) (h : Hdr) (pl : Bytes), Accepted cmdMeterSelftest h pl s ∧ maskBays (fld pl 0 4) ≠ [] ∧ s.met.test = none
      ∧ (∀ b ∈ maskBays (fld pl 0 4), (s.bay b).isEnergised = false ∧ (s.bay b).ctx = none ∧ (s.bay b).enabled = false)) ∧
    (∃ (s : State) (t : MeterTest), s.met.test = some t ∧ t.stepEnd ≤ s.time.osc ∧ outputsDriven s = true ∧ t.step < 4 ∧
      t.bays ≠ []) ∧
    (∃ (s : State) (t : MeterTest), s.met.test = some t ∧ t.stepEnd ≤ s.time.osc ∧ outputsDriven s = true ∧ t.step = 5) ∧
    (∃ (s : State) (b : Nat) (k : Nat), b < 32 ∧ k < 8 ∧ metersRun s = true ∧ (usedStreams (s.meterMode b)).contains k =
      true ∧ (s.bay b).meter.faults.getD k false = false) ∧
    (∃ (s : State) (k : Nat), k < 4 ∧ metersRun s = true) ∧
    (∃ (s : State) (b : Nat) (k : Nat), b < 32 ∧ k < 8 ∧ (s.bay b).meter.faults.getD k false = true ∧ 8 ≤ (s.bay
      b).meter.faultClear.getD k 0) ∧
    (∃ (s : State) (k : Nat), k < 4 ∧ 8 ≤ s.met.refClear.getD k 0) := by
  refine ⟨⟨srv, hd 1, le 4 (2 ^ 31), ?_⟩,
    ⟨{ com with met := { com.met with test := some ⟨[31], 3, 0, 0, ⟨.spi, 1, 0⟩⟩ } }, ⟨[31], 3, 0, 0, ⟨.spi, 1, 0⟩⟩, ?_⟩,
    ⟨{ com with met := { com.met with test := some ⟨[31], 5, 0, 0, ⟨.spi, 1, 0⟩⟩ } }, ⟨[31], 5, 0, 0, ⟨.spi, 1, 0⟩⟩, ?_⟩,
    ⟨onBay 31 (fun y => { y with state := .energised }) com, 31, 7, ?_⟩,
    ⟨com, 3, ?_⟩,
    ⟨onBay 31 (fun y => { y with meter := { y.meter with faults := List.replicate 8 true, faultClear := List.replicate 8 8 } }) com,
      31, 7, ?_⟩,
    ⟨{ com with met := { com.met with refClear := List.replicate 4 8 } }, 3, ?_⟩⟩
  · unfold Accepted; decide +kernel
  · decide +kernel
  · decide +kernel
  · decide +kernel
  · decide +kernel
  · decide +kernel
  · decide +kernel

/-- States and operands that meet the hypotheses of each clause of `RecordsSignedAndRead`. -/
theorem witness_RecordsSignedAndRead :
    (∃ (s : State) (c : Nat) (b : Nat), c < 256 ∧ (s.ctx c).hd.bay = some b ∧ (s.ctx c).hd.state = CtxState.finishing ∧
      (s.ctx c).wk.closing.isSome = true ∧ metersRun s = true ∧ keyUsable s (meterSlot b) [3] 2 (Requester.engine 0) = true ∧
      regularUsed s < 8192) ∧
    (∃ (s : State) (c : Nat) (b : Nat), c < 256 ∧ (s.ctx c).hd.bay = some b ∧ (s.ctx c).hd.state = CtxState.finishing ∧
      (s.ctx c).wk.closing.isSome = true ∧ metersRun s = true ∧ keyUsable s (meterSlot b) [3] 2 (Requester.engine 0) = true ∧
      8192 ≤ regularUsed s ∧ reserveUsed (exhaustStore s) < 1024) ∧
    (∃ (s : State) (seq : Nat) (r : RecordSlot), r ∈ s.legal.records ∧ r.seq = seq ∧ r.acked = true ∧ r.free = false ∧
      r.signedAt + s.field 1029 0 16 * 86400000000 ≤ s.time.now) ∧
    (∃ (s : State) (h : Hdr) (pl : Bytes) (r : RecordSlot), Accepted cmdRecordRead h pl s ∧ fld pl 4 1 ≤ 1 ∧ List.find? (fun
      x => x.seq == fld pl 0 4) s.legal.records = some r ∧ (if fld pl 4 1 = 1 then r.ocmf else r.cose) ≠ []) := by
  refine ⟨⟨closedCtx com, 255, 31, ?_⟩,
    ⟨{ closedCtx com with legal := { com.legal with records := List.replicate 8192 ⟨1, 0, 0, 0, true, false, false, [], []⟩ } },
      255, 31, ?_⟩,
    ⟨{ com with legal := { com.legal with records := [⟨7, 0, 0, 0, true, false, false, [], []⟩] } }, 7,
      ⟨7, 0, 0, 0, true, false, false, [], []⟩, ?_⟩,
    ⟨{ com with legal := { com.legal with records := [⟨0, 0, 0, 0, true, false, false, [0], [0]⟩] } }, hd 0,
      pay 8 [(4, 1, 1)], ⟨0, 0, 0, 0, true, false, false, [0], [0]⟩, ?_⟩⟩
  · decide +kernel
  · decide +kernel
  · decide +kernel
  · unfold Accepted; decide +kernel

/-- States and operands that meet the hypotheses of each clause of `CredentialsUpdated`. -/
theorem witness_CredentialsUpdated :
    (∃ (h : Hdr) (pl : Bytes) (s : State) (e : CredEntry), Accepted cmdCredLookup h pl s ∧ 2 ≤ fld pl 0 1 ∧ fld pl 0 1 ≤ 65
      ∧ findCred s (credHash (List.drop 1 pl)) = some e) ∧
    (∃ (h : Hdr) (pl : Bytes) (s : State), Accepted cmdCredStats h pl s) ∧
    (∃ (h : Hdr) (pl : Bytes) (s : State), Accepted cmdCredUpdateBegin h pl s ∧ fld pl 0 4 = s.creds.version ∧ fld pl 4 4 ≤
      1048576 ∧ fld pl 8 1 ≤ 1 ∧ (s.creds.batch = none ∨ fld pl 8 1 = 1)) ∧
    (∃ (h : Hdr) (pl : Bytes) (s : State) (b : CredBatch), Accepted cmdCredUpdateData h pl s ∧ s.creds.batch = some b ∧
      (changesOf pl).length ≤ 203 ∧ fld pl 0 4 = b.staged ∧ (∀ c ∈ changesOf pl, changeReserved c = true)) ∧
    (∃ (h : Hdr) (pl : Bytes) (s : State) (b : CredBatch), Accepted cmdCredUpdateCommit h pl s ∧ s.creds.batch = some b ∧
      b.staged = b.size ∧ s.takesWrites credPartition = true) ∧
    (∃ (h : Hdr) (pl : Bytes) (s : State) (d : CredSet) (v : Nat) (cmd : CmdRef) (l : List (CredSet × Nat × CmdRef)),
      s.creds.commits = (d, v, cmd) :: l) ∧
    (∃ (h : Hdr) (pl : Bytes) (s : State) (b : CredBatch), s.creds.batch = some b ∧ b.deadline ≤ s.time.osc) := by
  refine ⟨⟨hd 0, [2, 0, 0], { com with creds := { com.creds with live := { entries := [⟨credHash [0, 0], true, 0, 0, 0⟩] } } },
      ⟨credHash [0, 0], true, 0, 0, 0⟩, ?_⟩,
    ⟨hd 0, [], com, ?_⟩,
    ⟨hd 0, pay 12 [(4, 4, 1048576), (8, 1, 1)], { com with creds := { com.creds with batch := some ⟨0, 0, {}, 0⟩ } }, ?_⟩,
    ⟨hd 0, pay 8 [], { com with creds := { com.creds with batch := some ⟨0, 0, {}, 0⟩ } }, ⟨0, 0, {}, 0⟩, ?_⟩,
    ⟨hd 0, [], { com with creds := { com.creds with batch := some ⟨0, 0, {}, 0⟩ } }, ⟨0, 0, {}, 0⟩, ?_⟩,
    ⟨hd 0, [], { com with creds := { com.creds with commits := [({}, 0, ⟨.spi, 1, 0⟩)] } }, {}, 0, ⟨.spi, 1, 0⟩, [], ?_⟩,
    ⟨hd 0, [], { com with creds := { com.creds with batch := some ⟨0, 0, {}, 0⟩ } }, ⟨0, 0, {}, 0⟩, ?_⟩⟩
  · unfold Accepted; decide +kernel
  · unfold Accepted; decide +kernel
  · unfold Accepted; decide +kernel
  · unfold Accepted; decide +kernel
  · unfold Accepted; decide +kernel
  · decide +kernel
  · decide +kernel

/-- States and operands that meet the hypotheses of each clause of `PlugAndChargeDecides`. -/
theorem witness_PlugAndChargeDecides :
    (∃ (s : State) (b : Nat) (c : Nat) (chain : PncChain), b < 32 ∧ outputsDriven s = true ∧ (s.bay b).ctx = some c ∧ (s.bay
      b).link.link = 3 ∧ bits (s.bay b).link.config 3 1 = 1 ∧ (s.ctx c).hd.state = CtxState.reserved ∧ (chainOk s chain =
      false ∨ ocspGood s chain (cachedOcsp s chain) = false)) ∧
    (∀ (h : ∀ d, Config.certVerifies [] [] d = true) (h2 : Config.ocspGood [] [] = true) (h3 : Config.ocspProduced [] = 0)
      (h4 : Config.ocspNames [] [] = true), ∃ (s : State) (b : Nat) (c : Nat) (chain : PncChain), b < 32 ∧ outputsDriven s =
      true ∧ (s.bay b).ctx = some c ∧ (s.bay b).link.link = 3 ∧ bits (s.bay b).link.config 3 1 = 1 ∧ (s.ctx c).hd.state =
      CtxState.reserved ∧ chainOk s chain = true ∧ ocspGood s chain (cachedOcsp s chain) = true ∧ ocspMissing s chain
      (cachedOcsp s chain) = []) ∧
    (∀ (h : ∀ d, Config.certVerifies [] [] d = true), ∃ (s : State) (b : Nat) (c : Nat) (chain : PncChain), b < 32 ∧
      outputsDriven s = true ∧ (s.bay b).ctx = some c ∧ (s.bay b).link.link = 3 ∧ bits (s.bay b).link.config 3 1 = 1 ∧ (s.ctx
      c).hd.state = CtxState.reserved ∧ chainOk s chain = true ∧ ocspGood s chain (cachedOcsp s chain) = true ∧ ocspMissing s
      chain (cachedOcsp s chain) ≠ []) ∧
    (∃ (s : State) (h : Hdr) (pl : Bytes) (w : PncWait) (rs : List Bytes), Accepted cmdPncVerify h pl s ∧ (s.ctx (fld pl 0
      1)).hd.state ≠ CtxState.free ∧ (s.ctx (fld pl 0 1)).wk.pnc = some w ∧ (ocspResponses (fld pl 1 1) (List.drop 4 pl)).getD
      [] ++ cachedOcsp s w.chain = rs) := by
  refine ⟨⟨onBay 31 (fun y => { y with ctx := some 255, link := { y.link with link := 3, config := 8 } }) (onCtx 255 .reserved (some 31) com),
      31, 255, ⟨[], []⟩, ?_⟩,
    fun h h2 h3 h4 => ⟨certified, 31, 255, oneCert, ?_⟩,
    fun h => ⟨{ certified with creds := {} }, 31, 255, oneCert, ?_⟩,
    ⟨(onCtx 255 .charging none com).modCtx 255 fun x => { x with wk := { x.wk with pnc := some ⟨⟨[], []⟩⟩ } }, hd 0,
      pay 4 [(0, 1, 255)], ⟨⟨[], []⟩⟩, [], ?_⟩⟩
  · decide +kernel
  · exact ⟨(by decide +kernel), (by decide +kernel), (by decide +kernel), (by decide +kernel), (by decide +kernel),
      (by decide +kernel), (by simp only [chainOk, oneCert, signaturesOk, h]; decide +kernel),
      (by rw [show cachedOcsp certified oneCert = [[]] by decide +kernel]; simp [ocspGood, oneCert, ocspServes, ocspFresh, h2, h3, h4]),
      (by rw [show cachedOcsp certified oneCert = [[]] by decide +kernel]; simp [ocspMissing, oneCert, ocspFresh, h3, h4]; decide +kernel)⟩
  · exact ⟨(by decide +kernel), (by decide +kernel), (by decide +kernel), (by decide +kernel), (by decide +kernel),
      (by decide +kernel), (by simp only [chainOk, oneCert, signaturesOk, h]; decide +kernel), (by decide +kernel),
      (by decide +kernel)⟩
  · unfold Accepted; decide +kernel

/-- States and operands that meet the hypotheses of each clause of `KeysManaged`. -/
theorem witness_KeysManaged :
    (∃ (h : Hdr) (pl : Bytes) (s : State), Accepted cmdKeyList h pl s ∧ fld pl 0 2 ≤ 511) ∧
    (∃ (h : Hdr) (pl : Bytes) (s : State), Accepted cmdKeyGetPublic h pl s ∧ slotBad (fld pl 0 2) = false ∧ (s.key (fld pl 0
      2)).state = KeyState.valid ∧ (eccType (s.key (fld pl 0 2)).type).isSome = true) ∧
    (∃ (h : Hdr) (pl : Bytes) (s : State) (k : KeySlot), Accepted cmdKeyGenerate h pl s ∧ 4 ≤ fld pl 0 2 ∧ slotBad (fld pl 0
      2) = false ∧ isMeterSlot (fld pl 0 2) = false ∧ attributes (slice pl 4 16) = k ∧ attributesOk (slice pl 4 16) = true ∧
      k.type ≠ 5 ∧ k.type ≠ 6 ∧ k.type ≠ 8 ∧ (∀ (w : Nat), fixedWorlds (fld pl 0 2) = some w → k.worlds = w) ∧ (s.key (fld pl
      0 2)).state = KeyState.empty ∧ parentOk s k.parent = true) ∧
    (∀ (h : Config.onCurve 256 (4 :: List.replicate 64 0) = true), ∃ (h : Hdr) (pl : Bytes) (s : State) (k : KeySlot) (curve
      : Nat), Accepted cmdKeyImport h pl s ∧ 4 ≤ fld pl 0 2 ∧ fld pl 0 2 ≠ 5 ∧ slotBad (fld pl 0 2) = false ∧ isMeterSlot (fld
      pl 0 2) = false ∧ attributes (slice pl 8 16) = k ∧ attributesOk (slice pl 8 16) = true ∧ (∀ (w : Nat), fixedWorlds (fld
      pl 0 2) = some w → k.worlds = w) ∧ (s.key (fld pl 0 2)).state = KeyState.empty ∧ parentOk s k.parent = true ∧ eccType
      k.type = some (curve, true) ∧ fld pl 2 2 = 65535 ∧ (List.drop 24 pl).length = pointLength curve ∧ (List.drop 24
      pl).head? = some 4 ∧ Config.onCurve curve (List.drop 24 pl) = true) ∧
    (∀ (h : Config.aesUnwrap keyBytes [0] = some (List.replicate 32 0)), ∃ (h : Hdr) (pl : Bytes) (s : State) (k : KeySlot)
      (m : Bytes), Accepted cmdKeyImport h pl s ∧ 4 ≤ fld pl 0 2 ∧ fld pl 0 2 ≠ 5 ∧ slotBad (fld pl 0 2) = false ∧ isMeterSlot
      (fld pl 0 2) = false ∧ attributes (slice pl 8 16) = k ∧ attributesOk (slice pl 8 16) = true ∧ (∀ (w : Nat), fixedWorlds
      (fld pl 0 2) = some w → k.worlds = w) ∧ (s.key (fld pl 0 2)).state = KeyState.empty ∧ parentOk s k.parent = true ∧ (∀
      (curve : Nat), eccType k.type ≠ some (curve, true)) ∧ slotBad (fld pl 2 2) = false ∧ keyFailure s (fld pl 2 2) [1] 5
      (Requester.command h.port h.world) = none ∧ Config.aesUnwrap (s.key (fld pl 2 2)).material (List.drop 24 pl) = some m ∧
      List.length m = materialLength k.type) ∧
    (∃ (h : Hdr) (pl : Bytes) (s : State) (k : KeySlot), Accepted cmdKeyDerive h pl s ∧ slotBad (fld pl 0 2) = false ∧
      isMeterSlot (fld pl 0 2) = false ∧ attributes (slice pl 4 16) = k ∧ attributesOk (slice pl 4 16) = true ∧ (k.type = 1 ∨
      k.type = 2) ∧ (∀ (w : Nat), fixedWorlds (fld pl 0 2) = some w → k.worlds = w) ∧ (s.key (fld pl 0 2)).state =
      KeyState.empty ∧ k.parent ≠ 1023 ∧ (s.key k.parent).state = KeyState.valid ∧ keyFailure s k.parent [1, 2] 4
      (Requester.command h.port h.world) = none) ∧
    (∃ (h : Hdr) (pl : Bytes) (s : State), Accepted cmdKeyInvalidate h pl s ∧ 4 ≤ fld pl 0 2 ∧ fld pl 0 2 ≠ 5 ∧ slotBad (fld
      pl 0 2) = false ∧ isMeterSlot (fld pl 0 2) = false ∧ (s.key (fld pl 0 2)).state ≠ KeyState.empty) ∧
    (∃ (h : Hdr) (pl : Bytes) (s : State), Accepted cmdAttest h pl s ∧ keyFailure s 7 [1, 2] 2 (Requester.command h.port
      h.world) = none) := by
  refine ⟨⟨hd 0, pay 4 [(0, 2, 511)], com, ?_⟩,
    ⟨hd 0, le 2 511, com.modKey 511 fun k => { k with state := .valid, type := 8 }, ?_⟩,
    ⟨hd 1, le 2 511 ++ le 2 0 ++ slotBytes freshKey, srv, freshKey, ?_⟩,
    fun h => ⟨hd 1, le 2 511 ++ le 2 0xFFFF ++ le 4 0 ++ slotBytes pointKey ++ 4 :: List.replicate 64 0, srv, pointKey, 256, ?_⟩,
    fun h => ⟨hd 1, le 2 511 ++ le 2 510 ++ le 4 0 ++ slotBytes freshKey ++ [0], srv.modKey 510 fun _ => wrapKey, freshKey,
      List.replicate 32 0, ?_⟩,
    ⟨hd 1, le 2 511 ++ le 2 0 ++ slotBytes (childKey 510) ++ [0], srv.modKey 510 fun _ => wrapKey, childKey 510, ?_⟩,
    ⟨hd 1, le 4 511, srv.modKey 511 fun k => { k with state := .orphaned }, ?_⟩,
    ⟨hd 0, List.replicate 16 0, com.modKey 7 fun _ => attestKey, ?_⟩⟩
  · unfold Accepted; decide +kernel
  · unfold Accepted; decide +kernel
  · exact ⟨(by unfold Accepted; decide +kernel), (by decide +kernel), (by decide +kernel), (by decide +kernel),
      (by decide +kernel), (by decide +kernel), (by decide +kernel), (by decide +kernel), (by decide +kernel),
      (by intro w e; rw [show fixedWorlds _ = none by decide +kernel] at e; cases e), (by decide +kernel), (by decide +kernel)⟩
  · exact ⟨(by unfold Accepted; decide +kernel), (by decide +kernel), (by decide +kernel), (by decide +kernel),
      (by decide +kernel), (by decide +kernel), (by decide +kernel),
      (by intro w e; rw [show fixedWorlds _ = none by decide +kernel] at e; cases e), (by decide +kernel),
      (by decide +kernel), (by decide +kernel), (by decide +kernel), (by decide +kernel), (by decide +kernel),
      (by rw [← h]; exact congrArg _ (by decide +kernel))⟩
  · exact ⟨(by unfold Accepted; decide +kernel), (by decide +kernel), (by decide +kernel), (by decide +kernel),
      (by decide +kernel), (by decide +kernel), (by decide +kernel),
      (by intro w e; rw [show fixedWorlds _ = none by decide +kernel] at e; cases e), (by decide +kernel),
      (by decide +kernel), (by intro c e; cases e), (by decide +kernel), (by decide +kernel),
      (by rw [← h]; exact congr (congrArg _ (by decide +kernel)) (by decide +kernel)), (by decide +kernel)⟩
  · exact ⟨(by unfold Accepted; decide +kernel), (by decide +kernel), (by decide +kernel), (by decide +kernel),
      (by decide +kernel), (by decide +kernel),
      (by intro w e; rw [show fixedWorlds _ = none by decide +kernel] at e; cases e), (by decide +kernel),
      (by decide +kernel), (by decide +kernel), (by decide +kernel)⟩
  · unfold Accepted; decide +kernel
  · unfold Accepted; decide +kernel

/-- States and operands that meet the hypotheses of each clause of `LifecycleMoves`. -/
theorem witness_LifecycleMoves :
    (∃ (s : State) (h : Hdr) (pl : Bytes) (new : Lifecycle), Accepted cmdSetLifecycle h pl s ∧ Lifecycle.ofCode (fld pl 0 1)
      = some new ∧ transitionWorld s.life new = some h.world ∧ transitionRefusal s new = none ∧ s.legal.logbook.length < 4096) ∧
    (∃ (s : State) (new : Lifecycle) (w : Nat) (t : State), enterLifecycle new w s = t) ∧
    (∃ (s : State) (new : Lifecycle) (w : Nat) (t : State), enterLifecycle new w s = t ∧ (new = Lifecycle.commissioned ∨ new
      = Lifecycle.retired)) ∧
    (∃ (s : State) (new : Lifecycle) (w : Nat) (t : State), enterLifecycle new w s = t ∧ s.legal.logbook.length < 4096) ∧
    (∃ (s : State), s.life = Lifecycle.blank) ∧
    (∃ (s : State), debugOpenable s = true) ∧
    (∃ (s : State) (c : Bytes), s.power.debugChallenge = some c ∧ debugOpenable s = true ∧ slotFailure s 4 [1, 2] 3 = none) ∧
    (∃ (s : State) (a : Nat), debugAnswers s = true) := by
  refine ⟨⟨inLife .calibrated .legal, hd 2, pay 4 [(0, 1, 3)], .provisioned, ?_⟩,
    ⟨com, .retired, 1, enterLifecycle .retired 1 com, ?_⟩,
    ⟨com, .retired, 1, enterLifecycle .retired 1 com, ?_⟩,
    ⟨com, .retired, 1, enterLifecycle .retired 1 com, ?_⟩,
    ⟨inLife .blank .host, ?_⟩,
    ⟨inLife .provisioned .host, ?_⟩,
    ⟨{ inLife .provisioned .host with power := { com.power with debugChallenge := some [] } }, [], ?_⟩,
    ⟨inLife .blank .host, 0, ?_⟩⟩
  · unfold Accepted; decide +kernel
  · exact (rfl)
  · exact ⟨rfl, (by decide +kernel)⟩
  · exact ⟨rfl, (by decide +kernel)⟩
  · decide +kernel
  · decide +kernel
  · decide +kernel
  · decide +kernel

/-- States and operands that meet the hypotheses of each clause of `SafetyCommandsAnswer`. -/
theorem witness_SafetyCommandsAnswer :
    (∃ (h : Hdr) (pl : Bytes) (s : State), Accepted cmdSafetyGetState h pl s) ∧
    (∃ (h : Hdr) (pl : Bytes) (s : State), Accepted cmdSafetyGetCheck h pl s) ∧
    (∃ (h : Hdr) (pl : Bytes) (s : State) (l : List (Nat × Nat × Bytes)), Accepted cmdSafetyLoadParams h pl s ∧ loadEntries
      (fld pl 0 1) (List.drop 4 pl) = some l ∧ l ≠ [] ∧ (∀ e ∈ l, sizeFits e = true ∧ isSafetyObj e.1 = true ∧ safetyObjOk e.1
      e.2.2 = true) ∧ namedTwice l = false ∧ s.anyEnergised = false) ∧
    (∃ (h : Hdr) (pl : Bytes) (s : State), Accepted cmdSiteSafetyConfigure h pl s ∧ safetyObjOk 770 pl = true ∧
      s.anyEnergised = false) ∧
    (∃ (h : Hdr) (pl : Bytes) (s : State) (l : List (Nat × Nat × Bytes)), s.safety.sc1Block = s.safety.sc2Block) ∧
    (∃ (h : Hdr) (pl : Bytes) (s : State), Accepted cmdSafetyConfirm h pl s ∧ fld pl 0 4 = safetyCheck s.safety.sc1Block ∧
      fld pl 0 4 = safetyCheck s.safety.sc2Block) ∧
    (∃ (h : Hdr) (pl : Bytes) (s : State), Accepted cmdSafetyResetFault h pl s ∧ fld pl 0 1 = 2 ∧ fld pl 1 1 = 0 ∧
      s.safety.estop = false ∧ s.safety.estopLatch = true) ∧
    (∃ (h : Hdr) (pl : Bytes) (s : State), Accepted cmdSafetyResetFault h pl s ∧ fld pl 0 1 = 0 ∧ fld pl 1 1 < 32 ∧ tripLine
      (s.bay (fld pl 1 1)) = false ∧ (s.isDc (fld pl 1 1) = true → (s.bay (fld pl 1 1)).conv.iso < 2) ∧ (s.bay (fld pl 1
      1)).safety.sdeLatch = true) := by
  refine ⟨⟨hd 0, [], com, ?_⟩,
    ⟨hd 0, [], com, ?_⟩,
    ⟨hd 3, pay 4 [(0, 1, 1)] ++ le 2 0x0301 ++ le 2 16 ++ List.replicate 16 0, inLife .commissioned .safety,
      [(0x0301, 16, List.replicate 16 0)], ?_⟩,
    ⟨hd 3, pay 144 [(2, 2, 25), (4, 2, 0xFFFF)], inLife .commissioned .safety, ?_⟩,
    ⟨hd 0, [], com, [], ?_⟩,
    ⟨hd 3, le 4 (safetyCheck []),
      { inLife .commissioned .safety with safety := { com.safety with sc1Block := [], sc2Block := [] } }, ?_⟩,
    ⟨hd 1, pay 4 [(0, 1, 2)], { srv with safety := { srv.safety with estopLatch := true } }, ?_⟩,
    ⟨hd 1, pay 4 [(1, 1, 31)], onBay 31 (fun y => { y with safety := { y.safety with sdeLatch := true } }) srv, ?_⟩⟩
  · unfold Accepted; decide +kernel
  · unfold Accepted; decide +kernel
  · unfold Accepted; decide +kernel
  · unfold Accepted; decide +kernel
  · decide +kernel
  · unfold Accepted; decide +kernel
  · unfold Accepted; decide +kernel
  · unfold Accepted; decide +kernel

/-- States and operands that meet the hypotheses of each clause of `SafetyStopsBays`. -/
theorem witness_SafetyStopsBays :
    (∃ (s : State) (b : Nat) (tier : Tier), b < 32 ∧ outputsDriven s = true ∧ residualArmed s b = true ∧ (s.bay
      b).coil.residual = false ∧ tierReached (s.bay b).safety.timers (tierIndex tier) = true) ∧
    (∃ (s : State) (b : Nat) (tier : Tier), b < 32 ∧ outputsDriven s = true ∧ (residualArmed s b = false ∨ (s.bay
      b).coil.residual = true ∨ tierReached (s.bay b).safety.timers (tierIndex tier) = false)) ∧
    (∃ (s : State) (b : Nat) (e : Bool) (earlier : List Int) (x : Int) (l : List Int), b < 32 ∧ outputsDriven s = true ∧
      residualArmed s b = true ∧ galePath (s.bay b) e = false ∧ l = galeSamples s b (List.take (galeSize s) (x :: earlier)) ∧
      l.length = galeSize s ∧ galeAbove 180000 135000 (galeSize s) (sumOf l) (squaresOf l) = true) ∧
    (∃ (s : State) (b : Nat) (w : GaleSamples) (l : List Int), b < 32 ∧ outputsDriven s = true ∧ l = galeSamples s b
      (List.take (2 * galeSize s - 1) w.samples) ∧ l.length = 2 * galeSize s - 1) ∧
    (∃ (s : State) (b : Nat), b < 32 ∧ outputsDriven s = true ∧ (s.bay b).isEnergised = true ∧ ((s.bay b).safety.cutExcess =
      true ∨ ∃ x ∈ (s.bay b).safety.excess, 1000000 ≤ x)) ∧
    (∃ (s : State) (b : Nat), b < 32 ∧ outputsDriven s = true ∧ (s.bay b).isEnergised = true ∧ (200000 ≤ (s.bay
      b).safety.exportUs ∨ 1000 * 2 ^ 32 ≤ (s.bay b).safety.exportE)) ∧
    (∃ (s : State) (b : Nat), b < 32 ∧ outputsDriven s = true ∧ s.bayUsed b = true ∧ s.time.cycleOsc + 3000 ≤ s.time.osc) ∧
    (∃ (s : State) (b : Nat) (g : Nat), b < 32 ∧ outputsDriven s = true ∧ g < 4 ∧ 1000000 ≤ s.safety.feederUs.getD g 0) ∧
    (∃ (s : State) (b : Nat) (g : Nat) (t : Nat), b < 32 ∧ outputsDriven s = true ∧ g < 4 ∧ s.safety.feederBit.getD g none =
      some t ∧ t ≤ s.time.osc) := by
  refine ⟨⟨onBay 31 (fun y => { y with safety := { y.safety with timers := List.replicate 6 10000000 } }) (pokeSafety 0x032F 0 [1] com),
      31, .ac2, ?_⟩,
    ⟨com, 31, .ac2, ?_⟩,
    ⟨gauged, 31, true, fullScale 2000, 2 ^ 24, galeList, ?_⟩,
    ⟨gauged, 31, ⟨false, fullScale 2000⟩, galeSamples gauged 31 ((fullScale 2000).take (2 * galeSize gauged - 1)), ?_⟩,
    ⟨onBay 31 (fun y => { y with state := .energised, safety := { y.safety with excess := [0, 0, 1000000] } }) com, 31, ?_⟩,
    ⟨onBay 31 (fun y => { y with state := .energised, safety := { y.safety with exportUs := 200000 } }) com, 31, ?_⟩,
    ⟨pokeSafety 0x032F 0 [1] (late 3000), 31, ?_⟩,
    ⟨{ com with safety := { com.safety with feederUs := [0, 0, 0, 1000000] } }, 31, 3, ?_⟩,
    ⟨{ com with safety := { com.safety with feederBit := [none, none, none, some 0] } }, 31, 3, 0, ?_⟩⟩
  · decide +kernel
  · decide +kernel
  · exact ⟨(by decide +kernel), (by decide +kernel), (by decide +kernel), (by decide +kernel), rfl, (by decide +kernel),
      (by decide +kernel)⟩
  · exact ⟨(by decide +kernel), (by decide +kernel), rfl, (by decide +kernel)⟩
  · decide +kernel
  · decide +kernel
  · decide +kernel
  · decide +kernel
  · decide +kernel

/-- States and operands that meet the hypotheses of each clause of `SafetyInputsAct`. -/
theorem witness_SafetyInputsAct :
    (∃ (s : State) (a : Bool), outputsDriven s = true ∧ (s.safety.doorOpen ≠ a ∨ s.safety.doorFault = true)) ∧
    (∃ (s : State) (a : Bool), outputsDriven s = true ∧ s.safety.invalidSince = none) ∧
    (∃ (s : State) (a : Bool) (b : Bool), outputsDriven s = true ∧ (a || b) = true ∧ s.safety.estop = false) ∧
    (∃ (s : State), outputsDriven s = true) ∧
    (∃ (s : State) (t : Nat), outputsDriven s = true ∧ s.safety.invalidSince = some t ∧ t + 50000 < s.time.osc ∧
      s.safety.doorFault = false) ∧
    (∃ (s : State), outputsDriven s = true ∧ s.safety.estopA ≠ s.safety.estopB ∧ s.safety.estop = false) ∧
    (∃ (s : State) (g : Nat) (line : Bool), outputsDriven s = true ∧ g < 4 ∧ s.safety.outFault.getD g false = false) ∧
    (∃ (s : State) (g : Nat) (line : Bool), outputsDriven s = true ∧ g < 4 ∧ s.safety.outFault.getD g false = true) ∧
    (∃ (s : State) (g : Nat) (line : Bool), outputsDriven s = true ∧ g < 4 ∧ s.safety.outRetest.getD g 0 ≠ 0) ∧
    (∃ (s : State) (g : Nat) (line : Bool), outputsDriven s = true ∧ g < 4 ∧ s.safety.outRetest.getD g 0 = 0) := by
  refine ⟨⟨com, false, ?_⟩,
    ⟨com, true, ?_⟩,
    ⟨com, false, true, ?_⟩,
    ⟨com, ?_⟩,
    ⟨{ late 50001 with safety := { com.safety with invalidSince := some 0 } }, 0, ?_⟩,
    ⟨{ com with safety := { com.safety with estopA := true } }, ?_⟩,
    ⟨com, 3, true, ?_⟩,
    ⟨{ com with safety := { com.safety with outFault := List.replicate 4 true } }, 3, true, ?_⟩,
    ⟨{ com with safety := { com.safety with outRetest := List.replicate 4 1 } }, 3, true, ?_⟩,
    ⟨com, 3, true, ?_⟩⟩
  all_goals (decide +kernel)

/-- States and operands that meet the hypotheses of each clause of `PeersAndCores`. -/
theorem witness_PeersAndCores :
    (∃ (s : State) (b : Bool) (frame : Bytes) (key : Bytes) (k : Nat), outputsDriven s = true ∧ netEnabled s = true ∧
      safetyKey s 3 = some key ∧ frameSender s key frame = some k ∧ (s.peer k).rxSeq = none) ∧
    (∃ (s : State) (b : Bool) (frame : Bytes) (key : Bytes) (k : Nat) (last : Nat), outputsDriven s = true ∧ netEnabled s =
      true ∧ safetyKey s 3 = some key ∧ frameSender s key frame = some k ∧ (s.peer k).rxSeq = some last ∧ 0 < (fld frame 12 4
      + 2 ^ 32 - last) % 2 ^ 32 ∧ (fld frame 12 4 + 2 ^ 32 - last) % 2 ^ 32 ≤ 64) ∧
    (∃ (s : State) (k : Nat), outputsDriven s = true ∧ k < 8 ∧ netEnabled s = true ∧ k < peersInUse s ∧ (s.peer k).lost =
      false ∧ (s.peer k).lastAt + 1000 * s.field 770 16 16 ≤ s.time.osc) ∧
    (∃ (s : State) (k : Nat) (lost : Nat), outputsDriven s = true ∧ k < 8 ∧ (s.peer k).up = true ∧ (s.peer k).onePort =
      false ∧ let quiet (t : Option Nat) : Bool := Decidable.decide (t.getD (s.peer k).upAt + 100000 ≤ s.time.osc); quiet
      (s.peer k).lastA ≠ quiet (s.peer k).lastB ∧ lost = bit (quiet (s.peer k).lastB)) ∧
    (∃ (s : State) (c : SafetyCore), outputsDriven s = true ∧ coreOk s (otherCore c) = true) ∧
    (∃ (s : State) (c : SafetyCore), outputsDriven s = true) ∧
    (∃ (s : State) (c : SafetyCore) (cause : TakeoverCause), outputsDriven s = true ∧ coreOk s c = true ∧ coreOk s
      (otherCore c) = true) ∧
    (∃ (s : State) (c : SafetyCore) (cause : TakeoverCause), outputsDriven s = true ∧ coreOk s c = true ∧ coreOk s
      (otherCore c) = false) ∧
    (∃ (s : State) (c : SafetyCore) (b : Nat) (fn : Nat) (p1 : Bool) (p2 : Bool), outputsDriven s = true ∧ s.safety.sc1Ok =
      true ∧ s.safety.sc2Ok = true) ∧
    (∃ (s : State) (c : SafetyCore), outputsDriven s = true ∧ coreOk s c = false ∧ coreOk s (otherCore c) = true ∧ coreTries
      s c < 3) ∧
    (∃ (s : State), outputsDriven s = true ∧ s.safety.sc1Ok ≠ s.safety.sc2Ok ∧ s.safety.newBlocked = false ∧ 259200000000 <
      aloneTime s) := by
  refine ⟨⟨peered, true, peerFrame 5, keyBytes, 0, ?_⟩,
    ⟨peered.modPeer 0 fun p => { p with rxSeq := some 0 }, true, peerFrame 64, keyBytes, 0, 0, ?_⟩,
    ⟨{ peered with time := { com.time with osc := 30000 } }, 0, ?_⟩,
    ⟨(late 100000).modPeer 7 fun p => { p with up := true, lastA := some 0, lastB := some 1 }, 7, 0, ?_⟩,
    ⟨com, .sc2, ?_⟩,
    ⟨com, .sc1, ?_⟩,
    ⟨com, .sc1, .ecc, ?_⟩,
    ⟨{ com with safety := { com.safety with sc2Ok := false } }, .sc1, .ecc, ?_⟩,
    ⟨com, .sc1, 31, 0, true, false, ?_⟩,
    ⟨{ com with safety := { com.safety with sc1Ok := false, sc1Tries := 2 } }, .sc1, ?_⟩,
    ⟨{ com with safety := { com.safety with sc1Ok := false, aloneUs := 259200000001 } }, ?_⟩⟩
  all_goals (decide +kernel)

/-- States and operands that meet the hypotheses of each clause of `LinkCommandsAnswer`. -/
theorem witness_LinkCommandsAnswer :
    (∃ (h : Hdr) (pl : Bytes) (s : State) (id : Nat) (l : Layout), layout id = some l ∧ (writeWorlds id).contains h.world =
      true ∧ List.length pl ≤ l.size ∧ objectOk l (stageBase s h.port id) (overlay (stageBase s h.port id) 0 pl) = true ∧
      ((stagedOf (s.port h.port) id).isSome = true ∨ (s.port h.port).staging.length < 64) ∧ id = 1281 ∧ Accepted
      cmdPlcConfigure h pl s) ∧
    (∃ (h : Hdr) (pl : Bytes) (s : State) (id : Nat) (l : Layout), layout id = some l ∧ (writeWorlds id).contains h.world =
      true ∧ List.length pl ≤ l.size ∧ objectOk l (stageBase s h.port id) (overlay (stageBase s h.port id) 0 pl) = true ∧
      ((stagedOf (s.port h.port) id).isSome = true ∨ (s.port h.port).staging.length < 64) ∧ id = 1280 ∧ Accepted
      cmdV2gConfigure h pl s) ∧
    (∃ (h : Hdr) (pl : Bytes) (s : State) (id : Nat) (l : Layout), layout id = some l ∧ (writeWorlds id).contains h.world =
      true ∧ List.length pl ≤ l.size ∧ objectOk l (stageBase s h.port id) (overlay (stageBase s h.port id) 0 pl) = true ∧
      ((stagedOf (s.port h.port) id).isSome = true ∨ (s.port h.port).staging.length < 64) ∧ id = 1296 ∧ Accepted
      cmdSiteConfigure h pl s) ∧
    (∃ (h : Hdr) (pl : Bytes) (s : State), Accepted cmdPlcGetLink h pl s ∧ fld pl 0 5 < 2 ^ 33) ∧
    (∃ (h : Hdr) (pl : Bytes) (s : State), Accepted cmdPlcTonemapInfo h pl s) ∧
    (∃ (h : Hdr) (pl : Bytes) (s : State), Accepted cmdSiteGetPeers h pl s) := by
  refine ⟨⟨hd 0, pay 8 [(1, 1, 10), (2, 1, 200)], com, 0x0501, plcConfigLayout, ?_⟩,
    ⟨hd 0, pay 4 [], com, 0x0500, v2gConfigLayout, ?_⟩,
    ⟨hd 1, pay 32 [(12, 2, 1)], srv, 0x0510, siteConfigLayout, ?_⟩,
    ⟨hd 0, pay 8 [(4, 1, 1)], com, ?_⟩,
    ⟨hd 0, pay 4 [], com, ?_⟩,
    ⟨hd 0, [], com, ?_⟩⟩
  all_goals (unfold Accepted; decide +kernel)

/-- States and operands that meet the hypotheses of each clause of `MainsNetworkRuns`. -/
theorem witness_MainsNetworkRuns :
    (∃ (s : State) (k : Nat) (xs : List Int) (ok : Bool) (st : FrameSource), outputsDriven s = true ∧ k < 32 ∧ instanceRuns
      s k = true) ∧
    (∃ (s : State) (xs : List Int) (ok : Bool) (st : FrameSource), outputsDriven s = true ∧ instanceRuns s 32 = true ∧
      s.mains.link ≠ 0) ∧
    (∃ (s : State) (u : State) (heard : Option HeardBeacon), outputsDriven s = true ∧ s.clk.cycle.toNat % 2 = 0 ∧
      s.clk.angle = 0 ∧ s.mains.beaconCycle ≠ some s.clk.cycle.toNat ∧ u = (List.range 32).foldl (fun a k => if instanceRuns a
      k then a.modBay k fun y => { y with link := { y.link with beacons := y.link.beacons + 1 } } else a) (s.modMains fun m =>
      { m with beaconCycle := (some s.clk.cycle.toNat) }) ∧ (instanceRuns u 32 = false ∨ u.mains.link = 0)) ∧
    (∃ (s : State) (u : State), outputsDriven s = true ∧ s.clk.cycle.toNat % 2 = 0 ∧ s.clk.angle = 0 ∧ s.mains.beaconCycle ≠
      some s.clk.cycle.toNat ∧ u = (List.range 32).foldl (fun a k => if instanceRuns a k then a.modBay k fun y => { y with
      link := { y.link with beacons := y.link.beacons + 1 } } else a) (s.modMains fun m => { m with beaconCycle := (some
      s.clk.cycle.toNat) }) ∧ instanceRuns u 32 = true ∧ u.mains.link ≠ 0) ∧
    (∃ (s : State) (u : State) (b : HeardBeacon), outputsDriven s = true ∧ s.clk.cycle.toNat % 2 = 0 ∧ s.clk.angle = 0 ∧
      s.mains.beaconCycle ≠ some s.clk.cycle.toNat ∧ u = (List.range 32).foldl (fun a k => if instanceRuns a k then a.modBay k
      fun y => { y with link := { y.link with beacons := y.link.beacons + 1 } } else a) (s.modMains fun m => { m with
      beaconCycle := (some s.clk.cycle.toNat) }) ∧ instanceRuns u 32 = true ∧ u.mains.link ≠ 0 ∧ b.cco = true ∧ u.mains.link ≠
      3) ∧
    (∃ (s : State) (lower : Bool), outputsDriven s = true ∧ instanceRuns s 32 = true ∧ s.mains.link ≠ 0 ∧ s.mains.link ≠ 3 ∧
      s.mains.ccoHeard + 10 ≤ s.mains.periods ∧ (linkKey s 3).isSome = true) ∧
    (∃ (s : State) (st : Nat) (n : Neighbour) (x : Sounding), outputsDriven s = true ∧ List.find? (fun x => x.serial == st)
      s.mains.neighbours = some n ∧ instanceRuns s 32 = true ∧ extended s = true ∧ n.mapped = true ∧ refreshDue s n = true) ∧
    (∃ (s : State) (st : Nat) (n : Neighbour), outputsDriven s = true ∧ List.find? (fun x => x.serial == st)
      s.mains.neighbours = some n ∧ instanceRuns s 32 = true ∧ extended s = true ∧ n.mapped = true ∧ refreshDue s n = true ∧
      n.fails < 2) ∧
    (∃ (s : State) (st : Nat) (n : Neighbour), outputsDriven s = true ∧ List.find? (fun x => x.serial == st)
      s.mains.neighbours = some n ∧ instanceRuns s 32 = true ∧ extended s = true ∧ n.mapped = true ∧ refreshDue s n = true ∧ 2
      ≤ n.fails) ∧
    (∃ (s : State) (st : Nat) (n : Neighbour), outputsDriven s = true ∧ List.find? (fun x => x.serial == st)
      s.mains.neighbours = some n ∧ n.lastPeriod + 25 ≤ s.mains.periods) := by
  refine ⟨⟨com, 31, [], true, {}, ?_⟩,
    ⟨{ com with mains := { com.mains with link := 1 } }, [], true, { serial := 7 }, ?_⟩,
    ⟨com,
      (List.range 32).foldl (fun a k => if instanceRuns a k then a.modBay k fun y => { y with link := { y.link with beacons := y.link.beacons + 1 } } else a) ((com).modMains fun m => { m with beaconCycle := some 0 }),
      none, ?_⟩,
    ⟨{ com with mains := { com.mains with link := 1 } },
      (List.range 32).foldl (fun a k => if instanceRuns a k then a.modBay k fun y => { y with link := { y.link with beacons := y.link.beacons + 1 } } else a) (({ com with mains := { com.mains with link := 1 } }).modMains fun m => { m with beaconCycle := some 0 }),
      ?_⟩,
    ⟨{ com with mains := { com.mains with link := 1 } },
      (List.range 32).foldl (fun a k => if instanceRuns a k then a.modBay k fun y => { y with link := { y.link with beacons := y.link.beacons + 1 } } else a) (({ com with mains := { com.mains with link := 1 } }).modMains fun m => { m with beaconCycle := some 0 }),
      ⟨7, true, 0⟩, ?_⟩,
    ⟨{ linked with mains := { com.mains with link := 2, periods := 10 } }, true, ?_⟩,
    ⟨linkedMains { serial := 7 }, 7, { serial := 7 }, ⟨[], [], 0⟩, ?_⟩,
    ⟨linkedMains { serial := 7, fails := 1 }, 7, { serial := 7, fails := 1 }, ?_⟩,
    ⟨linkedMains { serial := 7, fails := 2 }, 7, { serial := 7, fails := 2 }, ?_⟩,
    ⟨{ com with mains := { com.mains with neighbours := [{ serial := 7 }], periods := 25 } }, 7, { serial := 7 }, ?_⟩⟩
  · decide +kernel
  · decide +kernel
  · exact ⟨(by decide +kernel), (by decide +kernel), (by decide +kernel), (by decide +kernel), rfl, (by decide +kernel)⟩
  · exact ⟨(by decide +kernel), (by decide +kernel), (by decide +kernel), (by decide +kernel), rfl, (by decide +kernel),
      (by decide +kernel)⟩
  · exact ⟨(by decide +kernel), (by decide +kernel), (by decide +kernel), (by decide +kernel), rfl, (by decide +kernel),
      (by decide +kernel), (by decide +kernel), (by decide +kernel)⟩
  · decide +kernel
  · decide +kernel
  · decide +kernel
  · decide +kernel
  · decide +kernel

/-- States and operands that meet the hypotheses of each clause of `VehicleLinksRun`. -/
theorem witness_VehicleLinksRun :
    (∃ (s : State) (b : Nat), b < 32 ∧ outputsDriven s = true ∧ (s.bay b).link.link ≠ 0 ∧ (s.bay b).link.link ≠ 4) ∧
    (∃ (s : State) (b : Nat) (sounds : List (List Nat)), b < 32 ∧ outputsDriven s = true ∧ (reportedCp (s.bay b).pilot =
      CpState.b ∨ reportedCp (s.bay b).pilot = CpState.c ∨ reportedCp (s.bay b).pilot = CpState.d) ∧ ((s.bay b).state =
      BayState.occupied ∨ (s.bay b).state = BayState.ready) ∧ (s.bay b).link.link ≠ 2 ∧ (s.bay b).link.link ≠ 3 ∧ instanceRuns
      s b = true) ∧
    (∃ (s : State) (b : Nat), b < 32 ∧ outputsDriven s = true ∧ (s.bay b).link.link = 1) ∧
    (∃ (s : State) (b : Nat), b < 32 ∧ outputsDriven s = true ∧ instanceRuns s b = true ∧ s.cont.ceSilent = none ∧ (s.bay
      b).link.link = 1) ∧
    (∃ (s : State) (b : Nat) (curves : List TlsCurve), b < 32 ∧ outputsDriven s = true ∧ instanceRuns s b = true ∧
      s.cont.ceSilent = none ∧ (s.bay b).link.link = 2 ∧ curves.any (seccUsable s b) = true) ∧
    (∃ (s : State) (b : Nat) (curves : List TlsCurve), b < 32 ∧ outputsDriven s = true ∧ instanceRuns s b = true ∧
      s.cont.ceSilent = none ∧ (s.bay b).link.link = 2 ∧ curves.any (seccUsable s b) = false) ∧
    (∃ (s : State) (b : Nat) (iso2 : Bool), b < 32 ∧ outputsDriven s = true ∧ instanceRuns s b = true ∧ s.cont.ceSilent =
      none ∧ ((s.bay b).link.link = 2 ∨ (s.bay b).link.link = 3) ∧ v2gSetting s b 1 = true ∧ (s.bay b).link.tls = true) ∧
    (∃ (s : State) (b : Nat) (m : V2gMessage), b < 32 ∧ outputsDriven s = true ∧ instanceRuns s b = true ∧ s.cont.ceSilent =
      none) ∧
    (∃ (s : State) (b : Nat) (c : Nat) (sid : Bytes), b < 32 ∧ outputsDriven s = true ∧ instanceRuns s b = true ∧
      s.cont.ceSilent = none ∧ (s.bay b).link.link = 3 ∧ (s.bay b).ctx = some c ∧ (s.ctx c).wk.sessionId ≠ sid) ∧
    (∃ (s : State) (b : Nat) (mv : Nat), b < 32 ∧ outputsDriven s = true ∧ instanceRuns s b = true ∧ s.cont.ceSilent = none
      ∧ (s.bay b).link.link = 3 ∧ dcSession s b = true) ∧
    (∃ (s : State) (b : Nat), b < 32 ∧ outputsDriven s = true ∧ instanceRuns s b = true ∧ s.cont.ceSilent = none ∧ (s.bay
      b).link.link = 3 ∧ (s.bay b).ctx = none) := by
  refine ⟨⟨onBay 31 (fun y => { y with link := { y.link with link := 3 } }) com, 31, ?_⟩,
    ⟨onBay 31 (fun y => { y with state := .ready, pilot := { y.pilot with cp := .d, drive := .pwm } }) com, 31, [], ?_⟩,
    ⟨onBay 31 (fun y => { y with link := { y.link with link := 1 } }) com, 31, ?_⟩,
    ⟨onBay 31 (fun y => { y with link := { y.link with link := 1 } }) com, 31, ?_⟩,
    ⟨matched (65536 * 511), 31, [.p256], ?_⟩,
    ⟨matched (65536 * 511), 31, [.ed448], ?_⟩,
    ⟨matched 2, 31, true, ?_⟩,
    ⟨linkedBay, 31, .stop, ?_⟩,
    ⟨onBay 31 (fun y => { y with ctx := some 255 }) linkedBay, 31, 255, [0], ?_⟩,
    ⟨onBay 31 (fun y => { y with coil := { y.coil with on := true } }) (dcBay 31 linkedBay), 31, 0, ?_⟩,
    ⟨linkedBay, 31, ?_⟩⟩
  all_goals (decide +kernel)

/-- States and operands that meet the hypotheses of each clause of `ImagesTransferred`. -/
theorem witness_ImagesTransferred :
    (∃ (h : Hdr) (pl : Bytes) (s : State) (k : ImageKind), Accepted cmdUpdateBegin h pl s ∧ ImageKind.ofCode (fld pl 0 1) =
      some k ∧ fld pl 4 4 ≤ 33554432 ∧ fld pl 4 4 ≤ imageRegion k ∧ s.images.transfer = none ∧ s.images.staged = none) ∧
    (∃ (h : Hdr) (pl : Bytes) (s : State) (t : Transfer), Accepted cmdUpdateData h pl s ∧ s.images.transfer = some t ∧
      t.port = some h.port ∧ t.world = h.world ∧ t.verifying = false ∧ fld pl 0 4 = List.length t.data ∧ List.length t.data +
      (List.drop 4 pl).length ≤ t.size) ∧
    (∃ (h : Hdr) (pl : Bytes) (s : State) (t : Transfer), Accepted cmdUpdateEnd h pl s ∧ s.images.transfer = some t ∧ t.port
      = some h.port ∧ t.world = h.world ∧ t.verifying = false) ∧
    (∃ (h : Hdr) (pl : Bytes) (s : State) (t : Transfer), s.images.transfer = some t ∧ t.verifying = false ∧ t.deadline ≤
      s.time.osc) ∧
    (∃ (h : Hdr) (pl : Bytes) (s : State) (t : Transfer), s.images.transfer = some t ∧ t.verifying = true ∧ t.sender = none) ∧
    (∃ (h : Hdr) (pl : Bytes) (s : State) (t : Transfer), s.images.transfer = some t ∧ t.verifying = true ∧ t.sender.isSome
      = true ∧ verifyImage s t.kind t.size t.data ≠ stOk) ∧
    (∀ (h : Config.ecdsaVerify 384 (received.key 2).point (goodImage.take 256) (slice goodImage 256 96) = true) (h2 :
      Config.gcmDecrypt keyBytes (slice goodImage 224 12) (goodImage.take 224) [] (slice goodImage 236 16) = some []), ∃ (h :
      Hdr) (pl : Bytes) (s : State) (t : Transfer), s.images.transfer = some t ∧ t.verifying = true ∧ t.sender.isSome = true ∧
      verifyImage s t.kind t.size t.data = stOk) ∧
    (∃ (h : Hdr) (pl : Bytes) (s : State), Accepted cmdUpdateStatus h pl s) ∧
    (∃ (h : Hdr) (pl : Bytes) (s : State) (k : ImageKind), Accepted cmdUpdateAbort h pl s ∧ ImageKind.ofCode (fld pl 0 1) =
      some k ∧ (s.image k).state = ImageState.trial) ∧
    (∃ (h : Hdr) (pl : Bytes) (s : State) (k : ImageKind), Accepted cmdUpdateAbort h pl s ∧ ImageKind.ofCode (fld pl 0 1) =
      some k ∧ (s.image k).state = ImageState.idle ∧ s.images.transfer = none ∧ stagedOfKind s k = true) ∧
    (∃ (h : Hdr) (pl : Bytes) (s : State) (k : ImageKind) (t : Transfer), Accepted cmdUpdateAbort h pl s ∧ ImageKind.ofCode
      (fld pl 0 1) = some k ∧ (s.image k).state = ImageState.idle ∧ s.images.transfer = some t ∧ t.kind = k ∧ t.cmd = none) := by
  refine ⟨⟨hd 1, pay 8 [(0, 1, 4), (4, 4, 4194304)], srv, .disp, ?_⟩,
    ⟨hd 1, pay 4 [] ++ [0],
      { srv with images := { srv.images with transfer := some { port := some .spi, world := 1, kind := .disp, size := 1, data := [], deadline := 0 } } },
      { port := some .spi, world := 1, kind := .disp, size := 1, data := [], deadline := 0 }, ?_⟩,
    ⟨hd 1, [],
      { srv with images := { srv.images with transfer := some { port := some .spi, world := 1, kind := .disp, size := 1, data := [], deadline := 0 } } },
      { port := some .spi, world := 1, kind := .disp, size := 1, data := [], deadline := 0 }, ?_⟩,
    ⟨hd 1, [],
      { srv with images := { srv.images with transfer := some { port := some .spi, world := 1, kind := .disp, size := 1, data := [], deadline := 0 } } },
      { port := some .spi, world := 1, kind := .disp, size := 1, data := [], deadline := 0 }, ?_⟩,
    ⟨hd 1, [],
      { srv with images := { srv.images with transfer := some { port := some .spi, world := 1, kind := .disp, size := 1, data := [], deadline := 0, verifying := true } } },
      { port := some .spi, world := 1, kind := .disp, size := 1, data := [], deadline := 0, verifying := true }, ?_⟩,
    ⟨hd 1, [],
      { srv with images := { srv.images with transfer := some { port := some .spi, world := 1, kind := .disp, size := 1, data := [], deadline := 0, verifying := true, sender := some 7 } } },
      { port := some .spi, world := 1, kind := .disp, size := 1, data := [], deadline := 0, verifying := true, sender := some 7 },
      ?_⟩,
    fun h h2 => ⟨hd 1, [], received,
      { port := some .spi, world := 1, kind := .disp, size := 352, data := goodImage, deadline := 0, verifying := true, sender := some 7 },
      ?_⟩,
    ⟨hd 0, [], com, ?_⟩,
    ⟨hd 1, pay 4 [(0, 1, 4)], onTrial, .disp, ?_⟩,
    ⟨hd 1, pay 4 [(0, 1, 4)], { srv with images := { srv.images with staged := some (.disp, testImage, []) } }, .disp, ?_⟩,
    ⟨hd 1, pay 4 [(0, 1, 4)],
      { srv with images := { srv.images with transfer := some { port := some .spi, world := 1, kind := .disp, size := 1, data := [], deadline := 0 } } },
      .disp, { port := some .spi, world := 1, kind := .disp, size := 1, data := [], deadline := 0 }, ?_⟩⟩
  · unfold Accepted; decide +kernel
  · unfold Accepted; decide +kernel
  · unfold Accepted; decide +kernel
  · decide +kernel
  · decide +kernel
  · decide +kernel
  · exact ⟨(by decide +kernel), (by decide +kernel), (by decide +kernel),
      (by have e : goodImage.take (256 + bodySize goodImage) = goodImage.take 256 := (by decide +kernel); have e2 : slice goodImage (256 + bodySize goodImage) 96 = slice goodImage 256 96 := (by decide +kernel); have e3 : slice goodImage 256 (bodySize goodImage) = [] := (by decide +kernel); have e4 : (received.key 1).material = keyBytes := (by decide +kernel); have k : kolmoendSigned received goodImage = true := (by unfold kolmoendSigned; rw [e, e2, h]; decide +kernel); have b : bodyOk received goodImage = true := (by unfold bodyOk; rw [e3, e4, h2]; decide +kernel); unfold verifyImage; rw [k, b]; decide +kernel)⟩
  · unfold Accepted; decide +kernel
  · unfold Accepted; decide +kernel
  · unfold Accepted; decide +kernel
  · unfold Accepted; decide +kernel

/-- States and operands that meet the hypotheses of each clause of `ImagesActivated`. -/
theorem witness_ImagesActivated :
    (∃ (s : State) (h : Hdr) (pl : Bytes) (k : ImageKind) (m : ImageMeta), Accepted cmdUpdateActivate h pl s ∧
      ImageKind.ofCode (fld pl 0 1) = some k ∧ candidateImage s k = some m ∧ (s.image k).state ≠ ImageState.activating ∧
      otherKindBusy s k = false ∧ releasesFit s k m = true ∧ k ≠ ImageKind.app ∧ kindRefusal s k = none) ∧
    (∃ (s : State) (h : Hdr) (pl : Bytes) (m : ImageMeta), Accepted cmdUpdateActivate h pl s ∧ fld pl 0 1 = 0 ∧
      candidateImage s ImageKind.app = some m ∧ (s.image ImageKind.app).state ≠ ImageState.activating ∧ otherKindBusy s
      ImageKind.app = false ∧ releasesFit s ImageKind.app m = true ∧ m.stateFmt = (s.image ImageKind.app).active.stateFmt ∧
      s.cont.ceVan = VanState.ready) ∧
    (∃ (s : State) (k : ImageKind) (m : ImageMeta), controlRuns s = true ∧ (s.image k).state = ImageState.activating ∧
      (s.image k).byRestart = false ∧ activatedImage s k = some m ∧ (k = ImageKind.app → m.stateFmt = (s.image
      k).active.stateFmt ∧ 8 ≤ s.cont.ceFollowed ∧ plannedDue s = true) ∧ (k ≠ ImageKind.app → kindRefusal s k = none)) ∧
    (∃ (s : State) (m : ImageMeta), controlRuns s = true ∧ (s.image ImageKind.app).state = ImageState.activating ∧ (s.image
      ImageKind.app).byRestart = false ∧ activatedImage s ImageKind.app = some m ∧ m.stateFmt ≠ (s.image
      ImageKind.app).active.stateFmt ∧ s.anyEnergised = false) ∧
    (∃ (s : State) (k : ImageKind), controlRuns s = true ∧ (s.image k).state = ImageState.trial ∧ (s.image k).pinged = true
      ∧ (s.image k).struck = false ∧ (s.image k).aborted = false ∧ s.dueOpt (s.image k).trialEnd = false ∧ k ≠ ImageKind.app) ∧
    (∃ (s : State), controlRuns s = true ∧ (s.image ImageKind.app).state = ImageState.trial ∧ (s.image ImageKind.app).pinged
      = true ∧ (s.image ImageKind.app).struck = false ∧ (s.image ImageKind.app).aborted = false ∧ s.dueOpt (s.image
      ImageKind.app).trialEnd = false ∧ s.cont.ceVan = VanState.ready) ∧
    (∃ (s : State) (k : ImageKind) (fault : Bool) (cause : Nat), controlRuns s = true ∧ fallbackCause s k fault = some cause
      ∧ kindRefusal s k = none) := by
  refine ⟨⟨{ srv with images := { srv.images with staged := some (.disp, testImage, []) } }, hd 1, pay 4 [(0, 1, 4)], .disp,
      testImage, ?_⟩,
    ⟨{ srv with images := { srv.images with staged := some (.app, testImage, []) } }, hd 1, pay 4 [], testImage, ?_⟩,
    ⟨{ activating .app 0 with cont := { com.cont with ceFollowed := 8 } }, .app, testImage, ?_⟩,
    ⟨activating .app 1, { testImage with stateFmt := 1 }, ?_⟩,
    ⟨onTrial.modImage .disp fun i => { i with pinged := true }, .disp, ?_⟩,
    ⟨srv.modImage .app fun i => { i with state := .trial, pinged := true }, ?_⟩,
    ⟨onTrial.modImage .disp fun i => { i with struck := true }, .disp, true, 1, ?_⟩⟩
  · unfold Accepted; decide +kernel
  · unfold Accepted; decide +kernel
  · decide +kernel
  · decide +kernel
  · decide +kernel
  · decide +kernel
  · decide +kernel

/-- States and operands that meet the hypotheses of each clause of `ImagesForwarded`. -/
theorem witness_ImagesForwarded :
    (∃ (s : State) (h : Hdr) (pl : Bytes), Accepted cmdConsistConfigure h pl s ∧ 1 ≤ fld pl 0 1 ∧ fld pl 0 1 ≤ 64) ∧
    (∃ (s : State) (h : Hdr) (pl : Bytes) (k : ImageKind) (t : Nat), Accepted cmdUpdateForward h pl s ∧ ImageKind.ofCode
      (fld pl 0 1) = some k ∧ successor s = some t ∧ stagedOfKind s k = true ∧ s.images.forward = none) ∧
    (∃ (s : State) (f : Forward) (serial : Nat), s.images.forward = some f ∧ s.images.consist[f.target]? = some serial ∧
      siteCarries s = true) ∧
    (∃ (s : State) (f : Forward), s.images.forward = some f ∧ s.time.osc < f.started + 120000000 ∧ f.lastTry + 30000000 ≤
      s.time.osc) ∧
    (∃ (s : State) (f : Forward), s.images.forward = some f ∧ f.started + 120000000 ≤ s.time.osc ∧ f.target + 1 <
      s.images.consist.length) ∧
    (∃ (s : State) (sender : Nat) (k : ImageKind) (d : Bytes), controlRuns s = true ∧ siteCarries s = true ∧ siteRole s ≠ 0
      ∧ (siteKey s 3).isSome = true ∧ s.images.transfer = none ∧ s.images.staged = none ∧ List.length d ≤ imageRegion k) := by
  refine ⟨⟨srv, hd 1, pay 4 [(0, 1, 64)] ++ List.replicate 512 0, ?_⟩,
    ⟨{ { (siteAs 1 srv) with images := { (siteAs 1 srv).images with staged := some (.disp, testImage, []), consist := [serialNum, 7] } } with draws := 0 },
      hd 1, pay 4 [(0, 1, 4)], .disp, 1, ?_⟩,
    ⟨{ srv with images := { srv.images with forward := some ⟨.disp, 0, 0, 0, none⟩, consist := [7] } },
      ⟨.disp, 0, 0, 0, none⟩, 7, ?_⟩,
    ⟨{ { srv with images := { srv.images with forward := some ⟨.disp, 0, 0, 0, none⟩ } } with time := { com.time with osc := 30000000 } },
      ⟨.disp, 0, 0, 0, none⟩, ?_⟩,
    ⟨{ { srv with images := { srv.images with forward := some ⟨.disp, 0, 0, 0, none⟩, consist := [7, 8] } } with time := { com.time with osc := 120000000 } },
      ⟨.disp, 0, 0, 0, none⟩, ?_⟩,
    ⟨siteAs 1 com, 7, .disp, [], ?_⟩⟩
  · unfold Accepted; decide +kernel
  · exact ⟨(by unfold Accepted; decide +kernel), (by decide +kernel),
      (by unfold successor; simp only [List.findIdx?_cons, beq_self_eq_true]; decide +kernel), (by decide +kernel),
      (by decide +kernel)⟩
  · decide +kernel
  · decide +kernel
  · decide +kernel
  · decide +kernel

/-- States and operands that meet the hypotheses of each clause of `PairsTakeOver`. -/
theorem witness_PairsTakeOver :
    (∃ (s : State) (cause : TakeoverCause) (us : Nat), metersRun s = true ∧ s.cont.meVan = VanState.ready) ∧
    (∃ (s : State), metersRun s = true) ∧
    (∃ (s : State) (us : Nat), controlRuns s = true ∧ s.cont.ceVan = VanState.ready ∧ s.clk.angle = 0 ∧ s.cont.journal = []) ∧
    (∃ (s : State) (cause : TakeoverCause) (us : Nat), cause ≠ TakeoverCause.planned ∧ controlRuns s = true) ∧
    (∃ (s : State) (cause : TakeoverCause) (us : Nat), shadowing s = false ∧ s.cont.ceVan ≠ VanState.ready ∧ cause ≠
      TakeoverCause.planned ∧ controlRuns s = true) ∧
    (∃ (s : State), controlRuns s = true ∧ (s.cont.checkpointAt + 10000 ≤ s.time.osc ∨ ∃ y ∈ s.bays, y.link.link = 3 ∧
      y.link.tls = true)) ∧
    (∃ (s : State) (t : Nat), s.cont.ceSilent = some t ∧ outputsDriven s = true ∧ t + 100000 ≤ s.time.osc) := by
  refine ⟨⟨com, .ecc, 0, ?_⟩,
    ⟨com, ?_⟩,
    ⟨com, 0, ?_⟩,
    ⟨com, .ecc, 0, ?_⟩,
    ⟨{ com with cont := { com.cont with ceVan := .out } }, .ecc, 0, ?_⟩,
    ⟨late 10000, ?_⟩,
    ⟨{ late 100000 with cont := { com.cont with ceSilent := some 0 } }, 0, ?_⟩⟩
  · decide +kernel
  · decide +kernel
  · decide +kernel
  · decide +kernel
  · decide +kernel
  · exact ⟨(by decide +kernel), (by exact Or.inl (by decide +kernel))⟩
  · decide +kernel

/-- States and operands that meet the hypotheses of each clause of `UnitsFailAndRecouple`. -/
theorem witness_UnitsFailAndRecouple :
    (∃ (s : State) (k : Nat) (cause : TakeoverCause), outputsDriven s = true ∧ k < 10 ∧ gated s k = false) ∧
    (∃ (s : State) (k : Nat) (sp : Nat) (cause : TakeoverCause), outputsDriven s = true ∧ k < 10 ∧ gated s k = false ∧
      s.cont.dsp.getD k VanState.out = VanState.ready ∧ s.cont.spare = some sp ∧ sp ≠ k) ∧
    (∃ (s : State) (bank : SramBank) (n : Nat), outputsDriven s = true ∧ bankRead bank s = true ∧ 0 < s.cont.spares.getD
      (bankDomain bank) 0 ∧ bank ≠ SramBank.sampleBuffer ∧ bank ≠ SramBank.checkpoint) ∧
    (∃ (s : State) (n : Nat), outputsDriven s = true ∧ metersRun s = true ∧ 0 < s.cont.spares.getD 0 0) ∧
    (∃ (s : State) (bank : SramBank) (n : Nat), outputsDriven s = true ∧ bankRead bank s = true ∧ s.cont.spares.getD
      (bankDomain bank) 0 = 0) ∧
    (∃ (s : State) (block : Nat) (part : Nat) (kind : BlockFault), outputsDriven s = true ∧ block ∉ s.cont.nandRetired ∧
      kind ≠ BlockFault.uncorrectable) ∧
    (∃ (s : State) (block : Nat) (part : Nat), outputsDriven s = true ∧ block ∉ s.cont.nandRetired ∧ part ≠
      profilePartition) ∧
    (∃ (s : State) (block : Nat), outputsDriven s = true ∧ block ∉ s.cont.nandRetired) ∧
    (∃ (s : State), outputsDriven s = true ∧ s.cont.meVan = VanState.recoupling ∧ 8 ≤ s.cont.meFollowed) ∧
    (∃ (s : State), outputsDriven s = true ∧ s.cont.ceVan = VanState.recoupling ∧ shadowing s = false ∧ 8 ≤
      s.cont.ceFollowed) ∧
    (∃ (s : State) (k : Nat), outputsDriven s = true ∧ k < 10 ∧ s.cont.dsp.getD k VanState.ready = VanState.recoupling) ∧
    (∃ (s : State), outputsDriven s = true ∧ s.cont.meVan = VanState.recoupling ∧ 2 ≤ s.cont.testFails.getD (bit
      !s.cont.meB) 0) ∧
    (∃ (s : State) (p : Nat), outputsDriven s = true ∧ p ∉ s.cont.regLost) := by
  refine ⟨⟨com, 9, .ecc, ?_⟩,
    ⟨com, 0, 9, .ecc, ?_⟩,
    ⟨com, .link, 0, ?_⟩,
    ⟨com, 0, ?_⟩,
    ⟨{ com with cont := { com.cont with spares := List.replicate 5 0 } }, .link, 0, ?_⟩,
    ⟨com, 0, 0, .program, ?_⟩,
    ⟨com, 0, 0, ?_⟩,
    ⟨com, 0, ?_⟩,
    ⟨{ com with cont := { com.cont with meVan := .recoupling, meFollowed := 8 } }, ?_⟩,
    ⟨{ com with cont := { com.cont with ceVan := .recoupling, ceFollowed := 8 } }, ?_⟩,
    ⟨{ com with cont := { com.cont with dsp := List.replicate 10 .recoupling } }, 9, ?_⟩,
    ⟨{ com with cont := { com.cont with meVan := .recoupling, testFails := List.replicate 14 2 } }, ?_⟩,
    ⟨com, 0, ?_⟩⟩
  all_goals (decide +kernel)

/-- States and operands that meet the hypotheses of each clause of `EventRecordsAnswered`. -/
theorem witness_EventRecordsAnswered :
    (∃ (h : Hdr) (pl : Bytes) (s : State) (head : Nat), Accepted cmdEventsRead h pl s ∧ newestSeq s = head ∧ 0 < fld pl 4 2
      ∧ fld pl 0 4 ≠ nextSeq head ∧ heldRecords s ≠ [] ∧ fld pl 0 4 ≠ 0 ∧ seqAge head (fld pl 0 4) ≤ oldestAge s) ∧
    (∃ (h : Hdr) (pl : Bytes) (s : State), Accepted cmdEventsInfo h pl s) ∧
    (∃ (h : Hdr) (pl : Bytes) (s : State), Accepted cmdEventsFilter h pl s ∧ bits (num pl) 0 16 &&& 29 = 29 ∧ bits (num pl)
      18 14 = 0 ∧ bits (num pl) 48 16 = 0 ∧ 100 ≤ bits (num pl) 32 16 ∧ bits (num pl) 32 16 ≤ 60000) ∧
    (∃ (h : Hdr) (pl : Bytes) (s : State), outputsDriven s = true ∧ s.recorder.flushAll = true) ∧
    (∃ (h : Hdr) (pl : Bytes) (s : State), outputsDriven s = true ∧ s.recorder.flushAll = false ∧ recBytes s.recorder.buffer
      < 196608 ∧ s.recorder.lastFlush + 60000000 ≤ s.time.osc) := by
  refine ⟨⟨hd 0, pay 8 [(0, 4, 1), (4, 2, 1)], recorded, 1, ?_⟩,
    ⟨hd 0, [], com, ?_⟩,
    ⟨hd 1, pay 8 [(0, 2, 0xFFFF), (4, 2, 60000)], srv, ?_⟩,
    ⟨hd 0, [], { com with recorder := { com.recorder with flushAll := true } }, ?_⟩,
    ⟨hd 0, [], late 60000000, ?_⟩⟩
  · unfold Accepted; decide +kernel
  · unfold Accepted; decide +kernel
  · unfold Accepted; decide +kernel
  · decide +kernel
  · decide +kernel

/-- States and operands that meet the hypotheses of each clause of `CountersRun`. -/
theorem witness_CountersRun :
    (∃ (s : State) (h : Hdr) (pl : Bytes) (c : Counter), Accepted cmdPerfConfigure h pl s ∧ fld pl 0 1 ≤ 63 ∧ counterOf (fld
      pl 0 1) (List.drop 2 pl) s.time.osc = some c ∧ chainHigh s.perf.counters (fld pl 0 1) = false) ∧
    (∃ (s : State) (h : Hdr) (pl : Bytes), Accepted cmdPerfRead h pl s ∧ fld pl 0 1 + fld pl 1 1 ≤ 64 ∧ (h.world = 1 ∨
      s.perf.hostRead = true ∧ testRuns s = false ∧ recovering s = false)) ∧
    (∃ (s : State) (h : Hdr) (pl : Bytes), Accepted cmdPerfAccess h pl s ∧ fld pl 0 1 ≤ 1) ∧
    (∃ (s : State) (k : Nat) (c : Counter), k < 64 ∧ s.perf.counters.getD k { } = c ∧ c.enable = true ∧ 2 ≤ c.mode ∧
      c.windowEnd ≤ s.time.osc ∧ chainHigh s.perf.counters k = false) := by
  refine ⟨⟨srv, hd 1, pay 16 [(0, 1, 63), (2, 2, 0x10), (10, 4, 1000)], { event := 0x10, windowUs := 1000, windowEnd := 1000 }, ?_⟩,
    ⟨{ com with perf := { com.perf with hostRead := true } }, hd 0, pay 4 [(1, 1, 64)], ?_⟩,
    ⟨srv, hd 1, pay 4 [(0, 1, 1)], ?_⟩,
    ⟨{ com with perf := { counters := List.replicate 64 { enable := true, mode := 3 } } }, 63, { enable := true, mode := 3 },
      ?_⟩⟩
  · unfold Accepted; decide +kernel
  · unfold Accepted; decide +kernel
  · unfold Accepted; decide +kernel
  · decide +kernel

/-- States and operands that meet the hypotheses of each clause of `LoadsSwitchOnCommand`. -/
theorem witness_LoadsSwitchOnCommand :
    (∃ (s : State) (h : Hdr) (pl : Bytes) (l : Layout) (id : Nat), Accepted cmdLswConfigure h pl s ∧ fld pl 0 1 < 112 ∧ id =
      512 + fld pl 0 1 ∧ layout id = some l ∧ (writeWorlds id).contains h.world = true ∧ (List.drop 4 pl).length ≤ l.size ∧
      objectOk l (stageBase s h.port id) (overlay (stageBase s h.port id) 0 (List.drop 4 pl)) = true ∧ ((stagedOf (s.port
      h.port) id).isSome = true ∨ (s.port h.port).staging.length < 64)) ∧
    (∃ (s : State) (h : Hdr) (pl : Bytes) (p : ExecPoint) (k : Nat), Accepted cmdLswSet h pl s ∧ fld pl 0 1 = k ∧ k < 112 ∧
      execPoint (List.drop 8 pl) = some p ∧ s.holder k = none ∧ fld pl 1 1 = 0 ∧ p.at_ = false) ∧
    (∃ (s : State) (h : Hdr) (pl : Bytes) (p : ExecPoint) (k : Nat), Accepted cmdLswSet h pl s ∧ fld pl 0 1 = k ∧ k < 112 ∧
      execPoint (List.drop 8 pl) = some p ∧ s.holder k = none ∧ fld pl 1 1 = 1 ∧ p.at_ = false ∧ chanType s k ≠ 0 ∧ (s.chan
      k).clampLock = false ∧ (s.chan k).lockedOut = false) ∧
    (∃ (s : State) (h : Hdr) (pl : Bytes) (p : ExecPoint) (k : Nat), Accepted cmdLswSet h pl s ∧ fld pl 0 1 = k ∧ k < 112 ∧
      execPoint (List.drop 8 pl) = some p ∧ s.holder k = none ∧ fld pl 1 1 = 0 ∧ p.at_ = true ∧ pointRefusal s k p.cycle
      p.cycle p.angle false = none) ∧
    (∃ (s : State) (h : Hdr) (pl : Bytes), Accepted cmdLswGet h pl s ∧ fld pl 0 1 + fld pl 1 1 ≤ 112) ∧
    (∃ (s : State) (h : Hdr) (pl : Bytes) (k : Nat), Accepted cmdLswUnlock h pl s ∧ fld pl 0 1 = k ∧ k < 112 ∧ ((s.chan
      k).clampLock = true ∨ (s.chan k).lockedOut = true)) ∧
    (∃ (s : State) (g : Nat) (mv : Nat) (us : Nat), g < 14 ∧ outputsDriven s = true ∧ mv < 7000 ∧ (s.groups.getD g {
      }).undervolt = false) ∧
    (∃ (s : State) (g : Nat) (mv : Nat) (us : Nat), g < 14 ∧ outputsDriven s = true ∧ 8000 < mv ∧ 10000 ≤ us ∧
      (s.groups.getD g { }).undervolt = true) ∧
    (∃ (s : State) (g : Nat) (l : List Nat), g < 14 ∧ outputsDriven s = true ∧ groupBudget s g < 2 * (List.map (chanCurrent
      s l) (groupChans g)).sum) := by
  refine ⟨⟨com, hd 0, pay 4 [(0, 1, 111)] ++ lswImage, lswLayout 111, 0x026F, ?_⟩,
    ⟨com, hd 0, pay 16 [(0, 1, 111)], ⟨false, 0, 0⟩, 111, ?_⟩,
    ⟨poke 0x026F 0 [1] com, hd 0, pay 16 [(0, 1, 111), (1, 1, 1)], ⟨false, 0, 0⟩, 111, ?_⟩,
    ⟨com, hd 0, pay 16 [(0, 1, 111), (8, 4, 1), (15, 1, 0x80)], ⟨true, 1, 0⟩, 111, ?_⟩,
    ⟨com, hd 0, pay 4 [(1, 1, 112)], ?_⟩,
    ⟨com.modChan 111 fun c => { c with lockedOut := true }, hd 0, [111], 111, ?_⟩,
    ⟨com, 13, 6999, 0, ?_⟩,
    ⟨{ com with groups := List.replicate 14 ⟨true⟩ }, 13, 8001, 10000, ?_⟩,
    ⟨com.modChan 104 fun c => { c with out := true }, 13, [1000000], ?_⟩⟩
  · unfold Accepted; decide +kernel
  · unfold Accepted; decide +kernel
  · unfold Accepted; decide +kernel
  · unfold Accepted; decide +kernel
  · unfold Accepted; decide +kernel
  · unfold Accepted; decide +kernel
  · decide +kernel
  · decide +kernel
  · decide +kernel

/-- States and operands that meet the hypotheses of each clause of `LoadsProtectThemselves`. -/
theorem witness_LoadsProtectThemselves :
    (∃ (s : State) (k : Nat) (ma : Nat) (vds : Nat), k < 112 ∧ outputsDriven s = true ∧ (s.chan k).out = true ∧ ((s.chan
      k).inrush = true ∧ inrushHalves (chanType s k) (chanLimit s k) < 2 * ma ∨ (s.chan k).inrush = false ∧ 2 * chanLimit s k
      < ma ∨ (s.chan k).onAt + 10 ≤ s.time.osc ∧ 3000 < vds)) ∧
    (∃ (s : State) (k : Nat) (charge : Nat), k < 112 ∧ outputsDriven s = true ∧ (s.chan k).out = true ∧ (s.chan k).inrush =
      false ∧ 11 * chanLimit s k * 1000000 < 10 * charge) ∧
    (∃ (s : State) (k : Nat) (tj : Nat), k < 112 ∧ outputsDriven s = true ∧ 170 ≤ tj ∧ (s.chan k).thermal = false) ∧
    (∃ (s : State) (k : Nat) (tj : Nat), k < 112 ∧ outputsDriven s = true ∧ tj ≤ 150 ∧ (s.chan k).thermal = true) ∧
    (∃ (s : State) (k : Nat) (l : List Nat) (vload : Nat), k < 112 ∧ outputsDriven s = true ∧ chanType s k ≠ 0 ∧ l ≠ [] ∧
      (s.chan k).openLoad = false ∧ (((s.chan k).out = true ∧ ∀ v ∈ l, v < s.chanField k 32 16) ∨ (s.chan k).out = false ∧
      s.chanField k 7 1 = 1 ∧ ∀ v ∈ l, vload < 2 * v)) ∧
    (∃ (s : State) (k : Nat) (l : List Nat) (vload : Nat), k < 112 ∧ outputsDriven s = true ∧ chanType s k ≠ 0 ∧ l ≠ [] ∧
      (s.chan k).openLoad = true ∧ (s.chan k).out = true ∧ (∀ v ∈ l, s.chanField k 32 16 < v)) ∧
    (∃ (s : State) (k : Nat), k < 112 ∧ outputsDriven s = true ∧ (s.chan k).retryWait = true ∧ (s.chan k).cmd = true ∧
      (s.chan k).out = false ∧ 0 < retriesLeft s k ∧ (s.chan k).backoffTo ≤ s.time.osc ∧ mayConduct s k = true) ∧
    (∃ (s : State) (k : Nat), k < 112 ∧ outputsDriven s = true ∧ (s.chan k).out = true ∧ (s.chan k).onAt + 60000000 ≤
      s.time.osc) ∧
    (∃ (s : State) (k : Nat), k < 112 ∧ outputsDriven s = true ∧ (s.chan k).out = true ∧ (s.chan k).inrush = true ∧ (s.chan
      k).windowTo ≤ s.time.osc) := by
  refine ⟨⟨com.modChan 111 fun c => { c with out := true }, 111, 1000000, 0, ?_⟩,
    ⟨com.modChan 111 fun c => { c with out := true }, 111, 2000000000000, ?_⟩,
    ⟨com, 111, 170, ?_⟩,
    ⟨com.modChan 111 fun c => { c with thermal := true }, 111, 150, ?_⟩,
    ⟨(poke 0x026F 0 [129] com).modChan 111 fun c => { c with openLoad := false }, 111, [7], 13, ?_⟩,
    ⟨(poke 0x026F 0 [1] com).modChan 111 fun c => { c with out := true, openLoad := true }, 111, [65536], 0, ?_⟩,
    ⟨(poke 0x026F 0 [1] com).modChan 111 fun c => { c with retryWait := true, cmd := true }, 111, ?_⟩,
    ⟨(late 60000000).modChan 111 fun c => { c with out := true }, 111, ?_⟩,
    ⟨com.modChan 111 fun c => { c with out := true, inrush := true }, 111, ?_⟩⟩
  all_goals (decide +kernel)

/-- States and operands that meet the hypotheses of each clause of `DisplayDraws`. -/
theorem witness_DisplayDraws :
    (∃ (s : State) (h : Hdr) (pl : Bytes) (l : Layout), Accepted cmdDispConfigure h pl s ∧ layout 1536 = some l ∧
      (writeWorlds 1536).contains h.world = true ∧ List.length pl ≤ l.size ∧ objectOk l (stageBase s h.port 1536) (overlay
      (stageBase s h.port 1536) 0 pl) = true ∧ ((stagedOf (s.port h.port) 1536).isSome = true ∨ (s.port h.port).staging.length
      < 64)) ∧
    (∃ (s : State) (h : Hdr) (pl : Bytes) (x : Nat) (y : Nat) (w : Nat) (ht : Nat), Accepted cmdDispWrite h pl s ∧ fld pl 0
      2 = x ∧ fld pl 2 2 = y ∧ fld pl 4 2 = w ∧ fld pl 6 2 = ht ∧ (List.drop 8 pl).length = ht * ((w * bitsPerPixel s + 7) /
      8) ∧ x + w ≤ panelWidth s ∧ y + ht ≤ legalTop s ∧ s.power.failedKinds.getD 4 false = false) ∧
    (∃ (s : State) (h : Hdr) (pl : Bytes), Accepted cmdDispBlink h pl s ∧ fld pl 0 1 ≤ 8 ∧ (∀ k < fld pl 0 1, 5 ≤ fld (slice
      pl (4 + 12 * k) 12) 8 2 ∧ fld (slice pl (4 + 12 * k) 12) 8 2 ≤ 40 ∧ zeroAt (slice pl (4 + 12 * k) 12) 10 2 = true)) ∧
    (∃ (s : State) (h : Hdr) (pl : Bytes), Accepted cmdDispGetCheck h pl s) ∧
    (∃ (s : State) (a : Nat) (b : Nat), displayRuns s = true ∧ panelOn s = true ∧ s.disp.lastPass + 1000000 / max 1
      (s.dispField 48 8) ≤ s.time.osc) ∧
    (∃ (s : State), displayRuns s = true ∧ panelOn s = true ∧ s.disp.lastPass + 1000000 / max 1 (s.dispField 48 8) ≤
      s.time.osc) ∧
    (∃ (s : State), displayRuns s = true ∧ s.disp.lastRender + 1000000 ≤ s.time.osc) ∧
    (∃ (s : State), s.dueOpt s.disp.patternTo = true) ∧
    (∃ (s : State), s.dueOpt s.disp.scUntil = true) ∧
    (∃ (s : State), (panelOn s = false ∨ s.power.state = PowerState.off)) ∧
    (∃ (s : State), panelOn s = true ∧ s.power.state ≠ PowerState.off ∧ s.disp.vcomAt + vcomPeriod s ≤ s.time.osc) := by
  refine ⟨⟨com, hd 0, dispImage, dispLayout, ?_⟩,
    ⟨poke 0x0600 0 dispImage com, hd 0, pay 8 [(2, 2, 415), (4, 2, 8), (6, 2, 1)] ++ [255], 0, 415, 8, 1, ?_⟩,
    ⟨com, hd 0, pay 4 [(0, 1, 1)] ++ pay 12 [(8, 2, 40)], ?_⟩,
    ⟨com, hd 0, [], ?_⟩,
    ⟨poke 0x0600 0 [2] (late 1000000), 0, 0, ?_⟩,
    ⟨poke 0x0600 0 [2] (late 1000000), ?_⟩,
    ⟨late 1000000, ?_⟩,
    ⟨{ com with disp := { com.disp with patternTo := some 0 } }, ?_⟩,
    ⟨{ com with disp := { com.disp with scUntil := some 0 } }, ?_⟩,
    ⟨com, ?_⟩,
    ⟨poke 0x0600 0 [2, 0, 0, 0, 0, 0, 0, 60] (late 1000000), ?_⟩⟩
  · unfold Accepted; decide +kernel
  · unfold Accepted; decide +kernel
  · unfold Accepted; decide +kernel
  · unfold Accepted; decide +kernel
  · decide +kernel
  · decide +kernel
  · decide +kernel
  · decide +kernel
  · decide +kernel
  · decide +kernel
  · decide +kernel

/-- States and operands that meet the hypotheses of each clause of `ReadersFindCards`. -/
theorem witness_ReadersFindCards :
    (∃ (s : State) (h : Hdr) (pl : Bytes) (l : Layout) (id : Nat), Accepted cmdRdrConfigure h pl s ∧ fld pl 0 1 < 4 ∧ id =
      1552 + fld pl 0 1 ∧ layout id = some l ∧ (writeWorlds id).contains h.world = true ∧ (List.drop 4 pl).length ≤ l.size ∧
      objectOk l (stageBase s h.port id) (overlay (stageBase s h.port id) 0 (List.drop 4 pl)) = true ∧ ((stagedOf (s.port
      h.port) id).isSome = true ∨ (s.port h.port).staging.length < 64)) ∧
    (∃ (s : State) (h : Hdr) (pl : Bytes) (k : Nat), Accepted cmdRdrPoll h pl s ∧ fld pl 0 1 = k ∧ k < 4 ∧ fld pl 1 1 ≤ 7 ∧
      1 ≤ fld pl 2 2 ∧ fld pl 2 2 ≤ 60000 ∧ portWorks s k = true ∧ (s.reader k).pollTo = none) ∧
    (∀ (h : Config.cardAnswer 0 [0] = some []), ∃ (s : State) (h : Hdr) (pl : Bytes) (k : Nat) (card : CardKind × Bytes) (a
      : Bytes), Accepted cmdRdrTransceive h pl s ∧ fld pl 0 1 = k ∧ k < 4 ∧ (s.reader k).pollTo = none ∧ (s.reader k).card =
      some card ∧ 0 < fld pl 2 2 ∧ Config.cardAnswer s.draws (List.drop 4 pl) = some a) ∧
    (∃ (s : State) (k : Nat) (amp : Int) (phase : Int) (u : State), k < 4 ∧ pingsRun s = true ∧ portWorks s k = true ∧
      s.rdrField k 1 1 = 1 ∧ (s.reader k).pollTo = none ∧ (s.reader k).card = none ∧ pingDue s k = true ∧ u = s.modReader k
      (fun r => { r with pingAt := some (pingClock s k / pingPeriod s k) }) ∧ (u.reader k).basePings < 8) ∧
    (∃ (s : State) (k : Nat) (amp : Int) (phase : Int) (u : State), k < 4 ∧ pingsRun s = true ∧ portWorks s k = true ∧
      s.rdrField k 1 1 = 1 ∧ (s.reader k).pollTo = none ∧ (s.reader k).card = none ∧ pingDue s k = true ∧ u = s.modReader k
      (fun r => { r with pingAt := some (pingClock s k / pingPeriod s k) }) ∧ 8 ≤ (u.reader k).basePings ∧ antennaFault
      (u.reader k) amp = true) ∧
    (∃ (s : State) (k : Nat) (amp : Int) (phase : Int) (u : State), k < 4 ∧ pingsRun s = true ∧ portWorks s k = true ∧
      s.rdrField k 1 1 = 1 ∧ (s.reader k).pollTo = none ∧ (s.reader k).card = none ∧ pingDue s k = true ∧ u = s.modReader k
      (fun r => { r with pingAt := some (pingClock s k / pingPeriod s k) }) ∧ 8 ≤ (u.reader k).basePings ∧ antennaFault
      (u.reader k) amp = false ∧ deviates u k amp phase = true) ∧
    (∃ (s : State) (k : Nat) (cmd : CmdRef), k < 4 ∧ outputsDriven s = true ∧ s.dueOpt (s.reader k).pollTo = true ∧
      (s.reader k).pollCmd = some cmd) ∧
    (∃ (s : State) (k : Nat), k < 4 ∧ outputsDriven s = true ∧ (s.reader k).releaseAt ≤ s.time.osc) ∧
    (∃ (s : State) (k : Nat) (kind : CardKind) (uid : Bytes), k < 4 ∧ outputsDriven s = true ∧ (s.reader k).pollTo.isSome =
      true ∧ testBit (s.reader k).pollProto (protoBit kind) = true ∧ uidOk kind uid = true) := by
  refine ⟨⟨com, hd 0, pay 4 [(0, 1, 3)] ++ readerImage, readerLayout, 0x0613, ?_⟩,
    ⟨poke 0x0613 0 [3] com, hd 0, pay 4 [(0, 1, 3), (1, 1, 7), (2, 2, 60000)], 3, ?_⟩,
    fun h => ⟨com.modReader 3 fun r => { r with card := some (.iso15693, []) }, hd 0, pay 4 [(0, 1, 3), (2, 2, 1)] ++ [0], 3,
      (.iso15693, []), [], ?_⟩,
    ⟨(poke 0x0613 0 [3] (late 7500)), 3, 0, 0,
      ((poke 0x0613 0 [3] (late 7500))).modReader 3 fun r => { r with pingAt := some 0 }, ?_⟩,
    ⟨(poke 0x0613 0 [3] (late 7500)).modReader 3 fun r => { r with basePings := 8, baseAmp := 65536 * 10 }, 3, 1, 0,
      ((poke 0x0613 0 [3] (late 7500)).modReader 3 fun r => { r with basePings := 8, baseAmp := 65536 * 10 }).modReader 3 fun r => { r with pingAt := some 0 },
      ?_⟩,
    ⟨(poke 0x0613 0 [3] (late 7500)).modReader 3 fun r => { r with basePings := 8, baseAmp := 65536 * 100 }, 3, 98, 0,
      ((poke 0x0613 0 [3] (late 7500)).modReader 3 fun r => { r with basePings := 8, baseAmp := 65536 * 100 }).modReader 3 fun r => { r with pingAt := some 0 },
      ?_⟩,
    ⟨com.modReader 3 fun r => { r with pollTo := some 0, pollCmd := some ⟨.spi, 1, 0⟩ }, 3, ⟨.spi, 1, 0⟩, ?_⟩,
    ⟨com, 3, ?_⟩,
    ⟨com.modReader 3 fun r => { r with pollTo := some 0, pollProto := 7 }, 3, .iso15693, List.replicate 8 0, ?_⟩⟩
  · unfold Accepted; decide +kernel
  · unfold Accepted; decide +kernel
  · exact ⟨(by unfold Accepted; decide +kernel), (by decide +kernel), (by decide +kernel), (by decide +kernel),
      (by decide +kernel), (by decide +kernel), (by exact h)⟩
  · exact ⟨(by decide +kernel), (by decide +kernel), (by decide +kernel), (by decide +kernel), (by decide +kernel),
      (by decide +kernel), (by decide +kernel), rfl, (by decide +kernel)⟩
  · exact ⟨(by decide +kernel), (by decide +kernel), (by decide +kernel), (by decide +kernel), (by decide +kernel),
      (by decide +kernel), (by decide +kernel), rfl, (by decide +kernel), (by decide +kernel)⟩
  · exact ⟨(by decide +kernel), (by decide +kernel), (by decide +kernel), (by decide +kernel), (by decide +kernel),
      (by decide +kernel), (by decide +kernel), rfl, (by decide +kernel), (by decide +kernel), (by decide +kernel)⟩
  · decide +kernel
  · decide +kernel
  · decide +kernel

/-- States and operands that meet the hypotheses of each clause of `TagServesTheHost`. -/
theorem witness_TagServesTheHost :
    (∃ (h : Hdr) (pl : Bytes) (s : State), Accepted cmdTagRead h pl s ∧ fld pl 1 1 ≤ 15 ∧ fld pl 0 1 + fld pl 1 1 ≤ 256 ∧
      tagReachable s = true ∧ fieldHolds s (fld pl 0 1) (fld pl 1 1) = false) ∧
    (∃ (h : Hdr) (pl : Bytes) (s : State), Accepted cmdTagRead h pl s ∧ fld pl 1 1 ≤ 15 ∧ fld pl 0 1 + fld pl 1 1 ≤ 256 ∧
      tagReachable s = true ∧ fieldHolds s (fld pl 0 1) (fld pl 1 1) = true) ∧
    (∃ (h : Hdr) (pl : Bytes) (s : State), Accepted cmdTagWrite h pl s ∧ fld pl 1 1 + fld pl 2 2 ≤ 256 ∧ 0 < fld pl 0 1 ∧
      tagReachable s = true ∧ fieldHolds s (fld pl 0 1) 1 = false) ∧
    (∃ (h : Hdr) (pl : Bytes) (s : State) (l : Layout), Accepted cmdTagConfigure h pl s ∧ layout 1568 = some l ∧
      (writeWorlds 1568).contains h.world = true ∧ List.length pl ≤ l.size ∧ objectOk l (stageBase s h.port 1568) (overlay
      (stageBase s h.port 1568) 0 pl) = true ∧ ((stagedOf (s.port h.port) 1568).isSome = true ∨ (s.port h.port).staging.length
      < 64)) ∧
    (∃ (h : Hdr) (pl : Bytes) (s : State), outputsDriven s = true ∧ tagReachable s = true ∧ s.tagField 5 1 = 1 ∧
      mirrorNeeded s = true ∧ fieldHolds s 0 1 = false) := by
  refine ⟨⟨hd 0, pay 4 [(0, 1, 241), (1, 1, 15)], com, ?_⟩,
    ⟨hd 0, pay 4 [(0, 1, 241), (1, 1, 15)], com.modTag fun t => { t with fieldLocks := [255] }, ?_⟩,
    ⟨hd 0, pay 4 [(0, 1, 255), (2, 2, 256)] ++ List.replicate 256 0, com, ?_⟩,
    ⟨hd 0, pay 16 [], com, tagLayout, ?_⟩,
    ⟨hd 0, [], com.modTag fun t => { t with mirrorDue := true }, ?_⟩⟩
  · unfold Accepted; decide +kernel
  · unfold Accepted; decide +kernel
  · unfold Accepted; decide +kernel
  · unfold Accepted; decide +kernel
  · decide +kernel

/-- States and operands that meet the hypotheses of each clause of `TagServesTheField`. -/
theorem witness_TagServesTheField :
    (∃ (s : State) (file : Nat) (off : Nat) (len : Nat) (sw : Nat), s.tagField 0 1 ≠ 0 ∧ readRefusal s file off len = some
      sw) ∧
    (∃ (s : State) (file : Nat) (off : Nat) (len : Nat) (f : Nat) (size : Nat), s.tagField 0 1 ≠ 0 ∧ readRefusal s file off
      len = none ∧ tagFile file = some (f, size)) ∧
    (∃ (s : State) (file : Nat) (off : Nat) (data : Bytes) (sw : Nat), s.tagField 0 1 ≠ 0 ∧ writeRefusal s file off
      (List.length data) = some sw) ∧
    (∃ (s : State) (file : Nat) (off : Nat) (data : Bytes) (f : Nat) (size : Nat), s.tagField 0 1 ≠ 0 ∧ writeRefusal s file
      off (List.length data) = none ∧ tagFile file = some (f, size)) ∧
    (∃ (s : State), s.tagField 0 1 ≠ 0) ∧
    (∃ (s : State) (a : Bytes), s.tagField 0 1 ≠ 0 ∧ 3 ≤ s.tag.wrong) ∧
    (∃ (s : State) (c : Bytes), s.tagField 0 1 ≠ 0 ∧ s.tag.wrong < 3 ∧ s.tagField 16 16 ≠ 65535 ∧ keyFailure s (s.tagField
      16 16) [1, 2] 3 (Requester.engine 4) = none ∧ s.tag.challenge = some c) := by
  refine ⟨⟨com, 0, 0, 0, 0x6A82, ?_⟩,
    ⟨com, 0xE103, 14, 1, 0, 15, ?_⟩,
    ⟨com, 0, 0, [], 0x6A82, ?_⟩,
    ⟨tagOpen com, 0xE104, 32511, [0], 256, 32512, ?_⟩,
    ⟨com, ?_⟩,
    ⟨com.modTag fun t => { t with wrong := 3 }, [], ?_⟩,
    ⟨(poke 0x0620 2 (le 2 511) (com.modKey 511 fun _ => tagKey)).modTag fun t => { t with challenge := some [] }, [], ?_⟩⟩
  all_goals (decide +kernel)

/-- States and operands that meet the hypotheses of each clause of `PowerStatesChange`. -/
theorem witness_PowerStatesChange :
    (∃ (s : State) (h : Hdr) (pl : Bytes), Accepted cmdReset h pl s ∧ (fld pl 0 1 = 1 ∨ fld pl 0 1 = 0 ∧ s.anyEnergised =
      false)) ∧
    (∃ (s : State) (h : Hdr) (pl : Bytes), Accepted cmdSetPowerState h pl s ∧ fld pl 4 4 / 32 % 2048 = 0 ∧ fld pl 4 4 /
      65536 ≤ 1440 ∧ fld pl 0 1 = 0 ∧ s.power.state = PowerState.quiet) ∧
    (∃ (s : State) (h : Hdr) (pl : Bytes), Accepted cmdSetPowerState h pl s ∧ fld pl 4 4 / 32 % 2048 = 0 ∧ fld pl 4 4 /
      65536 ≤ 1440 ∧ fld pl 0 1 = 1 ∧ s.power.state = PowerState.active ∧ s.anyEnergised = false) ∧
    (∃ (s : State) (h : Hdr) (pl : Bytes), Accepted cmdSetPowerState h pl s ∧ fld pl 4 4 / 32 % 2048 = 0 ∧ fld pl 4 4 /
      65536 ≤ 1440 ∧ fld pl 0 1 = 2 ∧ fld pl 4 4 ≠ 0 ∧ standbyRefused s = false) ∧
    (∃ (s : State), outputsDriven s = true ∧ s.power.state = PowerState.quiet ∧ s.power.quietExit = true) ∧
    (∃ (s : State), outputsDriven s = true ∧ s.power.standbyDue = true ∧ s.anyEnergised = false) ∧
    (∃ (s : State) (k : Nat), s.power.state = PowerState.standby ∧ s.power.starting = none ∧ s.power.flushing = false ∧ k <
      5 ∧ testBit s.power.wakeMask k = true) ∧
    (∃ (s : State) (mv : Nat) (us : Nat), mv < 7500 ∧ 1000 ≤ us ∧ s.power.vsup = true ∧ outputsDriven s = true ∧
      s.cont.vsupAOk = true ∧ s.cont.vsupBOk = true) ∧
    (∃ (s : State) (mv : Nat) (us : Nat), 8500 ≤ mv ∧ 10000 ≤ us ∧ s.power.vsup = false ∧ s.power.flushing = false ∧
      s.power.state = PowerState.backup ∧ s.power.mark = true ∧ s.cont.vsupAOk = false) := by
  refine ⟨⟨com, hd 0, pay 4 [], ?_⟩,
    ⟨{ com with power := { com.power with state := .quiet } }, hd 0, pay 8 [], ?_⟩,
    ⟨com, hd 0, pay 8 [(0, 1, 1)], ?_⟩,
    ⟨com, hd 0, pay 8 [(0, 1, 2), (4, 2, 1), (6, 2, 1440)], ?_⟩,
    ⟨{ com with power := { com.power with state := .quiet, quietExit := true } }, ?_⟩,
    ⟨{ com with power := { com.power with standbyDue := true } }, ?_⟩,
    ⟨{ com with power := { com.power with state := .standby, wakeMask := 31 } }, 4, ?_⟩,
    ⟨com, 7499, 1000, ?_⟩,
    ⟨{ { com with power := { com.power with state := .backup, vsup := false, mark := true } } with cont := { com.cont with vsupAOk := false } },
      8500, 10000, ?_⟩⟩
  · unfold Accepted; decide +kernel
  · unfold Accepted; decide +kernel
  · unfold Accepted; decide +kernel
  · unfold Accepted; decide +kernel
  · decide +kernel
  · decide +kernel
  · decide +kernel
  · decide +kernel
  · decide +kernel

/-- States and operands that meet the hypotheses of each clause of `PowerFailsAndStarts`. -/
theorem witness_PowerFailsAndStarts :
    (∃ (s : State), s.power.vsup = true) ∧
    (∃ (s : State) (mv : Nat), mv < 36000 ∧ (outputsDriven s = false ∨ s.anyEnergised = false)) ∧
    (∃ (s : State) (mv : Nat), mv < 36000 ∧ outputsDriven s = true ∧ s.anyEnergised = true) ∧
    (∃ (s : State), s.power.flushing = false ∧ s.power.vsup = true ∧ s.power.state ≠ PowerState.backup ∧ s.power.state ≠
      PowerState.off) ∧
    (∃ (s : State) (n : Nat) (back : Bool), s.power.flushing = true ∧ s.power.vsupBack = false) ∧
    (∃ (s : State), s.power.state = PowerState.backup ∧ s.power.starting = none) ∧
    (∃ (s : State) (us : Nat), (s.power.state = PowerState.active ∨ s.power.state = PowerState.quiet ∨ s.power.state =
      PowerState.standby) ∧ s.power.starting = none ∧ s.power.flushing = false ∧ us < 5) ∧
    (∃ (s : State) (us : Nat), (s.power.state = PowerState.active ∨ s.power.state = PowerState.quiet ∨ s.power.state =
      PowerState.standby) ∧ s.power.starting = none ∧ s.power.flushing = false ∧ 10 ≤ us) ∧
    (∃ (s : State) (m : StartConditions) (cls : StartClass), s.power.starting = some cls) ∧
    (∃ (s : State) (m : StartConditions), s.power.starting = none) := by
  refine ⟨⟨com, ?_⟩,
    ⟨com, 35999, ?_⟩,
    ⟨onBay 31 (fun y => { y with state := .energised }) com, 35999, ?_⟩,
    ⟨com, ?_⟩,
    ⟨{ com with power := { com.power with flushing := true } }, 0, true, ?_⟩,
    ⟨{ com with power := { com.power with state := .backup } }, ?_⟩,
    ⟨com, 4, ?_⟩,
    ⟨com, 10, ?_⟩,
    ⟨{ com with power := { com.power with starting := some .w } }, {}, .w, ?_⟩,
    ⟨com, {}, ?_⟩⟩
  all_goals (decide +kernel)

/-- States and operands that meet the hypotheses of each clause of `HostTransportsRun`. -/
theorem witness_HostTransportsRun :
    (∃ (s : State) (p : HostPort) (w : Nat) (op : Nat) (tag : Nat), hostReady s = true) ∧
    (∃ (s : State) (w : Nat) (op : Nat) (tag : Nat), hostReady s = true) ∧
    (∃ (s : State) (h : Hdr) (op : Nat) (pl : Bytes), hostReady s = true ∧ answers s op = true ∧ List.length pl = 4084 ∧
      h.version = 1 ∧ h.flags = 0 ∧ h.tag ≠ 0 ∧ dupOf (s.port h.port) h.tag = none ∧ (s.port h.port).outstanding.contains
      h.tag = false ∧ (s.port h.port).outstanding.length < 64 ∧ (s.port h.port).reassembly = none) ∧
    (∃ (s : State) (h : Hdr) (op : Nat) (frag : Nat) (pl : Bytes) (r : Reassembly), hostReady s = true ∧ answers s op = true
      ∧ h.version = 1 ∧ h.flags = 0 ∧ h.tag ≠ 0 ∧ 0 < frag ∧ frag < 16 ∧ (s.port h.port).reassembly = some r ∧ r.tag = h.tag ∧
      r.op = op ∧ r.world = h.world ∧ List.length pl = 4084 ∧ frag = r.next) ∧
    (∃ (s : State) (h : Hdr) (op : Nat) (frag : Nat) (pl : Bytes) (r : Reassembly), hostReady s = true ∧ answers s op = true
      ∧ h.version = 1 ∧ h.flags = 0 ∧ h.tag ≠ 0 ∧ 0 < frag ∧ frag < 16 ∧ (s.port h.port).reassembly = some r ∧ r.tag = h.tag ∧
      r.op = op ∧ r.world = h.world ∧ List.length pl ≤ 4084 ∧ frag = r.next) ∧
    (∃ (s : State) (h : Hdr) (op : Nat) (frag : Nat) (pl : Bytes) (r : Reassembly), hostReady s = true ∧ answers s op = true
      ∧ h.version = 1 ∧ h.flags = 0 ∧ h.tag ≠ 0 ∧ 0 < frag ∧ frag < 16 ∧ (s.port h.port).reassembly = some r ∧ r.tag = h.tag ∧
      r.op = op ∧ r.world = h.world ∧ List.length pl = 4084 ∧ frag ≠ r.next) ∧
    (∃ (s : State) (p : HostPort) (r : Reassembly), hostReady s = true ∧ (s.port p).reassembly = some r ∧ s.due r.deadline =
      true) ∧
    (∃ (s : State) (n : Nat), hostReady s = true ∧ (n = 0 ∨ 16 ≤ n ∧ n ≤ 4100)) ∧
    (∃ (s : State) (n : Nat), hostReady s = true) ∧
    (∃ (s : State) (p : HostPort) (n : Ntf) (rest : List Ntf), hostReady s = true ∧ (s.port p).ntfQueue = n :: rest) ∧
    (∃ (s : State) (d : Nat), s.uartRate.fallbackWait = some d ∧ s.due d = true) := by
  refine ⟨⟨com, .uart, 0, 0, 0, ?_⟩,
    ⟨com, 0, 0, 0, ?_⟩,
    ⟨com, hd 0, 0, List.replicate 4084 0, ?_⟩,
    ⟨com.modPort .spi fun p => { p with reassembly := some ⟨1, 0x0101, 0, 1, [], 0⟩ }, hd 0, 0x0101, 1,
      List.replicate 4084 0, ⟨1, 0x0101, 0, 1, [], 0⟩, ?_⟩,
    ⟨com.modPort .spi fun p => { p with reassembly := some ⟨1, 0x0101, 0, 1, [], 0⟩ }, hd 0, 0x0101, 1, [],
      ⟨1, 0x0101, 0, 1, [], 0⟩, ?_⟩,
    ⟨com.modPort .spi fun p => { p with reassembly := some ⟨1, 0x0101, 0, 1, [], 0⟩ }, hd 0, 0x0101, 15,
      List.replicate 4084 0, ⟨1, 0x0101, 0, 1, [], 0⟩, ?_⟩,
    ⟨com.modPort .uart fun p => { p with reassembly := some ⟨1, 0x0101, 0, 1, [], 0⟩ }, .uart, ⟨1, 0x0101, 0, 1, [], 0⟩, ?_⟩,
    ⟨com, 4100, ?_⟩,
    ⟨com, 0, ?_⟩,
    ⟨com.modPort .uart fun p => { p with ntfQueue := [{ op := 0, payload := [] }] }, .uart, { op := 0, payload := [] }, [],
      ?_⟩,
    ⟨{ com with uartRate := { fallbackWait := some 0 } }, 0, ?_⟩⟩
  all_goals (decide +kernel)

/-- States and operands that meet the hypotheses of each clause of `StepsTakeTheFront`. -/
theorem witness_StepsTakeTheFront :
    (∃ (s : State) (c : Instr) (rest : List Instr), s.pending = c :: rest) ∧
    (∃ (s : State), s.pending = []) := by
  refine ⟨⟨{ com with pending := [.halfCycleTick] }, .halfCycleTick, [], ?_⟩,
    ⟨com, ?_⟩⟩
  all_goals (decide +kernel)

/-- States and operands that meet the hypotheses of each clause of `StepsKeepTheInvariant`. -/
theorem witness_StepsKeepTheInvariant :
    (∃ (s : State) (t : State), s.Inv ∧ step s = Host.Outcome.next t) := by
  refine ⟨State.reset, tick State.reset, ?_⟩
  · exact ⟨(by unfold State.Inv State.Shaped; decide +kernel), rfl⟩

/-- States and operands that meet the hypotheses of each clause of `CommandsAreAnswered`. -/
theorem witness_CommandsAreAnswered :
    (∃ (i : Instr) (c : Command) (h : Hdr) (pl : Bytes) (s : State), hostRow i = some (c, h, pl) ∧ Accepted c h pl s) ∧
    (∃ (i : Instr) (c : Command) (h : Hdr) (pl : Bytes) (s : State) (e : Nat), hostRow i = some (c, h, pl) ∧ Screened c h pl
      s ∧ TagFree h s ∧ dupOf (s.port h.port) h.tag = none ∧ useRefusal c (callOf c h) s = some e) := by
  refine ⟨⟨.ping (hd 0) [], cmdPing, hd 0, [], com, ?_⟩,
    ⟨.keyImport (hd 0) [], cmdKeyImport, hd 0, [], com, errWorld, ?_⟩⟩
  · exact ⟨rfl, (by unfold Accepted; decide +kernel)⟩
  · exact ⟨rfl, (by unfold Screened; decide +kernel), (by unfold TagFree; decide +kernel), (by decide +kernel), (by decide +kernel)⟩

/-- States and operands that meet the hypotheses of each clause of `DuplicatesAreAnsweredFromTheWindow`. -/
theorem witness_DuplicatesAreAnsweredFromTheWindow :
    (∃ (i : Instr) (c : Command) (h : Hdr) (pl : Bytes) (s : State) (d : DupEntry), hostRow i = some (c, h, pl) ∧ Screened c
      h pl s ∧ dupOf (s.port h.port) h.tag = some d ∧ d.op = c.op ∧ d.world = h.world ∧ d.len = List.length pl ∧ d.trailer =
      trailerOf h c.op 0 false pl) ∧
    (∃ (i : Instr) (c : Command) (h : Hdr) (pl : Bytes) (s : State) (d : DupEntry), hostRow i = some (c, h, pl) ∧ Screened c
      h pl s ∧ dupOf (s.port h.port) h.tag = some d ∧ (d.op ≠ c.op ∨ d.world ≠ h.world ∨ d.len ≠ List.length pl ∨ d.trailer ≠
      trailerOf h c.op 0 false pl)) ∧
    (∃ (i : Instr) (c : Command) (h : Hdr) (pl : Bytes) (s : State), hostRow i = some (c, h, pl) ∧ Screened c h pl s ∧ dupOf
      (s.port h.port) h.tag = none ∧ (s.port h.port).outstanding.contains h.tag = true) ∧
    (∃ (i : Instr) (c : Command) (h : Hdr) (pl : Bytes) (s : State), hostRow i = some (c, h, pl) ∧ Screened c h pl s ∧
      Accepted c h pl s ∧ c.sc = true) ∧
    (∃ (i : Instr) (c : Command) (h : Hdr) (pl : Bytes) (s : State), hostRow i = some (c, h, pl) ∧ Screened c h pl s ∧
      Accepted c h pl s ∧ c.sc = false) := by
  refine ⟨⟨.ping (hd 0) [], cmdPing, hd 0, [],
      com.modPort .spi fun p => { p with dups := [⟨1, 0x0100, 0, 0, trailerOf (hd 0) 0x0100 0 false [], []⟩] },
      ⟨1, 0x0100, 0, 0, trailerOf (hd 0) 0x0100 0 false [], []⟩, ?_⟩,
    ⟨.ping (hd 0) [0], cmdPing, hd 0, [0],
      com.modPort .spi fun p => { p with dups := [⟨1, 0x0100, 0, 0, trailerOf (hd 0) 0x0100 0 false [], []⟩] },
      ⟨1, 0x0100, 0, 0, trailerOf (hd 0) 0x0100 0 false [], []⟩, ?_⟩,
    ⟨.ping (hd 0) [], cmdPing, hd 0, [], com.modPort .spi fun p => { p with outstanding := [1] }, ?_⟩,
    ⟨.ctxStop (hd 0) [0], cmdCtxStop, hd 0, [0], com, ?_⟩,
    ⟨.ping (hd 0) [], cmdPing, hd 0, [], com, ?_⟩⟩
  · exact ⟨rfl, (by unfold Screened; decide +kernel), (by decide +kernel), (by decide +kernel), (by decide +kernel),
      (by decide +kernel), (by decide +kernel)⟩
  · exact ⟨rfl, (by unfold Screened; decide +kernel), (by decide +kernel), (by decide +kernel)⟩
  · exact ⟨rfl, (by unfold Screened; decide +kernel), (by decide +kernel), (by decide +kernel)⟩
  · exact ⟨rfl, (by unfold Screened; decide +kernel), (by unfold Accepted; decide +kernel), (by decide +kernel)⟩
  · exact ⟨rfl, (by unfold Screened; decide +kernel), (by unfold Accepted; decide +kernel), (by decide +kernel)⟩

/-- States and operands that meet the hypotheses of each clause of `QueriesOnlyRead`. -/
theorem witness_QueriesOnlyRead :
    (∃ (i : Instr) (c : Command) (h : Hdr) (pl : Bytes) (s : State), hostRow i = some (c, h, pl) ∧ c.sc = false) := by
  refine ⟨.ping (hd 0) [], cmdPing, hd 0, [], com, ?_⟩
  · exact ⟨rfl, (by decide +kernel)⟩

/-- States and operands that meet the hypotheses of each clause of `StoresStayInside`. -/
theorem witness_StoresStayInside :
    (∃ (s : State) (h : Hdr) (pl : Bytes), s.Inv ∧ Accepted cmdDispWrite h pl s ∧ s.power.failedKinds.getD 4 false = false ∧
      List.length pl - 8 = fld pl 6 2 * ((fld pl 4 2 * bitsPerPixel s + 7) / 8) ∧ fld pl 0 2 + fld pl 4 2 ≤ panelWidth s ∧ fld
      pl 2 2 + fld pl 6 2 ≤ panelHeight s ∧ fld pl 2 2 + fld pl 6 2 ≤ legalTop s ∧ panelWidth s * bitsPerPixel s % 8 = 0) ∧
    (∃ (s : State) (h : Hdr) (pl : Bytes), s.Inv ∧ Accepted cmdTagWrite h pl s ∧ fld pl 1 1 + fld pl 2 2 ≤ 256 ∧ fld pl 0 1
      ≠ 0 ∧ tagReachable s = true ∧ fieldHolds s (fld pl 0 1) 1 = false ∧ fld pl 0 1 < s.tag.pointer.map.length) := by
  refine ⟨⟨poke 0x0600 0 dispImage com, hd 0, pay 8 [(2, 2, 415), (4, 2, 8), (6, 2, 1)] ++ [255], ?_⟩,
    ⟨com, hd 0, pay 4 [(0, 1, 255), (2, 2, 256)] ++ List.replicate 256 0, ?_⟩⟩
  · exact ⟨(by unfold State.Inv State.Shaped; decide +kernel), (by unfold Accepted; decide +kernel), (by decide +kernel),
      (by decide +kernel), (by decide +kernel), (by decide +kernel), (by decide +kernel), (by decide +kernel)⟩
  · exact ⟨(by unfold State.Inv State.Shaped; decide +kernel), (by unfold Accepted; decide +kernel), (by decide +kernel),
      (by decide +kernel), (by decide +kernel), (by decide +kernel), (by decide +kernel)⟩

/-- States and operands that meet the hypotheses of each clause of `CommandsLeaveEnergyRegisters`. -/
theorem witness_CommandsLeaveEnergyRegisters :
    (∃ (i : Instr) (c : Command) (h : Hdr) (pl : Bytes) (s : State), hostRow i = some (c, h, pl)) := by
  refine ⟨.ping (hd 0) [], cmdPing, hd 0, [], com, ?_⟩
  · exact (rfl)

/-- States and operands that meet the hypotheses of each clause of `UnlockRestoresTheChannel`. -/
theorem witness_UnlockRestoresTheChannel :
    (∃ (s : State) (h : Hdr) (pl : Bytes) (k : Nat), Accepted cmdLswUnlock h pl s ∧ fld pl 0 1 = k ∧ k < 112 ∧
      s.chans.length = 112 ∧ ((s.chan k).clampLock = true ∨ (s.chan k).lockedOut = true)) ∧
    (∃ (s : State) (h : Hdr) (pl : Bytes) (k : Nat), Accepted cmdLswUnlock h pl s ∧ fld pl 0 1 = k ∧ k < 112 ∧
      s.chans.length = 112 ∧ (s.chan k).clampLock = false ∧ (s.chan k).lockedOut = false) := by
  refine ⟨⟨com.modChan 111 fun c => { c with lockedOut := true }, hd 0, [111], 111, ?_⟩,
    ⟨com, hd 0, [111], 111, ?_⟩⟩
  all_goals (unfold Accepted; decide +kernel)

end Sys2Proof.Tests
end

section
/-! SUPPORT. The phase clock's family: events of a bay, contactors that follow their coils, the states of the clock, the cycle
from strobe to boundary, and the state after reset. -/

namespace Sys2Proof.Machine

open Sys2Proof

/-! ### Events of a unit -/

theorem State.isDc_iff (s : State) (b : Nat) : s.isDc b = true ↔ s.kind b = 2 := by
  simp [State.isDc]

theorem atUnit_of_lt {kind : String} {n k : Nat} (h : k < n) (s : State) (f : State → State) :
    atUnit kind n k s f = .next (f s) := if_pos h

/-- While outputs are driven an event of a bay of the module is what it does to the state (R399). -/
theorem atLiveBay_driven {b : Nat} {s : State} (hb : b < 32) (hd : outputsDriven s = true) (f : State → State) :
    atLiveBay b s f = .next (f s) := by
  simp [atLiveBay, atBay, atUnit_of_lt hb, hd]

/-! ### Contactors -/

section
variable {s : State} {b : Nat} (hb : b < 32) (hd : outputsDriven s = true)
include hb hd

theorem execClosureDetected_some {w : EdgeWindow} {t : Nat} (hs : (s.bay b).state = .closing) (hc : (s.bay b).coil.on = true)
    (ht : closureAt s b w = some t) : execClosureDetected b w s = .next (confirmClosure b t s) := by
  simp [execClosureDetected, atLiveBay_driven hb hd, hs, hc, ht]

theorem execClosureDetected_none {w : EdgeWindow} (ht : closureAt s b w = none) : execClosureDetected b w s = .next s := by
  simp [execClosureDetected, atLiveBay_driven hb hd, ht]

theorem execReleaseDetected_some {w : EdgeWindow} {o t : Nat} (ho : (s.bay b).coil.openAt = some o)
    (ht : releaseAt s b w = some t) : execReleaseDetected b w s = .next (confirmRelease b t s) := by
  simp [execReleaseDetected, atLiveBay_driven hb hd, ho, ht]

theorem execReleaseDetected_none {w : EdgeWindow} (ht : releaseAt s b w = none) : execReleaseDetected b w s = .next s := by
  simp [execReleaseDetected, atLiveBay_driven hb hd, ht]

theorem execWeldCheck_low {mv t : Nat} (ho : (s.bay b).coil.openAt = some t) (hv : mv < 30000)
    (ht : s.time.osc ≤ t + 200000) : execWeldCheck b mv s = .next (weldPassed b s) := by
  simp [execWeldCheck, atLiveBay_driven hb hd, ho, hv, ht]

theorem execWeldCheck_high {mv t : Nat} (ho : (s.bay b).coil.openAt = some t) (hv : 30000 ≤ mv)
    (ht : t + 200000 ≤ s.time.osc) : execWeldCheck b mv s = .next (enterWelded b s) := by
  simp [execWeldCheck, atLiveBay_driven hb hd, ho, Nat.not_lt.2 hv, ht]

theorem execWeldOpenDetect_high (hk : s.kind b ≠ 2) (hc : (s.bay b).coil.on = false) (ho : (s.bay b).coil.openAt = none)
    (hw : (s.bay b).state ≠ .welded) (hu : 200000 ≤ (s.bay b).safety.uoHighUs) :
    execWeldOpenDetect b s = .next (enterWelded b s) := by
  simp [execWeldOpenDetect, atLiveBay_driven hb hd, State.isDc_iff, hk, hc, ho, hw, Nat.not_lt.2 hu]
end

theorem execTimedAction_some {s : State} {q : QEntry} (hd : outputsDriven s = true) (hq : nextEntry s = some q) :
    execTimedAction s = .next (executeEntry q s) := by
  simp [execTimedAction, hd, hq]

/-- Settles O9: an edge that is found confirms the closure or the release, whose times an AC bay (every kind but 2) learns; one
that is not found changes nothing; a weld check goes by UO and by the 200 ms since the open. -/
theorem contactorsFollowTheirCoils : Obligations.ContactorsFollowTheirCoils := by
  unfold Obligations.ContactorsFollowTheirCoils
  intro s b hb hd
  refine ⟨?closure, fun w ht => execClosureDetected_none hb hd ht, ?release, fun w ht => execReleaseDetected_none hb hd ht,
    fun mv t ho => ⟨fun hv ht => execWeldCheck_low hb hd ho hv ht, fun hv ht => execWeldCheck_high hb hd ho hv ht⟩,
    fun hk hc ho hw hu => execWeldOpenDetect_high hb hd hk hc ho hw hu, fun q hq => execTimedAction_some hd hq⟩
  case closure =>
    intro w t u hs hc ht hu
    refine (execClosureDetected_some hb hd hs hc ht).trans ?_
    cases hx : (s.bay b).ctx with
    | none => simp only [confirmClosure, measuredOperate, State.isDc_iff, hu, hx]
    | some c => simp only [confirmClosure, measuredOperate, State.isDc_iff, hu, hx]
  case release =>
    intro w t o ho ht
    refine (execReleaseDetected_some hb hd ho ht).trans ?_
    simp only [confirmRelease, State.isDc_iff]

/-! ### States of the phase clock -/

section
variable {s : State} (hr : clockRuns s = true)
include hr

theorem execLossOfReference_holds {cause : LossCause} (hl : lossHolds cause s = true) :
    execLossOfReference cause s = .next (loseReference s) := by
  simp [execLossOfReference, hr, hl]

/-- Four good cycles bring back ACQUIRE (R22, R23). -/
theorem execReferenceValid_acquires (hg : 4 ≤ s.clk.goodCycles) (hs : s.clk.state = .holdover ∨ s.clk.state = .deadReckon) :
    execReferenceValid s = .next { s with clk := { s.clk with state := .acquire, pullInCycles := 0, transition := none } } := by
  simp [execReferenceValid, hr, hg, hs]

/-- Eight cycles of pull-in make the cycle that begins the transition cycle (R25). -/
theorem execAcquirePullIn_marks (hp : 8 ≤ s.clk.pullInCycles) (hs : s.clk.state = .acquire) (ht : s.clk.transition = none)
    (ha : s.clk.angle = 0) :
    execAcquirePullIn s = .next { s with clk := { s.clk with transition := some s.clk.cycle } } := by
  simp [execAcquirePullIn, hr, hp, hs, ht, ha]

theorem execLockEntry_enters {c : BitVec 32} (hs : s.clk.state = .acquire) (ht : s.clk.transition = some c)
    (hc : s.clk.cycle = c + 1) : execLockEntry s = .next (enterLocked s) := by
  simp [execLockEntry, hr, hs, ht, hc]

theorem execHoldoverExpiry_expires (hh : 10 ≤ s.clk.holdCycles) (hs : s.clk.state = .holdover) :
    execHoldoverExpiry s = .next (deadReckon s) := by
  simp [execHoldoverExpiry, hr, hh, hs]
end

theorem loseReference_locked {s : State} (hs : s.clk.state = .locked) :
    loseReference s = leaveLocked (reportClock .locked .holdover
      { s with clk := { s.clk with state := .holdover, holdCycles := 0, goodCycles := 0, lockedCycle := false } }) := by
  simp [loseReference, hs]

theorem loseReference_acquire {s : State} (hs : s.clk.state = .acquire) :
    loseReference s = deadReckon { s with clk := { s.clk with transition := none, pullInCycles := 0, goodCycles := 0 } } := by
  simp [loseReference, hs]

/-- Settles O17: the loss of the reference leads on by the state it meets, each other row by its count of cycles. -/
theorem clockChangesState : Obligations.ClockChangesState := by
  unfold Obligations.ClockChangesState
  intro s hr
  refine ⟨fun cause hl hs => ?locked, fun cause hl hs => ?acquire, execReferenceValid_acquires hr, execAcquirePullIn_marks hr,
    fun c hs ht hc => execLockEntry_enters hr hs ht hc, execHoldoverExpiry_expires hr⟩
  case locked => exact (execLossOfReference_holds hr hl).trans (by rw [loseReference_locked hs])
  case acquire => exact (execLossOfReference_holds hr hl).trans (by rw [loseReference_acquire hs]; rfl)

/-! ### Strobes and pulses -/

theorem strobeDue_iff (s : State) : strobeDue s = true ↔ s.met.strobes.length < 128 ∧
    (32 * s.met.strobes.length ≤ s.clk.angle ∨ (s.clk.state = .acquire ∧ s.clk.transition = some s.clk.cycle)) := by
  simp [strobeDue]

theorem execSampleStrobe_due {s : State} {x : StrobeInput} (hm : metersRun s = true) (hd : strobeDue s = true) :
    execSampleStrobe x s = .next ((List.range 5).foldl (fun a k => strobePulse k a) (latchStrobe x s)) := by
  simp only [execSampleStrobe, hm, hd, Bool.not_true, Bool.or_self, Bool.false_eq_true, if_false]

theorem execPulseEnd_due {s : State} {k : Nat} (hk : k < 5) (hh : (s.met.pulses.getD k {}).high = true)
    (he : (s.met.pulses.getD k {}).endAt ≤ s.time.osc) :
    execPulseEnd k s = .next (s.modPulse k fun p => { p with high := false }) := by
  have hdue : s.due (s.met.pulses.getD k {}).endAt = true := decide_eq_true he
  simp only [execPulseEnd, atUnit_of_lt hk, hh, hdue, Bool.and_self, if_true]

/-! ### The boundary -/

@[simp] theorem clockCycle_cycle (f : Nat) (e : Int) (s : State) : (clockCycle f e s).clk.cycle = s.clk.cycle + 1 := rfl
@[simp] theorem clockCycle_angle (f : Nat) (e : Int) (s : State) : (clockCycle f e s).clk.angle = 0 := rfl
@[simp] theorem clockCycle_phaseErr (f : Nat) (e : Int) (s : State) : (clockCycle f e s).clk.phaseErr = e := rfl
@[simp] theorem clockCycle_cycleStart (f : Nat) (e : Int) (s : State) : (clockCycle f e s).clk.cycleStart = s.time.now := rfl
@[simp] theorem clockCycle_state (f : Nat) (e : Int) (s : State) : (clockCycle f e s).clk.state = s.clk.state := rfl
@[simp] theorem clockCycle_time (f : Nat) (e : Int) (s : State) : (clockCycle f e s).time = s.time := rfl

theorem samplesThere_of {s : State} (h : metersRun s = true → s.met.whole = true → s.met.strobes.length = 128) :
    samplesThere s = true := by
  by_cases hm : metersRun s = true
  · by_cases hw : s.met.whole = true
    · simp [samplesThere, h hm hw]
    · simp [samplesThere, hw]
  · simp [samplesThere, hm]

/-- Of all that a due boundary does, `clockCycle` alone changes the clock; the helpers around it leave clock and module time
(Laws/Boundary) and the skeleton and the memories (Laws/Keeps). -/
theorem execCycleBoundary_due (f : Nat) (e : Int) {s : State} (hr : clockRuns s = true) (hd : boundaryDue s.clk = true)
    (hs : samplesThere s = true) : ∃ t, execCycleBoundary f e s = .next t ∧
      t.clk = (clockCycle f e (closeCycleCounters (endCycle s))).clk ∧ t.time = { s.time with cycleOsc := s.time.osc } ∧
      t.skel = s.skel ∧ t.mem = s.mem := by
  simp only [execCycleBoundary, hr, hd, hs, Bool.not_true, Bool.or_self, Bool.false_eq_true, if_false]
  exact ⟨_, rfl, by simp, by simp, by simp, by simp⟩

/-- States of one skeleton have the same commands waiting and the same number of key slots. -/
theorem State.skel_eq_parts {s t : State} (h : t.skel = s.skel) : t.pending = s.pending ∧ t.keys.length = s.keys.length := by
  simp only [State.skel, Prod.mk.injEq, List.cons.injEq] at h
  obtain ⟨hp, -, -, -, hk, -⟩ := h
  exact ⟨hp, hk⟩

/-! ### Harmonic blocks -/

theorem execHarmonicBlockEnd_empty {s : State} (he : s.met.harm.ended = true) (hc : s.met.harm.cycles = 0) :
    execHarmonicBlockEnd s = .next { s with met := { s.met with
      harm := { first := s.clk.cycle.toNat, osc := s.time.cycleOsc } } } := by
  simp [execHarmonicBlockEnd, he, hc]

/-- A block with cycles yields one result per stream, the mean over its cycles of each harmonic's square (R55). -/
theorem execHarmonicBlockEnd_result {s : State} (he : s.met.harm.ended = true) (hc : 0 < s.met.harm.cycles) :
    ∃ one : List Nat → HarmonicBlock,
      execHarmonicBlockEnd s = .next { s with met := { s.met with
        harm := { first := s.clk.cycle.toNat, osc := s.time.cycleOsc }
        blocks := s.met.harm.sums.map fun l => some (one l) } } ∧
      ∀ l, (one l).first = s.met.harm.first ∧ (one l).cycles = s.met.harm.cycles ∧
        (one l).x = l.map fun v => rootQ v (s.met.harm.cycles * 2 ^ 32) := by
  have hmax : max 1 s.met.harm.cycles = s.met.harm.cycles := Nat.max_eq_right hc
  simp only [execHarmonicBlockEnd, he, hmax, Nat.ne_of_gt hc, beq_iff_eq, Bool.not_true, Bool.false_eq_true, if_false]
  exact ⟨_, rfl, fun l => ⟨rfl, rfl, rfl⟩⟩

/-! ### Half a cycle -/

theorem execHalfCycleTick_standby {s : State} (hp : s.power.state = .standby) : execHalfCycleTick s = .next (halfCycle s) := by
  simp [execHalfCycleTick, hp]

theorem execHalfCycleTick_due {s : State} (hp : s.power.state ≠ .standby) (ha : 2048 ≤ s.clk.angle)
    (hh : s.clk.halfDone = false) :
    execHalfCycleTick s = .next (halfCycle { s with clk := { s.clk with halfDone := true } }) := by
  simp [execHalfCycleTick, hp, ha, hh]

theorem execHalfCycleTick_notDue {s : State} (hp : s.power.state ≠ .standby)
    (h : s.clk.angle < 2048 ∨ s.clk.halfDone = true) :
    execHalfCycleTick s = .next s := by
  have hnot : ¬(2048 ≤ s.clk.angle ∧ s.clk.halfDone = false) := by
    rintro ⟨ha, hh⟩
    rcases h with h | h
    · omega
    · simp [hh] at h
  simp [execHalfCycleTick, hp, hnot]

/-- In STANDBY the module drives no outputs, so that ALIVE alone is due. -/
theorem halfCycle_standby {s : State} (hp : s.power.state = .standby) : halfCycle s = toggleAlive s := by
  simp [halfCycle, outputsDriven, hp]

/-- Settles O18: a due strobe, pulse end, block end and half cycle do what their row's rule says; at a boundary the clauses about
the clock are those of `clockCycle`, which no other part of the boundary touches. -/
theorem cyclesRun : Obligations.CyclesRun := by
  unfold Obligations.CyclesRun
  intro s
  refine ⟨?strobe, fun k hk hh he => execPulseEnd_due hk hh he, ?boundary, execHarmonicBlockEnd_empty, ?harmonics, ?half,
    execHalfCycleTick_notDue, ?standby⟩
  case strobe =>
    intro x u hm hl hd hu
    rw [hu]
    exact execSampleStrobe_due hm ((strobeDue_iff s).2 ⟨hl, hd⟩)
  case boundary =>
    intro f e hr hd hw
    obtain ⟨t, ht, hclk, htime, hskel, hmem⟩ := execCycleBoundary_due f e hr hd (samplesThere_of hw)
    obtain ⟨hpending, hkeys⟩ := State.skel_eq_parts hskel
    obtain ⟨hframe, hphys⟩ := Prod.mk.inj hmem
    refine ⟨t, ht, ?_, ?_, ?_, ?_, ?_, htime, hpending, hframe, hphys, hkeys⟩
    all_goals simp [hclk]
  case harmonics =>
    intro he hc
    obtain ⟨one, hexec, hone⟩ := execHarmonicBlockEnd_result he hc
    refine ⟨_, hexec, rfl, by simp, fun k l hl => ⟨one l, by simp [hl], hone l⟩⟩
  case half =>
    intro u hp ha hh hu
    rw [hu]
    exact execHalfCycleTick_due hp ha hh
  case standby =>
    intro hp
    exact (execHalfCycleTick_standby hp).trans (by rw [halfCycle_standby hp])

/-! ### Reset -/

@[simp] theorem State.reset_port (p : HostPort) : State.reset.port p = {} := by cases p <;> rfl
@[simp] theorem State.reset_bay (b : Nat) : State.reset.bay b = {} := List.getElem?_getD_replicate_default_eq ({} : Bay) 32 b
@[simp] theorem State.reset_ctx (c : Nat) : State.reset.ctx c = {} := List.getElem?_getD_replicate_default_eq ({} : Ctx) 256 c
@[simp] theorem State.reset_chan (k : Nat) : State.reset.chan k = {} := List.getElem?_getD_replicate_default_eq ({} : Chan) 112 k

theorem State.reset_shaped : State.reset.Shaped :=
  ⟨List.length_replicate, List.length_replicate, List.length_replicate,
    by simp only [State.reset, List.length_map, List.length_range], List.length_replicate, rfl, rfl⟩

theorem State.reset_inv : State.reset.Inv := ⟨State.reset_shaped, rfl, rfl⟩

/-- Settles O53: the ports, bays, contexts and channels after reset are those that their structures give by default. -/
theorem resetIsAColdStart : Obligations.ResetIsAColdStart := by
  unfold Obligations.ResetIsAColdStart
  refine ⟨State.reset_inv, rfl, rfl, rfl, rfl, rfl, rfl, rfl, rfl,
    fun p => ?port, fun b => ?bay, fun c => ?ctx, fun k => ?chan⟩
  case port => simp
  case bay => simp
  case ctx => simp
  case chan => simp

end Sys2Proof.Machine
end

section
/-! SUPPORT. The metering engines' family: meter readings, the objects of the pulse outputs and of the legal parameters, the
meter self-test, and faults of the sample streams. -/

namespace Sys2Proof.Machine

open Sys2Proof

/-! ### Readings -/

@[simp] theorem begun_meterMode (c : Command) (h : Hdr) (pl : Bytes) (s : State) (b : Nat) :
    (begun c h pl s).meterMode b = s.meterMode b := by simp [State.meterMode]
@[simp] theorem instantSite_begun (c : Command) (h : Hdr) (pl : Bytes) (s : State) :
    instantSite (begun c h pl s) = instantSite s := by simp [instantSite]
@[simp] theorem harmonicIndex_begun (c : Command) (h : Hdr) (pl : Bytes) (s : State) (set code : Nat) :
    harmonicIndex (begun c h pl s) set code = harmonicIndex s set code := by simp [harmonicIndex]

section
variable {call : Call} {pl : Bytes} {s : State}

theorem meterReadInstant_ok (hk : fld pl 0 1 ≤ 32) : cmdMeterReadInstant.body call pl s =
    okWith s (if fld pl 0 1 = 32 then instantSite s else instantBay (s.bay (fld pl 0 1)).meter.q) := by
  simp [cmdMeterReadInstant, Nat.not_lt.2 hk]

theorem meterReadRegisters_ok (hk : fld pl 0 1 ≤ 32) : cmdMeterReadRegisters.body call pl s =
    okWith s (le 4 s.met.lastCycle ++ le 4 0 ++ regSetBytes (s.regSet (fld pl 0 1))) :=
  if_neg (Nat.not_lt.2 hk)

theorem meterReadHarmonics_ok {j : Nat} {k : HarmonicBlock} (hj : harmonicIndex s (fld pl 0 1) (fld pl 1 1) = some j)
    (hk : s.met.blocks.getD j none = some k) : cmdMeterReadHarmonics.body call pl s =
      okWith s (le 4 k.first ++ le 1 (bit k.short + 2 * bit k.notLocked) ++ le 1 k.cycles ++ le 2 0 ++ le 4 k.fBlock ++
        le 2 k.thd ++ le 2 0 ++ (List.range 31).flatMap fun h => le 4 (k.x.getD h 0)) := by
  simp only [cmdMeterReadHarmonics, meterReadHarmonicsBody, hj, hk]

/-- PULSE_ASSIGN of an output other than PULSE_LED stages that output's whole object (R65). -/
theorem pulseAssign_stages (hk : fld pl 0 1 ≤ 3) : cmdPulseAssign.body call pl s =
    stageWrite call (0x0030 + fld pl 0 1) 0 (slice pl 4 8) s :=
  if_neg (Nat.not_lt.2 hk)

theorem legalParamRead_ok {bs : Bytes} (hl : isLegalObj (fld pl 0 2) = true)
    (hb : objectSlice (s.param (fld pl 0 2)) (fld pl 2 2) (fld pl 4 2) = some bs) : cmdLegalParamRead.body call pl s =
      okWith s (le 2 (fld pl 0 2) ++ le 2 (s.param (fld pl 0 2)).length ++ bs) := by
  simp [cmdLegalParamRead, hl, hb]
end

/-- Settles O21: each command's own rules answer from the state they run in, which shows the readings, the objects and the
staging of the state in which the command came. -/
theorem metersAnswer : Obligations.MetersAnswer := by
  unfold Obligations.MetersAnswer
  intro h pl s
  refine ⟨fun ha hk => ?instant, fun ha hk => ?registers, fun j k ha hj hk => ?harmonics, ?pulse, fun bs ha hl hb => ?legal⟩
  case instant => exact completes_of_accepted ha rfl (by simp [meterReadInstant_ok hk])
  case registers => exact completes_of_accepted ha rfl (by simp [meterReadRegisters_ok hk])
  case harmonics =>
    exact completes_of_accepted ha rfl (meterReadHarmonics_ok (by rwa [harmonicIndex_begun]) (by rwa [begun_met]))
  case pulse =>
    intro l new ha hk hl hw hnew hsize hok hroom
    refine completes_of_accepted ha rfl ((pulseAssign_stages hk).trans ?_)
    exact stageWrite_ok hl hw (by simpa using hnew) (by omega) (by simpa using hok) (stage_begun_staged hroom)
  case legal =>
    refine completes_of_accepted ha rfl ((legalParamRead_ok hl (by rwa [begun_param])).trans ?_)
    rw [begun_param]

/-! ### The meter self-test -/

/-- A self-test takes the bays of its mask where each of them is free, and starts with cleared test registers (R61). -/
theorem meterSelftest_begins {call : Call} {pl : Bytes} {s : State} (hm : maskBays (fld pl 0 4) ≠ []) (ht : s.met.test = none)
    (hfree : ∀ b ∈ maskBays (fld pl 0 4), (s.bay b).isEnergised = false ∧ (s.bay b).ctx = none ∧ (s.bay b).enabled = false) :
    cmdMeterSelftest.body call pl s = pending (beginTest (maskBays (fld pl 0 4)) call.ref s) := by
  have hany : ((maskBays (fld pl 0 4)).any fun b => (s.bay b).isEnergised || (s.bay b).ctx.isSome || (s.bay b).enabled) = false := by
    rw [List.any_eq_false]
    intro b hb
    obtain ⟨he, hc, hn⟩ := hfree b hb
    simp [he, hc, hn]
  simp only [cmdMeterSelftest, meterSelftestBody, List.isEmpty_eq_false_iff.2 hm, hany, ht, Option.isSome_none, Bool.false_eq_true,
    if_false]

theorem stepBays_of_ne {step : Nat} (h : step ≠ 5) (s : State) (bays : List Nat) : stepBays s bays step = bays := by
  simp [stepBays, h]

section
variable {s : State} {t : MeterTest} (ht : s.met.test = some t) (he : t.stepEnd ≤ s.time.osc) (hd : outputsDriven s = true)
include ht he hd

/-- Steps 1 to 3 report each bay and go on: the step behind them runs on every bay of the test. -/
theorem execSelftestStepEnd_next (hs : t.step < 4) (hb : t.bays ≠ []) :
    execSelftestStepEnd s = .next (beginStep t.bays (t.step + 1) t.cmd (t.bays.foldl (fun a b =>
      ntfBayFull b 6 (le 1 t.step ++ le 1 (bit (stepPass s b t.step)) ++ le 2 0 ++ le 8 (pattern 64 (stepValue s b t.step)))
        none 0 a) s)) := by
  have hdue : s.due t.stepEnd = true := decide_eq_true he
  have hlast : (t.step == 5) = false := by simp; omega
  simp only [execSelftestStepEnd, ht, hdue, hd, hlast, stepBays_of_ne (show t.step ≠ 5 by omega),
    stepBays_of_ne (show t.step + 1 ≠ 5 by omega), List.isEmpty_eq_false_iff.2 hb, Bool.not_true, Bool.or_self, Bool.false_and,
    Bool.false_eq_true, if_false]

/-- Step 5, which runs on the AC bays of the test (R62), is the last: the report of its last bay completes the command, and all
the bays are given back. -/
theorem execSelftestStepEnd_last (hs : t.step = 5) :
    execSelftestStepEnd s = .next (endTest t.bays ((stepBays s t.bays 5).foldl (fun a b =>
      ntfBayFull b 6 (le 1 5 ++ le 1 (bit (stepPass s b 5)) ++ le 2 0 ++ le 8 (pattern 64 (stepValue s b 5)))
        (if (stepBays s t.bays 5).getLast? = some b then some t.cmd else none)
        (if (stepBays s t.bays 5).getLast? = some b then stOk else 0) a) s)) := by
  have hdue : s.due t.stepEnd = true := decide_eq_true he
  simp only [execSelftestStepEnd, ht, hdue, hd, hs, Bool.not_true, Bool.or_self, Bool.false_eq_true, if_false, beq_self_eq_true,
    Bool.true_or, Bool.true_and, if_true, beq_iff_eq]
end

/-! ### Faults of the sample streams -/

/-- Stream k of bay b has number 8 b + k (R43). -/
theorem bayStream_split {b k : Nat} (hb : b < 32) (hk : k < 8) :
    8 * b + k < 260 ∧ ¬256 ≤ 8 * b + k ∧ (8 * b + k) / 8 = b ∧ (8 * b + k) % 8 = k := by omega

/-- A first fault of a used stream is marked, reported and recorded, and stops an energised bay whose outputs are driven. -/
theorem execStreamFault_bay {s : State} {b k : Nat} (hb : b < 32) (hk : k < 8) (hm : metersRun s = true)
    (hu : (usedStreams (s.meterMode b)).contains k = true) (hf : (s.bay b).meter.faults.getD k false = false)
    {marked u : State}
    (hmarked : marked = s.modBay b fun y => { y with meter := { y.meter with
      faults := setAt y.meter.faults k true, faultClear := setAt y.meter.faultClear k 0
      faultSeen := setAt y.meter.faultSeen k true } })
    (hrec : u = record 0x0202 (source 1 b) 1 (le 4 s.clk.cycle.toNat ++ le 4 (statusBase marked b))
      (ntfBay b 3 ([byte k, 1, 0, 0] ++ le 4 s.clk.cycle.toNat) marked)) :
    execStreamFault (8 * b + k) s = .next
      (if (s.bay b).isEnergised = true ∧ outputsDriven s = true then safeStop b 9 5 false u else evaluateBay b u) := by
  obtain ⟨hn, hbay, hdiv, hmod⟩ := bayStream_split hb hk
  subst hmarked hrec
  simp only [execStreamFault, atUnit_of_lt hn, hbay, hdiv, hmod, hm, hu, hf, Bool.not_true, Bool.false_eq_true, if_false,
    Bool.and_eq_true]

/-- A reference stream's fault is marked; that of stream 0 is the phase clock's reference fault as well. -/
theorem execStreamFault_ref {s : State} {k : Nat} (hk : k < 4) (hm : metersRun s = true) :
    execStreamFault (256 + k) s = .next { s with
      met := { s.met with
        refFaults := setAt s.met.refFaults k true, refClear := setAt s.met.refClear k 0, refSeen := setAt s.met.refSeen k true }
      clk := if k = 0 then { s.clk with refFault := true, goodCycles := 0 } else s.clk } := by
  have hn : 256 + k < 260 := by omega
  simp only [execStreamFault, atUnit_of_lt hn, hm, Nat.le_add_right, Nat.add_sub_cancel_left, Bool.not_true, Bool.false_eq_true,
    if_false, if_true, beq_iff_eq]
  split <;> rfl

theorem execStreamFaultClear_bay {s : State} {b k : Nat} (hb : b < 32) (hk : k < 8)
    (hf : (s.bay b).meter.faults.getD k false = true) (hc : 8 ≤ (s.bay b).meter.faultClear.getD k 0) :
    execStreamFaultClear (8 * b + k) s = .next (evaluateBay b (ntfBay b 3 ([byte k, 0, 0, 0] ++ le 4 s.clk.cycle.toNat)
      (s.modBay b fun y => { y with meter := { y.meter with faults := setAt y.meter.faults k false } }))) := by
  obtain ⟨hn, hbay, hdiv, hmod⟩ := bayStream_split hb hk
  simp only [execStreamFaultClear, atUnit_of_lt hn, hbay, hdiv, hmod, hf, Nat.not_lt.2 hc, decide_false, Bool.not_true, Bool.or_self,
    Bool.false_eq_true, if_false]

theorem execStreamFaultClear_ref {s : State} {k : Nat} (hk : k < 4) (hc : 8 ≤ s.met.refClear.getD k 0) :
    execStreamFaultClear (256 + k) s = .next { s with
      met := { s.met with refFaults := setAt s.met.refFaults k false }
      clk := if k = 0 then { s.clk with refFault := false } else s.clk } := by
  have hn : 256 + k < 260 := by omega
  simp only [execStreamFaultClear, atUnit_of_lt hn, Nat.le_add_right, Nat.add_sub_cancel_left, Nat.not_lt.2 hc, if_false, if_true,
    beq_iff_eq]
  split <;> rfl

/-- Settles O23: a self-test begins on free bays, each step's end goes on or ends it by the step's number, and a stream's number
says whether its fault or the end of it is a bay's or a reference's. -/
theorem meterChecksRun : Obligations.MeterChecksRun := by
  unfold Obligations.MeterChecksRun
  intro s
  refine ⟨?selftest, fun t ht he hd hs hb => execSelftestStepEnd_next ht he hd hs hb,
    fun t ht he hd hs => execSelftestStepEnd_last ht he hd hs,
    fun b k marked u hb hk hm hu hf hmarked hrec => execStreamFault_bay hb hk hm hu hf hmarked hrec, fun k hk hm => ?refFault,
    fun b k hb hk hf hc => execStreamFaultClear_bay hb hk hf hc, fun k hk hc => ?refClear⟩
  case selftest =>
    intro h pl ha hm ht hfree
    exact completes_of_accepted ha rfl (meterSelftest_begins hm (by simpa using ht) (by simpa using hfree))
  case refFault => exact ⟨_, execStreamFault_ref hk hm, rfl, fun h0 => if_pos h0, fun h0 => if_neg h0⟩
  case refClear => exact ⟨_, execStreamFaultClear_ref hk hc, rfl, fun h0 => if_pos h0, fun h0 => if_neg h0⟩

end Sys2Proof.Machine
end

section
/-! SUPPORT. The family of module time and of billing: the system queries, SET_TIME and ADJUST_TIME, calendars, profile, demand and
logbook, and the energy registers, which no command writes. -/

namespace Sys2Proof.Machine

open Sys2Proof

/-! ### System queries -/

@[simp] theorem identityBytes_begun (c : Command) (h : Hdr) (pl : Bytes) (s : State) :
    identityBytes (begun c h pl s) = identityBytes s := by simp [identityBytes]
@[simp] theorem healthBytes_begun (c : Command) (h : Hdr) (pl : Bytes) (s : State) :
    healthBytes (begun c h pl s) = healthBytes s := by simp [healthBytes]

/-- The tags outstanding while a command with a new tag runs are those of before and its own (R282). -/
theorem outstanding_begun_length {c : Command} {h : Hdr} {pl : Bytes} {s : State}
    (hfree : (s.port h.port).outstanding.contains h.tag = false) :
    ((begun c h pl s).port h.port).outstanding.length = (s.port h.port).outstanding.length + 1 := by
  have hkeep : (s.port h.port).outstanding.filter (· != h.tag) = (s.port h.port).outstanding := by
    rw [List.filter_eq_self]
    intro t ht
    have hne : t ≠ h.tag := by
      rintro rfl
      simp [ht] at hfree
    simpa using hne
  rw [outstanding_begun, hkeep, List.length_cons]

/-- GET_STATUS counts its own tag with the others; every other field is that of the state in which it came (R309). -/
theorem statusBytes_begun {c : Command} {h : Hdr} {pl : Bytes} {s : State}
    (hfree : (s.port h.port).outstanding.contains h.tag = false) :
    statusBytes (begun c h pl s) (callOf c h) =
      le 1 s.power.state.code ++ le 1 s.life.code ++ le 1 (s.port h.port).world.code ++
        le 1 (bitsOf [s.time.valid, s.safety.faultN, confirmedNow s, !(s.port h.port).staging.isEmpty]) ++
        le 1 ((s.port h.port).outstanding.length + 1) ++ [0] ++ le 2 (s.port h.port).ntfQueue.length ++
        le 2 (s.port h.port).dropped ++ le 2 0 := by
  simp only [statusBytes, callOf_port, outstanding_begun_length hfree, begun_power, begun_life, begun_port_world, begun_time,
    begun_safety, begun_confirmedNow, begun_port_staging, begun_port_ntfQueue, begun_port_dropped]

theorem Accepted.tagFree {c : Command} {h : Hdr} {pl : Bytes} {s : State} (ha : Accepted c h pl s) :
    (s.port h.port).outstanding.contains h.tag = false := by
  obtain ⟨-, -, -, -, -, -, -, hfree, -⟩ := ha
  exact hfree

theorem getTime_eq (call : Call) (pl : Bytes) (s : State) : cmdGetTime.body call pl s =
    okWith { s with draws := s.draws + 1, time := { s.time with nonce := some ((List.range 16).map (Config.random s.draws)) } }
      (le 8 s.time.now ++ le 1 (bit s.time.valid) ++ le 3 0 ++ le 4 (pattern 32 s.time.slew) ++
        (List.range 16).map (Config.random s.draws)) := rfl

/-- Settles O1: each query's own rules read what the arrival of its packet leaves alone, but for the tags outstanding, among which
GET_STATUS counts its own. -/
theorem systemQueriesAnswer : Obligations.SystemQueriesAnswer := by
  unfold Obligations.SystemQueriesAnswer
  intro h pl s
  refine ⟨fun ha => ?ping, fun ha => ?identity, fun ha => ?status, fun ha => ?health, fun ha => ?time⟩
  case ping => exact completes_of_accepted ha rfl (by simp [cmdPing])
  case identity => exact completes_of_accepted ha rfl (congrArg (okWith _) (identityBytes_begun _ _ _ _))
  case status => exact completes_of_accepted ha rfl (congrArg (okWith _) (statusBytes_begun ha.tagFree))
  case health => exact completes_of_accepted ha rfl (congrArg (okWith _) (healthBytes_begun _ _ _ _))
  case time => exact completes_of_accepted ha rfl ((getTime_eq _ _ _).trans (by simp only [begun_time, begun_draws]))

/-! ### Module time -/

section
variable {call : Call} {pl : Bytes} {s : State}

/-- A difference of at most 9 s from valid module time is slewed (R92). -/
theorem setTime_slews (hv : s.time.valid = true) (hd : ((fld pl 0 8 : Int) - s.time.now).natAbs ≤ 9000000) :
    cmdSetTime.body call pl s = ok (slewBy ((fld pl 0 8 : Int) - s.time.now) s) := by
  simp [cmdSetTime, setTimeBody, hv, hd]

/-- A larger step from LEGAL, back by at most an hour, needs a free logbook entry alone (R93, R95). -/
theorem setTime_legalStep (hd : 9000000 < ((fld pl 0 8 : Int) - s.time.now).natAbs)
    (hback : -3600000000 ≤ (fld pl 0 8 : Int) - s.time.now) (hfree : s.legal.logbook.length < 4096) (hw : call.world = 2) :
    cmdSetTime.body call pl s = ok (acceptStep (fld pl 0 8) 2 0xFFFF s) := by
  simp only [cmdSetTime, setTimeBody, logbookFree, Nat.not_le.2 hd, Int.not_lt.2 hback, hfree, hw, decide_false, decide_true, Bool.and_false,
    Bool.not_true, Bool.false_eq_true, if_false, beq_self_eq_true, if_true]

theorem adjustTime_slews (hd : (signed 32 (fld pl 0 4)).natAbs ≤ 9000000) :
    cmdAdjustTime.body call pl s = ok (slewBy (signed 32 (fld pl 0 4)) s) :=
  if_neg (Nat.not_lt.2 hd)
end

/-- Settles O4: the command's own rules see the module time and the logbook of the state in which it came. -/
theorem moduleTimeSet : Obligations.ModuleTimeSet := by
  unfold Obligations.ModuleTimeSet
  intro h pl s
  refine ⟨fun ha hv hd => ?slew, fun ha hd hback hfree hw => ?step, fun ha hd => ?adjust⟩
  case slew =>
    refine completes_of_accepted ha rfl ((setTime_slews (by simpa using hv) (by simpa using hd)).trans ?_)
    simp only [slewBy, begun_time]
  case step =>
    refine completes_of_accepted ha rfl
      ((setTime_legalStep (by simpa using hd) (by simpa using hback) (by simpa using hfree) hw).trans ?_)
    simp only [acceptStep, begun_time]
  case adjust => exact completes_of_accepted ha rfl (adjustTime_slews hd)

/-! ### Billing commands -/

@[simp] theorem intervalMin_begun (c : Command) (h : Hdr) (pl : Bytes) (s : State) :
    intervalMin (begun c h pl s) = intervalMin s := by simp [intervalMin]
@[simp] theorem energies_begun (c : Command) (h : Hdr) (pl : Bytes) (s : State) (base : IntervalSet → List Nat) :
    energies (begun c h pl s) base = energies s base := by simp [energies, whole]

section
variable {call : Call} {pl : Bytes} {s : State}

/-- A calendar that passes R85 takes its place by its instant. -/
theorem tariffLoadCalendar_ok (hok : calendarOk pl = true) (hat : s.time.now + 1000000 ≤ activateAt pl)
    (hnew : ∀ c ∈ s.cals.pending, activateAt c ≠ activateAt pl) (hroom : s.cals.pending.length < 3) :
    cmdTariffLoadCalendar.body call pl s =
      okWith { s with cals := { s.cals with
          pending := (s.cals.pending.filter fun c => activateAt c < activateAt pl) ++ [pl] ++
            s.cals.pending.filter fun c => activateAt pl < activateAt c } }
        (le 1 ((s.cals.pending.filter fun c => activateAt c < activateAt pl).length + 1) ++ le 3 0) := by
  have hany : (s.cals.pending.any fun c => activateAt c == activateAt pl) = false := by
    rw [List.any_eq_false]
    intro c hc
    simpa using hnew c hc
  simp only [cmdTariffLoadCalendar, tariffLoadBody, hok, Nat.not_lt.2 hat, hany, Nat.not_le.2 hroom, Bool.not_true, Bool.false_eq_true, if_false]

theorem tariffGet_ok {c : Bytes} (hk : fld pl 0 1 ≤ 3)
    (hc : (if fld pl 0 1 = 0 then s.cals.active else s.cals.pending[fld pl 0 1 - 1]?) = some c) :
    cmdTariffGet.body call pl s = okWith s c := by
  simp only [cmdTariffGet, tariffGetBody, Nat.not_lt.2 hk, beq_iff_eq, hc, if_false]

/-- A pending calendar is cancelled up to a cycle before its instant (R86). -/
theorem tariffCancelPending_ok {c : Bytes}
    (hc : s.cals.pending.find? (fun c => calId c == fld pl 0 4 && activateAt c == fld pl 8 8) = some c)
    (hcycle : 1000000000 ≤ (activateAt c - s.time.now) * s.clk.freq) :
    cmdTariffCancelPending.body call pl s = ok { s with cals := { s.cals with
      pending := s.cals.pending.filter fun c => !(calId c == fld pl 0 4 && activateAt c == fld pl 8 8) } } := by
  simp only [cmdTariffCancelPending, tariffCancelBody, hc, Nat.not_lt.2 hcycle, if_false]

/-- Entries from an index between the oldest and the newest that is held are read (R107). -/
theorem profileRead_ok {newest oldest : ProfileInterval} (hk : fld pl 0 1 ≤ 32) (hn : 0 < fld pl 2 2)
    (hnewest : s.intervals.ring.head? = some newest) (holdest : s.intervals.ring.getLast? = some oldest)
    (hlo : oldest.index ≤ fld pl 4 4) (hhi : fld pl 4 4 ≤ newest.index) :
    cmdProfileRead.body call pl s =
      let l := ((s.intervals.ring.reverse.filter fun i => fld pl 4 4 ≤ i.index).take (min (fld pl 2 2) 53)).map fun i =>
        i.entries.getD (fld pl 0 1) []
      okWith s (le 1 (fld pl 0 1) ++ le 1 (intervalMin s) ++ le 2 76 ++ le 4 oldest.index ++ le 4 newest.index ++
        le 4 l.length ++ le 8 0 ++ l.flatten) := by
  have hring : s.intervals.ring.isEmpty = false := by
    rw [List.isEmpty_eq_false_iff]
    intro hnil
    simp [hnil] at hnewest
  simp only [cmdProfileRead, profileReadBody, Nat.not_lt.2 hk, Nat.ne_of_gt hn, hnewest, holdest, hring, Nat.not_lt.2 hlo, Nat.not_lt.2 hhi,
    Option.map_some, Option.getD_some, beq_iff_eq, decide_false, Bool.or_self, Bool.false_eq_true, if_false]

theorem profileConfigure_ok (hr : objectInRange profileNotifyLayout pl = true) (hw : s.takesWrites paramPartition = true) :
    cmdProfileConfigure.body call pl s = ok (commitObject { id := 0x0024, version := objectVersion s 0x0024, data := pl } s) := by
  simp [cmdProfileConfigure, hr, hw]

theorem demandRead_ok (hk : fld pl 0 1 ≤ 32) :
    cmdDemandRead.body call pl s =
      let d := s.intervals.last.getD (fld pl 0 1) {}
      let e := (energies s (·.base)).getD (fld pl 0 1) (0, 0)
      okWith s (le 4 s.intervals.index ++ le 4 0 ++ le 8 e.1 ++ le 8 e.2 ++ le 8 d.imp ++ le 8 d.exp ++ le 8 d.endTime) :=
  if_neg (Nat.not_lt.2 hk)

theorem logbookRead_ok (hpos : 0 < fld pl 4 1) (hn : fld pl 4 1 ≤ 31) (hfirst : fld pl 0 4 < s.legal.logbook.length) :
    cmdLogbookRead.body call pl s =
      let l := (s.legal.logbook.drop (fld pl 0 4)).take (fld pl 4 1)
      okWith s (le 2 s.legal.logbook.length ++ le 1 l.length ++ le 1 0 ++ l.flatMap logEntryBytes) := by
  simp only [cmdLogbookRead, Nat.not_lt.2 hn, Nat.ne_of_gt hpos, Nat.not_le.2 hfirst, beq_iff_eq, if_false]
end

/-- Settles O20: the calendars, intervals and logbook that a billing command's own rules see are those of the state in which it
came. -/
theorem billingCommandsAnswer : Obligations.BillingCommandsAnswer := by
  unfold Obligations.BillingCommandsAnswer
  intro h pl s
  refine ⟨fun ha hok hat hnew hroom => ?load, fun c ha hk hc => ?get, fun c ha hc hcycle => ?cancel,
    fun newest oldest ha hk hn hnewest holdest hlo hhi => ?profile, fun ha hr hw => ?configure, fun ha hk => ?demand,
    fun ha hpos hn hfirst => ?logbook⟩
  case load =>
    refine completes_of_accepted ha rfl
      ((tariffLoadCalendar_ok hok (by simpa using hat) (by simpa using hnew) (by simpa using hroom)).trans ?_)
    rw [begun_cals]
  case get => exact completes_of_accepted ha rfl (tariffGet_ok hk (by simpa using hc))
  case cancel =>
    refine completes_of_accepted ha rfl ((tariffCancelPending_ok (by rwa [begun_cals]) (by simpa using hcycle)).trans ?_)
    rw [begun_cals]
  case profile =>
    refine completes_of_accepted ha rfl
      ((profileRead_ok hk hn (by simpa using hnewest) (by simpa using holdest) hlo hhi).trans ?_)
    rw [begun_intervals, intervalMin_begun]
  case configure =>
    refine completes_of_accepted ha rfl ((profileConfigure_ok hr (by simpa using hw)).trans ?_)
    rw [objectVersion_begun]
  case demand =>
    refine completes_of_accepted ha rfl ((demandRead_ok hk).trans ?_)
    rw [begun_intervals, energies_begun]
  case logbook =>
    refine completes_of_accepted ha rfl ((logbookRead_ok hpos hn (by simpa using hfirst)).trans ?_)
    rw [begun_legal]

/-! ### Energy registers -/

/-- A body that answers by a condition leaves the registers where both answers do. -/
theorem ite_leaves_regs {p : Prop} [Decidable p] {a b : Ans} {regs : List RegSet} (ha : a.state.met.regs = regs)
    (hb : b.state.met.regs = regs) : (if p then a else b).state.met.regs = regs := by
  split
  · exact ha
  · exact hb

/-! ### Commands whose rules stand in their own row

The lemmas of Laws/Registers speak of named bodies; a query that only reads needs none (`rfl`). -/

theorem cmdCommitParams_leavesRegs : cmdCommitParams.LeavesRegs := fun call pl s =>
  (applyCommits_regs effectAtReply _).trans (commitBody_regs call pl s)
theorem cmdBayEnable_leavesRegs : cmdBayEnable.LeavesRegs := fun _ pl s => withBay_regs pl s _ fun b => bayEnableBody_regs b s
theorem cmdBayDisable_leavesRegs : cmdBayDisable.LeavesRegs := fun call pl s =>
  withBay_regs pl s _ fun b => disableBay_regs b [call.ref] s
theorem cmdBayConfigure_leavesRegs : cmdBayConfigure.LeavesRegs := fun call pl s =>
  withBay_regs pl s _ fun b => stageObject_regs call (0x0100 + b) (pl.drop 4) s
theorem cmdBaySetLimit_leavesRegs : cmdBaySetLimit.LeavesRegs := fun _ pl s =>
  withBay_regs pl s _ fun _ => ite_leaves_regs rfl ((markDirty_regs _).trans (State_modBay_regs _ _ _))
theorem cmdBayUnlock_leavesRegs : cmdBayUnlock.LeavesRegs := fun _ pl s =>
  withBay_regs pl s _ fun b => ite_leaves_regs (releaseLock_regs b s) rfl
theorem cmdBayTestResidual_leavesRegs : cmdBayTestResidual.LeavesRegs := fun call pl s =>
  withBay_regs pl s _ fun b => ite_leaves_regs rfl (startSelfTest_regs b (some call.ref) s)
theorem cmdConverterConfigure_leavesRegs : cmdConverterConfigure.LeavesRegs := fun call pl s =>
  withBay_regs pl s _ fun b => converterConfigureBody_regs call b (pl.drop 4) s
theorem cmdCtxSuspend_leavesRegs : cmdCtxSuspend.LeavesRegs := fun _ pl s =>
  withCtx_regs pl s _ fun c _ => ite_leaves_regs ((suspendCtx_regs c 0 [] _).trans (State_modWk_regs s c _)) rfl
theorem cmdCtxStop_leavesRegs : cmdCtxStop.LeavesRegs := fun _ pl s =>
  withCtx_regs pl s _ fun c _ => ite_leaves_regs rfl (stopCtx_regs c s)
theorem cmdCtxRelease_leavesRegs : cmdCtxRelease.LeavesRegs := fun _ pl s =>
  withCtx_regs pl s _ fun c _ => ite_leaves_regs (stopCtx_regs c s) rfl
theorem cmdCtxGet_leavesRegs : cmdCtxGet.LeavesRegs := fun _ pl s =>
  withCtx_regs pl s (fun _ x => okWith s (ctxBytes x)) fun _ x => okWith_regs s (ctxBytes x)
theorem cmdCtxSetPriority_leavesRegs : cmdCtxSetPriority.LeavesRegs := fun _ pl s =>
  ite_leaves_regs rfl (withCtx_regs pl s _ fun c _ =>
    ite_leaves_regs ((markDirty_regs _).trans (State_modHd_regs s c _)) rfl)
theorem cmdMeterReadInstant_leavesRegs : cmdMeterReadInstant.LeavesRegs := fun _ _ _ => ite_leaves_regs rfl rfl
theorem cmdMeterReadRegisters_leavesRegs : cmdMeterReadRegisters.LeavesRegs := fun _ _ _ => ite_leaves_regs rfl rfl
theorem cmdPulseAssign_leavesRegs : cmdPulseAssign.LeavesRegs := fun call pl s =>
  ite_leaves_regs rfl (stageObject_regs call (0x0030 + fld pl 0 1) (slice pl 4 8) s)
theorem cmdLegalParamRead_leavesRegs : cmdLegalParamRead.LeavesRegs := fun _ pl s =>
  ite_leaves_regs rfl (by cases objectSlice (s.param (fld pl 0 2)) (fld pl 2 2) (fld pl 4 2) <;> rfl)
theorem cmdLegalParamWrite_leavesRegs : cmdLegalParamWrite.LeavesRegs := fun call pl s =>
  ite_leaves_regs rfl (legalWrite_regs call pl s)
theorem cmdProfileConfigure_leavesRegs : cmdProfileConfigure.LeavesRegs := fun _ _ s =>
  ite_leaves_regs rfl (ite_leaves_regs rfl (commitObject_regs _ s))
theorem cmdDemandRead_leavesRegs : cmdDemandRead.LeavesRegs := fun _ _ _ => ite_leaves_regs rfl rfl
theorem cmdLogbookRead_leavesRegs : cmdLogbookRead.LeavesRegs := fun _ _ _ =>
  ite_leaves_regs rfl (ite_leaves_regs rfl (ite_leaves_regs rfl rfl))
theorem cmdRecordRead_leavesRegs : cmdRecordRead.LeavesRegs := fun _ pl s => by
  refine ite_leaves_regs rfl ?_
  cases s.legal.records.find? (·.seq == fld pl 0 4) with
  | none => rfl
  | some r => exact ite_leaves_regs rfl rfl
theorem cmdSafetyConfirm_leavesRegs : cmdSafetyConfirm.LeavesRegs := fun _ _ _ =>
  ite_leaves_regs rfl ((ok_regs _).trans (met_regs_foldl _ (fun a b => evaluateBay_regs b a) _ _))
theorem cmdConsistConfigure_leavesRegs : cmdConsistConfigure.LeavesRegs := fun _ _ s =>
  ite_leaves_regs rfl (State_modImages_regs s _)
theorem cmdPerfAccess_leavesRegs : cmdPerfAccess.LeavesRegs := fun _ _ s => ite_leaves_regs rfl (State_modPerf_regs s _)
theorem cmdLswConfigure_leavesRegs : cmdLswConfigure.LeavesRegs := fun call pl s =>
  withChan_regs pl s _ fun k => stageObject_regs call (0x0200 + k) (pl.drop 4) s
theorem cmdLswGet_leavesRegs : cmdLswGet.LeavesRegs := fun _ _ _ => ite_leaves_regs rfl rfl
theorem cmdLswUnlock_leavesRegs : cmdLswUnlock.LeavesRegs := fun _ pl s => withChan_regs pl s _ fun k => lswUnlockBody_regs k s
theorem cmdRdrConfigure_leavesRegs : cmdRdrConfigure.LeavesRegs := fun call pl s =>
  withReader_regs pl s _ fun k => stageObject_regs call (0x0610 + k) (pl.drop 4) s
theorem cmdPlcGetLink_leavesRegs : cmdPlcGetLink.LeavesRegs := fun _ _ _ => ite_leaves_regs rfl rfl

theorem commands1_leaveRegs : ∀ c ∈ commands1, c.LeavesRegs :=
  List.forall_iff_forall_mem.1 (show List.Forall Command.LeavesRegs commands1 from
    ⟨fun _ _ s => notePing_regs s, fun _ _ _ => rfl, fun _ _ _ => rfl, resetBody_regs, setPowerStateBody_regs, getParamBody_regs,
    setParamBody_regs, cmdCommitParams_leavesRegs, openWorldBody_regs, fun call _ s => closeWorldOn_regs call.port s,
    getTimeBody_regs, setTimeBody_regs, adjustTimeBody_regs, fun _ _ _ => rfl, cmdBayConfigure_leavesRegs, fun _ _ _ => rfl,
    cmdBayEnable_leavesRegs, cmdBayDisable_leavesRegs⟩)
theorem commands2_leaveRegs : ∀ c ∈ commands2, c.LeavesRegs :=
  List.forall_iff_forall_mem.1 (show List.Forall Command.LeavesRegs commands2 from
    ⟨cmdBaySetLimit_leavesRegs, cmdBayUnlock_leavesRegs, cmdBayTestResidual_leavesRegs, cmdConverterConfigure_leavesRegs,
    ctxOpenBody_regs, ctxAuthoriseBody_regs, ctxBindBody_regs, ctxStartBody_regs, cmdCtxSuspend_leavesRegs, ctxResumeBody_regs,
    cmdCtxStop_leavesRegs, ctxSetQuotaBody_regs, ctxSetProfileBody_regs, cmdCtxGet_leavesRegs, fun _ _ _ => rfl, ctxAckBody_regs,
    cmdCtxRelease_leavesRegs, siteSetBudgetBody_regs⟩)
theorem commands3_leaveRegs : ∀ c ∈ commands3, c.LeavesRegs :=
  List.forall_iff_forall_mem.1 (show List.Forall Command.LeavesRegs commands3 from
    ⟨fun _ _ _ => rfl, cmdCtxSetPriority_leavesRegs, cmdMeterReadInstant_leavesRegs, cmdMeterReadRegisters_leavesRegs,
    meterReadHarmonicsBody_regs, cmdPulseAssign_leavesRegs, cmdLegalParamRead_leavesRegs, cmdLegalParamWrite_leavesRegs,
    meterSelftestBody_regs, tariffLoadBody_regs, tariffGetBody_regs, tariffCancelBody_regs, profileReadBody_regs,
    cmdProfileConfigure_leavesRegs, cmdDemandRead_leavesRegs, cmdLogbookRead_leavesRegs, cmdRecordRead_leavesRegs,
    credLookupBody_regs⟩)
theorem commands4_leaveRegs : ∀ c ∈ commands4, c.LeavesRegs :=
  List.forall_iff_forall_mem.1 (show List.Forall Command.LeavesRegs commands4 from
    ⟨credBeginBody_regs, credDataBody_regs, credCommitBody_regs, fun _ _ _ => rfl, pncVerifyBody_regs, fun _ _ _ => rfl,
    safetyLoadBody_regs, fun _ _ _ => rfl, cmdSafetyConfirm_leavesRegs, resetFaultBody_regs,
    fun _ pl s => loadSafety_regs [(0x0302, 144, pl)] s, keyListBody_regs, keyGenerateBody_regs, keyImportBody_regs,
    keyDeriveBody_regs, keyInvalidateBody_regs, keyGetPublicBody_regs, attestBody_regs⟩)
theorem commands5_leaveRegs : ∀ c ∈ commands5, c.LeavesRegs :=
  List.forall_iff_forall_mem.1 (show List.Forall Command.LeavesRegs commands5 from
    ⟨setLifecycleBody_regs, updateBeginBody_regs, updateDataBody_regs, updateEndBody_regs, updateActivateBody_regs,
    fun _ _ _ => rfl, updateAbortBody_regs, cmdConsistConfigure_leavesRegs, updateForwardBody_regs, eventsReadBody_regs,
    fun _ _ _ => rfl, eventsFilterBody_regs, perfConfigureBody_regs, perfReadBody_regs, cmdPerfAccess_leavesRegs,
    cmdLswConfigure_leavesRegs, lswSetBody_regs, cmdLswGet_leavesRegs⟩)
theorem commands6_leaveRegs : ∀ c ∈ commands6, c.LeavesRegs :=
  List.forall_iff_forall_mem.1 (show List.Forall Command.LeavesRegs commands6 from
    ⟨cmdLswUnlock_leavesRegs, fun call pl s => stageObject_regs call 0x0600 pl s, dispWriteBody_regs, dispBlinkBody_regs,
    fun _ _ _ => rfl, cmdRdrConfigure_leavesRegs, rdrPollBody_regs, rdrTransceiveBody_regs, tagReadBody_regs, tagWriteBody_regs,
    fun call pl s => stageObject_regs call 0x0620 pl s, fun call pl s => stageObject_regs call 0x0501 pl s,
    cmdPlcGetLink_leavesRegs, fun _ _ _ => rfl, fun call pl s => stageObject_regs call 0x0500 pl s,
    fun call pl s => stageObject_regs call 0x0510 pl s, fun _ _ _ => rfl⟩)

/-- No command of the table changes the registers (R75). -/
theorem commandOf_leavesRegs {op : Nat} {c : Command} (h : commandOf op = some c) : c.LeavesRegs := by
  have hm := List.mem_of_find?_eq_some h
  simp only [List.mem_append] at hm
  rcases hm with ((((hm | hm) | hm) | hm) | hm) | hm
  exacts [commands1_leaveRegs c hm, commands2_leaveRegs c hm, commands3_leaveRegs c hm, commands4_leaveRegs c hm,
    commands5_leaveRegs c hm, commands6_leaveRegs c hm]

/-- The row of a host command carries the command that its opcode names (R281 step 8). -/
theorem commandOf_hostRow {i : Instr} {c : Command} {h : Hdr} {pl : Bytes} (hr : hostRow i = some (c, h, pl)) :
    commandOf c.op = some c := by
  cases i <;> cases hr <;> rfl

/-- Settles O59: a packet is received, and neither the reception nor the rules of the command that its opcode names touch the
registers. -/
theorem commandsLeaveEnergyRegisters : Obligations.CommandsLeaveEnergyRegisters := by
  unfold Obligations.CommandsLeaveEnergyRegisters
  intro i c h pl s hr
  exact ⟨_, exec_hostRow hr s, receive_regs (commandOf_leavesRegs (commandOf_hostRow hr)) h pl s⟩

end Sys2Proof.Machine
end

section
/-! SUPPORT. The family of legal parameters, session records, the life cycle and the units of the module: what a legal write
stores and when it is in force, how a closed session's record is signed and its slot freed, the moves of the life cycle, and
units that fail and re-couple. -/

namespace Sys2Proof.Machine

open Sys2Proof

/-! ### Legal parameters -/

@[simp] theorem legalContent_begun (c : Command) (h : Hdr) (pl : Bytes) (s : State) (id : Nat) :
    legalContent (begun c h pl s) id = legalContent s id := by simp [legalContent]
@[simp] theorem legalRule_begun (c : Command) (h : Hdr) (pl : Bytes) (s : State) (id : Nat) (new : Bytes) :
    legalRule (begun c h pl s) id new = legalRule s id new := by
  obtain ⟨_, _, _, _, e⟩ := begun_eq c h pl s
  rw [e]
  rfl

/-- A write that passes each check of R114 in turn is stored, and the logbook takes it with the checksum that will be in force. -/
theorem legalParamWrite_stores {call : Call} {pl : Bytes} {s : State} {l : Layout} {data old new : Bytes}
    (hfree : s.legal.logbook.length < 4096) (hpl : 8 ≤ pl.length) (hid : isLegalObj (fld pl 0 2) = true)
    (hl : layout (fld pl 0 2) = some l) (hdata : pl.drop 8 = data) (hpos : 0 < data.length) (hmax : data.length ≤ 32)
    (hlen : fld pl 4 1 = data.length) (hz : zeroAt pl 5 3 = true) (hold : legalContent s (fld pl 0 2) = old)
    (hend : fld pl 2 2 + data.length ≤ old.length) (hnew : overlay old (fld pl 2 2) data = new)
    (hok : objectOk l old new = true) (hrule : legalRule s (fld pl 0 2) new = none) (hw : s.takesWrites legalPartition = true) :
    cmdLegalParamWrite.body call pl s =
      let stored : State := { s with legal := { s.legal with
        pending := s.legal.pending ++ [{ id := fld pl 0 2, offset := fld pl 2 2, data := data }] } }
      ok (logbook 1 call.world (checksumAfter stored) (le 2 (fld pl 0 2) ++ le 2 (fld pl 2 2) ++ le 2 data.length ++ le 2 0 ++
        le 4 (s.clk.cycle + 1).toNat ++ padTo 32 (slice old (fld pl 2 2) data.length) ++ padTo 32 data) stored) := by
  simp only [cmdLegalParamWrite, legalWrite, logbookFree, hfree, Nat.not_lt.2 hpl, hid, hl, hdata, hlen, hz, hold, hnew, hok, hrule,
    hw, beq_eq_false_iff_ne.2 (Nat.ne_of_gt hpos), Nat.not_lt.2 hmax, Nat.not_lt.2 hend, bne_self_eq_false, decide_false, decide_true,
    Bool.not_true, Bool.or_self, Bool.false_eq_true, if_false]

/-- A stored write in force: the object, the marks of the calibration and, for PULSE_LED, the pulse's register (R64, R67). -/
theorem applyLegalWrite_eq (w : LegalWrite) (s : State) : applyLegalWrite w s =
    let put := markCalibration w.id (s.putParam w.id (overlay (s.param w.id) w.offset w.data))
    if w.id = 0x0403 then reassignPulse 4 (s.param w.id) (overlay (s.param w.id) w.offset w.data) put else put := by
  simp only [applyLegalWrite, beq_iff_eq]

section
variable {s : State} (hm : metersRun s = true)
include hm

/-- Writes of other objects than DEMAND_CONFIG and SDM_CONFIG leave the interval open and unmarked. -/
theorem execLegalParamTakesEffect_plain (hp : s.legal.pending ≠ [])
    (hid : ∀ w ∈ s.legal.pending, w.id ≠ 0x0404 ∧ w.id ≠ 0x0401) :
    execLegalParamTakesEffect s = .next (applyLegal s) := by
  have hdemand : (s.legal.pending.any (·.id == 0x0404)) = false := by
    rw [List.any_eq_false]
    intro w hw
    simpa using (hid w hw).1
  have hsdm : (s.legal.pending.any (·.id == 0x0401)) = false := by
    rw [List.any_eq_false]
    intro w hw
    simpa using (hid w hw).2
  simp only [execLegalParamTakesEffect, hm, List.isEmpty_eq_false_iff.2 hp, hdemand, hsdm, Bool.not_true, Bool.or_self,
    Bool.false_eq_true, if_false]

/-- A write of DEMAND_CONFIG breaks the interval, and the one that opens is marked (R80). -/
theorem execLegalParamTakesEffect_demand (hw : ∃ w ∈ s.legal.pending, w.id = 0x0404) :
    execLegalParamTakesEffect s = .next { breakInterval 0 0 applyLegal s with
      intervals := { (breakInterval 0 0 applyLegal s).intervals with
        flags := (breakInterval 0 0 applyLegal s).intervals.flags ||| 0x2000 } } := by
  obtain ⟨w, hmem, hid⟩ := hw
  have hp : s.legal.pending.isEmpty = false := List.isEmpty_eq_false_iff.2 (List.ne_nil_of_mem hmem)
  have hdemand : (s.legal.pending.any (·.id == 0x0404)) = true := List.any_eq_true.2 ⟨w, hmem, by simp [hid]⟩
  simp only [execLegalParamTakesEffect, hm, hp, hdemand, Bool.not_true, Bool.or_self, Bool.true_or, Bool.false_eq_true, if_false,
    if_true]
end

/-- A flag that is set is found set. -/
theorem or_and_mark (flags mark : Nat) : (flags ||| mark) &&& mark = mark := by
  refine Nat.eq_of_testBit_eq fun i => ?_
  rw [Nat.testBit_and, Nat.testBit_or]
  cases mark.testBit i <;> simp

/-- An open interval that is broken ends with its running number: the next one begins with an empty sliding window. -/
theorem breakInterval_applyLegal_next (f o : Nat) {s : State} (hc : s.intervals.closed = false) :
    (breakInterval f o applyLegal s).intervals.index = s.intervals.index + 1 ∧
      (breakInterval f o applyLegal s).intervals.window = [] := by
  obtain ⟨g, n, e⟩ := breakInterval_cases f o applyLegal s
  rw [e]
  simp [closeInterval_index _ _ _ hc, closeInterval_window _ _ hc]

/-- Settles O22: the write's own rules see the logbook, the objects and the stored writes of the state in which it came; whether
stored writes break the interval goes by the objects they are of. -/
theorem legalParametersWritten : Obligations.LegalParametersWritten := by
  unfold Obligations.LegalParametersWritten
  intro h pl s
  refine ⟨?write, fun hm hp hid => ?plain, fun hm hc hw => ?demand⟩
  case write =>
    intro l data old new ha hfree hpl hid hl hdata hpos hmax hlen hz hold hend hnew hok hrule hw
    refine completes_of_accepted ha rfl
      ((legalParamWrite_stores (by simpa using hfree) hpl hid hl hdata hpos hmax hlen hz (by simpa using hold) hend hnew hok
        (by simpa using hrule) (by simpa using hw)).trans ?_)
    simp only [begun_legal, begun_clk, callOf_world]
  case plain =>
    refine (execLegalParamTakesEffect_plain hm hp hid).trans ?_
    simp only [applyLegal, applyLegalWrite_eq]
  case demand =>
    obtain ⟨hindex, hwindow⟩ := breakInterval_applyLegal_next 0 0 hc
    exact ⟨_, execLegalParamTakesEffect_demand hm hw, rfl, hindex, or_and_mark _ _, hwindow⟩

/-! ### Session records -/

section
variable {s : State} {c b : Nat} (hc : c < 256) (hb : (s.ctx c).hd.bay = some b) (hs : (s.ctx c).hd.state = .finishing)
  (hclosing : (s.ctx c).wk.closing.isSome = true) (hm : metersRun s = true)
  (hk : keyUsable s (meterSlot b) [3] 2 (.engine 0) = true)
include hc hb hs hclosing hm hk

/-- A closed session's record that can be signed goes into a regular slot, and into the reserve only where none is free (R125). -/
theorem execRecordSign_signed : execRecordSign c s = .next
    (if regularUsed s < 8192 then storeRecord c b false s
      else if reserveUsed (exhaustStore s) < 1024 then storeRecord c b true (exhaustStore s)
      else holdSessions (waitRecord c (exhaustStore s))) := by
  have hsome : (s.ctx c).wk.closing.isNone = false := by
    rw [Option.isNone_eq_false_iff, hclosing]
  simp only [execRecordSign, atCtx, atUnit_of_lt hc, hb, hs, hsome, hm, hk, bne_self_eq_false, Bool.not_true, Bool.or_self,
    Bool.false_eq_true, if_false]
end

/-- The slots of one record that is acknowledged and has stood RETAIN_DAYS are freed (R125). -/
theorem execRecordSlotFreed_due {seq : Nat} {s : State} {r : RecordSlot} (hr : r ∈ s.legal.records) (hseq : r.seq = seq)
    (hack : r.acked = true) (hfree : r.free = false) (hdays : r.signedAt + s.field 0x0405 0 16 * 86400000000 ≤ s.time.now) :
    execRecordSlotFreed seq s = .next (storeLevel { s with legal := { s.legal with
      records := s.legal.records.map fun q =>
        if q.seq = seq ∧ q.acked = true ∧ q.free = false ∧ q.signedAt + s.field 0x0405 0 16 * 86400000000 ≤ s.time.now
        then { q with free := true } else q } }) := by
  have hany : (s.legal.records.any fun q => q.seq == seq && q.acked && !q.free &&
      Decidable.decide (q.signedAt + s.field 0x0405 0 16 * 86400000000 ≤ s.time.now)) = true :=
    List.any_eq_true.2 ⟨r, hr, by simp [hseq, hack, hfree, hdays]⟩
  simp only [execRecordSlotFreed, hany, if_true, Bool.and_eq_true, beq_iff_eq, decide_eq_true_eq, Bool.not_eq_true', and_assoc]

/-- RECORD_READ answers the rendering asked for of a record that has it (R127). -/
theorem recordRead_ok {call : Call} {pl : Bytes} {s : State} {r : RecordSlot} (hk : fld pl 4 1 ≤ 1)
    (hr : s.legal.records.find? (·.seq == fld pl 0 4) = some r) (hne : (if fld pl 4 1 = 1 then r.ocmf else r.cose) ≠ []) :
    cmdRecordRead.body call pl s =
      let data := if fld pl 4 1 = 1 then r.ocmf else r.cose
      okWith s (le 2 data.length ++ le 2 0 ++ data) := by
  simp only [cmdRecordRead, Nat.not_lt.2 hk, hr, beq_iff_eq, List.isEmpty_eq_false_iff.2 hne, Bool.false_eq_true, if_false]

/-- Settles O24: which slot a record takes goes by the free ones; RECORD_READ reads what the arrival of its packet leaves alone. -/
theorem recordsSignedAndRead : Obligations.RecordsSignedAndRead := by
  unfold Obligations.RecordsSignedAndRead
  intro s
  refine ⟨?sign, fun seq r hr hseq hack hfree hdays => execRecordSlotFreed_due hr hseq hack hfree hdays, ?read⟩
  case sign =>
    intro c b hc hb hs hclosing hm hk
    have hsign := execRecordSign_signed hc hb hs hclosing hm hk
    refine ⟨fun hregular => hsign.trans ?_, fun hfull hreserve => hsign.trans ?_⟩
    · rw [if_pos hregular]
    · rw [if_neg (Nat.not_lt.2 hfull), if_pos hreserve]
  case read =>
    intro h pl r ha hk hr hne
    exact completes_of_accepted ha rfl (recordRead_ok hk (by simpa using hr) hne)

/-! ### The life cycle -/

theorem RecordOnly.trans {s t u : State} (h1 : RecordOnly s t) (h2 : RecordOnly t u) : RecordOnly s u := by
  obtain ⟨q, r, rfl⟩ := h1
  obtain ⟨q', r', rfl⟩ := h2
  exact ⟨_, _, rfl⟩

/-- A logbook with room takes one entry at its end (R117). -/
theorem logbook_appends (type world : Nat) (checksum detail : Bytes) {s : State} (hfree : s.legal.logbook.length < 4096) :
    ∃ e, RecordOnly { s with legal := { s.legal with logbook := s.legal.logbook ++ [e] } }
      (logbook type world checksum detail s) := by
  have hroom : logbookFree s = true := decide_eq_true hfree
  simp only [logbook, hroom, if_true]
  split
  · exact ⟨_, (recordAs_recordOnly ..).trans (recordAs_recordOnly ..)⟩
  · exact ⟨_, recordAs_recordOnly ..⟩

/-- A full logbook is left as it is (R117). -/
theorem logbook_full (type world : Nat) (checksum detail : Bytes) {s : State} (hfull : ¬s.legal.logbook.length < 4096) :
    RecordOnly s (logbook type world checksum detail s) := by
  have hroom : logbookFree s = false := decide_eq_false hfull
  simp only [logbook, hroom, Bool.false_eq_true, if_false]
  exact recordAs_recordOnly ..

/-- What a logbook entry may change. -/
theorem logbook_eq (type world : Nat) (checksum detail : Bytes) (s : State) :
    ∃ l q r, logbook type world checksum detail s = { s with legal := l, recorder := q, perf := r } := by
  by_cases hfree : s.legal.logbook.length < 4096
  · obtain ⟨e, q, r, h⟩ := logbook_appends type world checksum detail hfree
    exact ⟨_, q, r, h⟩
  · obtain ⟨q, r, h⟩ := logbook_full type world checksum detail hfree
    exact ⟨_, q, r, h⟩

/-- The debug port shuts for good with COMMISSIONED and RETIRED (R346). -/
def shutsDebugPort (new : Lifecycle) : Bool := new == .commissioned || new == .retired

/-- What entering a life-cycle state may change. -/
theorem enterLifecycle_eq (new : Lifecycle) (w : Nat) (s : State) :
    ∃ l q r, enterLifecycle new w s = { s with life := new, legal := l, recorder := q, perf := r, power := { s.power with
      debugOpen := s.power.debugOpen && !shutsDebugPort new
      debugChallenge := if shutsDebugPort new then none else s.power.debugChallenge } } := by
  obtain ⟨l, q, r, e⟩ := logbook_eq 5 w (legalChecksum s) [byte s.life.code, byte new.code] s
  exact ⟨l, q, r, by rw [enterLifecycle, logbookNow, e]; rfl⟩

@[simp] theorem enterLifecycle_life (new : Lifecycle) (w : Nat) (s : State) : (enterLifecycle new w s).life = new := rfl

theorem enterLifecycle_shuts {new : Lifecycle} (w : Nat) (s : State) (hn : new = .commissioned ∨ new = .retired) :
    (enterLifecycle new w s).power.debugOpen = false ∧ (enterLifecycle new w s).power.debugChallenge = none := by
  have hshut : shutsDebugPort new = true := by simpa [shutsDebugPort] using hn
  obtain ⟨l, q, r, e⟩ := enterLifecycle_eq new w s
  simp [e, hshut]

/-- A transition writes one entry into a logbook with room (R324). -/
theorem enterLifecycle_logbook_length (new : Lifecycle) (w : Nat) {s : State} (hfree : s.legal.logbook.length < 4096) :
    (enterLifecycle new w s).legal.logbook.length = s.legal.logbook.length + 1 := by
  obtain ⟨e, q, r, h⟩ := logbook_appends 5 w (legalChecksum s) [byte s.life.code, byte new.code] hfree
  simp only [enterLifecycle, logbookNow, h, List.length_append, List.length_singleton]

/-- A transition of R324, asked for in its world and its condition met, is made where the logbook has room for its entry. -/
theorem setLifecycle_enters {call : Call} {pl : Bytes} {s : State} {new : Lifecycle}
    (hnew : Lifecycle.ofCode (fld pl 0 1) = some new) (hworld : transitionWorld s.life new = some call.world)
    (hcond : transitionRefusal s new = none) (hfree : s.legal.logbook.length < 4096) :
    cmdSetLifecycle.body call pl s = ok (enterLifecycle new call.world s) := by
  have hroom : logbookFree s = true := decide_eq_true hfree
  simp only [cmdSetLifecycle, setLifecycleBody, hnew, hworld, hcond, hroom, bne_self_eq_false, Bool.false_eq_true, if_false, if_true]

@[simp] theorem transitionRefusal_begun (c : Command) (h : Hdr) (pl : Bytes) (s : State) (new : Lifecycle) :
    transitionRefusal (begun c h pl s) new = transitionRefusal s new := by
  obtain ⟨_, _, _, _, e⟩ := begun_eq c h pl s
  rw [e]
  rfl

/-- The fuse of a BLANK module fills the factory's key slots and starts the numbers of its events and intervals (R347). -/
theorem execManufacturedFuse_blank {s : State} (hb : s.life = .blank) :
    execManufacturedFuse s = .next (enterLifecycle .manufactured 0xFF { s with
      keys := s.keys.mapIdx fun k x => if k < 6 then factorySlot k else x
      recorder := { s.recorder with nextSeq := 1 }
      intervals := { s.intervals with index := 0 } }) := by
  simp only [execManufacturedFuse, hb, bne_self_eq_false, Bool.false_eq_true, if_false]

/-! ### The debug port -/

theorem execDebugPortAccess_request {s : State} (ho : debugOpenable s = true) :
    execDebugPortAccess .openRequest s = .next { s with
      draws := s.draws + 1
      power := { s.power with debugChallenge := some ((List.range 16).map (Config.random s.draws)) } } := by
  simp only [execDebugPortAccess, ho, if_true, State.random]

/-- The HMAC of the challenge under slot 0x004 opens the port (R346). -/
theorem execDebugPortAccess_answer {s : State} {c : Bytes} (hc : s.power.debugChallenge = some c) (ho : debugOpenable s = true)
    (hk : slotFailure s 4 [1, 2] 3 = none) :
    execDebugPortAccess (.answer (hmac (s.key 4).material c)) s =
      .next { s with power := { s.power with debugChallenge := none, debugOpen := true } } := by
  simp only [execDebugPortAccess, hc, hk, ho, beq_self_eq_true, Bool.and_self, if_true]

theorem execDebugPortAccess_writeLegal {s : State} (address : Nat) (ha : debugAnswers s = true) :
    execDebugPortAccess (.writeLegal address) s = .next (record 0x0204 0 2 (le 1 4 ++ le 3 0 ++ le 4 address) s) := by
  simp only [execDebugPortAccess, ha, if_true]

/-- Settles O28: SET_LIFECYCLE and the fuse enter a state, which changes the life cycle, the logbook, its records and the debug
port alone. -/
theorem lifecycleMoves : Obligations.LifecycleMoves := by
  unfold Obligations.LifecycleMoves
  intro s
  refine ⟨?set, ?enter, fun hb => ?fuse, execDebugPortAccess_request, fun c hc ho hk => execDebugPortAccess_answer hc ho hk,
    fun a ha => execDebugPortAccess_writeLegal a ha, rfl, rfl⟩
  case set =>
    intro h pl new ha hnew hworld hcond hfree
    exact completes_of_accepted ha rfl
      (setLifecycle_enters hnew (by simpa using hworld) (by simpa using hcond) (by simpa using hfree))
  case enter =>
    rintro new w t rfl
    exact ⟨enterLifecycle_life new w s, enterLifecycle_shuts w s, enterLifecycle_logbook_length new w⟩
  case fuse =>
    obtain ⟨l, q, r, e⟩ := enterLifecycle_eq .manufactured 0xFF { s with
      keys := s.keys.mapIdx fun k x => if k < 6 then factorySlot k else x
      recorder := { s.recorder with nextSeq := 1 }
      intervals := { s.intervals with index := 0 } }
    exact ⟨_, (execManufacturedFuse_blank hb).trans (congrArg _ e), rfl, rfl, rfl, rfl, rfl, rfl, rfl, rfl, rfl⟩

/-! ### Reports beside a change -/

theorem ntfTakeover_reports (kind event unit cause us n src : Nat) (s : State) :
    ReportsOnly s (ntfTakeover kind event unit cause us n src s) := by
  unfold ntfTakeover notify
  exact notifyFull_reports ..

theorem ntfOut_reports (kind unit cause src : Nat) (s : State) : ReportsOnly s (ntfOut kind unit cause src s) :=
  (ntfTakeover_reports ..).trans (ntfTakeover_reports ..)

theorem ReportsOnly.cont_eq {s t : State} (h : ReportsOnly s t) : t.cont = s.cont := by
  rw [h]

theorem ReportsOnly.modCont {s t : State} (h : ReportsOnly s t) (f : Continuity → Continuity) :
    ReportsOnly (s.modCont f) (t.modCont f) := by
  obtain ⟨a, b, p, r, rfl⟩ : ∃ a b p r, t = { s with spi := a, uart := b, perf := p, recorder := r } := ⟨_, _, _, _, h⟩
  rfl

/-! ### Clusters -/

theorem execDspShunt_ungated {s : State} {k : Nat} (cause : TakeoverCause) (hd : outputsDriven s = true) (hk : k < 10)
    (hg : gated s k = false) : execDspShunt k cause s = .next (failCluster k cause.code s) := by
  simp only [execDspShunt, atUnit_of_lt hk, hd, hg, Bool.not_true, Bool.or_self, Bool.false_eq_true, if_false]

/-- A cluster in service that fails hands what it carries to a spare that is another cluster (R265). -/
theorem failCluster_moves {s : State} {k sp : Nat} (cause : Nat) (hr : s.cont.dsp.getD k .out = .ready)
    (hs : s.cont.spare = some sp) (hne : sp ≠ k) :
    (failCluster k cause s).cont.spare = none ∧
      (failCluster k cause s).cont.cluster = s.cont.cluster.map fun x => if x = some k then some sp else x := by
  simp only [failCluster, hr, hs, bne_self_eq_false, Bool.false_eq_true, if_false, beq_iff_eq, hne]
  split <;> simp [askFlush, moveInstances, strikeImage, blame, State.modCont]

/-! ### SRAM banks -/

/-- A spare of the domain takes the place of a bank that is read (R268). -/
theorem execBankReplace_spare {s : State} {bank : SramBank} (n : Nat) (hr : bankRead bank s = true)
    (hleft : 0 < s.cont.spares.getD (bankDomain bank) 0) :
    execBankReplace bank n s = .next (ntfTakeover 4 0 n 1 0 0 0 (rebuildBank bank n (s.modCont fun c => { c with
      spares := setAt c.spares (bankDomain bank) (s.cont.spares.getD (bankDomain bank) 0 - 1) }))) := by
  simp only [execBankReplace, hr, beq_iff_eq, Nat.ne_of_gt hleft, Bool.not_true, Bool.false_eq_true, if_false]

theorem execBankReplace_noSpare {s : State} {bank : SramBank} (n : Nat) (hr : bankRead bank s = true)
    (hleft : s.cont.spares.getD (bankDomain bank) 0 = 0) : execBankReplace bank n s = .next (bankEngineFault bank s) := by
  simp only [execBankReplace, hr, hleft, beq_self_eq_true, Bool.not_true, Bool.false_eq_true, if_false, if_true]

/-- But for the sample buffer and the checkpoint banks, the spare comes to hold what the bank held. -/
theorem rebuildBank_other {bank : SramBank} (n : Nat) (s : State) (hb : bank ≠ .sampleBuffer) (hc : bank ≠ .checkpoint) :
    rebuildBank bank n s = s := by
  cases bank with
  | sampleBuffer => exact absurd rfl hb
  | checkpoint => exact absurd rfl hc
  | _ => rfl

/-- A checkpoint bank is rebuilt from the other copy: an even number is ME-A's. -/
theorem rebuildBank_checkpoint (n : Nat) (s : State) : rebuildBank .checkpoint n s = s.modCont fun c => { c with
    checkA := if n % 2 = 0 then c.checkB else c.checkA
    checkB := if n % 2 = 0 then c.checkB else c.checkA } := by
  simp only [rebuildBank, State.modCont, beq_iff_eq]
  split <;> rfl

/-! ### NAND blocks -/

/-- What a block fault reports and records before anything else is done about it. -/
def blockFaultReported (block part : Nat) (kind : BlockFault) (s : State) : State :=
  ntfTakeover 5 0 block 1 0 0 0 (record 0x0701 0 1 (le 2 block ++ le 1 part ++ le 1 kind.code) s)

theorem blockFaultReported_reports (block part : Nat) (kind : BlockFault) (s : State) :
    ReportsOnly s (blockFaultReported block part kind s) :=
  (record_reports ..).trans (ntfTakeover_reports ..)

/-- A fault of a block in use is reported; the block is retired unless a sector alone is lost (R100). -/
theorem execNandBlockFault_inUse {s : State} {block : Nat} (part : Nat) (kind : BlockFault) (hd : outputsDriven s = true)
    (hb : block ∉ s.cont.nandRetired) : execNandBlockFault block part kind s =
      .next (if kind ≠ .uncorrectable then (blockFaultReported block part kind s).modCont (retireBlock block part)
        else if part = profilePartition then damageProfile (blockFaultReported block part kind s)
        else blockFaultReported block part kind s) := by
  have hnot : s.cont.nandRetired.contains block = false := by simpa using hb
  simp only [execNandBlockFault, blockFaultReported, hd, hnot, Bool.not_true, Bool.or_self, Bool.false_eq_true, if_false, bne_iff_ne,
    beq_iff_eq]

theorem retireBlock_eq (block part : Nat) (c : Continuity) : retireBlock block part c = { c with
    nandRetired := block :: c.nandRetired
    nandSpares := c.nandSpares - 1
    nandFailed := if c.nandSpares = 0 then part :: c.nandFailed else c.nandFailed } := by
  unfold retireBlock
  split <;> simp_all

theorem damageProfile_ring_length (s : State) : (damageProfile s).intervals.ring.length = s.intervals.ring.length :=
  List.length_modify ..

/-- Damage done behind a report differs in nothing else from damage to the ring alone. -/
theorem damageProfile_reports {s t : State} (h : ReportsOnly s t) :
    ReportsOnly { s with draws := s.draws + 3, intervals := { s.intervals with ring := (damageProfile t).intervals.ring } }
      (damageProfile t) := by
  obtain ⟨a, b, p, r, rfl⟩ : ∃ a b p r, t = { s with spi := a, uart := b, perf := p, recorder := r } := ⟨_, _, _, _, h⟩
  rfl

/-! ### Re-coupling -/

section
variable {s : State} (hd : outputsDriven s = true)
include hd

/-- A metering pair that passed and followed eight checkpoints is brake van (R272). -/
theorem execReCoupling_me_passed (hv : s.cont.meVan = .recoupling) (hf : 8 ≤ s.cont.meFollowed) :
    execReCoupling .me true s = .next (ntfTakeover 0 1 (bit (!s.cont.meB)) 0 0 0 (source 6 (bit (!s.cont.meB)))
      (s.modCont fun c => { c with meVan := .ready, testFails := setAt c.testFails (bit (!s.cont.meB)) 0 })) := by
  simp only [execReCoupling, followed, hd, Nat.not_lt.2 hf, hv, bne_self_eq_false, decide_false, Bool.and_false, Bool.not_true,
    Bool.or_self, Bool.false_eq_true, if_false, if_true]

theorem execReCoupling_me_failed (hv : s.cont.meVan = .recoupling) :
    execReCoupling .me false s = .next (failAttempt (bit (!s.cont.meB)) 0 (bit (!s.cont.meB)) (source 6 (bit (!s.cont.meB)))
      (fun x => x.modCont fun c => { c with meVan := .out }) s) := by
  simp only [execReCoupling, hd, hv, bne_self_eq_false, Bool.false_and, Bool.not_true, Bool.or_self, Bool.false_eq_true, if_false]

/-- A control pair that passed and followed eight checkpoints is brake van, unless its place shadows an activation. -/
theorem execReCoupling_ce_passed (hv : s.cont.ceVan = .recoupling) (hs : shadowing s = false) (hf : 8 ≤ s.cont.ceFollowed) :
    execReCoupling .ce true s = .next (ntfTakeover 1 1 (bit (!s.cont.ceB)) 0 0 0 (source 6 (2 + bit (!s.cont.ceB)))
      (s.modCont fun c => { c with ceVan := .ready, testFails := setAt c.testFails (2 + bit (!s.cont.ceB)) 0 })) := by
  simp only [execReCoupling, followed, hd, Nat.not_lt.2 hf, hv, hs, bne_self_eq_false, decide_false, Bool.and_false, Bool.not_true,
    Bool.or_self, Bool.false_eq_true, if_false, if_true]

/-- A cluster that passed is back in service, and the spare where there is none. -/
theorem execReCoupling_cluster_passed {k : Nat} (hk : k < 10) (hv : s.cont.dsp.getD k .ready = .recoupling) :
    execReCoupling (.cluster k) true s = .next (ntfTakeover 2 1 k 0 0 0 (source 5 k) (s.modCont fun c => { c with
      dsp := setAt c.dsp k .ready, spare := some (c.spare.getD k), testFails := setAt c.testFails (4 + k) 0 })) := by
  simp only [execReCoupling, followed, atUnit_of_lt hk, hd, hv, Nat.lt_irrefl, bne_self_eq_false, decide_false, Bool.and_false,
    Bool.not_true, Bool.or_self, Bool.false_eq_true, if_false, if_true]
  rfl
end

theorem failAttempt_third {u kind unit src : Nat} {setOut : State → State} {s : State} (hn : 2 ≤ s.cont.testFails.getD u 0) :
    failAttempt u kind unit src setOut s = ntfOut kind unit 4 src (setOut (s.modCont fun c => { c with
      testFails := setAt c.testFails u (s.cont.testFails.getD u 0 + 1)
      meFollowed := if u < 2 then 0 else c.meFollowed
      ceFollowed := if u = 2 ∨ u = 3 then 0 else c.ceFollowed })) := by
  have hthird : ¬s.cont.testFails.getD u 0 + 1 < 3 := by omega
  simp only [failAttempt, hthird, if_false, Bool.or_eq_true, beq_iff_eq]

theorem bit_lt_two (b : Bool) : bit b < 2 := by
  cases b <;> decide

/-- The third failure in a row leaves the metering pair out (R273). -/
theorem failAttempt_me_out {s : State} {u : Nat} (hu : u < 2) (hn : 2 ≤ s.cont.testFails.getD u 0) :
    ReportsOnly (s.modCont fun c => { c with
        meVan := .out, testFails := setAt c.testFails u (s.cont.testFails.getD u 0 + 1), meFollowed := 0 })
      (failAttempt u 0 u (source 6 u) (fun x => x.modCont fun c => { c with meVan := .out }) s) := by
  have hce : ¬(u = 2 ∨ u = 3) := by omega
  rw [failAttempt_third hn]
  simp only [hu, hce, if_true, if_false]
  exact ntfOut_reports ..

/-! ### Regulator -/

theorem execRegulatorPhaseLost_first {s : State} {p : Nat} (hd : outputsDriven s = true) (hp : p ∉ s.cont.regLost) :
    execRegulatorPhaseLost p s = .next (ntfTakeover 7 0 p 3 0 0 0 (ntfPower 3 (le 1 p)
      (s.modCont fun c => { c with regLost := p :: c.regLost }))) := by
  have hnot : s.cont.regLost.contains p = false := by simpa using hp
  simp only [execRegulatorPhaseLost, hd, hnot, Bool.not_true, Bool.or_self, Bool.false_eq_true, if_false]

/-- Settles O40: each row's rule changes the continuity status, or the profile ring, and reports it; the third failure is one more
than the two before it. -/
theorem unitsFailAndRecouple : Obligations.UnitsFailAndRecouple := by
  unfold Obligations.UnitsFailAndRecouple
  intro s hd
  refine ⟨fun k cause hk hg => execDspShunt_ungated cause hd hk hg, ?move, ?bank, ?checkpoint,
    fun bank n hr hleft => execBankReplace_noSpare n hr hleft, ?sampleBuffer, ?retired, ?sector, ?profile, ?me, ?ce, ?cluster, ?meOut,
    fun p hp => execRegulatorPhaseLost_first hd hp⟩
  case move =>
    intro k sp cause hk hg hr hs hne
    exact ⟨_, execDspShunt_ungated cause hd hk hg, failCluster_moves cause.code hr hs hne⟩
  case bank =>
    intro bank n hr hleft hb hc
    refine (execBankReplace_spare n hr hleft).trans ?_
    rw [rebuildBank_other n _ hb hc]
    rfl
  case checkpoint =>
    intro n hm hleft
    refine (execBankReplace_spare (bank := .checkpoint) n hm hleft).trans ?_
    rw [rebuildBank_checkpoint]
    rfl
  case sampleBuffer =>
    intro n hm hleft
    exact execBankReplace_spare (bank := .sampleBuffer) n hm hleft
  case retired =>
    intro block part kind hb hk
    refine ⟨_, (execNandBlockFault_inUse part kind hd hb).trans (by rw [if_pos hk]), ?_⟩
    have hreports := (blockFaultReported_reports block part kind s).modCont (retireBlock block part)
    rwa [State.modCont, retireBlock_eq] at hreports
  case sector =>
    intro block part hb hp
    refine ⟨_, (execNandBlockFault_inUse part .uncorrectable hd hb).trans (by rw [if_neg (by simp), if_neg hp]), ?_⟩
    exact blockFaultReported_reports ..
  case profile =>
    intro block hb
    have hreports := blockFaultReported_reports block profilePartition .uncorrectable s
    refine ⟨_, (execNandBlockFault_inUse profilePartition .uncorrectable hd hb).trans (by rw [if_neg (by simp), if_pos rfl]), ?_,
      damageProfile_reports hreports⟩
    rw [damageProfile_ring_length, hreports]
  case me =>
    intro hv hf
    exact ⟨_, execReCoupling_me_passed hd hv hf, ntfTakeover_reports ..⟩
  case ce =>
    intro hv hs hf
    exact ⟨_, execReCoupling_ce_passed hd hv hs hf, ntfTakeover_reports ..⟩
  case cluster =>
    intro k hk hv
    exact ⟨_, execReCoupling_cluster_passed hd hk hv, ntfTakeover_reports ..⟩
  case meOut =>
    intro hv hn
    have hreports := failAttempt_me_out (bit_lt_two (!s.cont.meB)) hn
    refine ⟨_, execReCoupling_me_failed hd hv, ?_⟩
    rw [hreports.cont_eq]
    exact hreports

end Sys2Proof.Machine
end

section
/-! SUPPORT. The bays' family, commands: bay commands that settle at once, bays enabled and disabled, sessions that open and
start. -/

namespace Sys2Proof.Machine

open Sys2Proof

/-! ### What an accepted command's own rules read -/

/-- What goes neither by the host ports, their rate nor the performance counters is as in the state in which the command came. -/
theorem begun_reads {α : Type} {f : State → α}
    (hf : ∀ s a b u r, f { s with spi := a, uart := b, uartRate := u, perf := r } = f s) (c : Command) (h : Hdr) (pl : Bytes)
    (s : State) : f (begun c h pl s) = f s := by
  obtain ⟨a, b, u, r, e⟩ := begun_eq c h pl s
  rw [e, hf]

section
variable (c : Command) (h : Hdr) (pl : Bytes) (s : State)

@[simp] theorem mayUnlock_begun (b : Nat) : mayUnlock (begun c h pl s) b = mayUnlock s b :=
  begun_reads (f := (mayUnlock · b)) (fun _ _ _ _ _ => rfl) c h pl s
@[simp] theorem enableRefusal_begun (b : Nat) : enableRefusal (begun c h pl s) b = enableRefusal s b :=
  begun_reads (f := (enableRefusal · b)) (fun _ _ _ _ _ => rfl) c h pl s
@[simp] theorem convertersOn_begun (b port : Nat) : convertersOn (begun c h pl s) b port = convertersOn s b port :=
  begun_reads (f := (convertersOn · b port)) (fun _ _ _ _ _ => rfl) c h pl s
@[simp] theorem storeBlocks_begun : storeBlocks (begun c h pl s) = storeBlocks s :=
  begun_reads (f := storeBlocks) (fun _ _ _ _ _ => rfl) c h pl s
@[simp] theorem heldByStore_begun (x : Ctx) : heldByStore (begun c h pl s) x = heldByStore s x :=
  begun_reads (f := (heldByStore · x)) (fun _ _ _ _ _ => rfl) c h pl s
@[simp] theorem freeCtx_begun : freeCtx (begun c h pl s) = freeCtx s :=
  begun_reads (f := freeCtx) (fun _ _ _ _ _ => rfl) c h pl s
@[simp] theorem reserveUs_begun : reserveUs (begun c h pl s) = reserveUs s :=
  begun_reads (f := reserveUs) (fun _ _ _ _ _ => rfl) c h pl s
@[simp] theorem permits_begun (b : Nat) : permits (begun c h pl s) b = permits s b :=
  begun_reads (f := (permits · b)) (fun _ _ _ _ _ => rfl) c h pl s
@[simp] theorem coilLsw_begun (b : Nat) : (begun c h pl s).coilLsw b = s.coilLsw b :=
  begun_reads (f := (State.coilLsw · b)) (fun _ _ _ _ _ => rfl) c h pl s
@[simp] theorem issuePoint_begun (b : Nat) (cycle : BitVec 32) (angle : Nat) :
    issuePoint (begun c h pl s) b cycle angle = issuePoint s b cycle angle :=
  begun_reads (f := (issuePoint · b cycle angle)) (fun _ _ _ _ _ => rfl) c h pl s
@[simp] theorem pointRefusal_begun (chan : Nat) (named cycle : BitVec 32) (angle : Nat) (ac : Bool) :
    pointRefusal (begun c h pl s) chan named cycle angle ac = pointRefusal s chan named cycle angle ac :=
  begun_reads (f := (pointRefusal · chan named cycle angle ac)) (fun _ _ _ _ _ => rfl) c h pl s
@[simp] theorem closeEntry_begun (b k : Nat) (p : BitVec 32 × Nat) (target : Nat) (asap : Bool) :
    closeEntry (begun c h pl s) b k p target asap = closeEntry s b k p target asap :=
  begun_reads (f := (closeEntry · b k p target asap)) (fun _ _ _ _ _ => rfl) c h pl s
end

/-! ### Bay commands that settle at once -/

theorem withBay_of_lt {pl : Bytes} {b : Nat} (hb : b < 32) (hpl : fld pl 0 1 = b) (s : State) (f : Nat → Ans) :
    withBay pl s f = f b := by
  simp only [withBay, hpl, hb, if_true]

/-- Every world writes the configuration of a bay. -/
theorem writeWorlds_bayConfig {b : Nat} (hb : b < 32) : writeWorlds (0x0100 + b) = [0, 1, 2, 3] := by
  have hother : (0x0100 + b == 0x0022 || 0x0100 + b == 0x0026 || 0x0100 + b == 0x0510 ||
      inBlock (0x0100 + b) 0x0520 16) = false := by
    simp only [inBlock, Bool.or_eq_false_iff, Bool.and_eq_false_iff, beq_eq_false_iff_ne, decide_eq_false_iff_not]
    omega
  rw [writeWorlds, hother]
  rfl

theorem Accepted.worldOk {c : Command} {h : Hdr} {pl : Bytes} {s : State} (ha : Accepted c h pl s) :
    c.worlds.contains h.world = true := by
  obtain ⟨-, -, -, -, -, -, -, -, -, -, hworld, -⟩ := ha
  exact hworld

theorem bayGetState_eq (call : Call) (pl : Bytes) (s : State) : cmdBayGetState.body call pl s =
    okWith s (le 1 ((List.range 32).filter fun k => testBit (fld pl 0 4) k).length ++ le 3 0 ++
      ((List.range 32).filter fun k => testBit (fld pl 0 4) k).flatMap fun k => bayStatus s k) := rfl

section
variable {call : Call} {pl : Bytes} {s : State} {b : Nat} (hb : b < 32) (hpl : fld pl 0 1 = b)
include hb hpl

/-- BAY_CONFIGURE stages the whole object of its bay (R311). -/
theorem bayConfigure_stages : cmdBayConfigure.body call pl s = stageWrite call (0x0100 + b) 0 (pl.drop 4) s := by
  simp only [cmdBayConfigure, withBay_of_lt hb hpl, stageObject]

theorem bayEnable_eq : cmdBayEnable.body call pl s = bayEnableBody b s := by
  simp only [cmdBayEnable, withBay_of_lt hb hpl]

theorem bayDisable_eq : cmdBayDisable.body call pl s =
    { state := (disableBay b [call.ref] s).1, status := (disableBay b [call.ref] s).2 } := by
  simp only [cmdBayDisable, withBay_of_lt hb hpl]

theorem converterConfigure_eq : cmdConverterConfigure.body call pl s = converterConfigureBody call b (pl.drop 4) s := by
  simp only [cmdConverterConfigure, withBay_of_lt hb hpl]

theorem baySetLimit_ok (hma : fld pl 4 4 = 0 ∨ (6000 ≤ fld pl 4 4 ∧ fld pl 4 4 ≤ 80000)) :
    cmdBaySetLimit.body call pl s = ok (markDirty (s.modBay b fun y => { y with limitCap := fld pl 4 4 })) := by
  have hrange : (fld pl 4 4 != 0 &&
      !(Decidable.decide (6000 ≤ fld pl 4 4) && Decidable.decide (fld pl 4 4 ≤ 80000))) = false := by
    rcases hma with hma | hma <;> simp [hma]
  simp only [cmdBaySetLimit, withBay_of_lt hb hpl, hrange, Bool.false_eq_true, if_false]

theorem bayUnlock_ok (hm : mayUnlock s b = true) : cmdBayUnlock.body call pl s = ok (releaseLock b s) := by
  simp only [cmdBayUnlock, withBay_of_lt hb hpl, hm, if_true]

theorem bayTestResidual_starts (hk : s.kind b ≠ 2) (hc : (s.bay b).coil.on = false)
    (hr : (s.bay b).safety.selfTest.runningTo = none) :
    cmdBayTestResidual.body call pl s = pending (startSelfTest b (some call.ref) s) := by
  have hac : s.isDc b = false := by simpa [State.isDc] using hk
  simp only [cmdBayTestResidual, withBay_of_lt hb hpl, hac, hc, hr, Option.isSome_none, Bool.or_self, Bool.false_eq_true, if_false]
end

/-- Settles O5: each command's own rules see the bay, and the staging of its port, as they were when it came. -/
theorem bayCommandsSettle : Obligations.BayCommandsSettle := by
  unfold Obligations.BayCommandsSettle
  intro h pl s b hb hpl
  refine ⟨?configure, fun ha => ?state, fun ha hma => completes_of_accepted ha rfl (baySetLimit_ok hb hpl hma),
    fun ha hm => completes_of_accepted ha rfl (bayUnlock_ok hb hpl (by simpa using hm)), fun ha hk hc hr => ?test⟩
  case configure =>
    intro l new ha hl hnew hsize hok hroom
    refine completes_of_accepted ha rfl ((bayConfigure_stages hb hpl).trans ?_)
    have hworld : (writeWorlds (0x0100 + b)).contains h.world = true := by
      rw [writeWorlds_bayConfig hb]
      exact ha.worldOk
    exact stageWrite_ok hl hworld (by simpa using hnew) (by simpa using hsize) (by simpa using hok) (stage_begun_staged hroom)
  case state =>
    exact completes_of_accepted ha rfl ((bayGetState_eq ..).trans (by simp only [bayStatus_begun]))
  case test =>
    exact completes_of_accepted ha rfl (bayTestResidual_starts hb hpl (by simpa using hk) (by simpa using hc) (by simpa using hr))

/-! ### Bays enabled and disabled -/

/-- BAY_ENABLE of a DISABLED or FAULT bay that nothing refuses (R312). -/
theorem bayEnableBody_idle {s : State} {b : Nat} (hs : (s.bay b).state = .disabled ∨ (s.bay b).state = .fault)
    (hr : enableRefusal s b = none) : bayEnableBody b s = ok (toIdle b (ackConverter b s)) := by
  rcases hs with hs | hs <;> simp [bayEnableBody, hs, hr]

/-- An enabled bay stays as it is (R312). -/
theorem bayEnableBody_enabled {s : State} {b : Nat} (hd : (s.bay b).state ≠ .disabled) (hf : (s.bay b).state ≠ .fault)
    (hw : (s.bay b).state ≠ .welded) : bayEnableBody b s = ok s := by
  simp [bayEnableBody, hd, hf, hw]

theorem disableBay_now {s : State} {b : Nat} (cmds : List CmdRef) (hw : (s.bay b).state ≠ .welded)
    (ho : openNotOver (s.bay b) = false) : disableBay b cmds s = (disableNow b [] s, stOk) := by
  simp [disableBay, hw, ho]

/-- An energised bay whose open has not begun ends its session and opens; the commands wait for the open (R312). -/
theorem disableBay_opens {s : State} {b c : Nat} (cmds : List CmdRef) (hs : (s.bay b).state = .energised)
    (ho : (s.bay b).coil.openAt = none) (hc : (s.bay b).ctx = some c) :
    disableBay b cmds s = (normalOpen b 0 (finishCtx c 1 0 0 errState (s.modBay b fun z =>
      { z with coil := { z.coil with disabling := true, disableCmds := z.coil.disableCmds ++ cmds } })), stPending) := by
  simp [disableBay, openNotOver, Bay.isEnergised, hs, ho, hc]

/-- CONVERTER_CONFIGURE on a DISABLED bay, its node free on the port and the port not full (R150). -/
theorem converterConfigureBody_sends {s : State} {call : Call} {b : Nat} {data : Bytes}
    (hr : objectInRange convConfigLayout data = true)
    (hnode : ∀ k ∈ convertersOn s b (fieldOf data 0 1), s.field (0x0540 + k) 8 5 ≠ fieldOf data 8 5)
    (hroom : (convertersOn s b (fieldOf data 0 1)).length < 16) (hs : (s.bay b).state = .disabled) :
    converterConfigureBody call b data s =
      pending (sendConfig b ((s.bay b).conv.configCmds ++ [call.ref]) (s.putParam (0x0540 + b) data)) := by
  have hany : ((convertersOn s b (fieldOf data 0 1)).any fun k => s.field (0x0540 + k) 8 5 == fieldOf data 8 5) = false := by
    rw [List.any_eq_false]
    intro k hk
    simpa using hnode k hk
  simp only [converterConfigureBody, hr, hany, hs, Nat.not_le.2 hroom, bne_self_eq_false, Bool.not_true,
    Bool.false_eq_true, if_false]

/-- Settles O6: the bay's state, as it was when the command came, says what BAY_ENABLE and BAY_DISABLE do. -/
theorem baysEnableAndDisable : Obligations.BaysEnableAndDisable := by
  unfold Obligations.BaysEnableAndDisable
  intro h pl s b hb hpl
  refine ⟨fun ha => ⟨fun hs hr => ?idle, fun hd hf hw => ?enabled⟩, fun ha hw ho => ?now, fun c ha hs ho hc => ?opens,
    fun ha hr hnode hroom hs => ?configure⟩
  case idle =>
    exact completes_of_accepted ha rfl ((bayEnable_eq hb hpl).trans (bayEnableBody_idle (by simpa using hs) (by simpa using hr)))
  case enabled =>
    exact completes_of_accepted ha rfl ((bayEnable_eq hb hpl).trans
      (bayEnableBody_enabled (by simpa using hd) (by simpa using hf) (by simpa using hw)))
  case now =>
    refine completes_of_accepted ha rfl ((bayDisable_eq hb hpl).trans ?_)
    rw [disableBay_now _ (by simpa using hw) (by simpa using ho)]
    rfl
  case opens =>
    refine completes_of_accepted ha rfl ((bayDisable_eq hb hpl).trans ?_)
    rw [disableBay_opens _ (by simpa using hs) (by simpa using ho) (by simpa using hc)]
    rfl
  case configure =>
    refine completes_of_accepted ha rfl ((converterConfigure_eq hb hpl).trans
      ((converterConfigureBody_sends hr (by simpa using hnode) (by simpa using hroom) (by simpa using hs)).trans ?_))
    rw [begun_bay]

/-! ### Sessions that open and start -/

theorem withCtx_of_ne_free {pl : Bytes} {s : State} {c : Nat} (hpl : fld pl 0 1 = c) (hs : (s.ctx c).hd.state ≠ .free)
    (f : Nat → Ctx → Ans) : withCtx pl s f = f c (s.ctx c) := by
  simp [withCtx, hpl, hs]

/-- CTX_OPEN takes the lowest FREE context, until the expiry given or for RESERVE_S (R188, R190). -/
theorem ctxOpen_opens {call : Call} {pl : Bytes} {s : State} {c : Nat} (hbay : fld pl 0 1 < 32 ∨ fld pl 0 1 = 0xFF)
    (hcls : fld pl 1 1 ≤ 7) (hst : storeBlocks s = false) (hfree : freeCtx s = some c) :
    cmdCtxOpen.body call pl s = okWith (markDirty (ntfCtxFull c .free .reserved 0 [] none 0
      (openCtx c false (if fld pl 0 1 = 0xFF then none else some (fld pl 0 1)) (fld pl 1 1)
        (if fld pl 4 8 = 0 then s.time.now + reserveUs s else fld pl 4 8) s))) (le 1 c ++ le 3 0) := by
  have hbad : ¬((31 < fld pl 0 1 ∧ fld pl 0 1 ≠ 0xFF) ∨ 7 < fld pl 1 1) := by omega
  simp [cmdCtxOpen, ctxOpenBody, hbad, hst, hfree]

/-- CTX_AUTHORISE allows a RESERVED context that waits for no identifier (R193). -/
theorem ctxAuthorise_allows {call : Call} {pl : Bytes} {s : State} {c : Nat} (hpl : fld pl 0 1 = c) (hallow : fld pl 1 1 = 1)
    (hcls : fld pl 2 1 ≤ 7) (hil : limitOk (fld pl 4 4) 1000 500000 = true) (hig : limitOk (fld pl 8 4) 6000 80000 = true)
    (htl : limitOk (fld pl 12 4) 60 604800 = true) (hoff : (s.ctx c).wk.offline = none) (hwait : (s.ctx c).wk.hostWait = none)
    (hs : (s.ctx c).hd.state = .reserved) :
    cmdCtxAuthorise.body call pl s = ok (allowCtx c (List.replicate 12 0) 2 (fld pl 2 1) (attrOf true (fld pl 2 1) 0 0) (fld pl 4 4)
      (fld pl 8 4) (fld pl 12 4) (1000 * fld pl 16 4) none s) := by
  have hne : (s.ctx c).hd.state ≠ .free := by simp [hs]
  simp [cmdCtxAuthorise, ctxAuthoriseBody, withCtx_of_ne_free hpl hne, hallow, Nat.not_lt.2 hcls, hil, hig, htl, hoff, hwait, hs]

/-- CTX_BIND binds to a bay with a vehicle and no context, which is looked at again (R188). -/
theorem ctxBind_binds {call : Call} {pl : Bytes} {s : State} {c b : Nat} (hpl : fld pl 0 1 = c) (hpb : fld pl 1 1 = b)
    (hb : b < 32) (hs : (s.ctx c).hd.state = .reserved ∨ (s.ctx c).hd.state = .authorised) (hbay : (s.ctx c).hd.bay = none)
    (hy : (s.bay b).state = .occupied ∨ (s.bay b).state = .ready) (hctx : (s.bay b).ctx = none)
    (htest : (s.bay b).meter.underTest = false) (ha : (s.bay b).pilot.awaitA = false) :
    cmdCtxBind.body call pl s =
      ok (evaluateBay b (ntfCtxFull c (s.ctx c).hd.state (s.ctx c).hd.state 0 [] none 0 (bindTo c b s))) := by
  have hne : (s.ctx c).hd.state ≠ .free := by
    rcases hs with hs | hs <;> simp [hs]
  have hb31 : ¬31 < b := by omega
  have hopen : ((s.ctx c).hd.state == .reserved || (s.ctx c).hd.state == .authorised) = true := by simpa using hs
  have hvehicle : ((s.bay b).state == .occupied || (s.bay b).state == .ready) = true := by simpa using hy
  simp only [cmdCtxBind, ctxBindBody, withCtx_of_ne_free hpl hne, hpb, hb31, hopen, hbay, hvehicle, hctx, htest, ha,
    Option.isSome_none, Bool.not_true, Bool.or_self, Bool.false_eq_true, if_false]

/-- A close at an execution point that may be queued and is permitted: the permission is granted and the close queued (R144). -/
theorem startClose_queues {s : State} {c b : Nat} {cycle : BitVec 32} {angle : Nat} (ref : CmdRef)
    (hr : pointRefusal s (s.coilLsw b) cycle (issuePoint s b cycle angle).1 (issuePoint s b cycle angle).2 (!s.isDc b) = none)
    (hp : permits s b = true) :
    startClose c b (some (cycle, angle)) ref s = pending (queueClose b c (closeEntry s b c (issuePoint s b cycle angle) angle false)
      0 0 (grantPermission b (s.modWk c fun w => { w with startCmd := some ref }))) := by
  simp [startClose, hr, hp]

theorem ctxStart_point {call : Call} {pl : Bytes} {s : State} {c b : Nat} {p : ExecPoint} (hpl : fld pl 0 1 = c)
    (hp : execPoint (slice pl 8 8) = some p) (hat : p.at_ = true) (hst : heldByStore s (s.ctx c) = false)
    (hs : (s.ctx c).hd.state = .bound) (hbay : (s.ctx c).hd.bay = some b) :
    cmdCtxStart.body call pl s = startClose c b (some (p.cycle, p.angle)) call.ref s := by
  have hne : (s.ctx c).hd.state ≠ .free := by simp [hs]
  simp [cmdCtxStart, ctxStartBody, withCtx_of_ne_free hpl hne, hp, hat, hst, hs, hbay]

/-- Settles O12: a session command's own rules see the contexts, the bays and the store as they were when it came. -/
theorem sessionsOpenAndStart : Obligations.SessionsOpenAndStart := by
  unfold Obligations.SessionsOpenAndStart
  intro h pl s c
  refine ⟨fun ha hbay hcls hst hfree => ?opens, fun ha hpl hallow hcls hil hig htl hoff hwait hs => ?authorise,
    fun b ha hpl hpb hb hs hbay hy hctx htest hcp => ?bind, fun b p ha hpl hp hat hst hs hcmd hbay hr hpermit => ?start⟩
  case opens =>
    refine completes_of_accepted ha rfl
      ((ctxOpen_opens hbay hcls (by simpa using hst) (by simpa using hfree)).trans ?_)
    rw [begun_time, reserveUs_begun]
  case authorise =>
    exact completes_of_accepted ha rfl
      (ctxAuthorise_allows hpl hallow hcls hil hig htl (by simpa using hoff) (by simpa using hwait) (by simpa using hs))
  case bind =>
    refine completes_of_accepted ha rfl ((ctxBind_binds hpl hpb hb (by simpa using hs) (by simpa using hbay) (by simpa using hy)
      (by simpa using hctx) (by simpa using htest) (by simpa using hcp)).trans ?_)
    rw [begun_ctx]
  case start =>
    refine completes_of_accepted ha rfl
      ((ctxStart_point hpl hp hat (by simpa using hst) (by simpa using hs) (by simpa using hbay)).trans
        ((startClose_queues _ (by simpa using hr) (by simpa using hpermit)).trans ?_))
    rw [issuePoint_begun, closeEntry_begun]

end Sys2Proof.Machine
end
section
/-! SUPPORT. The bays' family, events: what the vehicle link, a bay's pins, its lock, the timers of its contactor and its converter
do while outputs are driven. -/

namespace Sys2Proof.Machine

open Sys2Proof

/-! ### The vehicle link -/

section
variable {s : State} {b : Nat} (hb : b < 32) (hd : outputsDriven s = true)
include hb hd

theorem execVehicleLinkLost_loses (hnone : (s.bay b).link.link ≠ 0) (hlost : (s.bay b).link.link ≠ 4) :
    execVehicleLinkLost b s = .next (loseLink b 2 s) := by
  simp [execVehicleLinkLost, atLiveBay_driven hb hd, hnone, hlost]

/-- SLAC is answered on a plugged bay in OCCUPIED or READY that has no match (R163). -/
theorem execSlacParmReq_answers (sounds : List (List Nat))
    (hcp : reportedCp (s.bay b).pilot = .b ∨ reportedCp (s.bay b).pilot = .c ∨ reportedCp (s.bay b).pilot = .d)
    (hs : (s.bay b).state = .occupied ∨ (s.bay b).state = .ready) (hmatched : (s.bay b).link.link ≠ 2)
    (hopen : (s.bay b).link.link ≠ 3) (hi : instanceRuns s b = true) :
    execSlacParmReq b sounds s = .next (({ s with draws := s.draws + 1 } : State).modLink b fun l => { l with
      link := 1, nmk := s.draws, profile := attenProfile sounds,
      atten := quotN (attenProfile sounds).sum (max 1 (attenProfile sounds).length),
      config := num (s.param 0x0500), part := 0 }) := by
  have hplugged : (reportedCp (s.bay b).pilot == .b || reportedCp (s.bay b).pilot == .c ||
      reportedCp (s.bay b).pilot == .d) = true := by
    simpa [or_assoc] using hcp
  have hstate : ((s.bay b).state == .occupied || (s.bay b).state == .ready) = true := by simpa using hs
  simp only [execSlacParmReq, atLiveBay_driven hb hd, hplugged, hstate, beq_eq_false_iff_ne.2 hmatched, beq_eq_false_iff_ne.2 hopen,
    hi, Bool.not_true, Bool.or_self, Bool.false_eq_true, if_false]

theorem execSlacTimeout_unmatched (hl : (s.bay b).link.link = 1) :
    execSlacTimeout b s = .next (ntfLink b 1 0 (s.modLink b fun l => { l with link := 0 })) := by
  simp [execSlacTimeout, atLiveBay_driven hb hd, hl]

/-- While the modem of the bay runs and no control takeover is under way, a message acts if it fits the state of the link (R160). -/
theorem execV2gMessage_running (hi : instanceRuns s b = true) (hc : s.cont.ceSilent = none) (m : V2gMessage) :
    execV2gMessage b m s = .next (if messageFits (s.bay b).link.link m then onMessage b m s else s) := by
  cases hm : messageFits (s.bay b).link.link m <;> simp [execV2gMessage, atLiveBay_driven hb hd, hi, hc, hm]

theorem execV2gMessage_fits (hi : instanceRuns s b = true) (hc : s.cont.ceSilent = none) {m : V2gMessage}
    (hm : messageFits (s.bay b).link.link m = true) : execV2gMessage b m s = .next (onMessage b m s) := by
  rw [execV2gMessage_running hb hd hi hc, if_pos hm]
end

section
variable {s : State} {b : Nat}

theorem onTlsHandshake_stands {curves : List TlsCurve} (hc : curves.any (seccUsable s b) = true) :
    onTlsHandshake b curves s = s.modLink b fun l => { l with tls := true } :=
  if_pos hc

theorem onTlsHandshake_refused {curves : List TlsCurve} (hc : curves.any (seccUsable s b) = false) :
    onTlsHandshake b curves s = ntfLink b 0 0 ((refuseSecc b s).modLink b fun l => { l with tls := false }) :=
  if_neg (by simp [hc])

/-- ISO 15118-20, where it is offered and enabled on a link with TLS, goes before ISO 15118-2 (R160). -/
theorem onAppProtocol_iso20 (iso2 : Bool) (hv : v2gSetting s b 1 = true) (ht : (s.bay b).link.tls = true) :
    onAppProtocol b iso2 true s =
      markDirty (s.modLink b fun l => { l with link := 3, part := 20, told := some (s.bay b).pilot.offered }) := by
  simp [onAppProtocol, hv, ht]

/-- A SessionID other than the bound context's gets a new one (R165). -/
theorem onSessionSetup_new {c : Nat} {sid : Bytes} (hc : (s.bay b).ctx = some c) (hne : (s.ctx c).wk.sessionId ≠ sid) :
    onSessionSetup b sid s = ({ s with draws := s.draws + 1 } : State).modWk c fun w =>
      { w with sessionId := (List.range 8).map (Config.random s.draws) } := by
  simp [onSessionSetup, hc, hne, State.random]

theorem onMessage_cableCheck {mv : Nat} (hs : dcSession s b = true) : onMessage b (.cableCheck mv) s =
    sendSetpoint b (s.modConv b fun v => { v with setMode := 1, setMv := mv, setMa := 2000, setMw := sessionMw s b }) :=
  if_pos hs

/-- On a bay without a context a stop ends the V2G session alone. -/
theorem onMessage_stop_unbound (hc : (s.bay b).ctx = none) : onMessage b .stop s = endV2g b 2 s := by
  simp [onMessage, hc]
end

/-- Settles O35: the state of the link says which messages fit, and each of them what it does. -/
theorem vehicleLinksRun : Obligations.VehicleLinksRun := by
  unfold Obligations.VehicleLinksRun
  intro s b hb hd
  refine ⟨execVehicleLinkLost_loses hb hd,
    fun sounds hcp hs hmatched hopen hi => execSlacParmReq_answers hb hd sounds hcp hs hmatched hopen hi,
    execSlacTimeout_unmatched hb hd, fun hi hc => ?_⟩
  have hfits {m : V2gMessage} := execV2gMessage_fits hb hd hi hc (m := m)
  refine ⟨fun hl => hfits (by simp [messageFits, hl]), fun curves hl hu => ?stands, fun curves hl hu => ?refused,
    fun iso2 hl hv ht => ?app, fun m => execV2gMessage_running hb hd hi hc m, fun c sid hl hctx hne => ?setup,
    fun mv hl hs => ?cable, fun hl hctx => ?stop⟩
  case stands => exact (hfits (by simp [messageFits, hl])).trans (congrArg _ (onTlsHandshake_stands hu))
  case refused => exact (hfits (by simp [messageFits, hl])).trans (congrArg _ (onTlsHandshake_refused hu))
  case app => exact (hfits (by simpa [messageFits] using hl)).trans (congrArg _ (onAppProtocol_iso20 iso2 hv ht))
  case setup => exact (hfits (by simp [messageFits, hl])).trans (congrArg _ (onSessionSetup_new hctx hne))
  case cable => exact (hfits (by simp [messageFits, hl])).trans (congrArg _ (onMessage_cableCheck hs))
  case stop => exact (hfits (by simp [messageFits, hl])).trans (congrArg _ (onMessage_stop_unbound hctx))

/-! ### The vehicle's pins -/

section
variable {s : State} {b : Nat} (hb : b < 32) (hd : outputsDriven s = true)
include hb hd

/-- A filtered CP state takes effect when it is new or the first one awaited (R137, R466). -/
theorem execCpStateChange_takesEffect {pos neg : Int} {st : CpState} (hf : (s.bay b).pilot.drive ≠ .stateF)
    (hst : cpRead (s.bay b).pilot.drive pos neg = st) (hnew : st ≠ (s.bay b).pilot.cp ∨ (s.bay b).pilot.awaitFirst = true) :
    execCpStateChange b pos neg s = .next (filteredCp b st s) := by
  have hsame : (st == (s.bay b).pilot.cp && !(s.bay b).pilot.awaitFirst) = false := by
    rcases hnew with hnew | hnew <;> simp [hnew]
  simp only [execCpStateChange, atLiveBay_driven hb hd, hst, hsame, beq_eq_false_iff_ne.2 hf, Bool.or_self,
    Bool.false_eq_true, if_false]

/-- A new PP trips an energised bay, and is looked at on another (R139). -/
theorem execPpChange_new {ohms : Nat} (ht : s.tethered b = false) (hp : ppClass ohms ≠ (s.bay b).pilot.pp) {u : State}
    (hu : u = ntfBay b 1 [byte (reportedCp (s.bay b).pilot).code, byte (reportedCp (s.bay b).pilot).code,
        byte (s.bay b).pilot.pp.code, byte (ppClass ohms).code]
      (markDirty (s.modBay b fun y => { y with pilot := { y.pilot with pp := ppClass ohms } }))) :
    execPpChange b ohms s = .next (if (s.bay b).isEnergised then inputTrip b 10 2 4 7 u
      else if (s.bay b).state = .closing then evaluateBay b (noteReasons b (blockReasons u b) u) else evaluateBay b u) := by
  simp only [execPpChange, atLiveBay_driven hb hd, ht, beq_eq_false_iff_ne.2 hp, ← hu, beq_iff_eq, Bool.or_self,
    Bool.false_eq_true, if_false, apply_ite (evaluateBay b)]

/-- A guard channel at a new level: opening it trips an energised socket bay (R140). -/
theorem execGuardChange_new {chB closed : Bool}
    (hnew : (if chB then (s.bay b).guards.bClosed else (s.bay b).guards.aClosed) ≠ closed)
    {u : State} (hu : u = s.modBay b fun y => { y with guards := guardLevel s y.guards chB closed }) :
    execGuardChange b chB closed s = .next
      (if closed = false ∧ s.tethered b = false ∧ (s.bay b).isEnergised = true then inputTrip b 4 3 4 7 u
        else evaluateBay b u) := by
  simp only [execGuardChange, atLiveBay_driven hb hd, beq_eq_false_iff_ne.2 hnew, ← hu, Bool.and_eq_true, Bool.not_eq_true',
    and_assoc, Bool.false_eq_true, if_false]

/-- A guard pair that has differed for more than 50 ms fails its test (R141). -/
theorem execGuardDiscrepancy_over {t : Nat} (ht : (s.bay b).guards.diffSince = some t) (hover : t + 50000 < s.time.osc) {u : State}
    (hu : u = s.modBay b fun y => { y with guards := { y.guards with gstOk := false, lastPair := none } }) :
    execGuardDiscrepancy b s = .next
      (if s.tethered b = false ∧ (s.bay b).isEnergised = true then safeStop b 4 3 false u else evaluateBay b u) := by
  simp only [execGuardDiscrepancy, atLiveBay_driven hb hd, ht, Nat.not_le.2 hover, ← hu, Bool.and_eq_true, Bool.not_eq_true',
    if_false]
end

/-- Settles O7: each row sees a new level, and what follows goes by whether the bay is energised. -/
theorem bayInputsTakeEffect : Obligations.BayInputsTakeEffect := by
  unfold Obligations.BayInputsTakeEffect
  intro s b hb hd
  exact ⟨fun _ _ _ hf hst hnew => execCpStateChange_takesEffect hb hd hf hst hnew,
    fun _ _ ht hp hu => execPpChange_new hb hd ht hp hu,
    fun _ _ _ hnew hu => execGuardChange_new hb hd hnew hu, fun _ _ ht hover hu => execGuardDiscrepancy_over hb hd ht hover hu⟩

/-! ### The lock -/

/-- Switching load channels off changes no bay. -/
theorem switchOff_bays (k : Nat) (s : State) : (switchOff k s).bays = s.bays := by
  unfold switchOff
  split
  · rfl
  · dsimp only
    split
    · rfl
    · split
      · simp
      · rfl

theorem bridgeOff_bay (b k : Nat) (s : State) : (bridgeOff b s).bay k = s.bay k := by
  simp [State.bay, bridgeOff, commandOff, switchOff_bays]

section
variable {s : State} {b : Nat} (hb : b < 32) (hd : outputsDriven s = true)
include hb hd

/-- LKF within the timeout confirms a locking drive, which stands until its pulse ends (R142). -/
theorem execLockConfirmed_confirms {d : LockDrive} (hdrive : (s.bay b).lock.drive = some d) (hl : d.locking = true)
    (ht : s.time.osc ≤ d.start + 1000 * s.bayField b 112 16) :
    execLockConfirmed b s = .next (evaluateBay b (s.modBay b fun y => { y with
      lock := { y.lock with feedback := true, locked := true, drive := if d.pulse then some d else none } })) := by
  simp only [execLockConfirmed, atLiveBay_driven hb hd, hdrive, hl, ht, decide_true, Bool.and_self, Bool.or_true, Bool.true_and]
  refine congrArg (fun x => Host.Outcome.next (evaluateBay b x)) (modBay_congr ?_)
  cases hp : d.pulse <;> simp [hdrive, hp]

/-- The pulse of a locking drive that LKF has not confirmed ends; the drive still waits for its timeout (R142). -/
theorem execLockPulseEnd_ends {d : LockDrive} (hdrive : (s.bay b).lock.drive = some d) (hp : d.pulse = true)
    (hl : d.locking = true) (hopen : (s.bay b).lock.locked = false) (ht : d.start + 1000 * s.bayField b 96 16 ≤ s.time.osc) :
    execLockPulseEnd b s = .next ((bridgeOff b s).modBay b fun y => { y with
      lock := { y.lock with drive := some { d with pulse := false } } }) := by
  simp only [execLockPulseEnd, atLiveBay_driven hb hd, hdrive, hp, hl, Nat.not_lt.2 ht, decide_false, Bool.not_true, Bool.or_self,
    Bool.false_and, Bool.true_and, Bool.false_eq_true, if_false]
  exact congrArg _ (modBay_congr (by simp [bridgeOff_bay, hopen]))

theorem execLockTimeout_fails {d : LockDrive} (hdrive : (s.bay b).lock.drive = some d) (hl : d.locking = true)
    (hopen : (s.bay b).lock.locked = false) (ht : d.start + 1000 * s.bayField b 112 16 ≤ s.time.osc) :
    execLockTimeout b s = .next (lockDriveFailed b d s) := by
  simp [execLockTimeout, atLiveBay_driven hb hd, hdrive, hl, hopen, Nat.not_lt.2 ht]

theorem execLockRelease_releases (hw : lockWanted s b = false) (hc : controlRuns s = true)
    (hl : (s.bay b).lock.locked = true ∨ (s.bay b).lock.held = true) (hm : mayUnlock s b = true) :
    execLockRelease b s = .next (releaseLock b s) := by
  simp [execLockRelease, atLiveBay_driven hb hd, tryUnlock, hw, hc, hl, hm]

theorem execLockFeedbackLoss_eq {u : State}
    (hu : u = s.modBay b fun y => { y with lock := { y.lock with feedback := false, locked := false } }) :
    execLockFeedbackLoss b s = .next
      (if (s.bay b).isEnergised = true ∧ s.lockReq b = true then safeStop b 3 4 false u else evaluateBay b u) := by
  simp only [execLockFeedbackLoss, atLiveBay_driven hb hd, ← hu, Bool.and_eq_true]
end

/-- Settles O8: what LKF, the pulse's end and the timeout do goes by the drive under way. -/
theorem bayLocksRun : Obligations.BayLocksRun := by
  unfold Obligations.BayLocksRun
  intro s b hb hd
  exact ⟨fun _ hdrive hl ht => execLockConfirmed_confirms hb hd hdrive hl ht,
    fun _ hdrive hp hl hopen ht => execLockPulseEnd_ends hb hd hdrive hp hl hopen ht,
    fun _ hdrive hl hopen ht => execLockTimeout_fails hb hd hdrive hl hopen ht, execLockRelease_releases hb hd,
    fun _ hu => execLockFeedbackLoss_eq hb hd hu⟩

/-! ### The timers of a contactor -/

theorem State.dueOpt_some {s : State} {o : Option Nat} {t : Nat} (ho : o = some t) (ht : t ≤ s.time.osc) : s.dueOpt o = true := by
  simp [State.dueOpt, State.due, ho, ht]

/-- The verdict of a core that is up counts once the test is over and its values are there (R219, R244). -/
theorem selfTest_counts {s : State} {b t : Nat} {core : SafetyCore} (hcore : coreOk s core = true)
    (hrun : (s.bay b).safety.selfTest.runningTo = some t) (ht : t ≤ s.time.osc)
    (hv : 7 ≤ (s.bay b).safety.selfTest.values.length) :
    (!coreOk s core || !s.dueOpt (s.bay b).safety.selfTest.runningTo ||
      Decidable.decide ((s.bay b).safety.selfTest.values.length < 7)) = false := by
  simp [hcore, State.dueOpt_some hrun ht, hv]

@[simp] theorem withdrawEnables_queue (b : Nat) (s : State) : (withdrawEnables b s).queue = s.queue := rfl

/-- The CTX_START that waits for a self-test of the bay, as `s` has it, is refused (R467). -/
def refuseWaiting (b : Nat) (s u : State) : State :=
  match (s.bay b).ctx, (s.bay b).coil.startWait with
  | some c, some _ => completeStart c errSafety (s.ctx c).hd.state u
  | _, _ => u

theorem refuseWaiting_none {b : Nat} {s : State} (u : State) (h : (s.bay b).ctx = none ∨ (s.bay b).coil.startWait = none) :
    refuseWaiting b s u = u := by
  unfold refuseWaiting
  split
  next hctx hwait => simp [hctx, hwait] at h
  next => rfl

theorem refuseWaiting_some {b c : Nat} {s : State} (u : State) {p : Option (BitVec 32 × Nat)} (hctx : (s.bay b).ctx = some c)
    (hwait : (s.bay b).coil.startWait = some p) : refuseWaiting b s u = completeStart c errSafety (s.ctx c).hd.state u := by
  simp only [refuseWaiting, hctx, hwait]

section
variable {s : State} {b : Nat} (hb : b < 32) (hd : outputsDriven s = true)
include hb hd

section
variable {core : SafetyCore} {t : Nat} {hold : State} (hcore : coreOk s core = true)
  (hrun : (s.bay b).safety.selfTest.runningTo = some t) (ht : t ≤ s.time.osc) (hv : 7 ≤ (s.bay b).safety.selfTest.values.length)
include hcore hrun ht hv

/-- A first failure is repeated once (R219). -/
theorem execResidualSelftestDone_repeats (hp : selfTestPasses (s.bay b).safety.selfTest.values = false)
    (hf : (s.bay b).safety.selfTest.failures = 0) : execResidualSelftestDone b core s = .next (runSelfTest b 1 s) := by
  simp only [execResidualSelftestDone, atLiveBay_driven hb hd, selfTest_counts hcore hrun ht hv, hp, hf, beq_self_eq_true,
    Bool.false_eq_true, if_false, if_true]

variable (hhold : hold = s.modBay b fun y => { y with safety := { y.safety with dc1HoldTo := s.after (testCycles s 2) } })
include hhold

/-- A pass lasts for 60 s, and the close that waited goes on (R219). -/
theorem execResidualSelftestDone_passes (hp : selfTestPasses (s.bay b).safety.selfTest.values = true) :
    execResidualSelftestDone b core s = .next (evaluateBay b (resumeStart b
      ((reportSelfTest b true ((s.bay b).safety.selfTest.failures + 1) hold).modTest b fun x => { x with
        runningTo := none, rts := false, passUntil := some (s.time.osc + 60000000), cmd := none }))) := by
  have hpass : s.after 60000000 = s.time.osc + 60000000 := rfl
  simp only [execResidualSelftestDone, atLiveBay_driven hb hd, selfTest_counts hcore hrun ht hv, hp, ← hhold, hpass,
    Bool.false_eq_true, if_false, if_true]

/-- A second failure puts the bay in FAULT; a CTX_START that waits in a context is refused before (R219, R467). -/
theorem execResidualSelftestDone_faults (hp : selfTestPasses (s.bay b).safety.selfTest.values = false)
    (hf : (s.bay b).safety.selfTest.failures ≠ 0) {x : State}
    (hx : x = (reportSelfTest b false 2 hold).modTest b fun x => { x with
      runningTo := none, rts := false, passUntil := none, failures := 0, cmd := none }) :
    execResidualSelftestDone b core s = .next (ntfSafety 1 b 0 (faultBay b 7 ((refuseWaiting b s x).modBay b fun y => { y with
      coil := { y.coil with startWait := none } }))) := by
  simp only [execResidualSelftestDone, atLiveBay_driven hb hd, selfTest_counts hcore hrun ht hv, hp, ← hhold, ← hx,
    beq_eq_false_iff_ne.2 hf, Bool.false_eq_true, if_false]
  rfl
end

/-- What a failed core says, and a test that does not run or is not over, changes nothing (R219, R244). -/
theorem execResidualSelftestDone_notOver {core : SafetyCore}
    (h : coreOk s core = false ∨ s.dueOpt (s.bay b).safety.selfTest.runningTo = false) :
    execResidualSelftestDone b core s = .next s := by
  have hnot : (!coreOk s core || !s.dueOpt (s.bay b).safety.selfTest.runningTo ||
      Decidable.decide ((s.bay b).safety.selfTest.values.length < 7)) = true := by
    rcases h with h | h <;> simp [h]
  simp only [execResidualSelftestDone, atLiveBay_driven hb hd, hnot, if_true]

section
variable {t : Nat} (hpermit : (s.bay b).safety.permitUntil = some t) (ht : t ≤ s.time.osc) (hc : (s.bay b).coil.on = false)
include hpermit ht hc

/-- A permission that lapses with no DC close waiting is withdrawn (R222). -/
theorem execPermissionLapse_withdraws (hq : ∀ q ∈ s.queue, q.bay = some b → q.asap = false) :
    execPermissionLapse b s = .next (withdrawEnables b s) := by
  have hfind : (withdrawEnables b s).queue.find? (fun q => q.bay == some b && q.asap) = none := by
    rw [withdrawEnables_queue, List.find?_eq_none]
    simpa using hq
  simp only [execPermissionLapse, atLiveBay_driven hb hd, State.dueOpt_some hpermit ht, hc, hfind, Bool.not_true, Bool.or_self,
    Bool.false_eq_true, if_false]

/-- A DC close that still waits as its permission lapses is refused (R222, R467). -/
theorem execPermissionLapse_refuses {q : QEntry} {c : Nat} (hq : s.queue.find? (fun q => q.bay == some b && q.asap) = some q)
    (hctx : (s.bay b).ctx = some c) : execPermissionLapse b s =
      .next (refuseClose b c errSafety (dropEntries (· == q) (withdrawEnables b s))) := by
  have hfind : (withdrawEnables b s).queue.find? (fun q => q.bay == some b && q.asap) = some q := by
    rw [withdrawEnables_queue, hq]
  simp only [execPermissionLapse, atLiveBay_driven hb hd, State.dueOpt_some hpermit ht, hc, hfind, hctx, Bool.not_true,
    Bool.or_self, Bool.false_eq_true, if_false]
end

theorem execPermissionLapse_notOver (h : s.dueOpt (s.bay b).safety.permitUntil = false ∨ (s.bay b).coil.on = true) :
    execPermissionLapse b s = .next s := by
  rcases h with h | h <;> simp [execPermissionLapse, atLiveBay_driven hb hd, h]

/-- A DC bay whose UO has not followed within 50 ms of 50 V ends its session and trips (R155). -/
theorem execDcClosureTimeout_trips {t : Nat} (hu : (s.bay b).coil.ua50At = some t) (ht : t + 50000 ≤ s.time.osc)
    (hk : s.kind b = 2) (hs : (s.bay b).state = .closing) :
    execDcClosureTimeout b s = .next (trip b 6 true (setpointZero b true
      (match (s.bay b).ctx with | some c => finishCtx c 6 7 0 errState s | none => s))) := by
  have hdc : s.isDc b = true := (State.isDc_iff s b).2 hk
  cases hc : (s.bay b).ctx <;>
    simp only [execDcClosureTimeout, atLiveBay_driven hb hd, hu, hdc, hs, hc, Nat.not_lt.2 ht, bne_self_eq_false, decide_false,
      Bool.not_true, Bool.or_self, Bool.false_eq_true, if_false]

theorem execDcClosureTimeout_other (h : (s.bay b).coil.ua50At = none ∨ s.kind b ≠ 2 ∨ (s.bay b).state ≠ .closing) :
    execDcClosureTimeout b s = .next s := by
  cases hu : (s.bay b).coil.ua50At with
  | none => simp [execDcClosureTimeout, atLiveBay_driven hb hd, hu]
  | some t =>
    have hnot : s.isDc b = false ∨ (s.bay b).state ≠ .closing := by simpa [hu, State.isDc] using h
    rcases hnot with hnot | hnot <;> simp [execDcClosureTimeout, atLiveBay_driven hb hd, hu, hnot]

/-- A DC bay opens once its current is below 5 A, or after 1 s (R155). -/
theorem execDcOpenCurrentLow_opens {t : Nat} {ma : Int} (ho : (s.bay b).coil.dcOpenAt = some t)
    (h : ma.natAbs < 5000 ∨ t + 1000000 ≤ s.time.osc) :
    execDcOpenCurrentLow b ma s = .next (coilOff b (s.bay b).coil.openCause s) := by
  simp [execDcOpenCurrentLow, atLiveBay_driven hb hd, ho, h]

theorem execDcOpenCurrentLow_none (ma : Int) (ho : (s.bay b).coil.dcOpenAt = none) : execDcOpenCurrentLow b ma s = .next s := by
  simp [execDcOpenCurrentLow, atLiveBay_driven hb hd, ho]

theorem execSuspendOpenTimeout_opens {t : Nat} (hu : (s.bay b).coil.suspendAt = some t) (ht : t ≤ s.time.osc)
    (hc : controlRuns s = true) : execSuspendOpenTimeout b s = .next (normalOpen b 0 s) := by
  simp [execSuspendOpenTimeout, atLiveBay_driven hb hd, State.dueOpt_some hu ht, hc]

theorem execSuspendOpenTimeout_notOver (h : s.dueOpt (s.bay b).coil.suspendAt = false ∨ controlRuns s = false) :
    execSuspendOpenTimeout b s = .next s := by
  rcases h with h | h <;> simp [execSuspendOpenTimeout, atLiveBay_driven hb hd, h]
end

/-- Settles O10: a timer acts once it is over, by what its bay is in the middle of. -/
theorem contactorTimersAct : Obligations.ContactorTimersAct := by
  unfold Obligations.ContactorTimersAct
  intro s b hb hd
  refine ⟨fun core t hold hcore hrun ht hv hhold => ⟨?passes, ?repeats, ?faults⟩,
    fun _ h => execResidualSelftestDone_notOver hb hd h, ?lapse, execPermissionLapse_notOver hb hd,
    fun _ hu ht hk hs => execDcClosureTimeout_trips hb hd hu ht hk hs, execDcClosureTimeout_other hb hd,
    fun _ _ ho h => execDcOpenCurrentLow_opens hb hd ho h, execDcOpenCurrentLow_none hb hd,
    fun _ hu ht hc => execSuspendOpenTimeout_opens hb hd hu ht hc, execSuspendOpenTimeout_notOver hb hd⟩
  case passes => exact execResidualSelftestDone_passes hb hd hcore hrun ht hv hhold
  case repeats => exact execResidualSelftestDone_repeats hb hd hcore hrun ht hv
  case faults =>
    intro x c p hp hf hx
    have hfault := execResidualSelftestDone_faults hb hd hcore hrun ht hv hhold hp hf hx
    refine ⟨fun hnone => hfault.trans ?_, fun hctx hwait => hfault.trans ?_⟩
    · rw [refuseWaiting_none x hnone]
    · rw [refuseWaiting_some x hctx hwait]
  case lapse =>
    rintro t u hpermit ht hc rfl
    exact ⟨execPermissionLapse_withdraws hb hd hpermit ht hc,
      fun q c hq hctx => execPermissionLapse_refuses hb hd hpermit ht hc hq hctx⟩

/-! ### Converters -/

/-- What a change leaves of a bay's converter is as before. -/
theorem conv_modConv_same {α : Type} (p : BayConverter → α) {s : State} {b : Nat} {f : BayConverter → BayConverter}
    (h : p (f (s.bay b).conv) = p (s.bay b).conv) : p ((s.modConv b f).bay b).conv = p (s.bay b).conv :=
  bay_modBay_same (fun y => p y.conv) h

/-- A frame of message `m` that was heard: it counts, and its alive counter stands (R151). -/
def frameHeard (m can b : Nat) (data : Bytes) (s : State) : State :=
  (count 0x10 (4 + can) 16 s).modConv b fun v => { v with alive := v.alive.modify m fun _ => some (fld data 0 1) }

@[simp] theorem frameHeard_time (m can b : Nat) (data : Bytes) (s : State) : (frameHeard m can b data s).time = s.time := rfl
@[simp] theorem frameHeard_configAt (m can b : Nat) (data : Bytes) (s : State) :
    ((frameHeard m can b data s).bay b).conv.configAt = (s.bay b).conv.configAt :=
  conv_modConv_same (s := count 0x10 (4 + can) 16 s) (·.configAt) rfl
@[simp] theorem frameHeard_configCmds (m can b : Nat) (data : Bytes) (s : State) :
    ((frameHeard m can b data s).bay b).conv.configCmds = (s.bay b).conv.configCmds :=
  conv_modConv_same (s := count 0x10 (4 + can) 16 s) (·.configCmds) rfl

section
variable {s : State} (hd : outputsDriven s = true)
include hd

theorem execHeartbeat_driven {can : Nat} (hc : can < 2) :
    execHeartbeat can s = .next ((canBays s can).foldl (fun a b => sendSetpoint b (sendHeartbeat b a)) s) := by
  simp [execHeartbeat, atUnit_of_lt hc, hd]

section
variable {can node b : Nat} {data : Bytes} (hc : can < 2) (hb : converterBay s can node = some b)
include hc hb

/-- A valid frame of the bay's converter is heard and acts (R151). -/
theorem canReceive_valid {m : Nat} (act : Nat → State → State)
    (hv : canValid m node ((s.bay b).conv.alive.getD (m - 4) none) data = true) :
    canReceive m can node data s act = .next (act b (frameHeard (m - 4) can b data s)) := by
  simp only [canReceive, atUnit_of_lt hc, hb, hd, hv, Bool.not_true, Bool.or_self, Bool.false_eq_true, if_false, frameHeard]

theorem execConverterStatus_valid (hv : canValid 4 node ((s.bay b).conv.alive.getD 0 none) data = true) :
    execConverterStatus can node data s = .next (evaluateBay b ((frameHeard 0 can b data s).modConv b fun v => { v with
      status := fld data 1 1, outMv := fld data 2 4, outMa := signed 32 (fld data 6 4),
      temp := signed 16 (fld data 10 2), flags := fld data 12 2, statusAt := some s.time.osc })) :=
  canReceive_valid hd hc hb _ hv

theorem execIsoMonitor_ok (hv : canValid 5 node ((s.bay b).conv.alive.getD 1 none) data = true) (hok : fld data 1 1 = 0) :
    execIsoMonitor can node data s = .next (evaluateBay b ((frameHeard 1 can b data s).modConv b fun v => { v with
      iso := 0, isoOhm := fld data 2 4, isoMv := fld data 6 4, isoAt := some s.time.osc })) := by
  refine (canReceive_valid hd hc hb _ hv).trans ?_
  simp [hok]

/-- CAPABILITY ends the CONFIG that was out, if any (R152, R154). -/
theorem execCapability_valid (hv : canValid 6 node ((s.bay b).conv.alive.getD 2 none) data = true) {u : State}
    (hu : u = markDirty ((frameHeard 2 can b data s).modConv b fun v => { v with
      capKnown := true, capFailed := false, capExport := testBit (fld data 1 1) 0,
      capMv := fld data 2 4, capMa := fld data 6 4, capMw := fld data 10 4, configAt := none, configCmds := [] })) :
    execCapability can node data s = .next (if (s.bay b).conv.configAt.isSome
      then ntfConfigured b 0 (s.bay b).conv.configCmds stOk u else u) := by
  refine (canReceive_valid hd hc hb _ hv).trans ?_
  simp only [Nat.reduceSub, ← hu, frameHeard_configAt, frameHeard_configCmds]

theorem execConverterFault_reports (hv : canValid 7 node ((s.bay b).conv.alive.getD 3 none) data = true) (hsev : fld data 2 1 = 0) :
    execConverterFault can node data s = .next (ntfConverter b 4 (fld data 1 1) none 0 (frameHeard 3 can b data s)) := by
  refine (canReceive_valid hd hc hb _ hv).trans ?_
  simp [hsev]
end

section
variable {b t : Nat} (hb : b < 32)
include hb

/-- STATUS silent for 60 ms on a DC bay that is on counts as the converter's failure (R154). -/
theorem execConverterStatusTimeout_silent (hk : s.kind b = 2) (hdis : (s.bay b).state ≠ .disabled)
    (hf : (s.bay b).state ≠ .fault) (hw : (s.bay b).state ≠ .welded) (hs : (s.bay b).conv.statusAt = some t)
    (ht : t + 60000 ≤ s.time.osc) :
    execConverterStatusTimeout b s = .next (converterTrip b (ntfConverter b 3 0 none 0
      (s.modConv b fun v => { v with statusAt := none, alive := v.alive.modify 0 fun _ => none }))) := by
  simp [execConverterStatusTimeout, atLiveBay_driven hb hd, State.isDc_iff, hk, hdis, hf, hw, silentFor, hs, ht]

/-- ISO_MONITOR silent for 300 ms on an energised DC bay counts as a monitor fault (R220). -/
theorem execIsoMonitorTimeout_silent (hk : s.kind b = 2) (he : (s.bay b).isEnergised = true) (hs : (s.bay b).conv.isoAt = some t)
    (ht : t + 300000 ≤ s.time.osc) : execIsoMonitorTimeout b s = .next (sdeTrip b
      (s.modConv b fun v => { v with isoAt := none, alive := v.alive.modify 1 fun _ => none })) := by
  simp [execIsoMonitorTimeout, atLiveBay_driven hb hd, State.isDc_iff, hk, he, silentFor, hs, ht]

theorem execCapabilityTimeout_over (hs : (s.bay b).conv.configAt = some t) (ht : t + 500000 ≤ s.time.osc) :
    execCapabilityTimeout b s = .next (ntfConfigured b 1 (s.bay b).conv.configCmds errState
      (s.modConv b fun v => { v with capKnown := false, capFailed := true, configAt := none, configCmds := [],
                                     alive := v.alive.modify 2 fun _ => none })) := by
  simp [execCapabilityTimeout, atLiveBay_driven hb hd, hs, Nat.not_lt.2 ht]
end
end

/-- Settles O11: a valid frame is heard before it acts, and each silence is one of an instant that stands. -/
theorem convertersReport : Obligations.ConvertersReport := by
  unfold Obligations.ConvertersReport
  intro s hd
  refine ⟨fun can hc => execHeartbeat_driven hd hc, ?frames,
    fun b t hb hk hdis hf hw hs ht => execConverterStatusTimeout_silent hd hb hk hdis hf hw hs ht,
    fun b t hb hk he hs ht => execIsoMonitorTimeout_silent hd hb hk he hs ht,
    fun b t hb hs ht => execCapabilityTimeout_over hd hb hs ht⟩
  case frames =>
    intro can node b data hc hb
    exact ⟨execConverterStatus_valid hd hc hb, execIsoMonitor_ok hd hc hb, fun u hv hu => execCapability_valid hd hc hb hv hu,
      execConverterFault_reports hd hc hb⟩

end Sys2Proof.Machine
end

section
/-! SUPPORT. The family of power wiring and links: the commands of the links, Plug & Charge, and the sources of the site's
limits. -/

namespace Sys2Proof.Machine

open Sys2Proof

/-! ### Link commands -/

section
variable (c : Command) (h : Hdr) (pl : Bytes) (s : State)

@[simp] theorem linkRecord_begun : linkRecord (begun c h pl s) = linkRecord s :=
  begun_reads (f := linkRecord) (fun _ _ _ _ _ => rfl) c h pl s
@[simp] theorem neighbourEntry_begun : neighbourEntry (begun c h pl s) = neighbourEntry s :=
  begun_reads (f := neighbourEntry) (fun _ _ _ _ _ => rfl) c h pl s
end

/-- A whole object whose bytes pass is staged for the port of its command (R326, R331). -/
theorem stageObject_begun {c : Command} {h : Hdr} {pl : Bytes} {s : State} {id : Nat} {l : Layout} (hl : layout id = some l)
    (hw : (writeWorlds id).contains h.world = true) (hsize : pl.length ≤ l.size)
    (hok : objectOk l (stageBase s h.port id) (overlay (stageBase s h.port id) 0 pl) = true)
    (hroom : (stagedOf (s.port h.port) id).isSome = true ∨ (s.port h.port).staging.length < 64) :
    stageObject (callOf c h) id pl (begun c h pl s) =
      ok (stage h.port id (overlay (stageBase s h.port id) 0 pl) (begun c h pl s)) :=
  stageWrite_ok hl hw (by simp) (by omega) (by simpa using hok) (stage_begun_staged hroom)

/-- PLC_GET_LINK answers the records of the links that its mask names, the mains network's as the 33rd (R179). -/
theorem plcGetLink_ok {pl : Bytes} (hmask : fld pl 0 5 < 2 ^ 33) (call : Call) (s : State) : cmdPlcGetLink.body call pl s =
    okWith s (le 1 ((List.range 33).filter fun i => testBit (fld pl 0 5) i).length ++ le 3 0 ++
      ((List.range 33).filter fun i => testBit (fld pl 0 5) i).flatMap (linkRecord s)) :=
  if_neg (Nat.not_le.2 hmask)

theorem plcTonemapInfo_eq (call : Call) (pl : Bytes) (s : State) : cmdPlcTonemapInfo.body call pl s =
    okWith s (le 1 (sat 8 s.mains.neighbours.length) ++ le 3 0 ++
      ((s.mains.neighbours.drop (fld pl 0 1)).take (fld pl 1 1)).flatMap (neighbourEntry s)) := rfl

theorem siteGetPeers_eq (call : Call) (pl : Bytes) (s : State) : cmdSiteGetPeers.body call pl s =
    okWith s (le 1 (sat 8 s.sitePeers.length) ++ le 3 0 ++ s.sitePeers.flatMap fun p =>
      le 8 p.serial ++ le 1 p.role ++ le 1 p.links ++ le 2 0 ++ le 4 ((s.time.osc - p.lastAt) / 1000)) := rfl

/-- Settles O33: the three configure commands stage one object each; a query's own rules read what the arrival of its packet
leaves alone. -/
theorem linkCommandsAnswer : Obligations.LinkCommandsAnswer := by
  unfold Obligations.LinkCommandsAnswer
  intro h pl s
  refine ⟨fun id l hl hw hsize hok hroom => ?configure, fun ha hmask => ?links, fun ha => ?tonemaps, fun ha => ?peers⟩
  case configure =>
    have hstage (c : Command) := stageObject_begun (c := c) hl hw hsize hok hroom
    refine ⟨?plc, ?v2g, ?site⟩ <;>
    · rintro rfl ha
      exact completes_of_accepted ha rfl (hstage _)
  case links => exact completes_of_accepted ha rfl ((plcGetLink_ok hmask _ _).trans (by rw [linkRecord_begun]))
  case tonemaps =>
    exact completes_of_accepted ha rfl ((plcTonemapInfo_eq _ _ _).trans (by rw [neighbourEntry_begun, begun_mains]))
  case peers =>
    exact completes_of_accepted ha rfl ((siteGetPeers_eq _ _ _).trans (by rw [begun_sitePeers, begun_time]))

/-! ### Plug & Charge -/

section
variable (c : Command) (h : Hdr) (pl : Bytes) (s : State)

@[simp] theorem chainOk_begun (chain : PncChain) : chainOk (begun c h pl s) chain = chainOk s chain :=
  begun_reads (f := (chainOk · chain)) (fun _ _ _ _ _ => rfl) c h pl s
@[simp] theorem cachedOcsp_begun (chain : PncChain) : cachedOcsp (begun c h pl s) chain = cachedOcsp s chain :=
  begun_reads (f := (cachedOcsp · chain)) (fun _ _ _ _ _ => rfl) c h pl s
@[simp] theorem ocspGood_begun (chain : PncChain) (rs : List Bytes) :
    ocspGood (begun c h pl s) chain rs = ocspGood s chain rs :=
  begun_reads (f := (ocspGood · chain rs)) (fun _ _ _ _ _ => rfl) c h pl s
@[simp] theorem ocspMissing_begun (chain : PncChain) (rs : List Bytes) :
    ocspMissing (begun c h pl s) chain rs = ocspMissing s chain rs :=
  begun_reads (f := (ocspMissing · chain rs)) (fun _ _ _ _ _ => rfl) c h pl s
end

section
variable {s : State} {b c : Nat} {chain : PncChain} (hb : b < 32) (hd : outputsDriven s = true) (hctx : (s.bay b).ctx = some c)
  (hlink : (s.bay b).link.link = 3) (hpnc : bits (s.bay b).link.config 3 1 = 1) (hs : (s.ctx c).hd.state = .reserved)
include hb hd hctx hlink hpnc hs

/-- A chain that fails a check, or has a response that is not good, denies the context that waits for it (R194). -/
theorem execPncChainReceived_fails (hbad : chainOk s chain = false ∨ ocspGood s chain (cachedOcsp s chain) = false) :
    execPncChainReceived b chain s = .next (denyCtx c none s) := by
  have hdeny : (!chainOk s chain || !ocspGood s chain (cachedOcsp s chain)) = true := by simpa using hbad
  simp only [execPncChainReceived, atLiveBay_driven hb hd, hctx, hlink, hpnc, hs, hdeny, bne_self_eq_false, Nat.reduceBEq,
    Bool.or_self, Bool.false_eq_true, if_false, if_true]

/-- A chain that verifies, with no response that is not good, is cached; what follows goes by the responses it lacks (R162, R194). -/
theorem execPncChainReceived_verifies (hok : chainOk s chain = true) (hgood : ocspGood s chain (cachedOcsp s chain) = true) :
    execPncChainReceived b chain s = .next (if ocspMissing s chain (cachedOcsp s chain) = []
      then decideEmaid c chain none (cacheChain chain (cachedOcsp s chain) s)
      else askOcsp c chain (ocspMissing s chain (cachedOcsp s chain))
        ((cacheChain chain (cachedOcsp s chain) s).modWk c fun w => { w with pnc := some { chain := chain } })) := by
  simp [execPncChainReceived, atLiveBay_driven hb hd, hctx, hlink, hpnc, hs, hok, hgood]
end

/-- PNC_VERIFY decides the chain that a context holds, with the responses supplied and those cached, or denies it (R194). -/
theorem pncVerify_decides {call : Call} {pl : Bytes} {s : State} {w : PncWait} {rs : List Bytes}
    (hne : (s.ctx (fld pl 0 1)).hd.state ≠ .free) (hw : (s.ctx (fld pl 0 1)).wk.pnc = some w)
    (hrs : ((ocspResponses (fld pl 1 1) (pl.drop 4)).getD []) ++ cachedOcsp s w.chain = rs) :
    cmdPncVerify.body call pl s =
      pending (if chainOk s w.chain = true ∧ ocspGood s w.chain rs = true ∧ ocspMissing s w.chain rs = []
        then decideEmaid (fld pl 0 1) w.chain (some call.ref) (cacheChain w.chain rs s)
        else denyCtxFor (fld pl 0 1) none (some call.ref) (cacheChain w.chain rs s)) := by
  simp only [cmdPncVerify, pncVerifyBody, withCtx_of_ne_free rfl hne, hw, hrs, Bool.and_eq_true, List.isEmpty_iff, and_assoc]

/-- Settles O26: the checks of the chain and of its responses say which of the three outcomes a received chain has. -/
theorem plugAndChargeDecides : Obligations.PlugAndChargeDecides := by
  unfold Obligations.PlugAndChargeDecides
  intro s
  refine ⟨fun b c chain hb hd hctx hlink hpnc hs => ?received, fun h pl w rs ha hne hw hrs => ?verify⟩
  case received =>
    have hverifies := execPncChainReceived_verifies (chain := chain) hb hd hctx hlink hpnc hs
    exact ⟨execPncChainReceived_fails hb hd hctx hlink hpnc hs,
      fun hok hgood hall => (hverifies hok hgood).trans (by rw [if_pos hall]),
      fun hok hgood hlacks => (hverifies hok hgood).trans (by rw [if_neg hlacks])⟩
  case verify =>
    refine completes_of_accepted ha rfl
      ((pncVerify_decides (by simpa using hne) (by simpa using hw) (by simpa using hrs)).trans ?_)
    simp only [chainOk_begun, ocspGood_begun, ocspMissing_begun]

/-! ### Limits of the host -/

theorem siteSetBudget_sets {pl : Bytes} {s : State} (ht : s.time.now < fld pl 0 8) (call : Call) :
    cmdSiteSetBudget.body call pl s = ok (originate (fld pl 0 8) (limitsAt pl 8)
      (markDirty { s with budget := { s.budget with host := some (limitsAt pl 8, fld pl 0 8), hostLapsed := false } })) :=
  if_neg (Nat.not_le.2 ht)

theorem siteGetAllocation_eq (call : Call) (pl : Bytes) (s : State) : cmdSiteGetAllocation.body call pl s =
    okWith s (le 4 s.budget.lastCycle ++ le 2 s.budget.last.length ++ le 2 0 ++ s.budget.last.flatMap grantBytes) := rfl

theorem execSiteLimitLapse_host {s : State} {l : Limits} {t : Nat} (hh : s.budget.host = some (l, t)) (ht : t ≤ s.time.now)
    (hl : s.budget.hostLapsed = false) : execSiteLimitLapse .hostBudget s =
      .next (markDirty { s with budget := { s.budget with hostLapsed := true } }) := by
  simp [execSiteLimitLapse, hh, ht, hl]

/-! ### Curtailment frames -/

/-- An applied frame's limits are its origin's in place of those of before (R173). -/
def curtailed (frame : Bytes) (s : State) : State :=
  let k : Curtailment := { origin := fld frame 0 8, seq := fld frame 8 4, limits := limitsAt frame 32, fromT := fld frame 16 8,
                           until_ := fld frame 24 8 }
  markDirty { s with budget := { s.budget with curtail := s.budget.curtail.filter (·.origin != fld frame 0 8) ++ [k] } }

/-- An authentic frame, newer than the last of its origin and not over, is applied and, below hop 3, goes on with its hop raised
and a MAC of its own (R173). -/
theorem takeCurtailment_applies {frame key : Bytes} {s : State} (hverify : linkKey s 3 = some key) (hsign : linkKey s 2 = some key)
    (hlen : frame.length = 96) (hauth : slice frame 80 16 = (hmac key (frame.take 80)).take 16)
    (hnew : ∀ k ∈ s.budget.curtail, k.origin = fld frame 0 8 → k.seq < fld frame 8 4) (ht : s.time.now < fld frame 24 8) :
    takeCurtailment frame s =
      let body := frame.take 12 ++ le 1 (fld frame 12 1 + 1) ++ slice frame 13 67
      if fld frame 12 1 < 3 then relayFrame (body ++ (hmac key body).take 16) (curtailed frame s) else curtailed frame s := by
  have hfresh : (s.budget.curtail.any fun k => k.origin == fld frame 0 8 && Decidable.decide (fld frame 8 4 ≤ k.seq)) = false := by
    rw [List.any_eq_false]
    intro k hmem
    simpa using hnew k hmem
  simp only [takeCurtailment, hverify, hsign, hlen, hauth, hfresh, Nat.not_le.2 ht, bne_self_eq_false, decide_false,
    Bool.or_self, Bool.false_eq_true, if_false]
  rfl

theorem execCurtailmentFrame_heard {s : State} (hm : mainsCarries s = true) (hr : hostReady s = true) (frame : Bytes) :
    execCurtailmentFrame frame s = .next (takeCurtailment frame (count 0x10 6 frame.length s)) := by
  simp only [execCurtailmentFrame, hm, hr, Bool.not_true, Bool.or_self, Bool.false_eq_true, if_false]

/-! ### The site link -/

/-- Counting a frame on the ports of the site link draws a length and touches the counters alone. -/
theorem countSite_eq (event ports : Nat) (s : State) :
    ∃ p, countSite event ports s = { s with draws := s.draws + 1, perf := p } := by
  simp only [countSite, State.choice, List.foldl_cons, List.foldl_nil]
  split <;> split <;> split <;> exact ⟨_, rfl⟩

theorem execCoordinatorSend_due {s : State} {key : Bytes} (hk : siteKey s 2 = some key) (hr : siteRole s = 2)
    (hc : controlRuns s = true) (hl : siteCarries s = true) (hdue : ∀ t, s.budget.sentAt = some t → t + 1000000 ≤ s.time.osc) :
    execCoordinatorSend s = .next (countSite 0x11 (siteLinks s) { s with budget := { s.budget with
      sent := some { sender := serialNum, siteId := s.field 0x0510 128 32, limits := limitsInForce s,
                     validUntil := s.time.now + 3000000,
                     mac := Config.coordMac key serialNum (s.field 0x0510 128 32) (s.time.now + 3000000) (limitList (limitsInForce s)) },
      sentAt := some s.time.osc } }) := by
  cases hat : s.budget.sentAt with
  | none => simp [execCoordinatorSend, hr, hc, hl, hk, hat]
  | some t => simp [execCoordinatorSend, hr, hc, hl, hk, hat, Nat.not_lt.2 (hdue t hat)]

/-- A frame that is its coordinator's, authentic and valid: its limits, by the site's share, are in force, and a member that did
not hear it on PLCM sends them on there (R330, R173). -/
theorem takeCoordinator_takes {links : Nat} {f : CoordFrame} {key : Bytes} {s : State} (hk : siteKey s 3 = some key)
    (hr : siteRole s = 1) (hsite : f.siteId = s.field 0x0510 128 32) (hsender : f.sender = s.field 0x0510 32 64)
    (hmac : f.mac = Config.coordMac key f.sender f.siteId f.validUntil (limitList f.limits)) (ht : s.time.now < f.validUntil)
    {l : Limits} (hlim : l = { f.limits with
      siteP := shareOf (s.field 0x0510 96 16) f.limits.siteP (2 ^ 64 - 1)
      phase := f.limits.phase.map fun v => shareOf (s.field 0x0510 96 16) v 0xFFFFFFFF }) :
    takeCoordinator links f s =
      let v := markDirty { heardPeer f.sender 2 links s with
        budget := { s.budget with site := some (l, f.validUntil), siteSeen := some s.time.osc, siteLost := false } }
      if testBit links 2 then v else originate f.validUntil l v := by
  simp only [takeCoordinator, hk, hr, ← hsite, ← hsender, ← hmac, ← hlim, Nat.not_le.2 ht, bne_self_eq_false, decide_false,
    Bool.or_self, Bool.false_eq_true, if_false]
  rfl

section
variable {s : State} (hc : controlRuns s = true) (hl : siteCarries s = true) (f : CoordFrame)
include hc hl

theorem execCoordinatorFrame_plcm (hp : siteLinks s = 4) :
    execCoordinatorFrame f s = .next (takeCoordinator 4 f (countSite 0x10 4 s)) := by
  simp [execCoordinatorFrame, hc, hl, hp]

/-- Which of SITE_A and SITE_B carried a frame is drawn (R330). -/
theorem execCoordinatorFrame_ethernet (hp : siteLinks s ≠ 4) : execCoordinatorFrame f s =
    .next (takeCoordinator (1 + Config.openChoice s.draws % 3) f
      (countSite 0x10 (1 + Config.openChoice s.draws % 3) { s with draws := s.draws + 1 })) := by
  simp [execCoordinatorFrame, hc, hl, hp, State.choice]
end

/-- SITE_A and SITE_B, one or both, are a set of links without PLCM. -/
theorem testBit_ethernet (n : Nat) : testBit (1 + n % 3) 2 = false := by
  have hset : 1 + n % 3 < 4 := by omega
  simp [testBit, Nat.div_eq_of_lt hset]

theorem execCoordinatorLost_silent {s : State} (hr : siteRole s = 1) (hc : controlRuns s = true) (hl : s.budget.siteLost = false)
    (hs : silentFor s s.budget.siteSeen 3000000 = true) :
    execCoordinatorLost s = .next (markDirty { s with budget := { s.budget with siteLost := true } }) := by
  simp [execCoordinatorLost, hr, hc, hl, hs]

theorem silentFor_of_forall {s : State} {o : Option Nat} {us : Nat} (h : ∀ t, o = some t → t + us ≤ s.time.osc) :
    silentFor s o us = true := by
  cases o with
  | none => rfl
  | some t => exact decide_eq_true (h t rfl)

/-- Settles O15: each source's row sees the frame, or the time, that its rule asks for; what a member counts of a frame leaves
alone what it takes from it. -/
theorem siteLimitsArriveAndLapse : Obligations.SiteLimitsArriveAndLapse := by
  unfold Obligations.SiteLimitsArriveAndLapse
  intro h pl s
  refine ⟨fun ha ht => ?budget, fun ha => ?allocation, fun l t hh ht hl => execSiteLimitLapse_host hh ht hl, ?curtailment,
    fun key hk hr hc hl hdue => execCoordinatorSend_due hk hr hc hl hdue, ?coordinator,
    fun hr hc hl hs => execCoordinatorLost_silent hr hc hl (silentFor_of_forall hs)⟩
  case budget =>
    exact completes_of_accepted ha rfl ((siteSetBudget_sets (by simpa using ht) _).trans (by rw [begun_budget]))
  case allocation => exact completes_of_accepted ha rfl ((siteGetAllocation_eq _ _ _).trans (by rw [begun_budget]; rfl))
  case curtailment =>
    intro frame key v hverify hsign hm hr hlen hauth hnew ht hv body
    have happlied : v = curtailed frame (count 0x10 6 frame.length s) := by
      rw [hlen]
      exact hv
    rw [happlied]
    exact (execCurtailmentFrame_heard hm hr frame).trans
      (congrArg _ (takeCurtailment_applies (s := count 0x10 6 frame.length s) hverify hsign hlen hauth hnew ht))
  case coordinator =>
    intro f key links u hk hr hc hl hsite hsender hauth ht hlinks share l v
    obtain ⟨htake, hplcm, d, p, rfl⟩ : exec (.coordinatorFrame f) s = .next (takeCoordinator links f u) ∧
        (testBit links 2 = true ↔ links = 4) ∧ ∃ d p, u = { s with draws := d, perf := p } := by
      rcases hlinks with ⟨hp, rfl, rfl⟩ | ⟨hp, rfl, rfl⟩
      · exact ⟨execCoordinatorFrame_plcm hc hl f hp, by decide, _, countSite_eq ..⟩
      · exact ⟨execCoordinatorFrame_ethernet hc hl f hp, iff_of_false (by simp [testBit_ethernet]) (by omega), _, countSite_eq ..⟩
    rw [htake, takeCoordinator_takes (s := { s with draws := d, perf := p }) hk hr hsite hsender hauth ht rfl]
    simp only [hplcm]
    rfl

end Sys2Proof.Machine
end

section
/-! SUPPORT. The family of session contexts, credentials and the budget: sessions that pause and end, the terms of a session, the
credential store and its batches, and the allocator with its results. -/

namespace Sys2Proof.Machine

open Sys2Proof

/-! ### States of a context -/

theorem unstarted_ne_free {st : CtxState} (h : unstarted st = true) : st ≠ .free := by
  rintro rfl
  exact absurd h (by decide)

theorem limitable_ne_free {st : CtxState} (h : limitable st = true) : st ≠ .free := by
  rintro rfl
  exact absurd h (by decide)

/-- While a context's number is one of the module's, an event of the context is what it does to the state. -/
theorem atCtx_of_lt {c : Nat} (hc : c < 256) (s : State) (f : State → State) : atCtx c s f = .next (f s) := atUnit_of_lt hc s f

/-! ### Sessions that pause and end -/

section
variable {call : Call} {pl : Bytes} {s : State} {c : Nat} (hpl : fld pl 0 1 = c)
include hpl

/-- CTX_SUSPEND of a context from BOUND to SUSPENDED_EV (R188). -/
theorem ctxSuspend_suspends (hs : (s.ctx c).hd.state = .bound ∨ (s.ctx c).hd.state = .energising ∨
    (s.ctx c).hd.state = .charging ∨ (s.ctx c).hd.state = .suspendedEv) :
    cmdCtxSuspend.body call pl s = ok (suspendCtx c 0 [] (s.modWk c fun w => { w with byHost := true })) := by
  have hne : (s.ctx c).hd.state ≠ .free := by rcases hs with hs | hs | hs | hs <;> simp [hs]
  have hmay : ((s.ctx c).hd.state == .bound || (s.ctx c).hd.state == .energising || (s.ctx c).hd.state == .charging ||
      (s.ctx c).hd.state == .suspendedEv) = true := by simpa [or_assoc] using hs
  simp only [cmdCtxSuspend, withCtx_of_ne_free hpl hne, hmay, if_true]

section
variable {b : Nat} (hs : (s.ctx c).hd.state = .suspendedEvse) (hbay : (s.ctx c).hd.bay = some b)
include hs hbay

/-- CTX_RESUME, which goes by whether the bay is READY and the store admits the context (R188, R207). -/
theorem ctxResume_eq : cmdCtxResume.body call pl s =
    if (s.bay b).state = .ready ∧ heldByStore s (s.ctx c) = false then
      ok (evaluateCtx c (moveCtx c .bound 0 [] stOk (s.modWk c fun w => { w with byHost := false })))
    else pending (evaluateCtx c (markDirty ((s.modWk c fun w => { w with byHost := false }).modWk c fun w =>
      { w with resumeCmds := w.resumeCmds ++ [call.ref] }))) := by
  have hne : (s.ctx c).hd.state ≠ .free := by simp [hs]
  simp [cmdCtxResume, ctxResumeBody, withCtx_of_ne_free hpl hne, hs, hbay]

theorem ctxResume_binds (hready : (s.bay b).state = .ready) (hst : heldByStore s (s.ctx c) = false) :
    cmdCtxResume.body call pl s =
      ok (evaluateCtx c (moveCtx c .bound 0 [] stOk (s.modWk c fun w => { w with byHost := false }))) :=
  (ctxResume_eq hpl hs hbay).trans (if_pos ⟨hready, hst⟩)

/-- CTX_RESUME that must wait stays outstanding behind those that wait already (R188). -/
theorem ctxResume_waits (hwait : (s.bay b).state ≠ .ready ∨ heldByStore s (s.ctx c) = true) :
    cmdCtxResume.body call pl s = pending (evaluateCtx c (markDirty ((s.modWk c fun w => { w with byHost := false }).modWk c
      fun w => { w with resumeCmds := w.resumeCmds ++ [call.ref] }))) := by
  refine (ctxResume_eq hpl hs hbay).trans (if_neg ?_)
  rintro ⟨hready, hst⟩
  rcases hwait with hwait | hwait
  · exact hwait hready
  · simp [hst] at hwait
end

theorem ctxStop_stops (hfree : (s.ctx c).hd.state ≠ .free) (hfin : (s.ctx c).hd.state ≠ .finishing)
    (hclosed : (s.ctx c).hd.state ≠ .closed) : cmdCtxStop.body call pl s = ok (stopCtx c s) := by
  simp [cmdCtxStop, withCtx_of_ne_free hpl hfree, hfin, hclosed]

theorem ctxRelease_stops (hs : unstarted (s.ctx c).hd.state = true) : cmdCtxRelease.body call pl s = ok (stopCtx c s) := by
  simp only [cmdCtxRelease, withCtx_of_ne_free hpl (unstarted_ne_free hs), hs, if_true]

/-- CTX_ACK_RECORD of a CLOSED context with the number of its record (R184). -/
theorem ctxAckRecord_frees (hs : (s.ctx c).hd.state = .closed) (hseq : fld pl 4 4 = (s.ctx c).hd.seq) :
    cmdCtxAckRecord.body call pl s = ok (freeContext c 0 [] { s with legal := { s.legal with
      records := s.legal.records.map fun r => if r.seq == (s.ctx c).hd.seq then { r with acked := true } else r } }) := by
  have hne : (s.ctx c).hd.state ≠ .free := by simp [hs]
  simp [cmdCtxAckRecord, ctxAckBody, withCtx_of_ne_free hpl hne, hs, hseq]
end

section
variable {s : State} {c : Nat} (hc : c < 256)
include hc

theorem execTimeLimitExpiry_ends {t : Nat} (hat : (s.ctx c).wk.chargingAt = some t) (hlim : (s.ctx c).hd.timeLimit ≠ 0)
    (he : endable (s.ctx c) = true) (ht : t + 1000000 * (s.ctx c).hd.timeLimit ≤ s.time.osc) :
    execTimeLimitExpiry c s = .next (endSession c 3 6 s) := by
  simp [execTimeLimitExpiry, atCtx_of_lt hc, hat, hlim, he, Nat.not_lt.2 ht]

theorem execReservationExpiry_frees (hex : (s.ctx c).hd.expiry ≠ 0) (ht : (s.ctx c).hd.expiry ≤ s.time.now)
    (hs : unstarted (s.ctx c).hd.state = true) (he : (s.ctx c).wk.energised = false) :
    execReservationExpiry c s = .next (match (s.ctx c).hd.bay with
      | some b => evaluateBay b (freeContext c 8 [] s)
      | none => freeContext c 8 [] s) := by
  refine (atCtx_of_lt hc s _).trans (congrArg _ (if_neg ?_))
  simp [hex, Nat.not_lt.2 ht, hs, he]

/-- OFFLINE decides for a RESERVED context whose host has not answered (R192). -/
theorem execHostWaitExpiry_decides {w : HostWait} (hw : (s.ctx c).wk.hostWait = some w) (ht : w.deadline ≤ s.time.osc)
    (hs : (s.ctx c).hd.state = .reserved) :
    execHostWaitExpiry c s = .next (if s.field 0x0025 2 2 = 1 then allowDefault c (credHash w.ident) 0 (some true) s
      else denyCtx c (some false) s) := by
  have hdue : s.due w.deadline = true := decide_eq_true ht
  simp [execHostWaitExpiry, atCtx_of_lt hc, hw, hdue, hs]
end

/-- Settles O13: a command's own rules see its context, the bay and the store as they were when it came; each end that time
brings goes by the context it finds. -/
theorem sessionsPauseAndEnd : Obligations.SessionsPauseAndEnd := by
  unfold Obligations.SessionsPauseAndEnd
  intro h pl s c hc hpl
  refine ⟨fun ha hs => ?suspend, fun b ha hs hbay => ⟨fun hready hst => ?binds, fun hwait => ?waits⟩,
    fun ha hfree hfin hclosed => ?stop, fun ha hs => ?release, fun ha hs hseq => ?acknowledge,
    fun t hat hlim he ht => execTimeLimitExpiry_ends hc hat hlim he ht,
    fun hex ht hs he => execReservationExpiry_frees hc hex ht hs he,
    fun w hw ht hs => execHostWaitExpiry_decides hc hw ht hs⟩
  case suspend => exact completes_of_accepted ha rfl (ctxSuspend_suspends hpl (by simpa using hs))
  case binds =>
    exact completes_of_accepted ha rfl
      (ctxResume_binds hpl (by simpa using hs) (by simpa using hbay) (by simpa using hready) (by simpa using hst))
  case waits =>
    exact completes_of_accepted ha rfl
      (ctxResume_waits hpl (by simpa using hs) (by simpa using hbay) (by simpa using hwait))
  case stop =>
    exact completes_of_accepted ha rfl (ctxStop_stops hpl (by simpa using hfree) (by simpa using hfin) (by simpa using hclosed))
  case release => exact completes_of_accepted ha rfl (ctxRelease_stops hpl (by simpa using hs))
  case acknowledge =>
    refine completes_of_accepted ha rfl ((ctxAckRecord_frees hpl (by simpa using hs) (by simpa using hseq)).trans ?_)
    rw [begun_ctx, begun_legal]

/-! ### The terms of a session -/

section
variable {call : Call} {pl : Bytes} {s : State} {c : Nat} (hpl : fld pl 0 1 = c)
include hpl

/-- CTX_SET_QUOTA to another quota: at or below what the session has used it marks the end (R206). -/
theorem ctxSetQuota_sets (hq : fld pl 8 8 ≠ 0) (hs : limitable (s.ctx c).hd.state = true) (hnew : (s.ctx c).hd.quota ≠ fld pl 8 8)
    {cut : Bool} (hcut : cut = Decidable.decide (fld pl 8 8 ≤ mwh (s.ctx c).hd.sesImp)) :
    cmdCtxSetQuota.body call pl s =
      ok (markDirty (((limitChange c 0 (s.ctx c).hd.quota (fld pl 8 8) s).modHd c fun k => { k with
        quota := fld pl 8 8, quotaOrig := if k.quotaOrig == 0 then fld pl 8 8 else k.quotaOrig,
        flags := if cut then k.flags ||| 0x20 else k.flags }).modWk c fun w => { w with quotaEnd := cut })) := by
  simp [cmdCtxSetQuota, ctxSetQuotaBody, withCtx_of_ne_free hpl (limitable_ne_free hs), hq, hs, hnew, hcut]

theorem ctxSetPriority_sets (hcls : fld pl 1 1 ≤ 7) (hs : limitable (s.ctx c).hd.state = true) :
    cmdCtxSetPriority.body call pl s = ok (markDirty (s.modHd c fun k => { k with priority := fld pl 1 1 })) := by
  simp only [cmdCtxSetPriority, Nat.not_lt.2 hcls, withCtx_of_ne_free hpl (limitable_ne_free hs), hs, if_true, if_false]

theorem ctxGet_reads (hs : (s.ctx c).hd.state ≠ .free) : cmdCtxGet.body call pl s = okWith s (ctxBytes (s.ctx c)) := by
  simp only [cmdCtxGet, withCtx_of_ne_free hpl hs]
end

/-- The first period of a payload that has one starts at its first start field. -/
theorem profilePeriods_head {pl : Bytes} (hn : 1 ≤ fld pl 1 1) (d : ProfilePeriod) :
    ((profilePeriods pl).headD d).start = fld pl 4 4 := by
  obtain ⟨n, hn⟩ := Nat.exists_eq_add_of_le' hn
  simp [profilePeriods, hn, List.range_succ_eq_map]

/-- CTX_SET_PROFILE of 1 to 24 periods that begin at 0, rise strictly and leave their reserved bytes 0 (R186). -/
theorem ctxSetProfile_sets {call : Call} {pl : Bytes} {s : State} {c : Nat} (hpl : fld pl 0 1 = c) (hlo : 1 ≤ fld pl 1 1)
    (hhi : fld pl 1 1 ≤ 24) (hrsv : ∀ k, k < fld pl 1 1 → zeroAt pl (16 + 16 * k) 4 = true) (hfirst : fld pl 4 4 = 0)
    (hasc : ascending (profilePeriods pl) = true) (hs : limitable (s.ctx c).hd.state = true) :
    cmdCtxSetProfile.body call pl s = ok (markDirty (s.modWk c fun w => { w with profile := profilePeriods pl })) := by
  have hzero : ((List.range (fld pl 1 1)).all fun k => zeroAt pl (16 + 16 * k) 4) = true := by simpa using hrsv
  have hsome : fld pl 1 1 ≠ 0 := by omega
  simp only [cmdCtxSetProfile, ctxSetProfileBody, withCtx_of_ne_free hpl (limitable_ne_free hs), profilePeriods_head hlo,
    beq_eq_false_iff_ne.2 hsome, Nat.not_lt.2 hhi, hzero, hfirst, hasc, hs, bne_self_eq_false, Bool.not_true, decide_false,
    Bool.or_self, Bool.false_eq_true, if_false]

theorem ctxList_eq (call : Call) (pl : Bytes) (s : State) : cmdCtxList.body call pl s =
    let l := (List.range 256).filter fun k => testBit (fld pl 0 2) (s.ctx k).hd.state.code
    okWith s (le 2 l.length ++ le 2 0 ++ l.flatMap fun k =>
      le 1 k ++ le 1 (s.ctx k).hd.state.code ++ le 1 (idx (s.ctx k).hd.bay) ++ le 1 (s.ctx k).hd.priority) := rfl

/-- Settles O14: the terms that a command changes, and those that it reads, are those of the contexts when it came. -/
theorem sessionTermsSetAndRead : Obligations.SessionTermsSetAndRead := by
  unfold Obligations.SessionTermsSetAndRead
  intro h pl s c hpl
  refine ⟨fun ha hq hs hnew => ?quota, fun ha hlo hhi hrsv hfirst hasc hs => ?profile, fun ha hcls hs => ?priority,
    fun ha hs => ?get, fun ha => ?list⟩
  case quota =>
    refine completes_of_accepted ha rfl
      ((ctxSetQuota_sets hpl hq (by simpa using hs) (by simpa using hnew) (by rw [begun_ctx])).trans ?_)
    rw [begun_ctx]
  case profile => exact completes_of_accepted ha rfl (ctxSetProfile_sets hpl hlo hhi hrsv hfirst hasc (by simpa using hs))
  case priority => exact completes_of_accepted ha rfl (ctxSetPriority_sets hpl hcls (by simpa using hs))
  case get => exact completes_of_accepted ha rfl ((ctxGet_reads hpl (by simpa using hs)).trans (by rw [begun_ctx]))
  case list => exact completes_of_accepted ha rfl ((ctxList_eq _ _ _).trans (by simp only [begun_ctx]))

/-! ### Credentials -/

@[simp] theorem findCred_begun (c : Command) (h : Hdr) (pl : Bytes) (s : State) (hash : Bytes) :
    findCred (begun c h pl s) hash = findCred s hash :=
  begun_reads (f := (findCred · hash)) (fun _ _ _ _ _ => rfl) c h pl s

section
variable {call : Call} {pl : Bytes} {s : State}

/-- CRED_LOOKUP of an identifier that has an entry (R319). -/
theorem credLookup_finds {e : CredEntry} (hlo : 2 ≤ fld pl 0 1) (hhi : fld pl 0 1 ≤ 65)
    (he : findCred s (credHash (pl.drop 1)) = some e) :
    cmdCredLookup.body call pl s = okWith (countLookup s) (credBytes e) := by
  simp only [cmdCredLookup, credLookupBody, Nat.not_lt.2 hlo, Nat.not_lt.2 hhi, he, decide_false, Bool.or_self,
    Bool.false_eq_true, if_false]

theorem credStats_eq : cmdCredStats.body call pl s =
    let n := s.creds.live.entries.length
    okWith s (le 4 s.creds.version ++ le 4 n ++ le 4 (min 65536 (min n (Config.stashEntries n))) ++ le 8 s.creds.lookups ++
      le 2 (sat 16 s.creds.chain) ++ le 2 0) := rfl

/-- CRED_UPDATE_BEGIN on the present version, with no batch open or one that it may discard (R198). -/
theorem credUpdateBegin_begins (hv : fld pl 0 4 = s.creds.version) (hn : fld pl 4 4 ≤ 1048576) (hf : fld pl 8 1 ≤ 1)
    (hopen : s.creds.batch = none ∨ fld pl 8 1 = 1) :
    cmdCredUpdateBegin.body call pl s = ok { s with creds := { s.creds with
      batch := some { size := fld pl 4 4, staged := 0, data := s.creds.live, deadline := s.time.osc + 600000000 } } } := by
  have hbusy : (s.creds.batch.isSome && fld pl 8 1 == 0) = false := by
    rcases hopen with hopen | hopen <;> simp [hopen]
  simp only [cmdCredUpdateBegin, credBeginBody, hv, Nat.not_lt.2 hn, Nat.not_lt.2 hf, hbusy, bne_self_eq_false, decide_false,
    Bool.or_self, Bool.false_eq_true, if_false]
  rfl

/-- CRED_UPDATE_DATA that continues the open batch (R198, R320). -/
theorem credUpdateData_stages {b : CredBatch} (hb : s.creds.batch = some b) (hn : (changesOf pl).length ≤ 203)
    (hi : fld pl 0 4 = b.staged) (hrsv : ∀ c ∈ changesOf pl, changeReserved c = true) :
    cmdCredUpdateData.body call pl s =
      let r := stageChanges b 0 (changesOf pl)
      { state := { s with creds := { s.creds with batch := some { r.1 with deadline := s.time.osc + 600000000 } } },
        status := r.2.2, data := le 2 r.2.1 ++ le 2 0 } := by
  have hzero : (changesOf pl).all changeReserved = true := by simpa using hrsv
  simp only [cmdCredUpdateData, credDataBody, hb, Nat.not_lt.2 hn, hi, hzero, bne_self_eq_false, Bool.not_true, decide_false,
    Bool.or_self, Bool.false_eq_true, if_false]
  rfl

/-- CRED_UPDATE_COMMIT of a batch that has all its changes (R198). -/
theorem credUpdateCommit_switches {b : CredBatch} (hb : s.creds.batch = some b) (hall : b.staged = b.size)
    (hw : s.takesWrites credPartition = true) :
    cmdCredUpdateCommit.body call pl s = pending { s with creds := { s.creds with
      live := b.data, version := (s.creds.version + 1) % 2 ^ 32, batch := none, chain := Config.relocationChain b.size,
      commits := s.creds.commits ++ [(s.creds.live, s.creds.version, call.ref)] } } := by
  simp only [cmdCredUpdateCommit, credCommitBody, hb, hall, hw, bne_self_eq_false, Bool.not_true, Bool.false_eq_true, if_false]
end

theorem execCredCommitDurable_oldest {s : State} {d : CredSet} {v : Nat} {cmd : CmdRef} {l : List (CredSet × Nat × CmdRef)}
    (hk : s.creds.commits = (d, v, cmd) :: l) :
    execCredCommitDurable s = .next (notifyFull 0xF001 0 0 ([0xFF, 0, 0, 12, 0xFF, 0, 0, 0] ++ padTo 8 (le 4 ((v + 1) % 2 ^ 32)))
      (some cmd) stOk { s with creds := { s.creds with commits := l } }) := by
  simp only [execCredCommitDurable, hk]

theorem execCredBatchTimeout_due {s : State} {b : CredBatch} (hb : s.creds.batch = some b) (ht : b.deadline ≤ s.time.osc) :
    execCredBatchTimeout s = .next { s with creds := { s.creds with batch := none } } := by
  have hdue : s.due b.deadline = true := decide_eq_true ht
  simp only [execCredBatchTimeout, hb, hdue, if_true]

/-- Settles O25: a command's own rules see the credential store as it was when the command came. -/
theorem credentialsUpdated : Obligations.CredentialsUpdated := by
  unfold Obligations.CredentialsUpdated
  intro h pl s
  refine ⟨fun e ha hlo hhi he => ?lookup, fun ha => ?stats, fun ha hv hn hf hopen => ?begins, fun b ha hb hn hi hrsv => ?data,
    fun b ha hb hall hw => ?commit, fun d v cmd l hk => execCredCommitDurable_oldest hk,
    fun b hb ht => execCredBatchTimeout_due hb ht⟩
  case lookup => exact completes_of_accepted ha rfl (credLookup_finds hlo hhi (by simpa using he))
  case stats => exact completes_of_accepted ha rfl (credStats_eq.trans (by rw [begun_creds]))
  case begins =>
    refine completes_of_accepted ha rfl ((credUpdateBegin_begins (by simpa using hv) hn hf (by simpa using hopen)).trans ?_)
    rw [begun_creds, begun_time]
  case data =>
    refine completes_of_accepted ha rfl ((credUpdateData_stages (by simpa using hb) hn hi hrsv).trans ?_)
    rw [begun_creds, begun_time]
  case commit =>
    refine completes_of_accepted ha rfl ((credUpdateCommit_switches (by simpa using hb) hall (by simpa using hw)).trans ?_)
    rw [begun_creds]

/-! ### The allocator -/

section
variable {s : State} (hc : controlRuns s = true)
include hc

/-- A change, a new second or limits that time has changed have the allocator recompute (R200). -/
theorem execAllocatorRecompute_due (hdue : s.budget.dirty = true ∨ s.time.now / 1000000 ≠ s.budget.lastSecond ∨
    s.budget.used ≠ some (limitsInForce s)) :
    execAllocatorRecompute s = .next { notePhases s with budget := { (notePhases s).budget with
      next := some (allocate (notePhases s)), nextCycle := (notePhases s).clk.cycle.toNat, dirty := false,
      lastSecond := s.time.now / 1000000, used := some (limitsInForce (notePhases s)) } } := by
  have hany : (s.budget.dirty || s.time.now / 1000000 != s.budget.lastSecond || s.budget.used != some (limitsInForce s)) = true := by
    simpa [or_assoc] using hdue
  simp only [execAllocatorRecompute, hc, hany, Bool.not_true, Bool.or_self, Bool.false_eq_true, if_false]

/-- A waiting result takes effect at a boundary after the one it was computed in (R200). -/
theorem execAllocationTakesEffect_next {gs : List Grant} (hgs : s.budget.next = some gs)
    (hcycle : s.budget.nextCycle ≠ s.clk.cycle.toNat) :
    execAllocationTakesEffect s = .next ((List.range 32).foldl (fun a b => evaluateBay b a)
      ((List.range 32).foldl (fun a b => offer b (offeredTo a b) a)
        (gs.foldl (fun a g => applyGrant g a)
          ((List.range 256).foldl (fun a c =>
              if (a.ctx c).hd.iGrant != 0 && !counted a c then a.modHd c fun h => { h with iGrant := 0 } else a)
            { s with budget := { s.budget with next := none, last := gs, lastCycle := s.clk.cycle.toNat } })))) := by
  simp only [execAllocationTakesEffect, hgs, hc, beq_eq_false_iff_ne.2 hcycle, Bool.not_true, Bool.or_self, Bool.false_eq_true,
    if_false]
end

/-- The reservations of cuts that remain: none once the draw is within the grant's band, else those whose time is not over (R204). -/
theorem execCutReservationEnd_bound {s : State} {c b : Nat} (hc : c < 256) (hbay : (s.ctx c).hd.bay = some b)
    {rest : List (Nat × Nat)} (hrest : rest = if withinBand (drawMa s b) (s.ctx c).hd.iGrant then []
      else (s.ctx c).wk.cuts.filter fun k => !s.due k.1) :
    execCutReservationEnd c s = .next
      (if rest = (s.ctx c).wk.cuts then s else markDirty (s.modWk c fun w => { w with cuts := rest })) := by
  simp only [execCutReservationEnd, atCtx_of_lt hc, hbay, ← hrest, beq_iff_eq]

/-- Settles O16: each row of the allocator, due while a control pair runs, does what its rule says. -/
theorem allocatorRuns : Obligations.AllocatorRuns := by
  unfold Obligations.AllocatorRuns
  intro s hc
  exact ⟨execAllocatorRecompute_due hc, fun gs hgs hcycle => execAllocationTakesEffect_next hc hgs hcycle,
    fun c b rest hctx hbay hrest => execCutReservationEnd_bound hctx hbay hrest⟩

end Sys2Proof.Machine
end

section
/-! SUPPORT. The family of earth fault and safety: the commands that load, confirm and reset, trips and safe stops of a bay, the
safety inputs and outputs, and the peers and cores. -/

namespace Sys2Proof.Machine

open Sys2Proof

/-! ### Safety commands -/

/-- What a load makes of one object of the block (R232). -/
def loadedObj (l : List (Nat × Nat × Bytes)) (o : SafetyObj) : SafetyObj :=
  match l.find? (·.1 == o.id) with
  | some e => { o with data := e.2.2 }
  | none => o

@[simp] theorem loadBlock_sc1Block (l : List (Nat × Nat × Bytes)) (s : State) :
    (loadBlock l s).safety.sc1Block = s.safety.sc1Block.map (loadedObj l) := rfl
@[simp] theorem loadBlock_sc2Block (l : List (Nat × Nat × Bytes)) (s : State) :
    (loadBlock l s).safety.sc2Block = s.safety.sc2Block.map (loadedObj l) := rfl

section
variable {call : Call} {pl : Bytes} {s : State}

theorem safetyGetCheck_eq : cmdSafetyGetCheck.body call pl s = okWith s
    (le 4 (safetyCheck s.safety.sc1Block) ++ le 4 (safetyCheck s.safety.sc2Block) ++ le 1 (bit (confirmedNow s)) ++ le 3 0) := rfl

/-- Entries that pass the checks of R232 from the second on are loaded. -/
theorem loadSafety_loads {l : List (Nat × Nat × Bytes)} (hid : ∀ e ∈ l, isSafetyObj e.1 = true)
    (hok : ∀ e ∈ l, safetyObjOk e.1 e.2.2 = true) (htwice : namedTwice l = false) (hoff : s.anyEnergised = false) :
    loadSafety l s = ok (loadBlock l s) := by
  have hforeign : (l.any fun e => !isSafetyObj e.1) = false := by simpa using hid
  have hbad : (l.any fun e => !safetyObjOk e.1 e.2.2) = false := by simpa using hok
  simp only [loadSafety, hforeign, hbad, htwice, hoff, Bool.false_eq_true, if_false]

theorem safetyLoadParams_eq {l : List (Nat × Nat × Bytes)} (hl : loadEntries (fld pl 0 1) (pl.drop 4) = some l)
    (hne : l ≠ []) (hfit : ∀ e ∈ l, sizeFits e = true) :
    cmdSafetyLoadParams.body call pl s = loadSafety l s := by
  have hall : l.all sizeFits = true := List.all_eq_true.2 hfit
  have hsome : l.isEmpty = false := List.isEmpty_eq_false_iff.2 hne
  simp only [cmdSafetyLoadParams, safetyLoadBody, hl, hall, hsome, Bool.not_true, Bool.false_eq_true, if_false]

/-- SITE_SAFETY_NET is an object of the block, so that its load stands the checks of R232 once its content does (R237). -/
theorem siteSafetyConfigure_loads (hok : safetyObjOk 0x0302 pl = true) (hoff : s.anyEnergised = false) :
    cmdSiteSafetyConfigure.body call pl s = ok (loadBlock [(0x0302, 144, pl)] s) := by
  have hid : isSafetyObj 0x0302 = true := by decide
  exact loadSafety_loads (l := [(0x0302, 144, pl)]) (List.forall_mem_singleton.2 hid) (List.forall_mem_singleton.2 hok) rfl hoff

/-- The value that both copies have confirms them (R236). -/
theorem safetyConfirm_confirms (h1 : fld pl 0 4 = safetyCheck s.safety.sc1Block)
    (h2 : fld pl 0 4 = safetyCheck s.safety.sc2Block) : cmdSafetyConfirm.body call pl s =
      ok ((List.range 32).foldl (fun a b => evaluateBay b a) { s with safety := { s.safety with confirmed := true } }) := by
  simp only [cmdSafetyConfirm, ← h1, ← h2, bne_self_eq_false, Bool.or_self, Bool.false_eq_true, if_false]

theorem resetSde_clears {b : Nat} (hline : tripLine (s.bay b) = false) (hiso : s.isDc b = true → (s.bay b).conv.iso < 2)
    (hlatch : (s.bay b).safety.sdeLatch = true) : resetSde b s = ok (evaluateBay b (ntfSafety 3 b 0 (ackConverter b
      (s.modBay b fun z => { z with safety := { z.safety with sdeLatch := false } })))) := by
  have hcalm : (tripLine (s.bay b) || s.isDc b && Decidable.decide (2 ≤ (s.bay b).conv.iso)) = false := by
    simpa [hline, Nat.lt_succ_iff] using hiso
  simp only [resetSde, hcalm, hlatch, Bool.not_true, Bool.false_eq_true, if_false]

theorem resetEstop_clears (hreleased : s.safety.estop = false) (hlatch : s.safety.estopLatch = true) :
    resetEstop s = ok (evaluateAll (ntfSafety 3 0 2
      (refreshSafeOut { s with safety := { s.safety with estopLatch := false } }))) := by
  simp only [resetEstop, hreleased, hlatch, Bool.not_true, Bool.false_eq_true, if_false]

/-- The earth-fault latch of a bay needs neither world SAFETY nor the open door (R322). -/
theorem safetyResetFault_sde (hcode : fld pl 0 1 = 0) (hb : fld pl 1 1 < 32) :
    cmdSafetyResetFault.body call pl s = resetSde (fld pl 1 1) s := by
  simp [cmdSafetyResetFault, resetFaultBody, hcode, Nat.not_le.2 hb]

@[inherit_doc safetyResetFault_sde]
theorem safetyResetFault_estop (hcode : fld pl 0 1 = 2) (hk : fld pl 1 1 = 0) :
    cmdSafetyResetFault.body call pl s = resetEstop s := by
  simp [cmdSafetyResetFault, resetFaultBody, hcode, hk]
end

/-- Settles O29: the block, latches and bays that a safety command's own rules see are those of the state in which it came, and a
load maps both copies alike. -/
theorem safetyCommandsAnswer : Obligations.SafetyCommandsAnswer := by
  unfold Obligations.SafetyCommandsAnswer
  intro h pl s
  refine ⟨fun ha => ?state, fun ha => ?check, fun l ha hl hne hok htwice hoff => ?load, fun ha hok hoff => ?net,
    fun l => ⟨rfl, fun hsame => ?alike⟩, fun ha h1 h2 => ?confirm, fun ha hcode hk hreleased hlatch => ?estop,
    fun ha hcode hb hline hiso hlatch => ?sde⟩
  case state => exact completes_of_accepted ha rfl (congrArg (okWith _) (safetyState_begun _ _ _ _))
  case check => exact completes_of_accepted ha rfl (safetyGetCheck_eq.trans (by rw [begun_safety, begun_confirmedNow]))
  case load =>
    exact completes_of_accepted ha rfl ((safetyLoadParams_eq hl hne fun e he => (hok e he).1).trans
      (loadSafety_loads (fun e he => (hok e he).2.1) (fun e he => (hok e he).2.2) htwice (by simpa using hoff)))
  case net => exact completes_of_accepted ha rfl (siteSafetyConfigure_loads hok (by simpa using hoff))
  case alike => rw [loadBlock_sc1Block, loadBlock_sc2Block, hsame]
  case confirm =>
    refine completes_of_accepted ha rfl ((safetyConfirm_confirms (by simpa using h1) (by simpa using h2)).trans ?_)
    rw [begun_safety]
  case estop =>
    refine completes_of_accepted ha rfl ((safetyResetFault_estop hcode hk).trans
      ((resetEstop_clears (by simpa using hreleased) (by simpa using hlatch)).trans ?_))
    rw [begun_safety]
  case sde =>
    exact completes_of_accepted ha rfl ((safetyResetFault_sde hcode hb).trans
      (resetSde_clears (by simpa using hline) (by simpa using hiso) (by simpa using hlatch)))

/-! ### Trips and safe stops -/

section
variable {s : State} {b : Nat} (hb : b < 32) (hd : outputsDriven s = true)
include hb hd

/-- A timer at its delay asserts the trip line, and is a trip but on a bay under METER_SELFTEST (R216, R224). -/
theorem execResidualTierTrip_reached {tier : Tier} (ha : residualArmed s b = true) (hr : (s.bay b).coil.residual = false)
    (ht : tierReached (s.bay b).safety.timers (tierIndex tier) = true) {u : State}
    (hu : u = s.modBay b fun y => { y with coil := { y.coil with residual := true } }) :
    execResidualTierTrip b tier s = .next (if (s.bay b).meter.underTest then u else sdeTrip b u) := by
  simp only [execResidualTierTrip, atLiveBay_driven hb hd, ha, hr, ht, ← hu, Bool.not_true, Bool.or_self, Bool.false_eq_true,
    if_false]

theorem execResidualTierTrip_idle {tier : Tier} (h : residualArmed s b = false ∨ (s.bay b).coil.residual = true ∨
    tierReached (s.bay b).safety.timers (tierIndex tier) = false) : execResidualTierTrip b tier s = .next s := by
  have hidle : (!residualArmed s b || (s.bay b).coil.residual ||
      !tierReached (s.bay b).safety.timers (tierIndex tier)) = true := by
    simpa [or_assoc] using h
  simp only [execResidualTierTrip, atLiveBay_driven hb hd, hidle, if_true]

/-- A whole window at or above a threshold trips a bay whose coil is on, and is recorded on another (R218). -/
theorem execGaleTrip_above {e : Bool} {earlier l : List Int} {x : Int} (ha : residualArmed s b = true)
    (hp : galePath (s.bay b) e = false) (hl : l = galeSamples s b ((x :: earlier).take (galeSize s)))
    (hn : l.length = galeSize s) (hg : galeAbove 180000 135000 (galeSize s) (sumOf l) (squaresOf l) = true) :
    execGaleTrip b e earlier x s = .next (if (s.bay b).coil.on then sdeTrip b (setGale b e true s)
      else record 0x0401 (source 1 b) 3 ([0, byte b, 0, 0] ++ safetyState (setGale b e true s)) (setGale b e true s)) := by
  simp only [execGaleTrip, atLiveBay_driven hb hd, ← hl, ha, hp, hn, hg, Nat.lt_irrefl, decide_false, Bool.not_true, Bool.or_self,
    Bool.false_eq_true, if_false]

/-- With the samples of a window of windows there, it goes by whether all of them are calm (R218). -/
theorem execGaleTripRelease_eq {w : GaleSamples} {l : List Int} (hl : l = galeSamples s b (w.samples.take (2 * galeSize s - 1)))
    (hn : l.length = 2 * galeSize s - 1) : execGaleTripRelease b w s = .next
      (if galeCalm (galeSize s) (sumOf (l.take (galeSize s))) (squaresOf (l.take (galeSize s))) (l.zip (l.drop (galeSize s)))
        then evaluateBay b (setGale b w.engineB false s) else s) := by
  simp only [execGaleTripRelease, atLiveBay_driven hb hd, ← hl, hn, Nat.lt_irrefl, decide_false, Bool.false_or]
  cases galeCalm (galeSize s) (sumOf (l.take (galeSize s))) (squaresOf (l.take (galeSize s))) (l.zip (l.drop (galeSize s))) <;> rfl

theorem execSlcExcess_stops (he : (s.bay b).isEnergised = true)
    (hx : (s.bay b).safety.cutExcess = true ∨ ∃ x ∈ (s.bay b).safety.excess, 1000000 ≤ x) :
    execSlcExcess b s = .next (safeStop b 1 5 false s) := by
  have hover : ((s.bay b).safety.cutExcess || (s.bay b).safety.excess.any (1000000 ≤ ·)) = true := by simpa using hx
  simp only [execSlcExcess, atLiveBay_driven hb hd, he, hover, Bool.and_self, if_true]

theorem execSdiExportStop_stops (he : (s.bay b).isEnergised = true)
    (hx : 200000 ≤ (s.bay b).safety.exportUs ∨ 1000 * 2 ^ 32 ≤ (s.bay b).safety.exportE) :
    execSdiExportStop b s = .next (safeStop b 2 5 false s) := by
  have hover : (Decidable.decide (200000 ≤ (s.bay b).safety.exportUs) ||
      Decidable.decide (1000 * 2 ^ 32 ≤ (s.bay b).safety.exportE)) = true := by
    simpa using hx
  simp only [execSdiExportStop, atLiveBay_driven hb hd, he, hover, Bool.and_self, if_true]

theorem execMeteringValuesMissing_stops (hused : s.bayUsed b = true) (ht : s.time.cycleOsc + 3000 ≤ s.time.osc) :
    execMeteringValuesMissing b s = .next (safeStop b 9 5 false s) := by
  simp only [execMeteringValuesMissing, atLiveBay_driven hb hd, hused, ht, decide_true, Bool.and_self, if_true]
end

theorem execFeederOverloadTrip_over {s : State} {g : Nat} (hd : outputsDriven s = true) (hg : g < 4)
    (ht : 1000000 ≤ s.safety.feederUs.getD g 0) :
    execFeederOverloadTrip g s = .next (stopBays 8 (fun b => s.feeder b == g) { s with safety := { s.safety with
      feederUs := setAt s.safety.feederUs g 0, feederBit := setAt s.safety.feederBit g (some (s.time.osc + 2000000)) } }) := by
  simp only [execFeederOverloadTrip, atUnit_of_lt hg, hd, Nat.not_lt.2 ht, decide_false, Bool.not_true, Bool.or_self,
    Bool.false_eq_true, if_false, State.modSafety, State.after]

theorem execFeederOverloadBitEnd_due {s : State} {g t : Nat} (hg : g < 4) (hbit : s.safety.feederBit.getD g none = some t)
    (ht : t ≤ s.time.osc) : execFeederOverloadBitEnd g s = .next (evaluateAll { s with safety := { s.safety with
      feederBit := setAt s.safety.feederBit g none } }) := by
  simp only [execFeederOverloadBitEnd, atUnit_of_lt hg, State.dueOpt_some hbit ht, if_true, State.modSafety]

/-- Settles O30: each row acts on what its timer, its window of samples or its limit has reached. -/
theorem safetyStopsBays : Obligations.SafetyStopsBays := by
  unfold Obligations.SafetyStopsBays
  intro s b hb hd
  exact ⟨fun _ _ ha hr ht hu => execResidualTierTrip_reached hb hd ha hr ht hu, fun _ h => execResidualTierTrip_idle hb hd h,
    fun _ _ _ _ ha hp hl hn hg => execGaleTrip_above hb hd ha hp hl hn hg, fun _ _ hl hn => execGaleTripRelease_eq hb hd hl hn,
    execSlcExcess_stops hb hd, execSdiExportStop_stops hb hd, execMeteringValuesMissing_stops hb hd,
    fun _ hg ht => execFeederOverloadTrip_over hd hg ht, fun _ _ hg hbit ht => execFeederOverloadBitEnd_due hg hbit ht⟩

/-! ### Safety inputs and outputs -/

section
variable {s : State} (hd : outputsDriven s = true)
include hd

/-- A pair that differs shows the door by its first channel (R228). -/
theorem execDoorChange_moves {a : Bool} (h : s.safety.doorOpen ≠ a ∨ s.safety.doorFault = true) :
    execDoorChange a (!a) s = .next (doorReacts (doorStops s) { s with safety := { s.safety with
      doorA := a, doorB := !a, doorOpen := a, doorFault := false, invalidSince := none } }) := by
  have hnew : (s.safety.doorOpen == a && !s.safety.doorFault) = false := by
    rcases h with h | h <;> simp [h]
  have hvalid : (a == !a) = false := by simp
  simp only [execDoorChange, hd, hnew, hvalid, Bool.not_true, Bool.false_eq_true, if_false, State.modSafety]

/-- An equal pair begins its 50 ms (R228). -/
theorem execDoorChange_waits {a : Bool} (h : s.safety.invalidSince = none) :
    execDoorChange a a s = .next { s with safety := { s.safety with
      doorA := a, doorB := a, invalidSince := some s.time.osc } } := by
  simp [execDoorChange, State.modSafety, hd, h]

theorem execEstopChange_presses {a b : Bool} (hab : (a || b) = true) (hnew : s.safety.estop = false) :
    execEstopChange a b s = .next (pressEstop (s.modSafety fun f => { f with estopA := a, estopB := b })) := by
  simp only [execEstopChange, hd, hab, hnew, Bool.not_true, Bool.false_eq_true, if_false, if_true]

theorem execEstopChange_releases : execEstopChange false false s = .next (refreshSafeOut { s with
    safety := { s.safety with estopA := false, estopB := false, estop := false } }) := by
  simp only [execEstopChange, hd, Bool.not_true, Bool.or_self, Bool.false_eq_true, if_false, State.modSafety]

theorem execSafetyInputDiscrepancy_door {t : Nat} (hi : s.safety.invalidSince = some t) (ht : t + 50000 < s.time.osc)
    (hf : s.safety.doorFault = false) : execSafetyInputDiscrepancy false s =
      .next (doorReacts (doorStops s) { s with safety := { s.safety with doorFault := true } }) := by
  simp only [execSafetyInputDiscrepancy, hd, hi, hf, Nat.not_le.2 ht, decide_false, Bool.not_true, Bool.or_self,
    Bool.false_eq_true, if_false, State.modSafety]

theorem execSafetyInputDiscrepancy_estop (hdiff : s.safety.estopA ≠ s.safety.estopB) (hnew : s.safety.estop = false) :
    execSafetyInputDiscrepancy true s = .next (pressEstop s) := by
  simp [execSafetyInputDiscrepancy, hd, hdiff, hnew]

section
variable {g : Nat} (hg : g < 4) (line : Bool)
include hg

theorem execSafeOutReadback_latches (hf : s.safety.outFault.getD g false = false) : execSafeOutReadback g line false s =
    .next (ntfSafety 2 g 4 (ntfSafety 10 g 0 (refreshSafeOut { s with
      safety := { s.safety with outFault := setAt s.safety.outFault g true } }))) := by
  simp only [execSafeOutReadback, atUnit_of_lt hg, hd, hf, Bool.not_true, Bool.false_eq_true, if_false, State.modSafety]

/-- A mismatch of a latched pair takes the test after its reset away (R249). -/
theorem execSafeOutReadback_staysLatched (hf : s.safety.outFault.getD g false = true) : execSafeOutReadback g line false s =
    .next { s with safety := { s.safety with outRetest := setAt s.safety.outRetest g 0 } } := by
  simp only [execSafeOutReadback, atUnit_of_lt hg, hd, hf, Bool.not_true, Bool.false_eq_true, if_false, if_true, State.modSafety]

/-- A pass takes its line off those still to be tested; that of the last one clears the latch (R249). -/
theorem execSafeOutReadback_passes {left : Nat} (hr : s.safety.outRetest.getD g 0 ≠ 0)
    (hl : left = (s.safety.outRetest.getD g 0 &&& (if line then 1 else 2))) :
    execSafeOutReadback g line true s = .next (if left ≠ 0
      then { s with safety := { s.safety with outRetest := setAt s.safety.outRetest g left } }
      else evaluateAll (ntfSafety 3 g 4 (refreshSafeOut { s with
        safety := { s.safety with outFault := setAt s.safety.outFault g false, outRetest := setAt s.safety.outRetest g 0 } }))) := by
  simp only [execSafeOutReadback, atUnit_of_lt hg, hd, ← hl, beq_eq_false_iff_ne.2 hr, bne_iff_ne, Bool.not_true,
    Bool.false_eq_true, if_false, if_true, State.modSafety]

theorem execSafeOutReadback_idle (hr : s.safety.outRetest.getD g 0 = 0) : execSafeOutReadback g line true s = .next s := by
  simp only [execSafeOutReadback, atUnit_of_lt hg, hd, hr, beq_self_eq_true, Bool.not_true, Bool.false_eq_true, if_false, if_true]
end
end

/-- Settles O31: what the levels of a pair say is new takes effect, and what a readback does goes by the latch and the lines still
to be tested. -/
theorem safetyInputsAct : Obligations.SafetyInputsAct := by
  unfold Obligations.SafetyInputsAct
  intro s hd
  exact ⟨fun _ h => execDoorChange_moves hd h, fun _ h => execDoorChange_waits hd h,
    fun _ _ hab hnew => execEstopChange_presses hd hab hnew, execEstopChange_releases hd,
    fun _ hi ht hf => execSafetyInputDiscrepancy_door hd hi ht hf, execSafetyInputDiscrepancy_estop hd,
    fun _ line hg hf => execSafeOutReadback_latches hd hg line hf, fun _ line hg hf => execSafeOutReadback_staysLatched hd hg line hf,
    fun _ line _ hg hr hl => execSafeOutReadback_passes hd hg line hr hl, fun _ line hg hr => execSafeOutReadback_idle hd hg line hr⟩

/-! ### Peers -/

/-- No copy on a port for 100 ms, since the connection came up where none was ever heard there (R240, R270). -/
def portQuiet (s : State) (k : Nat) (t : Option Nat) : Bool := t.getD (s.peer k).upAt + 100000 ≤ s.time.osc

section
variable {s : State} (hd : outputsDriven s = true)
include hd

section
variable {b : Bool} {frame key : Bytes} {k : Nat} (hn : netEnabled s = true) (hkey : safetyKey s 3 = some key)
  (hfrom : frameSender s key frame = some k)
include hn hkey hfrom

/-- The first frame of a connection is the base of its sequence numbers (R240). -/
theorem execSafetyFrameReceived_base (hseq : (s.peer k).rxSeq = none) : execSafetyFrameReceived b frame s =
    .next (notePort k b (acceptFrame k (fld frame 12 4) frame (count 0x10 (2 + bit b) frame.length s))) := by
  simp only [execSafetyFrameReceived, hd, hn, hkey, hfrom, hseq, Bool.not_true, Bool.or_self, Bool.false_eq_true, if_false]

/-- A later frame is accepted up to 64 numbers ahead of the last one (R240). -/
theorem execSafetyFrameReceived_ahead {last : Nat} (hseq : (s.peer k).rxSeq = some last)
    (hlo : 0 < (fld frame 12 4 + 2 ^ 32 - last) % 2 ^ 32) (hhi : (fld frame 12 4 + 2 ^ 32 - last) % 2 ^ 32 ≤ 64) :
    execSafetyFrameReceived b frame s =
      .next (notePort k b (acceptFrame k (fld frame 12 4) frame (count 0x10 (2 + bit b) frame.length s))) := by
  simp only [execSafetyFrameReceived, hd, hn, hkey, hfrom, hseq, beq_eq_false_iff_ne.2 (Nat.ne_of_gt hlo), hhi, Bool.not_true,
    Bool.or_self, Bool.false_eq_true, if_false, if_true]
end

section
variable {k : Nat} (hk : k < 8)
include hk

theorem execPeerConnectionLost_due (hn : netEnabled s = true) (hused : k < peersInUse s) (hup : (s.peer k).lost = false)
    (ht : (s.peer k).lastAt + 1000 * s.field 0x0302 16 16 ≤ s.time.osc) :
    execPeerConnectionLost k s = .next (losePeer k s) := by
  have hin : Nat.blt k (peersInUse s) = true := by rwa [Nat.blt_eq]
  simp only [execPeerConnectionLost, atUnit_of_lt hk, hd, hn, hin, hup, ht, decide_true, Bool.and_self, Bool.not_true,
    Bool.or_self, Bool.false_eq_true, if_false]

theorem execRedundancyLost_onePort (hup : (s.peer k).up = true) (hnew : (s.peer k).onePort = false)
    (hone : portQuiet s k (s.peer k).lastA ≠ portQuiet s k (s.peer k).lastB) {lost : Nat}
    (hl : lost = bit (portQuiet s k (s.peer k).lastB)) :
    execRedundancyLost k s = .next (ntfTakeover 6 0 lost 2 0 0 (source 7 (2 + lost))
      (ntfSafety 7 k 0 (s.modPeer k fun p => { p with onePort := true }))) := by
  have hdiffer : (portQuiet s k (s.peer k).lastA == portQuiet s k (s.peer k).lastB) = false := beq_eq_false_iff_ne.2 hone
  unfold portQuiet at hdiffer hl
  simp only [execRedundancyLost, atUnit_of_lt hk, hd, hup, hnew, hdiffer, ← hl, Bool.not_true, Bool.or_self, Bool.false_eq_true,
    if_false]
end
end

/-! ### Cores -/

@[simp] theorem askFlush_safety (s : State) : (askFlush s).safety = s.safety := rfl
@[simp] theorem askFlush_cont (s : State) : (askFlush s).cont = s.cont := rfl
@[simp] theorem strikeImage_safety (k : ImageKind) (s : State) : (strikeImage k s).safety = s.safety := rfl
@[simp] theorem strikeImage_cont (k : ImageKind) (s : State) : (strikeImage k s).cont = s.cont := rfl
@[simp] theorem coresLost_allLost (s : State) : (coresLost s).safety.allLost = true := rfl
@[simp] theorem coresLost_faultN (s : State) : (coresLost s).safety.faultN = true := rfl

/-- The safety fields once a core has failed and the other one goes on (R243, R246). -/
def aloneWithout (c : SafetyCore) (s : State) : Safety := { s.safety with
  sc1Ok := s.safety.sc1Ok && coreNumber c != 1, sc2Ok := s.safety.sc2Ok && coreNumber c != 2
  sc1Tries := if coreNumber c == 1 then 0 else s.safety.sc1Tries
  sc2Tries := if coreNumber c == 2 then 0 else s.safety.sc2Tries
  aloneSince := some s.time.osc }

/-- A failed core leaves the other alone, and is counted (R243, R246). -/
theorem failCore_alone {s : State} {c : SafetyCore} (cause : TakeoverCause) (hc : coreOk s c = true)
    (ho : coreOk s (otherCore c) = true) : (failCore c cause s).safety = aloneWithout c s ∧
      (failCore c cause s).cont = { s.cont with toSc := s.cont.toSc + 1 } := by
  simp [failCore, hc, ho, State.modSafety, aloneWithout]

section
variable {s t : State} {c : SafetyCore} (ht : t.safety = aloneWithout c s)
include ht

theorem coreOk_self_of_alone : coreOk t c = false := by
  cases c <;> simp [coreOk, ht, aloneWithout, coreNumber]

theorem coreOk_other_of_alone : coreOk t (otherCore c) = coreOk s (otherCore c) := by
  cases c <;> simp [coreOk, otherCore, ht, aloneWithout, coreNumber]
end

/-- With the last core gone nothing is left to run the module (R244). -/
theorem failCore_last {s : State} {c : SafetyCore} (cause : TakeoverCause) (hc : coreOk s c = true)
    (ho : coreOk s (otherCore c) = false) :
    (failCore c cause s).safety.allLost = true ∧ (failCore c cause s).safety.faultN = true := by
  simp [failCore, hc, ho]

/-- A bay whose coil is on is tripped, and the session on it finishes (R212). -/
def tripClosed (a : State) (b : Nat) : State :=
  if (a.bay b).coil.on then
    ntfSafety 0 b 0 (trip b 5 false (match (a.bay b).ctx with | some k => finishCtx k 4 7 0x80 errSafety a | none => a))
  else a

section
variable {s : State} (hd : outputsDriven s = true)
include hd

theorem execCoreLoss_confirmed {c : SafetyCore} (ho : coreOk s (otherCore c) = true) : execCoreLoss c true s = .next s := by
  simp only [execCoreLoss, hd, ho, Bool.and_self, Bool.or_true, if_true]

theorem execCoreLoss_unconfirmed (c : SafetyCore) : execCoreLoss c false s = .next ((List.range 32).foldl tripClosed s) := by
  simp only [execCoreLoss, hd, Bool.not_true, Bool.false_and, Bool.or_self, Bool.false_eq_true, if_false]
  refine congrArg (fun f => Host.Outcome.next ((List.range 32).foldl f s)) (funext₂ fun a b => ?_)
  unfold tripClosed
  cases (a.bay b).coil.on <;> rfl

theorem execSafetyCoreFailure_failed (c : SafetyCore) (cause : TakeoverCause) :
    execSafetyCoreFailure c (.failed cause) s = .next (failCore c cause s) := by
  simp only [execSafetyCoreFailure, hd, Bool.not_true, Bool.false_eq_true, if_false]

/-- The stop is carried out, and a core fails that does not pass its self-test (R243). -/
theorem execSafetyCoreFailure_differs (c : SafetyCore) {b fn : Nat} {p1 p2 : Bool} (h1 : s.safety.sc1Ok = true)
    (h2 : s.safety.sc2Ok = true) {u v : State} (hu : u = safeStop b fn 5 (fn == 0) s)
    (hv : v = if p1 then u else failCore .sc1 .selfTest u) :
    execSafetyCoreFailure c (.differs b fn p1 p2) s = .next (if p2 then v else failCore .sc2 .selfTest v) := by
  simp only [execSafetyCoreFailure, hd, h1, h2, ← hu, ← hv, Bool.not_true, Bool.or_self, Bool.false_eq_true, if_false]

theorem execCoreRejoin_rejoins {c : SafetyCore} (hc : coreOk s c = false) (ho : coreOk s (otherCore c) = true)
    (ht : coreTries s c < 3) : execCoreRejoin c true s = .next (rejoin c s) := by
  simp only [execCoreRejoin, hd, hc, ho, Nat.not_le.2 ht, decide_false, Bool.not_true, Bool.or_self, Bool.false_eq_true,
    if_false, if_true]

/-- After 72 h with one core no session begins (R246). -/
theorem execAloneLimit_blocks (hone : s.safety.sc1Ok ≠ s.safety.sc2Ok) (hnew : s.safety.newBlocked = false)
    (ht : 259200000000 < aloneTime s) :
    execAloneLimit s = .next (ntfSafety 6 0 0 { s with safety := { s.safety with newBlocked := true } }) := by
  simp only [execAloneLimit, hd, bne_iff_ne.2 hone, hnew, Nat.not_le.2 ht, decide_false, Bool.not_true, Bool.or_self,
    Bool.false_eq_true, if_false, State.modSafety]
end

/-- Settles O32: frames go by the peer's sequence numbers, connections by the times of their copies, and a core that fails by
whether the other one is up. -/
theorem peersAndCores : Obligations.PeersAndCores := by
  unfold Obligations.PeersAndCores
  intro s hd
  refine ⟨fun b frame key k hn hkey hfrom => ⟨execSafetyFrameReceived_base hd hn hkey hfrom,
      fun last => execSafetyFrameReceived_ahead hd hn hkey hfrom⟩,
    fun k hk hn hused hup ht => execPeerConnectionLost_due hd hk hn hused hup ht,
    fun k lost hk hup hnew hone => execRedundancyLost_onePort hd hk hup hnew hone.1 hone.2,
    fun c ho => execCoreLoss_confirmed hd ho, execCoreLoss_unconfirmed hd, fun c cause hc ho => ?alone, fun c cause hc ho => ?last,
    fun c b fn p1 p2 u h1 h2 hu => ?differs, fun c hc ho ht => ?rejoins, execAloneLimit_blocks hd⟩
  case alone =>
    obtain ⟨hsafety, hcont⟩ := failCore_alone cause hc ho
    exact ⟨_, execSafetyCoreFailure_failed hd c cause, coreOk_self_of_alone hsafety, (coreOk_other_of_alone hsafety).trans ho,
      by rw [hsafety]; rfl, by rw [hcont], rfl⟩
  case last =>
    obtain ⟨hlost, hfault⟩ := failCore_last cause hc ho
    exact ⟨_, execSafetyCoreFailure_failed hd c cause, hlost, hfault, rfl⟩
  case differs =>
    refine (execSafetyCoreFailure_differs hd c h1 h2 hu rfl).trans ?_
    cases p1 <;> cases p2 <;> rfl
  case rejoins =>
    refine (execCoreRejoin_rejoins hd hc ho ht).trans ?_
    simp only [rejoin, State.modSafety, beq_iff_eq]

end Sys2Proof.Machine
end

section
/-! SUPPORT. The family of the engine pairs: what a takeover of the metering and of the control pair changes but for its reports,
the loss of the last pair, the control checkpoint and the module watchdog. -/

namespace Sys2Proof.Machine

open Sys2Proof

theorem level_reports (ev inst v : Nat) (s : State) : ReportsOnly s (level ev inst v s) := rfl

theorem askFlush_reports (s : State) : ReportsOnly s (askFlush s) := rfl

theorem ReportsOnly.met_eq {s t : State} (h : ReportsOnly s t) : t.met = s.met := by
  rw [h]

theorem ReportsOnly.countTakeover {s t : State} (h : ReportsOnly s t) :
    ReportsOnly (Machine.countTakeover s) (Machine.countTakeover t) := by
  obtain ⟨a, b, p, r, rfl⟩ : ∃ a b p r, t = { s with spi := a, uart := b, perf := p, recorder := r } := ⟨_, _, _, _, h⟩
  rfl

/-! ### Metering pair -/

/-- The pair that metered is blamed and the brake van meters in its place: what a takeover changes but for its reports (R259, R273). -/
def vanMeters (s : State) : State :=
  let r := blame (bit s.cont.meB) s
  countTakeover { r.1 with
    cont := { r.1.cont with meB := !r.1.cont.meB, meVan := r.2, toMe := r.1.cont.toMe + 1, meFollowed := 0 }
    met := { r.1.met with takenOver := true } }

/-- A brake van that is ready takes the metering; whether the pair it replaces is out is reported only. -/
theorem takeMetering_reports {s : State} (cause us : Nat) (hv : s.cont.meVan = .ready) :
    ReportsOnly (vanMeters s) (takeMetering cause us s) := by
  simp only [takeMetering, hv, bne_self_eq_false, Bool.false_eq_true, if_false]
  refine ReportsOnly.trans ?_ (askFlush_reports _)
  split
  · exact ((level_reports ..).countTakeover.trans (ntfTakeover_reports ..)).trans (ntfOut_reports ..)
  · exact (level_reports ..).countTakeover.trans (ntfTakeover_reports ..)

theorem execMeTakeover_runs {s : State} (cause : TakeoverCause) (us : Nat) (hm : metersRun s = true) :
    execMeTakeover cause us s = .next (takeMetering cause.code us s) := by
  simp only [execMeTakeover, hm, if_true]

theorem execMeteringLost_runs {s : State} (hm : metersRun s = true) :
    execMeteringLost s = .next (loseMetering (s.choice.1 % 5) { s with draws := s.draws + 1 }) := by
  simp only [execMeteringLost, hm, if_true, State.choice]

/-! ### Control pair -/

/-- The control pairs change places, and the one that gives up control keeps `van`: but for its reports (R263). -/
def controlSwapped (van : VanState) (s : State) : State :=
  countTakeover (s.modCont fun c => { c with ceB := !c.ceB, ceVan := van, toCe := c.toCe + 1, ceFollowed := 0 })

theorem swapControl_reports (cause us : Nat) (van : VanState) (s : State) :
    ReportsOnly (controlSwapped van s) (swapControl cause us van s) :=
  (ntfTakeover_reports ..).trans (askFlush_reports _)

/-- While a control pair runs, none has fallen silent (R276). -/
theorem ceSilent_of_controlRuns {s : State} (hc : controlRuns s = true) : s.cont.ceSilent = none := by
  obtain ⟨-, hsilent⟩ := Bool.and_eq_true_iff.1 hc
  exact Option.isNone_iff_eq_none.1 hsilent

/-- Without a brake van the control pair that fails was the last one (R276). -/
theorem failControl_last {s : State} (cause us : Nat) (hshadow : shadowing s = false) (hvan : s.cont.ceVan ≠ .ready)
    (hsilent : s.cont.ceSilent = none) :
    failControl cause us s = s.modCont fun c => { c with ceSilent := some s.time.osc } := by
  simp only [failControl, loseControl, hshadow, bne_iff_ne.2 hvan, hsilent, Option.isSome_none, Bool.false_eq_true, if_false, if_true]

section
variable {s : State} (hc : controlRuns s = true)
include hc

/-- A planned takeover is made at a cycle boundary, with an empty journal and a brake van that is ready (R269). -/
theorem execCeTakeover_planned (us : Nat) (hvan : s.cont.ceVan = .ready) (ha : s.clk.angle = 0) (hj : s.cont.journal = []) :
    execCeTakeover .planned us s = .next (swapControl 5 us .ready s) := by
  have hdue : plannedDue s = true := by
    simp [plannedDue, ha, hj]
  simp only [execCeTakeover, hc, hvan, hdue, beq_self_eq_true, Bool.and_self, Bool.not_true, Bool.false_eq_true, if_false, if_true]

theorem execCeTakeover_fault {cause : TakeoverCause} (us : Nat) (hne : cause ≠ .planned) :
    execCeTakeover cause us s = .next (failControl cause.code us s) := by
  cases cause with
  | planned => exact absurd rfl hne
  | _ => simp only [execCeTakeover, hc, Bool.not_true, Bool.false_eq_true, if_false]

/-- The checkpoint is written when its 10 ms are over or a link is in a TLS record, and the journal begins anew (R262). -/
theorem execControlCheckpoint_due
    (hdue : s.cont.checkpointAt + 10000 ≤ s.time.osc ∨ ∃ y ∈ s.bays, y.link.link = 3 ∧ y.link.tls = true) :
    execControlCheckpoint s = .next { s with cont := { s.cont with
      journal := [], check := controlCheckpoint s, checkpointAt := s.time.osc
      ceFollowed := if s.cont.ceVan = .recoupling then s.cont.ceFollowed + 1 else 0 } } := by
  have hnow : (!(s.bays.any fun y => y.link.link == 3 && y.link.tls) &&
      Decidable.decide (s.time.osc < s.cont.checkpointAt + 10000)) = false := by
    rcases hdue with hover | ⟨y, hy, hlink, htls⟩
    · simp only [Nat.not_lt.2 hover, decide_false, Bool.and_false]
    · have hany : (s.bays.any fun y => y.link.link == 3 && y.link.tls) = true := List.any_eq_true.2 ⟨y, hy, by simp [hlink, htls]⟩
      simp only [hany, Bool.not_true, Bool.false_and]
  simp only [execControlCheckpoint, hc, hnow, Bool.not_true, Bool.or_self, Bool.false_eq_true, if_false, State.modCont, beq_iff_eq]
end

theorem execModuleWatchdog_due {s : State} {t : Nat} (hsilent : s.cont.ceSilent = some t) (hd : outputsDriven s = true)
    (ht : t + 100000 ≤ s.time.osc) : execModuleWatchdog s = .next (beginReset true s) := by
  simp only [execModuleWatchdog, hsilent, hd, ht, decide_true, Bool.and_self, if_true]

/-- Settles O39: a takeover changes its pair's part of the continuity status and reports it; a fault of the last control pair starts
the time of the module watchdog. -/
theorem pairsTakeOver : Obligations.PairsTakeOver := by
  unfold Obligations.PairsTakeOver
  intro s
  refine ⟨?metering, execMeteringLost_runs, ?planned, fun cause us hne hc => execCeTakeover_fault hc us hne, ?last,
    execControlCheckpoint_due, fun t hsilent hd ht => execModuleWatchdog_due hsilent hd ht⟩
  case metering =>
    intro cause us hm hv
    have hreports := takeMetering_reports cause.code us hv
    refine ⟨_, execMeTakeover_runs cause us hm, ?_, ?_, ?_, ?_, rfl⟩
    · rw [hreports.cont_eq]; rfl
    · rw [hreports.cont_eq]; rfl
    · rw [hreports.met_eq]; rfl
    · rw [hreports.met_eq]; rfl
  case planned =>
    intro us hc hvan ha hj
    have hreports := swapControl_reports 5 us .ready s
    refine ⟨_, execCeTakeover_planned hc us hvan ha hj, ?_, ?_, ?_, rfl⟩
    all_goals
      rw [hreports.cont_eq]
      rfl
  case last =>
    intro cause us hshadow hvan hne hc
    refine (execCeTakeover_fault hc us hne).trans ?_
    rw [failControl_last cause.code us hshadow hvan (ceSilent_of_controlRuns hc)]
    rfl

end Sys2Proof.Machine
end

section
/-! SUPPORT. The family of command packets, the step itself: the front of the queue runs, and a step on an empty queue is one
microsecond. -/

namespace Sys2Proof.Machine

open Sys2Proof

theorem tickTime_osc (t : TimeBase) : (tickTime t).osc = t.osc + 1 := by
  unfold tickTime
  dsimp only
  split_ifs <;> rfl

/-- One microsecond moves the angle and its remainder, and in STANDBY the count of cycles too (R24, R27). -/
theorem tickAngle_eq (standby : Bool) (rate : Nat) (c : PhaseClock) :
    ∃ r a n d, tickAngle standby rate c = { c with angleRem := r, angle := a, cycle := n, halfDone := d } := by
  unfold tickAngle
  dsimp only
  split_ifs <;> exact ⟨_, _, _, _, rfl⟩

/-- One microsecond changes the time base and of the phase clock what its angle carries. -/
theorem tick_eq (s : State) : (tick s).time.osc = s.time.osc + 1 ∧
    tick s = { s with time := (tick s).time, clk := { s.clk with
      angle := (tick s).clk.angle, cycle := (tick s).clk.cycle, angleRem := (tick s).clk.angleRem
      cycleStart := (tick s).clk.cycleStart, halfDone := (tick s).clk.halfDone } } := by
  obtain ⟨r, a, n, d, hclk⟩ := tickAngle_eq (s.power.state == .standby) (angleRate s) s.clk
  unfold tick
  rw [hclk]
  dsimp only
  split <;> exact ⟨tickTime_osc s.time, rfl⟩

theorem step_cons {s : State} {i : Instr} {rest : List Instr} (hp : s.pending = i :: rest) :
    step s = exec i (s.queueing rest) := by
  simp only [step, hp, State.queueing]

theorem step_nil {s : State} (hp : s.pending = []) : step s = .next (tick s) := by
  simp only [step, hp]

/-- Settles O52: the step takes the front of the queue, or ticks. -/
theorem stepsTakeTheFront : Obligations.StepsTakeTheFront := by
  unfold Obligations.StepsTakeTheFront
  intro s
  refine ⟨fun c rest hp => step_cons hp, fun hp => ⟨tick s, step_nil hp, tick_eq s⟩, fun nbits w => ⟨rfl, rfl⟩⟩

end Sys2Proof.Machine
end

section
/-! SUPPORT. The family of command packets, reception: the checks of R281 case by case, the parts of an answer and what each touches,
replies, and the duplicate window. -/

namespace Sys2Proof.Machine

open Sys2Proof

/-! ### A packet that has come -/

/-- The state behind the arrival of a packet of opcode `op`: its bytes are counted and its world stays open. -/
def came (h : Hdr) (op : Nat) (pl : Bytes) (s : State) : State :=
  touchWorld { port := h.port, world := h.world, op := op, tag := h.tag } (arrived h.port pl.length s)

theorem came_traffic (h : Hdr) (op : Nat) (pl : Bytes) (s : State) : TrafficOnly s (came h op pl s) :=
  (traffic_arrived ..).trans (traffic_touchWorld ..)

/-- The arrival of a packet changes of a port at most the instant at which its world closes (R302). -/
theorem came_port (h : Hdr) (op : Nat) (pl : Bytes) (s : State) (q : HostPort) :
    ∃ t, (came h op pl s).port q = { s.port q with worldIdle := t } := by
  obtain ⟨t, ht⟩ := touchWorld_port { port := h.port, world := h.world, op := op, tag := h.tag } q (arrived h.port pl.length s)
  exact ⟨t, ht.trans (by rw [arrived_port])⟩

section
variable (h : Hdr) (op : Nat) (pl : Bytes) (s : State) (q : HostPort)

@[simp] theorem came_outstanding : ((came h op pl s).port q).outstanding = (s.port q).outstanding := by
  obtain ⟨t, ht⟩ := came_port h op pl s q; rw [ht]
@[simp] theorem came_reassembly : ((came h op pl s).port q).reassembly = (s.port q).reassembly := by
  obtain ⟨t, ht⟩ := came_port h op pl s q; rw [ht]
@[simp] theorem came_txQueue : ((came h op pl s).port q).txQueue = (s.port q).txQueue := by
  obtain ⟨t, ht⟩ := came_port h op pl s q; rw [ht]
@[simp] theorem came_lastTx : ((came h op pl s).port q).lastTx = (s.port q).lastTx := by
  obtain ⟨t, ht⟩ := came_port h op pl s q; rw [ht]
@[simp] theorem came_dupOf (tag : Nat) : dupOf ((came h op pl s).port q) tag = dupOf (s.port q) tag := by
  obtain ⟨t, ht⟩ := came_port h op pl s q; rw [ht]; rfl
@[simp] theorem came_time : (came h op pl s).time = s.time := by rw [came_traffic h op pl s]
@[simp] theorem came_after (us : Nat) : (came h op pl s).after us = s.after us := by simp only [State.after, came_time]
@[simp] theorem came_continues : continues h op (came h op pl s) = continues h op s := by simp only [continues, came_reassembly]

/-- An entry that leaves the duplicate window does so before or after the arrival alike. -/
theorem came_modPort_dups (g : List DupEntry → List DupEntry) :
    came h op pl (s.modPort h.port fun p => { p with dups := g p.dups }) =
      (came h op pl s).modPort h.port fun p => { p with dups := g p.dups } := by
  unfold came touchWorld
  rw [apply_ite (fun x : State => x.modPort h.port fun p => { p with dups := g p.dups })]
  cases h.port <;> rfl
end

/-! ### The checks of R281, steps 3 to 6 -/

section
variable {h : Hdr} {op frag len trailer : Nat} {passes : Bool} {go : State → State} {s : State}

/-- Step 6, by what a packet meets: it continues a reassembly, its tag is outstanding, or its tag is free. -/
theorem screenTag_passes : screen.screenTag h op true go s = go s := rfl
theorem screenTag_outstanding (ho : (s.port h.port).outstanding.contains h.tag = true) :
    screen.screenTag h op false go s = s := by
  simp only [screen.screenTag, ho, Bool.false_eq_true, if_false, if_true]
theorem screenTag_free (ho : (s.port h.port).outstanding.contains h.tag = false) (hn : (s.port h.port).outstanding.length < 64) :
    screen.screenTag h op false go s = go s := by
  simp only [screen.screenTag, ho, Nat.not_le.2 hn, Bool.false_eq_true, if_false]

section
variable (hv : h.version = 1) (hf : h.flags = 0) (ht : h.tag ≠ 0)
include hv hf ht

/-- Fragments beyond the first are not compared with the window. -/
theorem screen_later (hfrag : frag ≠ 0) : screen h op frag len trailer passes go s = screen.screenTag h op passes go s := by
  simp only [screen, hv, hf, beq_false_of_ne ht, beq_false_of_ne hfrag, bne_self_eq_false, Bool.or_self, Bool.false_eq_true,
    if_false]
theorem screen_new (hd : dupOf (s.port h.port) h.tag = none) :
    screen h op 0 len trailer passes go s = screen.screenTag h op passes go s := by
  simp only [screen, hv, hf, hd, beq_false_of_ne ht, beq_self_eq_true, bne_self_eq_false, Bool.or_self, Bool.false_eq_true,
    if_false, if_true]
theorem screen_duplicate {d : DupEntry} (hd : dupOf (s.port h.port) h.tag = some d) (hop : d.op = op) (hw : d.world = h.world)
    (hlen : d.len = len) (htr : d.trailer = trailer) :
    screen h op 0 len trailer passes go s = reply h.port h.world op h.tag true d.reply s := by
  simp only [screen, hv, hf, hd, hop, hw, hlen, htr, beq_false_of_ne ht, beq_self_eq_true, bne_self_eq_false, Bool.or_self,
    Bool.and_self, Bool.false_eq_true, if_false, if_true]
theorem screen_differs {d : DupEntry} (hd : dupOf (s.port h.port) h.tag = some d)
    (hne : d.op ≠ op ∨ d.world ≠ h.world ∨ d.len ≠ len ∨ d.trailer ≠ trailer) :
    screen h op 0 len trailer passes go s = screen.screenTag h op passes go
      (s.modPort h.port fun q => { q with dups := q.dups.filter (·.tag != h.tag) }) := by
  have hcmp : (d.op == op && d.world == h.world && d.len == len && d.trailer == trailer) = false := by
    rw [← Bool.not_eq_true]
    simp only [Bool.and_eq_true, beq_iff_eq, not_and_or]
    tauto
  simp only [screen, hv, hf, hd, hcmp, beq_false_of_ne ht, beq_self_eq_true, bne_self_eq_false, Bool.or_self, Bool.false_eq_true,
    if_false, if_true]
end

/-- The checks answer or drop a packet, which is traffic, or hand it on after traffic. -/
theorem screenTag_cases : TrafficOnly s (screen.screenTag h op passes go s) ∨ screen.screenTag h op passes go s = go s := by
  unfold screen.screenTag
  dsimp only
  split_ifs
  · exact .inr rfl
  · exact .inl (.refl s)
  · exact .inl (traffic_reply ..)
  · exact .inr rfl

theorem screen_cases : TrafficOnly s (screen h op frag len trailer passes go s) ∨
    ∃ u, TrafficOnly s u ∧ screen h op frag len trailer passes go s = go u := by
  have hdrop : TrafficOnly s (s.modPort h.port fun q => { q with dups := q.dups.filter (·.tag != h.tag) }) := traffic_modPort ..
  unfold screen
  dsimp only
  split
  · exact .inl (traffic_reply ..)
  · split
    · exact .inl (traffic_reply ..)
    · split
      · split
        · exact .inl (traffic_reply ..)
        · exact screenTag_cases.imp hdrop.trans fun hgo => ⟨_, hdrop, hgo⟩
      · exact screenTag_cases.imp id fun hgo => ⟨s, .refl s, hgo⟩
end

/-! ### The parts of an answer -/

/-- The tag of an answered command is free again, unless the status is PENDING (R282). -/
def settleTag (call : Call) (a : Ans) : State :=
  if a.status == stPending then a.state
  else a.state.modPort call.port fun p => { p with outstanding := p.outstanding.filter (· != call.tag) }

/-- A state-changing command enters the duplicate window and the journal (R261, R284). -/
def remember (c : Command) (port : HostPort) (d : DupEntry) (j : JournalEntry) (s : State) : State :=
  if !c.sc then s
  else
    let s' := s.modPort port fun p => { p with dups := (d :: p.dups).take 256 }
    { s' with cont := { s'.cont with journal := s'.cont.journal ++ [j] } }

/-- The window's entry of an unfragmented command and its reply (R284). -/
def dupEntry (c : Command) (h : Hdr) (pl : Bytes) (a : Ans) : DupEntry :=
  { tag := h.tag, op := c.op, world := h.world, len := pl.length, trailer := trailerOf h c.op 0 false pl,
    reply := le 2 a.status ++ a.data }

/-- The journal's entry of a command and its reply (R261). -/
def journalEntry (c : Command) (h : Hdr) (pl : Bytes) (s : State) (a : Ans) : JournalEntry :=
  { port := h.port, world := h.world, op := c.op, tag := h.tag, payload := pl, instant := s.time.now,
    reply := le 2 a.status ++ a.data }

theorem completed_eq_reply (c : Command) (h : Hdr) (pl : Bytes) (s : State) (a : Ans) :
    completed c h pl s a = reply h.port h.world c.op h.tag false (le 2 a.status ++ a.data)
      (remember c h.port (dupEntry c h pl a) (journalEntry c h pl s a) (settleTag (callOf c h) a)) := rfl

section
variable (p q : HostPort) (w op tag : Nat) (dup : Bool) (b : Bytes) (s : State)
@[simp] theorem reply_outstanding : ((reply p w op tag dup b s).port q).outstanding = (s.port q).outstanding := by
  cases p <;> cases q <;> rfl
@[simp] theorem reply_dups : ((reply p w op tag dup b s).port q).dups = (s.port q).dups := by
  cases p <;> cases q <;> rfl
@[simp] theorem reply_cont : (reply p w op tag dup b s).cont = s.cont := by
  cases p <;> rfl
theorem reply_spi : (reply .spi w op tag dup b s).spi.txQueue = s.spi.txQueue ++ replyPackets w op tag dup b := rfl
theorem reply_uart : (reply .uart w op tag dup b s).uart.lastTx = replyPackets w op tag dup b := rfl
end

section
variable (c : Command) (p q : HostPort) (d : DupEntry) (j : JournalEntry) (s : State)
@[simp] theorem remember_outstanding : ((remember c p d j s).port q).outstanding = (s.port q).outstanding := by
  unfold remember
  split
  · rfl
  · cases p <;> cases q <;> rfl
@[simp] theorem remember_txQueue : ((remember c p d j s).port q).txQueue = (s.port q).txQueue := by
  unfold remember
  split
  · rfl
  · cases p <;> cases q <;> rfl
theorem remember_traffic : TrafficOnly s (remember c p d j s) := by
  unfold remember
  split
  · exact .refl s
  · exact (traffic_modPort ..).trans rfl
theorem remember_query (hsc : c.sc = false) : remember c p d j s = s := by
  simp only [remember, hsc, Bool.not_false, if_true]
theorem remember_dups (hsc : c.sc = true) : ((remember c p d j s).port p).dups = (d :: (s.port p).dups).take 256 := by
  simp only [remember, hsc, Bool.not_true, Bool.false_eq_true, if_false]
  cases p <;> rfl
theorem remember_journal (hsc : c.sc = true) : (remember c p d j s).cont.journal = s.cont.journal ++ [j] := by
  simp only [remember, hsc, Bool.not_true, Bool.false_eq_true, if_false, State.modPort_cont]
end

section
variable (call : Call) (q : HostPort) (a : Ans)
@[simp] theorem settleTag_dups : ((settleTag call a).port q).dups = (a.state.port q).dups := by
  obtain ⟨port, _, _, _⟩ := call
  unfold settleTag
  split
  · rfl
  · cases port <;> cases q <;> rfl
@[simp] theorem settleTag_txQueue : ((settleTag call a).port q).txQueue = (a.state.port q).txQueue := by
  obtain ⟨port, _, _, _⟩ := call
  unfold settleTag
  split
  · rfl
  · cases port <;> cases q <;> rfl
@[simp] theorem settleTag_cont : (settleTag call a).cont = a.state.cont := by
  unfold settleTag
  split
  · rfl
  · exact State.modPort_cont ..
theorem settleTag_traffic : TrafficOnly a.state (settleTag call a) := by
  unfold settleTag
  split
  · exact .refl a.state
  · exact traffic_modPort ..
theorem settleTag_pending (hp : a.status = stPending) : settleTag call a = a.state := by
  simp only [settleTag, hp, beq_self_eq_true, if_true]
theorem settleTag_done (hp : a.status ≠ stPending) : ((settleTag call a).port call.port).outstanding =
    (a.state.port call.port).outstanding.filter (· != call.tag) := by
  simp only [settleTag, beq_false_of_ne hp, Bool.false_eq_true, if_false, State.port_modPort]
end

/-! ### What an answer leaves -/

section
variable {c : Command} {h : Hdr} {pl : Bytes} {s : State} {a : Ans}

theorem completed_spi (hp : h.port = .spi) : (completed c h pl s a).spi.txQueue =
    a.state.spi.txQueue ++ replyPackets h.world c.op h.tag false (le 2 a.status ++ a.data) := by
  rw [completed_eq_reply, hp, reply_spi]
  exact congrArg (· ++ _) ((remember_txQueue c .spi .spi _ _ _).trans (settleTag_txQueue (callOf c h) .spi a))
theorem completed_uart (hp : h.port = .uart) :
    (completed c h pl s a).uart.lastTx = replyPackets h.world c.op h.tag false (le 2 a.status ++ a.data) := by
  rw [completed_eq_reply, hp, reply_uart]
theorem completed_outstanding_done (hd : a.status ≠ stPending) : ((completed c h pl s a).port h.port).outstanding =
    (a.state.port h.port).outstanding.filter (· != h.tag) := by
  rw [completed_eq_reply, reply_outstanding, remember_outstanding]
  exact settleTag_done (callOf c h) a hd
theorem completed_outstanding_pending (hd : a.status = stPending) :
    ((completed c h pl s a).port h.port).outstanding = (a.state.port h.port).outstanding := by
  rw [completed_eq_reply, reply_outstanding, remember_outstanding, settleTag_pending _ _ hd]
theorem completed_dups (hsc : c.sc = true) : ((completed c h pl s a).port h.port).dups =
    (dupEntry c h pl a :: (a.state.port h.port).dups).take 256 := by
  rw [completed_eq_reply, reply_dups, remember_dups _ _ _ _ _ hsc, settleTag_dups]
theorem completed_journal (hsc : c.sc = true) :
    (completed c h pl s a).cont.journal = a.state.cont.journal ++ [journalEntry c h pl s a] := by
  rw [completed_eq_reply, reply_cont, remember_journal _ _ _ _ _ hsc, settleTag_cont]
theorem completed_dups_query (hsc : c.sc = false) : ((completed c h pl s a).port h.port).dups = (a.state.port h.port).dups := by
  rw [completed_eq_reply, reply_dups, remember_query _ _ _ _ _ hsc, settleTag_dups]
theorem completed_journal_query (hsc : c.sc = false) : (completed c h pl s a).cont.journal = a.state.cont.journal := by
  rw [completed_eq_reply, reply_cont, remember_query _ _ _ _ _ hsc, settleTag_cont]
end

/-! ### Reception -/

section
variable {c : Command} {h : Hdr} {pl : Bytes} {s : State}

theorem receive_screened (hs : Screened c h pl s) : receive c h pl s =
    screen h c.op 0 pl.length (trailerOf h c.op 0 false pl) false
      (runCommand c (callOf c h) pl pl.length (trailerOf h c.op 0 false pl)) (came h c.op pl s) := by
  obtain ⟨hready, hans, hlen, -, -, -⟩ := hs
  simp only [receive, hready, hans, Nat.not_lt.2 hlen, Bool.not_true, Bool.or_self, Bool.false_eq_true, if_false]
  rfl

/-- A screened packet of a free tag that is not in the window is answered by steps 8 to 11 of R281. -/
theorem receive_new (hs : Screened c h pl s) (hfree : TagFree h s) (hd : dupOf (s.port h.port) h.tag = none) :
    receive c h pl s = completed c h pl s (runBody c (callOf c h) pl (begun c h pl s)) := by
  obtain ⟨ho, hn⟩ := hfree
  have hnow : (came h c.op pl s).time.now = s.time.now := by rw [came_time]
  rw [receive_screened hs]
  obtain ⟨-, -, -, hv, hf, ht⟩ := hs
  rw [screen_new hv hf ht (by rwa [came_dupOf]), screenTag_free (by rwa [came_outstanding]) (by rwa [came_outstanding]),
    runCommand, hnow]
  rfl

/-- What step 9 of R281 reads is not touched by the arrival of the packet. -/
theorem useRefusal_begun : useRefusal c (callOf c h) (begun c h pl s) = useRefusal c (callOf c h) s := by
  unfold useRefusal
  rw [callOf_port, begun_port_world, begun_life, doorShowsOpen_begun]

theorem runBody_refused {e : Nat} (he : useRefusal c (callOf c h) s = some e) :
    runBody c (callOf c h) pl (begun c h pl s) = refuse (begun c h pl s) e := by
  simp only [runBody, useRefusal_begun, he]

/-- Steps 9 to 11 of R281 refuse a command and change nothing, or run its own rules. -/
theorem runBody_cases (c : Command) (call : Call) (pl : Bytes) (s : State) :
    (∃ e, runBody c call pl s = refuse s e) ∨ runBody c call pl s = c.body call pl s := by
  unfold runBody
  split
  · exact .inl ⟨_, rfl⟩
  · split_ifs
    · exact .inl ⟨_, rfl⟩
    · exact .inl ⟨_, rfl⟩
    · exact .inr rfl

theorem answer_traffic (c : Command) (call : Call) (pl : Bytes) (len trailer now : Nat) (a : Ans) :
    TrafficOnly a.state (answer c call pl len trailer now a) :=
  ((settleTag_traffic call a).trans (remember_traffic c call.port _ _ _)).trans (traffic_reply ..)

/-- A checked command is traffic around at most one run of its own rules. -/
theorem runCommand_cases (c : Command) (call : Call) (pl : Bytes) (len trailer : Nat) (s : State) :
    TrafficOnly s (runCommand c call pl len trailer s) ∨
      ∃ u, TrafficOnly s u ∧ TrafficOnly (c.body call pl u).state (runCommand c call pl len trailer s) := by
  have hbegin := traffic_modPort call.port (fun p => { p with outstanding := call.tag :: p.outstanding.filter (· != call.tag) }) s
  have hanswer (a : Ans) := answer_traffic c call pl len trailer s.time.now a
  unfold runCommand
  dsimp only
  rcases runBody_cases c call pl (s.modPort call.port _) with ⟨e, he⟩ | he
  · rw [he]
    exact .inl (hbegin.trans (hanswer _))
  · rw [he]
    exact .inr ⟨_, hbegin, hanswer _⟩

/-- Whatever the packet and the state, reception is traffic around at most one run of the command's own rules. -/
theorem receive_cases (c : Command) (h : Hdr) (pl : Bytes) (s : State) : TrafficOnly s (receive c h pl s) ∨
    ∃ u, TrafficOnly s u ∧ TrafficOnly (c.body (callOf c h) pl u).state (receive c h pl s) := by
  have hcame := came_traffic h c.op pl s
  unfold receive
  split
  · exact .inl (.refl s)
  · split
    · exact .inl (traffic_reports (count_reports ..))
    · rcases screen_cases with htraffic | ⟨u, hu, hrun⟩
      · exact .inl (hcame.trans htraffic)
      · refine (runCommand_cases c (callOf c h) pl pl.length (trailerOf h c.op 0 false pl) u).imp (fun ht => ?_)
          fun ⟨v, hv, ht⟩ => ⟨v, (hcame.trans hu).trans hv, ?_⟩
        · exact hrun ▸ (hcame.trans hu).trans ht
        · exact hrun ▸ ht
end

/-! ### Replies and duplicates -/

/-- Settles O55: an accepted command is begun, runs its own rules and is completed, one refused by its Use is completed with the
refusal; what the completion leaves is the sum of its parts. -/
theorem commandsAreAnswered : Obligations.CommandsAreAnswered := by
  unfold Obligations.CommandsAreAnswered
  intro i c h pl s hr
  refine ⟨fun ha => ?accepted, fun e hs hfree hd he => ?refused⟩
  case accepted =>
    exact ⟨_, (exec_hostRow hr s).trans (congrArg _ (receive_accepted ha)), completed_traffic .., completed_spi, completed_uart,
      completed_outstanding_done, completed_outstanding_pending, fun hsc => ⟨completed_dups hsc, completed_journal hsc⟩,
      fun hsc => ⟨completed_dups_query hsc, completed_journal_query hsc⟩⟩
  case refused =>
    have hexec := (exec_hostRow hr s).trans (congrArg _ ((receive_new hs hfree hd).trans (by rw [runBody_refused he])))
    refine ⟨_, hexec, (begun_traffic c h pl s).trans (completed_traffic ..), fun hp => ?_, fun hp => ?_⟩
    · rw [completed_spi hp, refuse, List.append_nil]
      exact congrArg (· ++ _) (begun_port_txQueue c h pl s .spi)
    · rw [completed_uart hp, refuse, List.append_nil]

end Sys2Proof.Machine
end

section
/-! SUPPORT. The family of command packets, queries: what the rules of a command that is not state-changing leave, one lemma per query,
and what follows for the packet that carries it. -/

namespace Sys2Proof.Machine

open Sys2Proof

/-! ### Reading alone -/

/-- What a query of opcode `op` leaves of a state: traffic and free values apart, PING marks images, CRED_LOOKUP counts itself,
GET_TIME draws a nonce and TAG_READ outwaits the field's locks (R284, R309, R425). -/
structure ReadsOnly (op : Nat) (s t : State) : Prop where
  frame : TrafficOnly { s with
    draws := t.draws
    images := { s.images with kinds := t.images.kinds }
    creds := { s.creds with lookups := t.creds.lookups }
    time := { s.time with nonce := t.time.nonce }
    tag := { s.tag with fieldLocks := t.tag.fieldLocks } } t
  images : op ≠ cmdPing.op → t.images = s.images
  creds : op ≠ cmdCredLookup.op → t.creds = s.creds
  time : op ≠ cmdGetTime.op → t.time = s.time
  tag : op ≠ cmdTagRead.op → t.tag = s.tag

theorem ReadsOnly.of_draws {op : Nat} {s t : State} (h : TrafficOnly { s with draws := t.draws } t) : ReadsOnly op s t where
  frame := by
    unfold TrafficOnly at h ⊢
    rw [h]
  images _ := by rw [h]
  creds _ := by rw [h]
  time _ := by rw [h]
  tag _ := by rw [h]

theorem ReadsOnly.of_traffic {op : Nat} {s t : State} (h : TrafficOnly s t) : ReadsOnly op s t := by
  refine .of_draws ?_
  unfold TrafficOnly at h ⊢
  rw [h]

theorem ReadsOnly.trans {op : Nat} {s t u : State} (h1 : ReadsOnly op s t) (h2 : ReadsOnly op t u) : ReadsOnly op s u where
  frame := by
    have hst := h1.frame
    have htu := h2.frame
    unfold TrafficOnly at hst htu ⊢
    rw [hst] at htu
    exact htu
  images hop := (h2.images hop).trans (h1.images hop)
  creds hop := (h2.creds hop).trans (h1.creds hop)
  time hop := (h2.time hop).trans (h1.time hop)
  tag hop := (h2.tag hop).trans (h1.tag hop)

/-- The answer of a query of opcode `op` run in `s`: it is given at once, and only reads. -/
structure Ans.Queried (op : Nat) (s : State) (a : Ans) : Prop where
  reads : ReadsOnly op s a.state
  dups : ∀ p, (a.state.port p).dups = (s.port p).dups
  done : a.status ≠ stPending

/-- A command whose own rules only read, whatever they are given. -/
def Command.OnlyReads (c : Command) : Prop := ∀ call pl s, (c.body call pl s).Queried c.op s

theorem stOk_done : stOk ≠ stPending := by decide
theorem errAuth_done : errAuth ≠ stPending := by decide

section
variable {op : Nat} {s : State}

theorem queried_okWith (d : Bytes) : (okWith s d).Queried op s := ⟨.of_traffic (.refl s), fun _ => rfl, stOk_done⟩
theorem queried_refuse {e : Nat} (he : e ≠ stPending) : (refuse s e).Queried op s := ⟨.of_traffic (.refl s), fun _ => rfl, he⟩
theorem queried_draws (n : Nat) (d : Bytes) : (okWith { s with draws := n } d).Queried op s :=
  ⟨.of_draws rfl, fun p => by cases p <;> rfl, stOk_done⟩
theorem queried_ite {p : Prop} [Decidable p] {a b : Ans} (ha : a.Queried op s) (hb : b.Queried op s) :
    (if p then a else b).Queried op s := by
  split
  · exact ha
  · exact hb

/-- The refusals that queries give. -/
theorem queried_errParam : (refuse s errParam).Queried op s := queried_refuse (by decide)
theorem queried_errNotFound : (refuse s errNotFound).Queried op s := queried_refuse (by decide)
theorem queried_errLength : (refuse s errLength).Queried op s := queried_refuse (by decide)
theorem queried_errAuth : (refuse s errAuth).Queried op s := queried_refuse errAuth_done

/-- An update of a port that leaves its duplicate window is no more than a reading. -/
theorem queried_modPort {e : Nat} (he : e ≠ stPending) (p : HostPort) (f : PortState → PortState)
    (hf : ∀ q, (f q).dups = q.dups) (d : Bytes) : (Ans.mk (s.modPort p f) e d).Queried op s where
  reads := .of_traffic (traffic_modPort p f s)
  dups q := by
    cases p with
    | spi =>
      cases q with
      | spi => exact hf _
      | uart => rfl
    | uart =>
      cases q with
      | spi => rfl
      | uart => exact hf _
  done := he
theorem Ans.Queried.of_reads {u : State} {a : Ans} (hu : ReadsOnly op s u) (hdups : ∀ p, (u.port p).dups = (s.port p).dups)
    (ha : a.Queried op u) : a.Queried op s :=
  ⟨hu.trans ha.reads, fun p => (ha.dups p).trans (hdups p), ha.done⟩
end

/-! ### Queries of the system -/

theorem notePing_reads (s : State) : ReadsOnly cmdPing.op s (notePing s) :=
  ⟨rfl, fun hne => absurd rfl hne, fun _ => rfl, fun _ => rfl, fun _ => rfl⟩

theorem cmdPing_onlyReads : cmdPing.OnlyReads := fun _ _ s =>
  .of_reads (notePing_reads s) (fun p => by cases p <;> rfl) (queried_okWith _)
theorem cmdGetTime_onlyReads : cmdGetTime.OnlyReads := fun call pl s => by
  rw [getTime_eq]
  exact ⟨⟨rfl, fun _ => rfl, fun _ => rfl, fun hne => absurd rfl hne, fun _ => rfl⟩, fun p => by cases p <;> rfl, stOk_done⟩
theorem cmdGetParam_onlyReads : cmdGetParam.OnlyReads := fun call pl s => by
  change (getParamBody call pl s).Queried _ s
  unfold getParamBody
  refine queried_ite queried_errParam ?_
  split
  · exact queried_errNotFound
  · dsimp only
    split
    · exact queried_errNotFound
    · split
      · exact queried_errLength
      · exact queried_okWith _

theorem refuseWorld_queried (call : Call) (w : World) (op : Nat) (s : State) : (refuseWorld call w s).Queried op s :=
  queried_modPort errAuth_done _ _ (fun q => by split <;> rfl) _
theorem recordKeyRefusal_reads (op n check : Nat) (r : Requester) (s : State) : ReadsOnly op s (recordKeyRefusal n check r s) :=
  .of_traffic (traffic_reports (record_reports ..))
theorem recordKeyRefusal_port (n check : Nat) (r : Requester) (s : State) (p : HostPort) :
    (recordKeyRefusal n check r s).port p = s.port p := by
  cases p
  · exact record_spi ..
  · exact record_uart ..

/-- A refused use of a key is recorded, which is traffic. -/
theorem queried_keyRefusal {op n check : Nat} {r : Requester} {s : State} {a : Ans}
    (ha : a.Queried op (recordKeyRefusal n check r s)) : a.Queried op s :=
  .of_reads (recordKeyRefusal_reads ..) (fun p => by rw [recordKeyRefusal_port]) ha

theorem random_reads (op n : Nat) (s : State) : ReadsOnly op s (s.random n).2 := .of_draws rfl

theorem cmdOpenWorld_onlyReads : cmdOpenWorld.OnlyReads := fun call pl s => by
  change (openWorldBody call pl s).Queried _ s
  unfold openWorldBody
  split
  case h_1 => exact queried_errParam
  case h_2 w _ =>
    refine queried_ite queried_errParam (queried_ite queried_errAuth ?_)
    dsimp only
    split
    case h_1 => exact queried_keyRefusal (refuseWorld_queried ..)
    case h_2 =>
      refine queried_ite ?challenge ?_
      case challenge =>
        exact .of_reads (random_reads _ 16 s) (fun p => by cases p <;> rfl) (queried_modPort stOk_done _ _ (fun _ => by rfl) _)
      split
      · exact .of_reads (.of_traffic (traffic_modPort ..)) (fun p => by cases call.port <;> cases p <;> rfl) (refuseWorld_queried ..)
      · exact queried_modPort stOk_done _ _ (fun _ => by rfl) _
theorem cmdCloseWorld_onlyReads : cmdCloseWorld.OnlyReads := fun call _ _ =>
  queried_modPort stOk_done call.port _ (fun _ => by rfl) []

/-! ### Queries of metering, tariffs and records -/

theorem cmdMeterReadInstant_onlyReads : cmdMeterReadInstant.OnlyReads := fun _ _ _ => queried_ite queried_errParam (queried_okWith _)
theorem cmdMeterReadRegisters_onlyReads : cmdMeterReadRegisters.OnlyReads := fun _ _ _ =>
  queried_ite queried_errParam (queried_okWith _)
theorem cmdMeterReadHarmonics_onlyReads : cmdMeterReadHarmonics.OnlyReads := fun call pl s => by
  change (meterReadHarmonicsBody call pl s).Queried _ s
  unfold meterReadHarmonicsBody
  split
  · exact queried_errParam
  · split
    · exact queried_errNotFound
    · exact queried_okWith _
theorem cmdLegalParamRead_onlyReads : cmdLegalParamRead.OnlyReads := fun _ pl s => by
  refine queried_ite queried_errNotFound ?_
  cases objectSlice (s.param (fld pl 0 2)) (fld pl 2 2) (fld pl 4 2) with
  | none => exact queried_errLength
  | some bs => exact queried_okWith _
theorem cmdTariffGet_onlyReads : cmdTariffGet.OnlyReads := fun call pl s => by
  change (tariffGetBody call pl s).Queried _ s
  unfold tariffGetBody
  refine queried_ite queried_errParam ?_
  split
  · exact queried_okWith _
  · exact queried_errNotFound
theorem cmdProfileRead_onlyReads : cmdProfileRead.OnlyReads := fun _ _ _ =>
  queried_ite queried_errParam (queried_ite (queried_okWith _) (queried_ite queried_errNotFound (queried_okWith _)))
theorem cmdDemandRead_onlyReads : cmdDemandRead.OnlyReads := fun _ _ _ => queried_ite queried_errParam (queried_okWith _)
theorem cmdLogbookRead_onlyReads : cmdLogbookRead.OnlyReads := fun _ _ _ =>
  queried_ite queried_errParam (queried_ite (queried_okWith _) (queried_ite queried_errNotFound (queried_okWith _)))
theorem cmdRecordRead_onlyReads : cmdRecordRead.OnlyReads := fun _ pl s => by
  refine queried_ite queried_errParam ?_
  cases s.legal.records.find? (·.seq == fld pl 0 4) with
  | none => exact queried_errNotFound
  | some r => exact queried_ite queried_errNotFound (queried_okWith _)

/-! ### Queries of sessions, credentials, keys, loads, the tag and the recorder -/

theorem cmdCtxGet_onlyReads : cmdCtxGet.OnlyReads := fun _ _ _ => queried_ite queried_errNotFound (queried_okWith _)

theorem countLookup_reads (s : State) : ReadsOnly cmdCredLookup.op s (countLookup s) :=
  ⟨rfl, fun _ => rfl, fun hne => absurd rfl hne, fun _ => rfl, fun _ => rfl⟩
theorem cmdCredLookup_onlyReads : cmdCredLookup.OnlyReads := fun call pl s => by
  change (credLookupBody call pl s).Queried _ s
  unfold credLookupBody
  refine queried_ite queried_errParam (.of_reads (countLookup_reads s) (fun p => by cases p <;> rfl) ?_)
  split
  · exact queried_okWith _
  · exact queried_errNotFound

theorem cmdKeyList_onlyReads : cmdKeyList.OnlyReads := fun _ _ _ => queried_ite queried_errParam (queried_okWith _)
theorem cmdKeyGetPublic_onlyReads : cmdKeyGetPublic.OnlyReads := fun call pl s => by
  change (keyGetPublicBody call pl s).Queried _ s
  unfold keyGetPublicBody
  refine queried_ite queried_errParam (queried_ite queried_errNotFound ?_)
  split
  · exact queried_errAuth
  · exact queried_okWith _

/-- The check of R341 that a slot fails refuses for good. -/
theorem keyFailure_done {s : State} {n usage : Nat} {types : List Nat} {r : Requester} {f : Nat × Nat}
    (hf : keyFailure s n types usage r = some f) : f.2 ≠ stPending := by
  simp only [keyFailure, slotFailure] at hf
  split_ifs at hf <;> cases hf <;> decide
theorem cmdAttest_onlyReads : cmdAttest.OnlyReads := fun call pl s => by
  change (attestBody call pl s).Queried _ s
  unfold attestBody
  dsimp only
  split
  case h_1 f hf => exact queried_keyRefusal (queried_refuse (keyFailure_done hf))
  case h_2 => exact queried_okWith _

theorem cmdLswGet_onlyReads : cmdLswGet.OnlyReads := fun _ _ _ => queried_ite queried_errParam (queried_draws ..)
theorem cmdPlcGetLink_onlyReads : cmdPlcGetLink.OnlyReads := fun _ _ _ => queried_ite queried_errParam (queried_okWith _)

/-- Waiting for the field draws a free value and may find its locks gone (R425). -/
theorem awaitBlocks_reads (first n : Nat) (s : State) : ReadsOnly cmdTagRead.op s (awaitBlocks first n s).1 := by
  unfold awaitBlocks
  split
  · exact .of_traffic (.refl s)
  · dsimp only
    split <;> exact ⟨rfl, fun _ => rfl, fun _ => rfl, fun _ => rfl, fun hne => absurd rfl hne⟩
theorem awaitBlocks_port (first n : Nat) (s : State) (p : HostPort) : (awaitBlocks first n s).1.port p = s.port p := by
  unfold awaitBlocks
  split
  · rfl
  · dsimp only
    split <;> cases p <;> rfl
theorem cmdTagRead_onlyReads : cmdTagRead.OnlyReads := fun call pl s => by
  change (tagReadBody call pl s).Queried _ s
  unfold tagReadBody
  refine queried_ite queried_errParam (queried_ite (queried_refuse (by decide)) ?_)
  exact .of_reads (awaitBlocks_reads ..) (fun p => by rw [awaitBlocks_port])
    (queried_ite (queried_okWith _) (queried_refuse (by decide)))

theorem cmdEventsRead_onlyReads : cmdEventsRead.OnlyReads := fun _ _ _ =>
  queried_ite (queried_okWith _) (queried_ite (queried_okWith _) (queried_ite queried_errNotFound (queried_okWith _)))
theorem cmdPerfRead_onlyReads : cmdPerfRead.OnlyReads := fun _ _ _ =>
  queried_ite (queried_refuse (by decide)) (queried_ite queried_errParam (queried_okWith _))

/-! ### The queries of the table -/

/-- The commands of the table that are not state-changing (R284). -/
def queries : List Command :=
  [cmdPing, cmdGetIdentity, cmdGetStatus, cmdGetParam, cmdOpenWorld, cmdCloseWorld, cmdGetTime, cmdGetHealth, cmdBayGetState,
   cmdCtxGet, cmdCtxList, cmdSiteGetAllocation, cmdMeterReadInstant, cmdMeterReadRegisters, cmdMeterReadHarmonics,
   cmdLegalParamRead, cmdTariffGet, cmdProfileRead, cmdDemandRead, cmdLogbookRead, cmdRecordRead, cmdCredLookup, cmdCredStats,
   cmdSafetyGetState, cmdSafetyGetCheck, cmdKeyList, cmdKeyGetPublic, cmdAttest, cmdUpdateStatus, cmdEventsRead, cmdEventsInfo,
   cmdPerfRead, cmdLswGet, cmdDispGetCheck, cmdTagRead, cmdPlcGetLink, cmdPlcTonemapInfo, cmdSiteGetPeers]

theorem table_queries :
    (commands1 ++ commands2 ++ commands3 ++ commands4 ++ commands5 ++ commands6).filter (fun c => !c.sc) = queries := rfl

theorem mem_queries {op : Nat} {c : Command} (hc : commandOf op = some c) (hsc : c.sc = false) : c ∈ queries := by
  rw [← table_queries]
  exact List.mem_filter.2 ⟨List.mem_of_find?_eq_some hc, by rw [hsc]; rfl⟩

theorem queries_onlyRead : ∀ c ∈ queries, c.OnlyReads :=
  List.forall_iff_forall_mem.1 (show List.Forall Command.OnlyReads queries from
    ⟨cmdPing_onlyReads, fun _ _ _ => queried_okWith _, fun _ _ _ => queried_okWith _, cmdGetParam_onlyReads, cmdOpenWorld_onlyReads,
    cmdCloseWorld_onlyReads, cmdGetTime_onlyReads, fun _ _ _ => queried_draws .., fun _ _ _ => queried_okWith _,
    cmdCtxGet_onlyReads, fun _ _ _ => queried_okWith _, fun _ _ _ => queried_okWith _, cmdMeterReadInstant_onlyReads,
    cmdMeterReadRegisters_onlyReads, cmdMeterReadHarmonics_onlyReads, cmdLegalParamRead_onlyReads, cmdTariffGet_onlyReads,
    cmdProfileRead_onlyReads, cmdDemandRead_onlyReads, cmdLogbookRead_onlyReads, cmdRecordRead_onlyReads, cmdCredLookup_onlyReads,
    fun _ _ _ => queried_okWith _, fun _ _ _ => queried_okWith _, fun _ _ _ => queried_okWith _, cmdKeyList_onlyReads,
    cmdKeyGetPublic_onlyReads, cmdAttest_onlyReads, fun _ _ _ => queried_okWith _, cmdEventsRead_onlyReads,
    fun _ _ _ => queried_okWith _, cmdPerfRead_onlyReads, cmdLswGet_onlyReads, fun _ _ _ => queried_okWith _, cmdTagRead_onlyReads,
    cmdPlcGetLink_onlyReads, fun _ _ _ => queried_okWith _, fun _ _ _ => queried_okWith _⟩)

theorem hostRow_onlyReads {i : Instr} {c : Command} {h : Hdr} {pl : Bytes} (hr : hostRow i = some (c, h, pl)) (hsc : c.sc = false) :
    c.OnlyReads :=
  queries_onlyRead c (mem_queries (commandOf_hostRow hr) hsc)

theorem receive_reads {c : Command} (hc : c.OnlyReads) (h : Hdr) (pl : Bytes) (s : State) : ReadsOnly c.op s (receive c h pl s) := by
  rcases receive_cases c h pl s with htraffic | ⟨u, hbefore, hafter⟩
  · exact .of_traffic htraffic
  · exact ((ReadsOnly.of_traffic hbefore).trans (hc (callOf c h) pl u).reads).trans (.of_traffic hafter)

/-- Settles O57: reception is traffic around the rules of a query, which only read. -/
theorem queriesOnlyRead : Obligations.QueriesOnlyRead := by
  unfold Obligations.QueriesOnlyRead
  intro i c h pl s hr hsc
  have hreads := receive_reads (hostRow_onlyReads hr hsc) h pl s
  exact ⟨_, exec_hostRow hr s, hreads.frame, hreads.images, hreads.creds, hreads.time, hreads.tag⟩

/-! ### The duplicate window -/

section
variable {c : Command} {h : Hdr} {pl : Bytes} {s : State}

theorem receive_duplicate (hs : Screened c h pl s) {d : DupEntry} (hd : dupOf (s.port h.port) h.tag = some d) (hop : d.op = c.op)
    (hw : d.world = h.world) (hlen : d.len = pl.length) (htr : d.trailer = trailerOf h c.op 0 false pl) :
    receive c h pl s = reply h.port h.world c.op h.tag true d.reply (came h c.op pl s) := by
  rw [receive_screened hs]
  obtain ⟨-, -, -, hv, hf, ht⟩ := hs
  exact screen_duplicate hv hf ht (by rwa [came_dupOf]) hop hw hlen htr

/-- An entry that leaves the window is found no more. -/
theorem dupOf_filter (q : PortState) (tag : Nat) : dupOf { q with dups := q.dups.filter (·.tag != tag) } tag = none := by
  simp [dupOf]

theorem Screened.modPort (hs : Screened c h pl s) (p : HostPort) (f : PortState → PortState) : Screened c h pl (s.modPort p f) := by
  cases p <;> exact hs

theorem receive_differs (hs : Screened c h pl s) {d : DupEntry} (hd : dupOf (s.port h.port) h.tag = some d)
    (hne : d.op ≠ c.op ∨ d.world ≠ h.world ∨ d.len ≠ pl.length ∨ d.trailer ≠ trailerOf h c.op 0 false pl) :
    receive c h pl s = receive c h pl (s.modPort h.port fun q => { q with dups := q.dups.filter (·.tag != h.tag) }) := by
  rw [receive_screened hs, receive_screened (hs.modPort ..), came_modPort_dups h c.op pl s (List.filter (·.tag != h.tag))]
  obtain ⟨-, -, -, hv, hf, ht⟩ := hs
  rw [screen_differs hv hf ht (by rwa [came_dupOf]) hne, screen_new hv hf ht]
  rw [State.port_modPort, dupOf_filter]

theorem receive_outstanding (hs : Screened c h pl s) (hd : dupOf (s.port h.port) h.tag = none)
    (ho : (s.port h.port).outstanding.contains h.tag = true) : receive c h pl s = came h c.op pl s := by
  rw [receive_screened hs]
  obtain ⟨-, -, -, hv, hf, ht⟩ := hs
  rw [screen_new hv hf ht (by rwa [came_dupOf]), screenTag_outstanding (by rwa [came_outstanding])]

theorem Accepted.notInWindow (ha : Accepted c h pl s) : dupOf (s.port h.port) h.tag = none := by
  obtain ⟨-, -, -, -, -, -, hd, -⟩ := ha
  exact hd
end

/-- Settles O56: a screened packet meets one of the cases of the window's comparison; what an accepted command leaves in the window is
what its completion leaves, and a query's rules leave the window itself. -/
theorem duplicatesAreAnsweredFromTheWindow : Obligations.DuplicatesAreAnsweredFromTheWindow := by
  unfold Obligations.DuplicatesAreAnsweredFromTheWindow
  intro i c h pl s hr hs
  refine ⟨fun d hd hop hw hlen htr => ?same, fun d hd hne => ?differs, fun hd ho => ?executing, fun ha hsc => ?changing,
    fun ha hsc => ?query⟩
  case same => exact (exec_hostRow hr s).trans (congrArg _ (receive_duplicate hs hd hop hw hlen htr))
  case differs => rw [exec_hostRow hr, exec_hostRow hr, receive_differs hs hd hne]
  case executing => exact (exec_hostRow hr s).trans (congrArg _ (receive_outstanding hs hd ho))
  case changing =>
    refine ⟨_, (exec_hostRow hr s).trans (congrArg _ (receive_accepted ha)), ?_, ?_⟩
    · rw [completed_dups hsc, List.length_take]
      exact Nat.min_le_left ..
    · rw [dupOf, completed_dups hsc, List.take_succ_cons]
      exact List.find?_cons_of_pos (beq_self_eq_true h.tag)
  case query =>
    have hq := hostRow_onlyReads hr hsc (callOf c h) pl (begun c h pl s)
    refine ⟨_, (exec_hostRow hr s).trans (congrArg _ (receive_accepted ha)), ?_, ?_⟩
    · rw [dupOf, completed_dups_query hsc, hq.dups, begun_port_dups]
      exact ha.notInWindow
    · rw [completed_outstanding_done hq.done]
      simp

end Sys2Proof.Machine
end

section
/-! SUPPORT. The family of command packets, transports: discarded packets, fragments and their reassembly, SPI transactions,
notifications and the rate of the UART. -/

namespace Sys2Proof.Machine

open Sys2Proof

/-! ### Discarded packets -/

section
variable {s : State} (hr : hostReady s = true) (w op tag : Nat)
include hr

theorem execHostPacketDiscarded_crc (p : HostPort) :
    execHostPacketDiscarded p true w op tag s = .next (replyStatus p w op tag errCrc (count 0x12 p.code 1 s)) := by
  simp only [execHostPacketDiscarded, hr, Bool.not_true, Bool.false_eq_true, if_false, if_true]
theorem execHostPacketDiscarded_framingSpi : execHostPacketDiscarded .spi false w op tag s =
    .next ((count 0x12 0 1 s).modPort .spi fun q => { q with framingFail := true }) := by
  simp only [execHostPacketDiscarded, hr, HostPort.code, Bool.not_true, Bool.false_eq_true, if_false]
end

theorem execHostPacketDiscarded_framingUart (w op tag : Nat) (s : State) :
    execHostPacketDiscarded .uart false w op tag s = .next (if hostReady s then count 0x12 1 1 s else s) := by
  cases hr : hostReady s <;>
    simp only [execHostPacketDiscarded, hr, HostPort.code, Bool.not_true, Bool.not_false, Bool.false_eq_true, if_false, if_true]

/-! ### Fragments -/

section
variable {h : Hdr} {op frag : Nat} {mf : Bool} {pl : Bytes} {s : State}

theorem wrongLength_more (hfrag : frag < 16) (hlen : pl.length = 4084) : wrongLength frag true pl = false := by
  simp [wrongLength, hlen, Nat.not_le.2 hfrag]
theorem wrongLength_last (hfrag : frag < 16) : wrongLength frag false pl = false := by
  simp [wrongLength, Nat.not_le.2 hfrag]

theorem firstFragment_opens (hfree : (s.port h.port).reassembly = none) (hlen : pl.length = 4084) :
    firstFragment h op pl s = s.modPort h.port fun q => { q with
      reassembly := some { tag := h.tag, op := op, world := h.world, next := 1, data := pl, deadline := s.after 1000000 }
      outstanding := h.tag :: q.outstanding.filter (· != h.tag) } := by
  simp only [firstFragment, hfree, wrongLength_more (Nat.zero_lt_succ 15) hlen, Option.isSome_none, Bool.false_eq_true, if_false]

section
variable {r : Reassembly} (hc : continues h op s = some r)
include hc

/-- A fragment of the open reassembly, by whether it is the next one and whether more follow (R286). -/
theorem laterFragment_gathers (hwrong : wrongLength r.next true pl = false) : laterFragment h op r.next true pl s =
    s.modPort h.port fun q => { q with
      reassembly := some { r with next := r.next + 1, data := r.data ++ pl, deadline := s.after 1000000 } } := by
  simp only [laterFragment, hc, hwrong, bne_self_eq_false, Bool.false_eq_true, if_false, if_true]
theorem laterFragment_completes (hwrong : wrongLength r.next false pl = false) :
    laterFragment h op r.next false pl s = completeFragments h op (r.data ++ pl) s := by
  simp only [laterFragment, hc, hwrong, bne_self_eq_false, Bool.false_eq_true, if_false]
theorem laterFragment_outOfOrder (hwrong : wrongLength frag mf pl = false) (hne : frag ≠ r.next) :
    laterFragment h op frag mf pl s = replyStatus h.port h.world op h.tag errParam (dropReassembly h.port s) := by
  simp only [laterFragment, hc, hwrong, bne_iff_ne.2 hne, Bool.false_eq_true, if_false, if_true]
end

theorem continues_some {r : Reassembly} (hr : (s.port h.port).reassembly = some r) (htag : r.tag = h.tag) (hop : r.op = op)
    (hw : r.world = h.world) : continues h op s = some r := by
  simp [continues, hr, htag, hop, hw]

section
variable (hready : hostReady s = true) (hans : answers s op = true) (hlen : pl.length ≤ 4084) (hv : h.version = 1)
  (hf : h.flags = 0) (ht : h.tag ≠ 0)
include hready hans hlen hv hf ht

/-- FRAG 0 with more to follow, of a tag that is free, opens a reassembly or is refused. -/
theorem execFragment_first (hd : dupOf (s.port h.port) h.tag = none) (ho : (s.port h.port).outstanding.contains h.tag = false)
    (hn : (s.port h.port).outstanding.length < 64) :
    execFragment h op 0 true pl s = .next (firstFragment h op pl (came h op pl s)) := by
  simp only [execFragment, hready, hans, Nat.not_lt.2 hlen, beq_self_eq_true, Bool.not_true, Bool.and_false, Bool.or_self,
    Bool.false_eq_true, if_false, if_true]
  refine congrArg _ ?_
  change screen h op 0 pl.length _ false _ (came h op pl s) = _
  rw [screen_new hv hf ht (by rwa [came_dupOf]), screenTag_free (by rwa [came_outstanding]) (by rwa [came_outstanding])]

/-- A later fragment of the open reassembly goes to it. -/
theorem execFragment_later {r : Reassembly} (hfrag : 0 < frag) (hc : continues h op s = some r) :
    execFragment h op frag mf pl s = .next (laterFragment h op frag mf pl (came h op pl s)) := by
  simp only [execFragment, hready, hans, Nat.not_lt.2 hlen, beq_false_of_ne (Nat.ne_of_gt hfrag), Bool.not_true, Bool.false_and,
    Bool.or_self, Bool.false_eq_true, if_false]
  refine congrArg _ ?_
  change screen h op frag pl.length _ (continues h op s).isSome _ (came h op pl s) = _
  rw [screen_later hv hf ht (Nat.ne_of_gt hfrag), hc]
  exact screenTag_passes
end
end

/-- 1 000 ms without the next fragment drop the reassembly (R286). -/
theorem execReassemblyTimeout_due {p : HostPort} {s : State} {r : Reassembly} (hready : hostReady s = true)
    (hr : (s.port p).reassembly = some r) (hdue : s.due r.deadline = true) :
    execReassemblyTimeout p s = .next (replyStatus p r.world r.op r.tag errLength (dropReassembly p s)) := by
  simp only [execReassemblyTimeout, hr, hdue, hready, Bool.and_self, if_true]

/-! ### SPI transactions -/

/-- The length of the next packet and the status byte (R296). -/
def spiHead (s : State) : Nat × Nat := ((s.spi.txQueue.head?.map packetLen).getD 0, bit s.spi.framingFail)

section
variable {s : State} {n : Nat} (hready : hostReady s = true)
include hready

theorem execSpiTransaction_whole (hn : n = 0 ∨ 16 ≤ n ∧ n ≤ 4100) : execSpiTransaction n false s =
    .next (count 0x11 0 (spiHead s).1 (s.modPort .spi fun q => { q with
      lastHead := spiHead s, framingFail := false, lastTx := s.spi.txQueue.take 1
      wire := misoBytes n (spiHead s).2 s.spi.txQueue.head?, txQueue := s.spi.txQueue.drop 1 })) := by
  have hgood : (n != 0 && (false || Decidable.decide (n < 16) || Decidable.decide (4100 < n))) = false := by
    rcases hn with rfl | ⟨hlo, hhi⟩
    · rfl
    · simp [Nat.not_lt.2 hlo, Nat.not_lt.2 hhi]
  simp only [execSpiTransaction, hready, hgood, Bool.true_or, Bool.not_true, Bool.false_eq_true, if_false]
  rfl

theorem execSpiTransaction_cut : execSpiTransaction n true s =
    .next ((if n != 0 then count 0x12 0 1 s else s).modPort .spi fun q =>
      { q with lastHead := spiHead s, framingFail := n != 0 }) := by
  simp only [execSpiTransaction, hready, Bool.true_or, Bool.and_true, Bool.not_true, Bool.false_eq_true, if_false, if_true]
  rfl
end

/-! ### Notifications and the UART's rate -/

theorem execNotificationSend_oldest {p : HostPort} {s : State} {n : Ntf} {rest : List Ntf} (hready : hostReady s = true)
    (hq : (s.port p).ntfQueue = n :: rest) :
    execNotificationSend p s = .next (send p (ntfPackets n) (s.modPort p fun q => { q with ntfQueue := rest })) := by
  simp only [execNotificationSend, hready, hq, Bool.not_true, Bool.false_eq_true, if_false]

theorem execUartBaudFallback_due {s : State} {d : Nat} (hd : s.uartRate.fallbackWait = some d) (hdue : s.due d = true) :
    execUartBaudFallback s = .next { s with uartRate := { baud := 115200, fallbackWait := none, fallenBack := true } } := by
  simp only [execUartBaudFallback, State.dueOpt, hd, hdue, if_true]

/-- Settles O51: each row does what its case of the rules says; the fragments of a reassembly are screened as any packet is, and what
a whole transaction or a cut one leaves are updates of the port. -/
theorem hostTransportsRun : Obligations.HostTransportsRun := by
  unfold Obligations.HostTransportsRun
  intro s
  refine ⟨fun p w op tag hr => execHostPacketDiscarded_crc hr w op tag p, fun w op tag hr => ?framing,
    fun w op tag => execHostPacketDiscarded_framingUart w op tag s,
    fun h op pl hr hans hlen hv hf ht hd ho hn hfree => ?first,
    fun h op frag pl r hr hans hv hf ht hpos hmax hopen htag hop hw => ?later,
    fun p r hr hopen hdue => execReassemblyTimeout_due hr hopen hdue, fun n hr hn => ?whole, fun n hr => ?cut,
    fun p n rest hr hq => ?notification, fun d hd hdue => execUartBaudFallback_due hd hdue⟩
  case framing =>
    exact ⟨_, execHostPacketDiscarded_framingSpi hr w op tag, rfl, rfl, rfl, rfl,
      (traffic_reports (count_reports ..)).trans (traffic_modPort ..)⟩
  case first =>
    refine ⟨_, (execFragment_first hr hans hlen.le hv hf ht hd ho hn).trans
      (congrArg _ (firstFragment_opens ((came_reassembly ..).trans hfree) hlen)), ?_, ?_, ?_, ?_,
      (came_traffic h op pl s).trans (traffic_modPort ..)⟩
    all_goals rw [State.port_modPort]
    · rw [came_after]
    · exact List.mem_cons_self
    · exact came_lastTx ..
    · exact came_txQueue ..
  case later =>
    have hcont : continues h op s = some r := continues_some hopen htag hop hw
    have hcame : continues h op (came h op pl s) = some r := (came_continues ..).trans hcont
    refine ⟨fun hlen hnext => ?gathers, fun hlen hnext => ?completes, fun hlen hne => ?outOfOrder⟩
    case gathers =>
      subst hnext
      refine ⟨_, (execFragment_later hr hans hlen.le hv hf ht hpos hcont).trans
        (congrArg _ (laterFragment_gathers hcame (wrongLength_more hmax hlen))), ?_, ?_,
        (came_traffic h op pl s).trans (traffic_modPort ..)⟩
      all_goals rw [State.port_modPort]
      · rw [came_after]
      · exact came_outstanding ..
    case completes =>
      subst hnext
      exact (execFragment_later hr hans hlen hv hf ht hpos hcont).trans
        (congrArg _ (laterFragment_completes hcame (wrongLength_last hmax)))
    case outOfOrder =>
      exact (execFragment_later hr hans hlen.le hv hf ht hpos hcont).trans
        (congrArg _ (laterFragment_outOfOrder hcame (wrongLength_more hmax hlen) hne))
  case whole =>
    exact ⟨_, execSpiTransaction_whole hr hn, rfl, rfl, rfl, rfl, rfl, (traffic_modPort ..).trans (traffic_reports (count_reports ..))⟩
  case cut =>
    refine ⟨_, execSpiTransaction_cut hr, ?_, ?_, TrafficOnly.trans ?_ (traffic_modPort ..)⟩
    all_goals split <;> rfl
  case notification =>
    refine ⟨_, execNotificationSend_oldest hr hq, ?_, ?_, ?_, (traffic_modPort ..).trans (traffic_send ..)⟩
    · cases p <;> rfl
    · rintro rfl
      exact ⟨rfl, rfl⟩
    · rintro rfl
      rfl

end Sys2Proof.Machine
end

section
/-! SUPPORT. The family of command packets, worlds: how OPEN_WORLD answers in each phase, and what closes a world and ends a
lockout. -/

namespace Sys2Proof.Machine

open Sys2Proof

theorem World.ofCode_code (w : World) : World.ofCode w.code = some w := by
  cases w <;> rfl

theorem answered_begun (c : Command) (h : Hdr) (pl : Bytes) (s : State) (call : Call) (w : World) (answer : Bytes) :
    answered (begun c h pl s) call w answer = answered s call w answer := by
  funext ch
  simp only [answered, worldAnswer, begun_time, begun_key]

section
variable {call : Call} {pl : Bytes} {s : State} {w : World}

/-- A lockout that is not set or over refuses nothing (R301). -/
theorem lockout_open {lockout : Option Nat} (hlock : lockout = none ∨ s.dueOpt lockout = true) :
    (lockout.isSome && !s.dueOpt lockout) = false := by
  rcases hlock with rfl | hdue
  · rfl
  · rw [hdue, Bool.not_true, Bool.and_false]

variable (hne : w ≠ .host) (hw : fld pl 1 1 = w.code)
  (hlock : (s.port call.port).lockouts.getD w.code none = none ∨ s.dueOpt ((s.port call.port).lockouts.getD w.code none) = true)
  (hkey : keyFailure s (worldSlot w) [1, 2] 3 (.command call.port w.code) = none)
include hne hw hlock hkey

/-- Past the checks of R301 on the world, the lockout and the key, the phase decides, and in phase 1 the answer. -/
theorem openWorldBody_challenges (hphase : fld pl 0 1 = 0) : openWorldBody call pl s =
    okWith ((s.random 16).2.modPort call.port fun p => { p with
      challenges := { world := w, value := (s.random 16).1, deadline := s.after 30000000 } ::
        p.challenges.filter fun x => s.time.osc ≤ x.deadline }) (s.random 16).1 := by
  simp only [openWorldBody, hw, World.ofCode_code, beq_false_of_ne hne, hphase, Nat.not_lt_zero, lockout_open hlock, hkey,
    beq_self_eq_true, decide_false, Bool.or_self, Bool.false_eq_true, if_false, if_true]

theorem openWorldBody_opens {ch : Challenge} (hphase : fld pl 0 1 = 1)
    (hch : (s.port call.port).challenges.find? (answered s call w (slice pl 4 16)) = some ch) : openWorldBody call pl s =
    ok (s.modPort call.port fun p => { p with
      world := w, worldIdle := s.after 900000000, refusals := setAt p.refusals w.code 0
      challenges := p.challenges.filter (· != ch) }) := by
  simp only [openWorldBody, hw, World.ofCode_code, beq_false_of_ne hne, hphase, Nat.lt_irrefl, lockout_open hlock, hkey,
    beq_false_of_ne Nat.one_ne_zero, hch, decide_false, Bool.or_self, Bool.false_eq_true, if_false]

theorem openWorldBody_refuses (hphase : fld pl 0 1 = 1)
    (hch : (s.port call.port).challenges.find? (answered s call w (slice pl 4 16)) = none) : openWorldBody call pl s =
    refuseWorld call w (s.modPort call.port fun p => { p with challenges := p.challenges.filter (·.world != w) }) := by
  simp only [openWorldBody, hw, World.ofCode_code, beq_false_of_ne hne, hphase, Nat.lt_irrefl, lockout_open hlock, hkey,
    beq_false_of_ne Nat.one_ne_zero, hch, decide_false, Bool.or_self, Bool.false_eq_true, if_false]
end

theorem execWorldIdleTimeout_idle {p : HostPort} {s : State} (hw : (s.port p).world ≠ .host)
    (hidle : (s.port p).worldIdle ≤ s.time.osc) : execWorldIdleTimeout p s = .next (closeWorldOn p s) := by
  simp only [execWorldIdleTimeout, State.due, bne_iff_ne.2 hw, hidle, decide_true, Bool.and_self, if_true]

theorem execOpenWorldLockoutEnd_due {p : HostPort} {w : World} {s : State}
    (hdue : s.dueOpt ((s.port p).lockouts.getD w.code none) = true) : execOpenWorldLockoutEnd p w s =
    .next (s.modPort p fun q => { q with lockouts := setAt q.lockouts w.code none }) := by
  simp only [execOpenWorldLockoutEnd, hdue, if_true]

/-- Settles O2: the challenges, lockouts and key that OPEN_WORLD's own rules see are those of the state in which it came. -/
theorem worldsOpenAndClose : Obligations.WorldsOpenAndClose := by
  unfold Obligations.WorldsOpenAndClose
  intro h pl s w hne
  refine ⟨fun ha hw hlock hkey => ?opening, fun ha => completes_of_accepted ha rfl rfl,
    fun p hw hidle => execWorldIdleTimeout_idle hw hidle, fun p hdue => execOpenWorldLockoutEnd_due hdue⟩
  have hlock' : ((begun cmdOpenWorld h pl s).port h.port).lockouts.getD w.code none = none ∨
      (begun cmdOpenWorld h pl s).dueOpt (((begun cmdOpenWorld h pl s).port h.port).lockouts.getD w.code none) = true := by
    rwa [begun_port_lockouts, begun_dueOpt]
  have hkey' := (keyFailure_begun cmdOpenWorld h pl s (worldSlot w) [1, 2] 3 (.command h.port w.code)).trans hkey
  have hfind : ((begun cmdOpenWorld h pl s).port h.port).challenges.find?
      (answered (begun cmdOpenWorld h pl s) (callOf cmdOpenWorld h) w (slice pl 4 16)) =
      (s.port h.port).challenges.find? (answered s (callOf cmdOpenWorld h) w (slice pl 4 16)) := by
    rw [begun_port_challenges, answered_begun]
  refine ⟨fun hphase => ?challenge, fun ch hphase hch => ?opens, fun hphase hch => ?refuses⟩
  case challenge =>
    refine completes_of_accepted ha rfl ((openWorldBody_challenges (call := callOf cmdOpenWorld h) hne hw hlock' hkey' hphase).trans ?_)
    simp only [State.random, begun_draws, begun_after, begun_time, callOf_port]
    rfl
  case opens =>
    refine completes_of_accepted ha rfl ((openWorldBody_opens (call := callOf cmdOpenWorld h) hne hw hlock' hkey' hphase (hfind.trans hch)).trans ?_)
    simp only [begun_after, callOf_port]
    rfl
  case refuses => exact completes_of_accepted ha rfl (openWorldBody_refuses (call := callOf cmdOpenWorld h) hne hw hlock' hkey' hphase (hfind.trans hch))

end Sys2Proof.Machine
end

section
/-! SUPPORT. The command reference's family: parameters read, staged, committed and put in force; power states. -/

namespace Sys2Proof.Machine

open Sys2Proof

/-! ### Objects read and staged -/

theorem getParamBody_active {call : Call} {pl bs : Bytes} {s : State} {l : Layout} (hcopy : fld pl 2 1 = 0)
    (hl : layout (fld pl 0 2) = some l)
    (hbs : objectSlice (objectBytes s (fld pl 0 2)) (fld pl 4 2) (fld pl 6 2) = some bs) :
    getParamBody call pl s =
      okWith s (le 2 (fld pl 0 2) ++ le 2 l.size ++ le 4 (objectVersion s (fld pl 0 2)) ++ bs) := by
  simp [getParamBody, hcopy, hl, hbs]

/-- An object with no command of its own goes through the checks that every staged write meets (R331). -/
theorem setParamBody_ordinary {call : Call} {pl : Bytes} {s : State} {l : Layout} (hl : layout (fld pl 0 2) = some l)
    (hsafety : isSafetyObj (fld pl 0 2) = false) (hlegal : isLegalObj (fld pl 0 2) = false)
    (hconv : inBlock (fld pl 0 2) 0x0540 32 = false) (hclock : fld pl 0 2 ≠ 0x0021) (hcont : fld pl 0 2 ≠ 0x0027) :
    setParamBody call pl s = stageWrite call (fld pl 0 2) (fld pl 2 2) (pl.drop 8) s := by
  simp [setParamBody, hl, hsafety, hlegal, hconv, hclock, hcont]

/-! ### What the checks at commit read -/

section
variable (c : Command) (h : Hdr) (pl : Bytes) (s : State)

@[simp] theorem functionKeyUsable_begun (n : Nat) (types : List Nat) (usage : Nat) (r : Requester) (role : Nat) :
    functionKeyUsable (begun c h pl s) n types usage r role = functionKeyUsable s n types usage r role :=
  begun_reads (f := (functionKeyUsable · n types usage r role)) (fun _ _ _ _ _ => rfl) c h pl s
@[simp] theorem bayConfigRule_begun (p : HostPort) (b : Nat) :
    bayConfigRule (begun c h pl s) p b = bayConfigRule s p b := by
  simp only [bayConfigRule, afterCommit_begun, begun_bay]
@[simp] theorem lswRule_begun (p : HostPort) (k : Nat) : lswRule (begun c h pl s) p k = lswRule s p k := by
  simp only [lswRule, afterCommit_begun, bridgeHeld_begun, begun_chan]
@[simp] theorem pulseRule_begun (data : Bytes) : pulseRule (begun c h pl s) data = pulseRule s data :=
  begun_reads (f := (pulseRule · data)) (fun _ _ _ _ _ => rfl) c h pl s
@[simp] theorem v2gRule_begun (data : Bytes) : v2gRule (begun c h pl s) data = v2gRule s data := by
  simp only [v2gRule, functionKeyUsable_begun]
@[simp] theorem objectRule_begun (p : HostPort) (g : Staged) : objectRule (begun c h pl s) p g = objectRule s p g := by
  simp only [objectRule, bayConfigRule_begun, lswRule_begun, pulseRule_begun, v2gRule_begun]
@[simp] theorem commitRefusal_begun (call : Call) (g : Staged) :
    commitRefusal (begun c h pl s) call g = commitRefusal s call g := by
  simp only [commitRefusal, objectVersion_begun, begun_port_world, objectRule_begun]
@[simp] theorem standbyRefused_begun : standbyRefused (begun c h pl s) = standbyRefused s :=
  begun_reads (f := standbyRefused) (fun _ _ _ _ _ => rfl) c h pl s
end

/-! ### Objects committed and put in force -/

section
variable {call : Call} {pl : Bytes} {s : State} (haction : fld pl 0 1 = 0)
  (hpass : ∀ g ∈ (s.port call.port).staging, commitRefusal s call g = none)
include haction hpass

/-- A set whose objects all pass is committed as far as the parameter partition takes writes (R332). -/
theorem commitBody_passed : commitBody call pl s =
    if !(s.port call.port).staging.isEmpty && !s.takesWrites paramPartition then
      { state := s, status := errStorage, data := le 2 0 ++ le 2 0 }
    else okWith (((s.port call.port).staging.foldl (fun a g => commitObject g a) s).modPort call.port fun p =>
        { p with staging := [] })
      (le 2 (s.port call.port).staging.length ++ le 2 0) := by
  have hnone : (s.port call.port).staging.find? (fun g => (commitRefusal s call g).isSome) = none :=
    List.find?_eq_none.2 fun g hg => by simp [hpass g hg]
  simp [commitBody, haction, hnone]

theorem commitParams_commits (hroom : (s.port call.port).staging = [] ∨ s.takesWrites paramPartition = true) :
    cmdCommitParams.body call pl s = okWith (applyCommits effectAtReply
        (((s.port call.port).staging.foldl (fun a g => commitObject g a) s).modPort call.port fun p => { p with staging := [] }))
      (le 2 (s.port call.port).staging.length ++ le 2 0) := by
  have hwrites : (!(s.port call.port).staging.isEmpty && !s.takesWrites paramPartition) = false := by
    rcases hroom with hroom | hroom <;> simp [hroom]
  simp only [cmdCommitParams, commitBody_passed haction hpass, hwrites, Bool.false_eq_true, if_false]
  rfl

theorem commitParams_storage (hset : (s.port call.port).staging ≠ []) (hfull : s.takesWrites paramPartition = false) :
    cmdCommitParams.body call pl s =
      { state := applyCommits effectAtReply s, status := errStorage, data := le 2 0 ++ le 2 0 } := by
  have hwrites : (!(s.port call.port).staging.isEmpty && !s.takesWrites paramPartition) = true := by
    simp [hset, hfull]
  simp only [cmdCommitParams, commitBody_passed haction hpass, hwrites, if_true]
end

theorem applyCommits_all (s : State) :
    applyCommits (fun _ => true) s = s.commits.foldl (fun a o => applyObject o a) { s with commits := [] } := by
  simp [applyCommits]

/-- Settles O3: the objects, the staging set and the checks that a parameter command's own rules see are those of the state in which
it came; with no check failed the commit goes by the parameter partition, and at the boundary every commit is selected. -/
theorem parametersReadAndWritten : Obligations.ParametersReadAndWritten := by
  unfold Obligations.ParametersReadAndWritten
  intro h pl s
  have hpassed (hpass : ∀ g ∈ (s.port h.port).staging, commitRefusal s (callOf cmdCommitParams h) g = none) :
      ∀ g ∈ ((begun cmdCommitParams h pl s).port h.port).staging,
        commitRefusal (begun cmdCommitParams h pl s) (callOf cmdCommitParams h) g = none := by
    simpa using hpass
  refine ⟨fun l bs ha hcopy hl hbs => ?get, ?set, fun ha haction hpass hroom => ?commits,
    fun ha haction hpass hset hfull => ?storage, congrArg _ (applyCommits_all s)⟩
  case get =>
    refine completes_of_accepted ha rfl ((getParamBody_active hcopy hl (by simpa using hbs)).trans ?_)
    rw [objectVersion_begun]
  case set =>
    intro l new ha hl hsafety hlegal hconv hclock hcont hworld hsize hnew hok hroom
    refine completes_of_accepted ha rfl ((setParamBody_ordinary hl hsafety hlegal hconv hclock hcont).trans ?_)
    exact stageWrite_ok hl hworld (by simpa using hnew) (by simpa using hsize) (by simpa using hok) (stage_begun_staged hroom)
  case commits =>
    refine completes_of_accepted ha rfl ((commitParams_commits haction (hpassed hpass) (by simpa using hroom)).trans ?_)
    simp only [callOf_port, begun_port_staging]
  case storage =>
    exact completes_of_accepted ha rfl (commitParams_storage haction (hpassed hpass) (by simpa using hset) (by simpa using hfull))

/-! ### Power states -/

theorem resetBody_begins {call : Call} {pl : Bytes} {s : State}
    (hmode : fld pl 0 1 = 1 ∨ (fld pl 0 1 = 0 ∧ s.anyEnergised = false)) :
    resetBody call pl s = ok (beginReset true s) := by
  rcases hmode with hmode | ⟨hmode, hidle⟩
  · simp [resetBody, hmode]
  · simp [resetBody, hmode, hidle]

section
variable {call : Call} {pl : Bytes} {s : State} (hrsv : fld pl 4 4 / 32 % 2048 = 0) (hmin : fld pl 4 4 / 65536 ≤ 1440)
include hrsv hmin

theorem setPowerStateBody_active (hstate : fld pl 0 1 = 0) (hquiet : s.power.state = .quiet) :
    setPowerStateBody call pl s = ok (enterPower .active s) := by
  simp [setPowerStateBody, hrsv, Nat.not_lt.2 hmin, hstate, hquiet]

theorem setPowerStateBody_quiet (hstate : fld pl 0 1 = 1) (hactive : s.power.state = .active) (hidle : s.anyEnergised = false) :
    setPowerStateBody call pl s = ok (enterPower .quiet s) := by
  simp [setPowerStateBody, hrsv, Nat.not_lt.2 hmin, hstate, hactive, hidle]

theorem setPowerStateBody_standby (hstate : fld pl 0 1 = 2) (hwake : fld pl 4 4 ≠ 0) (hmay : standbyRefused s = false) :
    setPowerStateBody call pl s = ok (s.modPower fun w =>
      { w with standbyDue := true, wakeMask := fld pl 4 4 % 32, wakeMin := fld pl 4 4 / 65536 }) := by
  simp [setPowerStateBody, hrsv, Nat.not_lt.2 hmin, hstate, hwake, hmay]
end

/-- A power state entered is the only change beside the reports (R433, R448). -/
theorem enterPower_reports (p : PowerState) (s : State) :
    ReportsOnly { s with power := { s.power with state := p, quietExit := false } } (enterPower p s) := by
  unfold enterPower ntfPower notify
  exact notifyFull_reports ..

theorem execQuietExit_quiet {s : State} (hd : outputsDriven s = true) (hquiet : s.power.state = .quiet)
    (hexit : s.power.quietExit = true) : execQuietExit s = .next (enterPower .active s) := by
  simp [execQuietExit, hd, hquiet, hexit]

theorem execStandbyEntry_due {s : State} (hd : outputsDriven s = true) (hdue : s.power.standbyDue = true)
    (hidle : s.anyEnergised = false) : execStandbyEntry s = .next (enterStandby s) := by
  simp [execStandbyEntry, hd, hdue, hidle]

theorem execWakeSource_masked {s : State} {k : Nat} (hstandby : s.power.state = .standby) (hstart : s.power.starting = none)
    (hflush : s.power.flushing = false) (hk : k < 5) (hmask : testBit s.power.wakeMask k = true) :
    execWakeSource k s = .next (s.modPower fun w => { w with starting := some .s, wokenBy := 2 ^ k }) := by
  have hclock : k ≠ 16 := by omega
  simp [execWakeSource, hstandby, hstart, hflush, hclock, hk, hmask]

/-! ### Supply inputs -/

theorem inputShown_lost {mv us : Nat} (hmv : mv < 7500) (hus : 1000 ≤ us) :
    inputShown { mv := mv, us := us } = some false := by
  simp [inputShown, hmv, hus]

theorem inputShown_returned {mv us : Nat} (hmv : 8500 ≤ mv) (hus : 10000 ≤ us) :
    inputShown { mv := mv, us := us } = some true := by
  have hlow : ¬ mv < 7500 := by omega
  simp [inputShown, hlow, hmv, hus]

/-- Input B is lost while input A carries the module, which reports it (R429). -/
theorem changeInput_lostB {s : State} (hd : outputsDriven s = true) (hA : s.cont.vsupAOk = true) (hB : s.cont.vsupBOk = true) :
    changeInput true false s = ntfTakeover 8 0 1 3 0 0 0
      (ntfPower 2 (le 1 1 ++ le 1 0) { s with cont := { s.cont with vsupBOk := false } }) := by
  have hdriven : outputsDriven (setInput true false s) = true := hd
  have hreport : changeInput true false s = ntfTakeover 8 (bit false) (bit true) 3 0 0 0
      (ntfPower 2 (le 1 (bit true) ++ le 1 (bit false)) (setInput true false s)) := by
    simp [changeInput, hA, hB, hdriven]
  exact hreport

/-- Input A returns to a module in BACKUP, whose state the mark keeps: a P begins (R429, R433). -/
theorem changeInput_backupA {s : State} (hvsup : s.power.vsup = false) (hflush : s.power.flushing = false)
    (hbackup : s.power.state = .backup) (hmark : s.power.mark = true) (hA : s.cont.vsupAOk = false) :
    changeInput false true s = { s with
      power := { s.power with vsup := true, starting := some .p }, cont := { s.cont with vsupAOk := true } } := by
  simp [changeInput, vsupReturns, setInput, State.modPower, hvsup, hflush, hbackup, hmark, hA]

theorem execVsupInputChange_shown {inputB present : Bool} {x : InputLevel} (hx : inputShown x = some present) (s : State) :
    execVsupInputChange inputB x s = .next (changeInput inputB present s) := by
  simp only [execVsupInputChange, hx]

/-- Settles O49: each command and row sees the power state, the bays and the inputs as they were when it came. -/
theorem powerStatesChange : Obligations.PowerStatesChange := by
  unfold Obligations.PowerStatesChange
  intro s
  refine ⟨fun h pl ha hmode => ?reset, fun h pl ha hrsv hmin => ⟨fun hstate hquiet => ?active, fun hstate hactive hidle => ?quiet,
      fun hstate hwake hmay => ?standby⟩,
    fun hd hquiet hexit => ⟨_, execQuietExit_quiet hd hquiet hexit, enterPower_reports .active s⟩,
    fun hd hdue hidle => execStandbyEntry_due hd hdue hidle,
    fun k hstandby hstart hflush hk hmask => execWakeSource_masked hstandby hstart hflush hk hmask,
    fun mv us hmv hus _ hd hA hB => ?lost, fun mv us hmv hus hvsup hflush hbackup hmark hA => ?returned⟩
  case reset => exact completes_of_accepted ha rfl (resetBody_begins (call := callOf cmdReset h) (by simpa using hmode))
  case active => exact completes_of_accepted ha rfl (setPowerStateBody_active (call := callOf cmdSetPowerState h) hrsv hmin hstate (by simpa using hquiet))
  case quiet =>
    exact completes_of_accepted ha rfl
      (setPowerStateBody_quiet (call := callOf cmdSetPowerState h) hrsv hmin hstate (by simpa using hactive) (by simpa using hidle))
  case standby =>
    refine completes_of_accepted ha rfl ((setPowerStateBody_standby (call := callOf cmdSetPowerState h) hrsv hmin hstate hwake (by simpa using hmay)).trans ?_)
    rw [State.modPower, begun_power]
  case lost =>
    exact (execVsupInputChange_shown (inputShown_lost hmv hus) s).trans (congrArg _ (changeInput_lostB hd hA hB))
  case returned =>
    exact (execVsupInputChange_shown (inputShown_returned hmv hus) s).trans
      (congrArg _ (changeInput_backupA hvsup hflush hbackup hmark hA))

end Sys2Proof.Machine
end

section
/-! SUPPORT. The family of the whole machine: each row keeps what its own lemma says, so that every step keeps the invariant. -/

namespace Sys2Proof.Machine

open Sys2Proof

/-! ### Every step keeps the invariant -/

/-- A row that is an event has its own lemma. -/
theorem exec_event_keeps {i : Instr} (hr : hostRow i = none) (s : State) : OutKeeps s (exec i s) := by
  cases i with
  | hostPacketDiscarded p crcOnly world op tag => exact execHostPacketDiscarded_keeps p crcOnly world op tag s
  | fragment h op frag mf pl => exact execFragment_keeps h op frag mf pl s
  | reassemblyTimeout p => exact execReassemblyTimeout_keeps p s
  | spiTransaction hostLen aborted => exact execSpiTransaction_keeps hostLen aborted s
  | notificationSend p => exact execNotificationSend_keeps p s
  | worldIdleTimeout p => exact execWorldIdleTimeout_keeps p s
  | openWorldLockoutEnd p w => exact execOpenWorldLockoutEnd_keeps p w s
  | sampleStrobe x => exact execSampleStrobe_keeps x s
  | pulseEnd out => exact execPulseEnd_keeps out s
  | cycleBoundary freqMhz phaseErr => exact execCycleBoundary_keeps freqMhz phaseErr s
  | streamFault stream => exact execStreamFault_keeps stream s
  | streamFaultClear stream => exact execStreamFaultClear_keeps stream s
  | lossOfReference cause => exact execLossOfReference_keeps cause s
  | residualTierTrip bay tier => exact execResidualTierTrip_keeps bay tier s
  | galeTrip bay engineB earlier sample => exact execGaleTrip_keeps bay engineB earlier sample s
  | galeTripRelease bay w => exact execGaleTripRelease_keeps bay w s
  | cpStateChange bay plateauMv negMv => exact execCpStateChange_keeps bay plateauMv negMv s
  | ppChange bay ohms => exact execPpChange_keeps bay ohms s
  | guardChange bay chB closed => exact execGuardChange_keeps bay chB closed s
  | guardDiscrepancy bay => exact execGuardDiscrepancy_keeps bay s
  | lockConfirmed bay => exact execLockConfirmed_keeps bay s
  | lockTimeout bay => exact execLockTimeout_keeps bay s
  | closureDetected bay w => exact execClosureDetected_keeps bay w s
  | releaseDetected bay w => exact execReleaseDetected_keeps bay w s
  | weldCheck bay uoMv => exact execWeldCheck_keeps bay uoMv s
  | weldOpenDetect bay => exact execWeldOpenDetect_keeps bay s
  | dcClosureTimeout bay => exact execDcClosureTimeout_keeps bay s
  | dcOpenCurrentLow bay iDcMa => exact execDcOpenCurrentLow_keeps bay iDcMa s
  | suspendOpenTimeout bay => exact execSuspendOpenTimeout_keeps bay s
  | heartbeat can => exact execHeartbeat_keeps can s
  | converterStatus can node data => exact execConverterStatus_keeps can node data s
  | converterStatusTimeout bay => exact execConverterStatusTimeout_keeps bay s
  | isoMonitor can node data => exact execIsoMonitor_keeps can node data s
  | isoMonitorTimeout bay => exact execIsoMonitorTimeout_keeps bay s
  | capability can node data => exact execCapability_keeps can node data s
  | capabilityTimeout bay => exact execCapabilityTimeout_keeps bay s
  | converterFault can node data => exact execConverterFault_keeps can node data s
  | residualSelftestDone bay core => exact execResidualSelftestDone_keeps bay core s
  | permissionLapse bay => exact execPermissionLapse_keeps bay s
  | slcExcess bay => exact execSlcExcess_keeps bay s
  | sdiExportStop bay => exact execSdiExportStop_keeps bay s
  | lockFeedbackLoss bay => exact execLockFeedbackLoss_keeps bay s
  | doorChange a b => exact execDoorChange_keeps a b s
  | estopChange a b => exact execEstopChange_keeps a b s
  | safetyInputDiscrepancy estop => exact execSafetyInputDiscrepancy_keeps estop s
  | safeOutReadback pair lineB readOk => exact execSafeOutReadback_keeps pair lineB readOk s
  | safetyFrameReceived siteB frame => exact execSafetyFrameReceived_keeps siteB frame s
  | peerConnectionLost peer => exact execPeerConnectionLost_keeps peer s
  | redundancyLost peer => exact execRedundancyLost_keeps peer s
  | feederOverloadTrip group => exact execFeederOverloadTrip_keeps group s
  | feederOverloadBitEnd group => exact execFeederOverloadBitEnd_keeps group s
  | coreLoss core confirmed => exact execCoreLoss_keeps core confirmed s
  | safetyCoreFailure core fault => exact execSafetyCoreFailure_keeps core fault s
  | coreRejoin core passed => exact execCoreRejoin_keeps core passed s
  | meteringValuesMissing bay => exact execMeteringValuesMissing_keeps bay s
  | meTakeover cause durationUs => exact execMeTakeover_keeps cause durationUs s
  | ceTakeover cause durationUs => exact execCeTakeover_keeps cause durationUs s
  | dspShunt cluster cause => exact execDspShunt_keeps cluster cause s
  | bankReplace bank number => exact execBankReplace_keeps bank number s
  | nandBlockFault block partition kind => exact execNandBlockFault_keeps block partition kind s
  | reCoupling unit passed => exact execReCoupling_keeps unit passed s
  | regulatorPhaseLost phase => exact execRegulatorPhaseLost_keeps phase s
  | cutReservationEnd ctx => exact execCutReservationEnd_keeps ctx s
  | timeLimitExpiry ctx => exact execTimeLimitExpiry_keeps ctx s
  | reservationExpiry ctx => exact execReservationExpiry_keeps ctx s
  | hostWaitExpiry ctx => exact execHostWaitExpiry_keeps ctx s
  | pncChainReceived bay chain => exact execPncChainReceived_keeps bay chain s
  | recordSign ctx => exact execRecordSign_keeps ctx s
  | recordSlotFreed seq => exact execRecordSlotFreed_keeps seq s
  | slacParmReq bay sounds => exact execSlacParmReq_keeps bay sounds s
  | slacTimeout bay => exact execSlacTimeout_keeps bay s
  | v2gMessage bay m => exact execV2gMessage_keeps bay m s
  | greenPhyFrame inst samples decoded station => exact execGreenPhyFrame_keeps inst samples decoded station s
  | beacon heard => exact execBeacon_keeps heard s
  | ccoElection lowerSerialSeen => exact execCcoElection_keeps lowerSerialSeen s
  | toneMapRefresh station sounding => exact execToneMapRefresh_keeps station sounding s
  | neighbourLost station => exact execNeighbourLost_keeps station s
  | curtailmentFrame frame => exact execCurtailmentFrame_keeps frame s
  | coordinatorFrame f => exact execCoordinatorFrame_keeps f s
  | siteLimitLapse src => exact execSiteLimitLapse_keeps src s
  | drizzlePing port amp phase => exact execDrizzlePing_keeps port amp phase s
  | pollComplete port => exact execPollComplete_keeps port s
  | cardFound port kind uid => exact execCardFound_keeps port kind uid s
  | cardRelease port => exact execCardRelease_keeps port s
  | tagExternalAuthenticate answer => exact execTagExternalAuthenticate_keeps answer s
  | tagUpdateBinary file offset data => exact execTagUpdateBinary_keeps file offset data s
  | tagReadBinary file offset len => exact execTagReadBinary_keeps file offset len s
  | fieldCollapse cut => exact execFieldCollapse_keeps cut s
  | refreshPass legalFlip outsideFlip => exact execRefreshPass_keeps legalFlip outsideFlip s
  | short x => exact execShort_keeps x s
  | overload x => exact execOverload_keeps x s
  | thermalLatchSet ch tj => exact execThermalLatchSet_keeps ch tj s
  | thermalLatchClear ch tj => exact execThermalLatchClear_keeps ch tj s
  | openLoad ch w => exact execOpenLoad_keeps ch w s
  | retry ch => exact execRetry_keeps ch s
  | retriesRefill ch => exact execRetriesRefill_keeps ch s
  | groupOverload group currents => exact execGroupOverload_keeps group currents s
  | vloadUndervoltage x => exact execVloadUndervoltage_keeps x s
  | vloadRecovery x => exact execVloadRecovery_keeps x s
  | vsupInputChange inputB x => exact execVsupInputChange_keeps inputB x s
  | flushEnd written vbackupPresent => exact execFlushEnd_keeps written vbackupPresent s
  | start m => exact execStart_keeps m s
  | resetN lowUs => exact execResetN_keeps lowUs s
  | vholdLow mv => exact execVholdLow_keeps mv s
  | wakeSource source => exact execWakeSource_keeps source s
  | repeatWindowLapse seq => exact execRepeatWindowLapse_keeps seq s
  | perfWindowEnd counter => exact execPerfWindowEnd_keeps counter s
  | activationComplete kind => exact execActivationComplete_keeps kind s
  | imageConfirmed kind => exact execImageConfirmed_keeps kind s
  | imageFallback kind fault => exact execImageFallback_keeps kind fault s
  | consistImageReceived sender kind image => exact execConsistImageReceived_keeps sender kind image s
  | inrushWindowEnd ch => exact execInrushWindowEnd_keeps ch s
  | lockPulseEnd bay => exact execLockPulseEnd_keeps bay s
  | lockRelease bay => exact execLockRelease_keeps bay s
  | vehicleLinkLost bay => exact execVehicleLinkLost_keeps bay s
  | forwardDelivered serial => exact execForwardDelivered_keeps serial s
  | debugPortAccess a => exact execDebugPortAccess_keeps a s
  | uartBaudFallback => exact execUartBaudFallback_keeps s
  | halfCycleTick => exact execHalfCycleTick_keeps s
  | paramsTakeEffect => exact execParamsTakeEffect_keeps s
  | legalParamTakesEffect => exact execLegalParamTakesEffect_keeps s
  | clockStepTakesEffect => exact execClockStepTakesEffect_keeps s
  | intervalClose => exact execIntervalClose_keeps s
  | subintervalClose => exact execSubintervalClose_keeps s
  | calendarActivation => exact execCalendarActivation_keeps s
  | harmonicBlockEnd => exact execHarmonicBlockEnd_keeps s
  | legalStoreWrite => exact execLegalStoreWrite_keeps s
  | referenceValid => exact execReferenceValid_keeps s
  | acquirePullIn => exact execAcquirePullIn_keeps s
  | lockEntry => exact execLockEntry_keeps s
  | holdoverExpiry => exact execHoldoverExpiry_keeps s
  | timedAction => exact execTimedAction_keeps s
  | aloneLimit => exact execAloneLimit_keeps s
  | controlCheckpoint => exact execControlCheckpoint_keeps s
  | meteringLost => exact execMeteringLost_keeps s
  | moduleWatchdog => exact execModuleWatchdog_keeps s
  | allocatorRecompute => exact execAllocatorRecompute_keeps s
  | allocationTakesEffect => exact execAllocationTakesEffect_keeps s
  | credBatchTimeout => exact execCredBatchTimeout_keeps s
  | credCommitDurable => exact execCredCommitDurable_keeps s
  | coordinatorSend => exact execCoordinatorSend_keeps s
  | coordinatorLost => exact execCoordinatorLost_keeps s
  | tagGetChallenge => exact execTagGetChallenge_keeps s
  | tagPowerUp => exact execTagPowerUp_keeps s
  | mirrorUpdate => exact execMirrorUpdate_keeps s
  | legalRegionRender => exact execLegalRegionRender_keeps s
  | errorPatternEnd => exact execErrorPatternEnd_keeps s
  | scDisplayEnd => exact execScDisplayEnd_keeps s
  | pfail => exact execPfail_keeps s
  | vholdReady => exact execVholdReady_keeps s
  | vbackupLoss => exact execVbackupLoss_keeps s
  | standbyEntry => exact execStandbyEntry_keeps s
  | quietExit => exact execQuietExit_keeps s
  | eventFlush => exact execEventFlush_keeps s
  | updateTransferTimeout => exact execUpdateTransferTimeout_keeps s
  | imageVerified => exact execImageVerified_keeps s
  | forwardRetry => exact execForwardRetry_keeps s
  | selftestStepEnd => exact execSelftestStepEnd_keeps s
  | tagDeselect => exact execTagDeselect_keeps s
  | vcomToggle => exact execVcomToggle_keeps s
  | manufacturedFuse => exact execManufacturedFuse_keeps s
  | _ => cases hr

/-- A row that is a host command is received, and its command is one of the table. -/
theorem exec_keeps (i : Instr) (s : State) : OutKeeps s (exec i s) := by
  cases hr : hostRow i with
  | none => exact exec_event_keeps hr s
  | some r =>
    obtain ⟨c, h, pl⟩ := r
    rw [exec_hostRow hr]
    exact OutKeeps.next_wf (receive_keeps (commandOf_keeps (commandOf_hostRow hr)) h pl s)

/-- The shape of a state is told by its skeleton. -/
theorem State.Shaped.of_skel {s t : State} (hs : s.Shaped) (hk : t.skel = s.skel) : t.Shaped := by
  simp only [State.skel, Prod.mk.injEq, List.cons.injEq, and_true] at hk
  obtain ⟨-, hbays, hctxs, hchans, hkeys, hreaders, hkinds, hpeers⟩ := hk
  simpa only [State.Shaped, hbays, hctxs, hchans, hkeys, hreaders, hkinds, hpeers] using hs

/-- What keeps the skeleton's numbers and the canonical memories keeps the invariant. -/
theorem OutKeeps.inv {s t : State} (hk : OutKeeps s (.next t)) (hs : s.Inv) : t.Inv :=
  ⟨hs.1.of_skel hk.1, hk.2 hs.2⟩

/-- Settles O54: a step is a tick or a row on the queue's rest, whose units and memories are those of the state itself. -/
theorem stepsKeepTheInvariant : Obligations.StepsKeepTheInvariant := by
  unfold Obligations.StepsKeepTheInvariant
  intro s t hs hstep
  cases hp : s.pending with
  | nil =>
    rw [step_nil hp] at hstep
    cases hstep
    exact (OutKeeps.next (tick_keeps s)).inv hs
  | cons i rest =>
    rw [step_cons hp] at hstep
    have hkeeps := exec_keeps i (s.queueing rest)
    rw [hstep] at hkeeps
    exact hkeeps.inv hs

end Sys2Proof.Machine
end

section
/-! SUPPORT. The family of keys and attestation: what each key command answers once its checks are passed. -/

namespace Sys2Proof.Machine

open Sys2Proof

/-! ### Reading the key store -/

theorem keyList_ok {pl : Bytes} (hfirst : fld pl 0 2 ≤ 511) (call : Call) (s : State) : cmdKeyList.body call pl s =
    okWith s (le 2 ((s.keys.drop (fld pl 0 2)).take (min (fld pl 2 2) 4080)).length ++ le 2 0 ++
      ((s.keys.drop (fld pl 0 2)).take (min (fld pl 2 2) 4080)).flatMap slotBytes) :=
  if_neg (Nat.not_lt.2 hfirst)

theorem keyGetPublic_ok {pl : Bytes} {s : State} (hbad : slotBad (fld pl 0 2) = false)
    (hvalid : (s.key (fld pl 0 2)).state = .valid) (hecc : (eccType (s.key (fld pl 0 2)).type).isSome = true) (call : Call) :
    cmdKeyGetPublic.body call pl s = okWith s (le 1 (s.key (fld pl 0 2)).type ++ [0] ++
      le 2 (s.key (fld pl 0 2)).point.length ++ (s.key (fld pl 0 2)).point) := by
  obtain ⟨curve, hcurve⟩ := Option.isSome_iff_exists.1 hecc
  simp [cmdKeyGetPublic, keyGetPublicBody, hbad, hvalid, hcurve]

theorem attest_ok {call : Call} {s : State} (hkey : keyFailure s 7 [1, 2] 2 (.command call.port call.world) = none) (pl : Bytes) :
    cmdAttest.body call pl s = okWith s (hmac (s.key 7).material (pl ++ attestInput s) ++ attestInput s) := by
  simp [cmdAttest, attestBody, hkey]

/-! ### Filling a slot -/

section
variable {call : Call} {pl : Bytes} {s : State} {k : KeySlot} (hbad : slotBad (fld pl 0 2) = false)
  (hmeter : isMeterSlot (fld pl 0 2) = false) (hworlds : ∀ w, fixedWorlds (fld pl 0 2) = some w → k.worlds = w)
  (hempty : (s.key (fld pl 0 2)).state = .empty) (hparent : parentOk s k.parent = true)
include hbad hmeter hworlds hempty

section
include hparent

theorem keyGenerate_ok (hlow : 4 ≤ fld pl 0 2) (hk : attributes (slice pl 4 16) = k) (hok : attributesOk (slice pl 4 16) = true)
    (h5 : k.type ≠ 5) (h6 : k.type ≠ 6) (h8 : k.type ≠ 8) : cmdKeyGenerate.body call pl s =
      ok (fillSlot (fld pl 0 2) k ((List.range (materialLength k.type)).map (Config.random s.draws))
        (pointOf k.type ((List.range (materialLength k.type)).map (Config.random s.draws))) { s with draws := s.draws + 1 }) := by
  have hlow' : ¬ fld pl 0 2 < 4 := Nat.not_lt.2 hlow
  cases hw : fixedWorlds (fld pl 0 2) with
  | none =>
    simp [cmdKeyGenerate, keyGenerateBody, generateInto, State.random, hbad, hlow', hmeter, hk, hok, h5, h6, h8, hw, hempty, hparent]
  | some w =>
    simp [cmdKeyGenerate, keyGenerateBody, generateInto, State.random, hbad, hlow', hmeter, hk, hok, h5, h6, h8, hw, hworlds w hw,
      hempty, hparent]

section
variable (hlow : 4 ≤ fld pl 0 2) (hlegal : fld pl 0 2 ≠ 5) (hk : attributes (slice pl 8 16) = k)
  (hok : attributesOk (slice pl 8 16) = true)
include hlow hlegal hk hok

/-- KEY_IMPORT of a public type comes to the point, which nothing wraps (R339). -/
theorem keyImport_public {curve : Nat} (hecc : eccType k.type = some (curve, true)) (hplain : fld pl 2 2 = 0xFFFF) :
    cmdKeyImport.body call pl s = importKey call (fld pl 0 2) 0xFFFF k (pl.drop 24) s := by
  have hlow' : ¬ fld pl 0 2 < 4 := Nat.not_lt.2 hlow
  cases hw : fixedWorlds (fld pl 0 2) with
  | none => simp [cmdKeyImport, keyImportBody, hbad, hlow', hlegal, hmeter, hk, hok, hw, hecc, hplain, hempty, hparent]
  | some w =>
    simp [cmdKeyImport, keyImportBody, hbad, hlow', hlegal, hmeter, hk, hok, hw, hworlds w hw, hecc, hplain, hempty, hparent]

/-- KEY_IMPORT of another type comes to the key wrapped under a slot that may be named (R339). -/
theorem keyImport_wrapped (hsecret : ∀ curve, eccType k.type ≠ some (curve, true)) (hunwrap : slotBad (fld pl 2 2) = false) :
    cmdKeyImport.body call pl s = importKey call (fld pl 0 2) (fld pl 2 2) k (pl.drop 24) s := by
  have hlow' : ¬ fld pl 0 2 < 4 := Nat.not_lt.2 hlow
  cases hw : fixedWorlds (fld pl 0 2) with
  | none =>
    simp [cmdKeyImport, keyImportBody, hbad, hlow', hlegal, hmeter, hk, hok, hw, hunwrap, hempty, hparent]
  | some w =>
    simp [cmdKeyImport, keyImportBody, hbad, hlow', hlegal, hmeter, hk, hok, hw, hworlds w hw, hunwrap, hempty, hparent]
end
end

theorem keyDerive_ok (hk : attributes (slice pl 4 16) = k) (hok : attributesOk (slice pl 4 16) = true)
    (htype : k.type = 1 ∨ k.type = 2) (hroot : k.parent ≠ 0x3FF) (hvalid : (s.key k.parent).state = .valid)
    (hkey : keyFailure s k.parent [1, 2] 4 (.command call.port call.world) = none) : cmdKeyDerive.body call pl s =
      ok (fillSlot (fld pl 0 2) k (hkdf (s.key k.parent).material (pl.drop 20)) [] s) := by
  have htype' : (k.type == 1 || k.type == 2) = true := by simpa using htype
  cases hw : fixedWorlds (fld pl 0 2) with
  | none => simp [cmdKeyDerive, keyDeriveBody, parentOk, hbad, hmeter, hk, hok, htype', hw, hempty, hroot, hvalid, hkey]
  | some w =>
    simp [cmdKeyDerive, keyDeriveBody, parentOk, hbad, hmeter, hk, hok, htype', hw, hworlds w hw, hempty, hroot, hvalid, hkey]
end

theorem importKey_public {call : Call} {n curve : Nat} {k : KeySlot} {key : Bytes} {s : State}
    (hecc : eccType k.type = some (curve, true)) (hlen : key.length = pointLength curve) (hhead : key.head? = some 4)
    (hcurve : Config.onCurve curve key = true) : importKey call n 0xFFFF k key s = ok (fillSlot n k [] key s) := by
  simp [importKey, hecc, hlen, hhead, hcurve]

theorem importKey_wrapped {call : Call} {n unwrap : Nat} {k : KeySlot} {key m : Bytes} {s : State}
    (hsecret : ∀ curve, eccType k.type ≠ some (curve, true)) (hunwrap : slotBad unwrap = false)
    (hkey : keyFailure s unwrap [1] 5 (.command call.port call.world) = none)
    (hm : Config.aesUnwrap (s.key unwrap).material key = some m) (hlen : m.length = materialLength k.type) :
    importKey call n unwrap k key s = ok (fillSlot n k m (pointOf k.type m) s) := by
  have hnamed : unwrap ≠ 0xFFFF := by
    rintro rfl
    exact absurd hunwrap (by decide)
  simp [importKey, hnamed, hkey, hm, hlen]

/-! ### Invalidation -/

theorem keyInvalidate_ok {pl : Bytes} {s : State} (hlow : 4 ≤ fld pl 0 2) (hlegal : fld pl 0 2 ≠ 5)
    (hbad : slotBad (fld pl 0 2) = false) (hmeter : isMeterSlot (fld pl 0 2) = false)
    (hheld : (s.key (fld pl 0 2)).state ≠ .empty) (call : Call) : cmdKeyInvalidate.body call pl s =
      okWith (invalidateSlot (fld pl 0 2) s).1 (le 2 (invalidateSlot (fld pl 0 2) s).2 ++ le 2 0) := by
  have hlow' : ¬ fld pl 0 2 < 4 := Nat.not_lt.2 hlow
  simp [cmdKeyInvalidate, keyInvalidateBody, hbad, hlow', hlegal, hmeter, hheld]

@[simp] theorem parentOk_begun (c : Command) (h : Hdr) (pl : Bytes) (s : State) (parent : Nat) :
    parentOk (begun c h pl s) parent = parentOk s parent := by simp only [parentOk, begun_key]

/-- Settles O27: the slots and keys that a key command's own rules see are those of the state in which it came. -/
theorem keysManaged : Obligations.KeysManaged := by
  unfold Obligations.KeysManaged
  intro h pl s
  refine ⟨fun ha hfirst => ?list, fun ha hbad hvalid hecc => ?point,
    fun k ha hlow hbad hmeter hk hok h5 h6 h8 hworlds hempty hparent => ?generate,
    fun k curve ha hlow hlegal hbad hmeter hk hok hworlds hempty hparent hecc hplain hlen hhead hcurve => ?importPoint,
    fun k m ha hlow hlegal hbad hmeter hk hok hworlds hempty hparent hsecret hunwrap hkey hm hlen => ?importWrapped,
    fun k ha hbad hmeter hk hok htype hworlds hempty hroot hvalid hkey => ?derive,
    fun ha hlow hlegal hbad hmeter hheld => ?invalidate, fun ha hkey => ?attest⟩
  case list => exact completes_of_accepted ha rfl ((keyList_ok hfirst _ _).trans (by rw [begun_keys]))
  case point =>
    exact completes_of_accepted ha rfl
      ((keyGetPublic_ok hbad (by simpa using hvalid) (by simpa using hecc) _).trans (by simp only [begun_key]))
  case generate =>
    refine completes_of_accepted ha rfl
      ((keyGenerate_ok hbad hmeter hworlds (by simpa using hempty) (by simpa using hparent) hlow hk hok h5 h6 h8).trans ?_)
    simp only [begun_draws]
  case importPoint =>
    exact completes_of_accepted ha rfl
      ((keyImport_public hbad hmeter hworlds (by simpa using hempty) (by simpa using hparent) hlow hlegal hk hok hecc hplain).trans
        (importKey_public hecc hlen hhead hcurve))
  case importWrapped =>
    exact completes_of_accepted ha rfl
      ((keyImport_wrapped hbad hmeter hworlds (by simpa using hempty) (by simpa using hparent) hlow hlegal hk hok hsecret
        hunwrap).trans (importKey_wrapped hsecret hunwrap (by simpa using hkey) (by simpa using hm) hlen))
  case derive =>
    refine completes_of_accepted ha rfl ((keyDerive_ok hbad hmeter hworlds (by simpa using hempty) hk hok htype hroot
      (by simpa using hvalid) (by simpa using hkey)).trans ?_)
    rw [begun_key]
  case invalidate => exact completes_of_accepted ha rfl (keyInvalidate_ok hlow hlegal hbad hmeter (by simpa using hheld) _)
  case attest =>
    exact completes_of_accepted ha rfl ((attest_ok (call := callOf cmdAttest h) (by simpa using hkey) pl).trans (by rw [begun_key]))

end Sys2Proof.Machine
end

section
/-! SUPPORT. The family of firmware images: transfers and their verification, activation and trial, and the update consist. -/

namespace Sys2Proof.Machine

open Sys2Proof

/-! ### What an accepted image command reads -/

section
variable (c : Command) (h : Hdr) (pl : Bytes) (s : State)

@[simp] theorem stagedOfKind_begun (k : ImageKind) : stagedOfKind (begun c h pl s) k = stagedOfKind s k := by
  simp only [stagedOfKind, begun_images]
@[simp] theorem imageRecord_begun : imageRecord (begun c h pl s) = imageRecord s :=
  begun_reads (f := imageRecord) (fun _ _ _ _ _ => rfl) c h pl s
@[simp] theorem candidateImage_begun (k : ImageKind) : candidateImage (begun c h pl s) k = candidateImage s k := by
  simp only [candidateImage, begun_image, begun_images]
@[simp] theorem otherKindBusy_begun (k : ImageKind) : otherKindBusy (begun c h pl s) k = otherKindBusy s k := by
  simp only [otherKindBusy, begun_images]
@[simp] theorem releasesFit_begun (k : ImageKind) (m : ImageMeta) : releasesFit (begun c h pl s) k m = releasesFit s k m := by
  simp only [releasesFit, begun_images]
@[simp] theorem kindRefusal_begun (k : ImageKind) : kindRefusal (begun c h pl s) k = kindRefusal s k :=
  begun_reads (f := (kindRefusal · k)) (fun _ _ _ _ _ => rfl) c h pl s
@[simp] theorem successor_begun : successor (begun c h pl s) = successor s :=
  begun_reads (f := successor) (fun _ _ _ _ _ => rfl) c h pl s
end

/-! ### Transfers -/

theorem updateBegin_opens {call : Call} {pl : Bytes} {s : State} {k : ImageKind} (hkind : ImageKind.ofCode (fld pl 0 1) = some k)
    (hmax : fld pl 4 4 ≤ 33554432) (hregion : fld pl 4 4 ≤ imageRegion k) (hnone : s.images.transfer = none)
    (hstaged : s.images.staged = none) : cmdUpdateBegin.body call pl s = ok { s with images := { s.images with
      transfer := some { port := some call.port, world := call.world, kind := k, size := fld pl 4 4, data := [],
                         deadline := s.time.osc + 600000000 } } } := by
  simp [cmdUpdateBegin, updateBeginBody, State.modImages, State.after, hkind, Nat.not_lt.2 hmax, Nat.not_lt.2 hregion, hnone,
    hstaged]

theorem ownTransfer_some {call : Call} {s : State} {t : Transfer} (ht : s.images.transfer = some t) (hport : t.port = some call.port)
    (hworld : t.world = call.world) (hv : t.verifying = false) : ownTransfer call s = some t := by
  simp [ownTransfer, ht, hport, hworld, hv]

theorem updateData_appends {call : Call} {pl : Bytes} {s : State} {t : Transfer} (ht : ownTransfer call s = some t)
    (hat : fld pl 0 4 = t.data.length) (hsize : t.data.length + (pl.drop 4).length ≤ t.size) :
    cmdUpdateData.body call pl s = ok { s with images := { s.images with
      transfer := some { t with data := t.data ++ pl.drop 4, deadline := s.time.osc + 600000000 } } } := by
  simp only [cmdUpdateData, updateDataBody, ht, hat, bne_self_eq_false, Bool.false_eq_true, if_false, if_neg (Nat.not_lt.2 hsize)]
  rfl

theorem updateEnd_verifies {call : Call} {s : State} {t : Transfer} (ht : ownTransfer call s = some t) (pl : Bytes) :
    cmdUpdateEnd.body call pl s = pending { s with images := { s.images with
      transfer := some { t with verifying := true, cmd := some call.ref } } } := by
  simp [cmdUpdateEnd, updateEndBody, State.modImages, ht]

theorem execUpdateTransferTimeout_due {s : State} {t : Transfer} (ht : s.images.transfer = some t) (hv : t.verifying = false)
    (hdue : t.deadline ≤ s.time.osc) :
    execUpdateTransferTimeout s = .next { s with images := { s.images with transfer := none } } := by
  simp [execUpdateTransferTimeout, State.due, State.modImages, ht, hv, hdue]

/-! ### Verification -/

section
variable {s : State} {t : Transfer} (ht : s.images.transfer = some t) (hv : t.verifying = true)
include ht hv

theorem execImageVerified_host (hsender : t.sender = none) : execImageVerified s = .next (ntfUpdate t.kind 0
    (verifyImage s t.kind t.size t.data) (imageMeta t.data).release [] t.cmd
      (if verifyImage s t.kind t.size t.data = stOk
        then stageImage t.kind t.data ((askImageKeys s t.kind t.size t.data).modImages fun i => { i with transfer := none })
        else (askImageKeys s t.kind t.size t.data).modImages fun i => { i with transfer := none })) := by
  simp only [execImageVerified, ht, hv, hsender, Bool.not_true, Bool.false_eq_true, if_false, beq_iff_eq]

section
variable (hsender : t.sender.isSome = true)
include hsender

theorem execImageVerified_refused (hbad : verifyImage s t.kind t.size t.data ≠ stOk) : execImageVerified s =
    .next ((askImageKeys s t.kind t.size t.data).modImages fun i => { i with transfer := none }) := by
  obtain ⟨sender, hsome⟩ := Option.isSome_iff_exists.1 hsender
  simp only [execImageVerified, ht, hv, hsome, Bool.not_true, Bool.false_eq_true, if_false, bne_iff_ne, ne_eq, hbad,
    not_false_eq_true, if_true]

/-- A verified image that came from a sender goes on to the module's own successor (R365). -/
theorem execImageVerified_consist (hok : verifyImage s t.kind t.size t.data = stOk) {taken : State}
    (htaken : ntfUpdate t.kind 5 stOk (imageMeta t.data).release [] none (stageImage t.kind t.data
      ((askImageKeys s t.kind t.size t.data).modImages fun i => { i with transfer := none })) = taken) :
    execImageVerified s = .next (match successor taken with
      | some k => if taken.images.forward = none then startForward t.kind k none taken else taken
      | none => taken) := by
  obtain ⟨sender, hsome⟩ := Option.isSome_iff_exists.1 hsender
  simp only [execImageVerified, ht, hv, hsome, hok, htaken, Bool.not_true, Bool.false_eq_true, if_false, bne_self_eq_false,
    Option.isNone_iff_eq_none] <;>
    rfl
end
end

/-! ### Abort -/

section
variable {call : Call} {pl : Bytes} {s : State} {k : ImageKind} (hkind : ImageKind.ofCode (fld pl 0 1) = some k)
include hkind

theorem updateAbort_trial (htrial : (s.image k).state = .trial) :
    cmdUpdateAbort.body call pl s = ok (s.modImage k fun i => { i with aborted := true }) := by
  simp [cmdUpdateAbort, updateAbortBody, hkind, htrial]

theorem updateAbort_staged (hidle : (s.image k).state = .idle) (hnone : s.images.transfer = none) (hstaged : stagedOfKind s k = true) :
    cmdUpdateAbort.body call pl s = ok { s with images := { s.images with staged := none } } := by
  simp [cmdUpdateAbort, updateAbortBody, State.modImages, hkind, hidle, hnone, hstaged]

theorem updateAbort_transfer {t : Transfer} (hidle : (s.image k).state = .idle) (ht : s.images.transfer = some t)
    (hk : t.kind = k) (hcmd : t.cmd = none) :
    cmdUpdateAbort.body call pl s = ok { s with images := { s.images with transfer := none } } := by
  have hown : s.images.transfer.filter (fun t => t.kind == k) = some t := by simp [ht, Option.filter, hk]
  simp [cmdUpdateAbort, updateAbortBody, dropTransfer, State.modImages, hkind, hidle, hown, hcmd]
end

/-- Settles O36: the transfer, the staged image and the slots that an image command's own rules see are those of the state in which
it came; a verification goes by its status and by who has sent the image. -/
theorem imagesTransferred : Obligations.ImagesTransferred := by
  unfold Obligations.ImagesTransferred
  intro h pl s
  have hown (c : Command) {t : Transfer} (ht : s.images.transfer = some t) (hport : t.port = some h.port) (hworld : t.world = h.world)
      (hv : t.verifying = false) : ownTransfer (callOf c h) (begun c h pl s) = some t :=
    ownTransfer_some (by simpa using ht) hport hworld hv
  refine ⟨fun k ha hkind hmax hregion hnone hstaged => ?begins, fun t ha ht hport hworld hv hat hsize => ?data,
    fun t ha ht hport hworld hv => ?ends, fun t ht hv hdue => execUpdateTransferTimeout_due ht hv hdue,
    fun t ht hv hsender => execImageVerified_host ht hv hsender,
    fun t ht hv hsender hbad => execImageVerified_refused ht hv hsender hbad,
    fun t ht hv hsender hok => execImageVerified_consist ht hv hsender hok rfl, fun ha => ?status,
    fun k ha hkind => ⟨fun htrial => ?trial, fun hidle hnone hstaged => ?staged, fun t hidle ht hk hcmd => ?transfer⟩⟩
  case begins =>
    refine completes_of_accepted ha rfl
      ((updateBegin_opens hkind hmax hregion (by simpa using hnone) (by simpa using hstaged)).trans ?_)
    simp only [begun_images, begun_time, callOf_port, callOf_world]
  case data =>
    refine completes_of_accepted ha rfl ((updateData_appends (hown _ ht hport hworld hv) hat hsize).trans ?_)
    simp only [begun_images, begun_time]
  case ends =>
    refine completes_of_accepted ha rfl ((updateEnd_verifies (hown _ ht hport hworld hv) pl).trans ?_)
    simp only [begun_images]
  case status => exact completes_of_accepted ha rfl (by simp only [cmdUpdateStatus, imageRecord_begun])
  case trial => exact completes_of_accepted ha rfl (updateAbort_trial hkind (by simpa using htrial))
  case staged =>
    refine completes_of_accepted ha rfl
      ((updateAbort_staged hkind (by simpa using hidle) (by simpa using hnone) (by simpa using hstaged)).trans ?_)
    simp only [begun_images]
  case transfer =>
    refine completes_of_accepted ha rfl ((updateAbort_transfer hkind (by simpa using hidle) (by simpa using ht) hk hcmd).trans ?_)
    simp only [begun_images]

/-! ### Activation -/

section
variable {call : Call} {pl : Bytes} {s : State} {k : ImageKind} {m : ImageMeta} (hkind : ImageKind.ofCode (fld pl 0 1) = some k)
  (hm : candidateImage s k = some m) (hnew : (s.image k).state ≠ .activating) (hfree : otherKindBusy s k = false)
  (hfits : releasesFit s k m = true) (hmay : kindRefusal s k = none)
include hkind hm hnew hfree hfits hmay

theorem updateActivate_other (hk : k ≠ .app) : cmdUpdateActivate.body call pl s = pending (s.modImage k fun x => { x with
    state := .activating, cmd := some call.ref, fromStaged := stagedOfKind s k, trialEnd := none }) := by
  simp [cmdUpdateActivate, updateActivateBody, hkind, hm, hnew, hfree, hfits, hmay, hk]

/-- A hitless activation begins with the brake van (R360). -/
theorem updateActivate_app (hk : k = .app) (hfmt : m.stateFmt = (s.image k).active.stateFmt) :
    cmdUpdateActivate.body call pl s = pending (isolateVan (s.modImage k fun x => { x with
      state := .activating, cmd := some call.ref, fromStaged := stagedOfKind s k, trialEnd := none })) := by
  subst hk
  simp [cmdUpdateActivate, updateActivateBody, hkind, hm, hnew, hfree, hfits, hmay, hfmt]
end

/-- What a kind's activation waits for is over (R359, R360). -/
theorem activationWaits_over {s : State} {k : ImageKind} {m : ImageMeta} (hm : activatedImage s k = some m)
    (happ : k = .app → m.stateFmt = (s.image k).active.stateFmt ∧ 8 ≤ s.cont.ceFollowed ∧ plannedDue s = true)
    (hother : k ≠ .app → kindRefusal s k = none) : activationWaits s k = false := by
  by_cases hk : k = .app
  · obtain ⟨hfmt, hfollowed, hdue⟩ := happ hk
    subst hk
    simp [activationWaits, hm, hfmt, hfollowed, hdue]
  · have hmay := hother hk
    cases k with
    | app => exact absurd rfl hk
    | _ => simp [activationWaits, hmay]

section
variable {s : State} {k : ImageKind} {m : ImageMeta} (hc : controlRuns s = true) (hact : (s.image k).state = .activating)
  (hrestart : (s.image k).byRestart = false) (hm : activatedImage s k = some m)
include hc hact hrestart hm

theorem execActivationComplete_trial
    (happ : k = .app → m.stateFmt = (s.image k).active.stateFmt ∧ 8 ≤ s.cont.ceFollowed ∧ plannedDue s = true)
    (hother : k ≠ .app → kindRefusal s k = none) :
    execActivationComplete k s = .next (enterTrial k (runProcedure k .ready (switchBank k m s))) := by
  have hfmt : (k == .app && m.stateFmt != (s.image k).active.stateFmt) = false := by
    by_cases hk : k = .app
    · simp [(happ hk).1]
    · simp [hk]
  simp only [execActivationComplete, completeActivation, hc, hact, hrestart, hm, hfmt, activationWaits_over hm happ hother,
    Bool.not_true, bne_self_eq_false, Bool.or_self, Bool.false_eq_true, if_false]

theorem execActivationComplete_restart (hk : k = .app) (hfmt : m.stateFmt ≠ (s.image k).active.stateFmt)
    (hidle : s.anyEnergised = false) : execActivationComplete k s = .next (beginReset false
      ((switchBank k m s).modImage k fun x => { x with byRestart := true, cmd := none })) := by
  subst hk
  simp [execActivationComplete, completeActivation, activationWaits, hc, hact, hrestart, hm, hfmt, hidle]
end

/-! ### Confirmation and fallback -/

section
variable {s : State} {k : ImageKind} (hc : controlRuns s = true) (htrial : (s.image k).state = .trial)
  (hping : (s.image k).pinged = true) (hstruck : (s.image k).struck = false) (habort : (s.image k).aborted = false)
  (hopen : s.dueOpt (s.image k).trialEnd = false)
include hc htrial hping hstruck habort hopen

theorem execImageConfirmed_other (hk : k ≠ .app) : execImageConfirmed k s =
    .next (ntfUpdate k 2 stOk (s.image k).active.release [] none
      (s.modImage k fun x => { x with state := .idle, trialEnd := none, floor := max x.floor x.active.secVer })) := by
  simp [execImageConfirmed, hc, htrial, hping, hstruck, habort, hopen, hk]

/-- The pair with the old image reloads the new one (R361). -/
theorem execImageConfirmed_app (hk : k = .app) (hvan : s.cont.ceVan = .ready) : execImageConfirmed k s =
    .next (ntfUpdate k 2 stOk (s.image k).active.release [] none
      ((s.modImage k fun x => { x with state := .idle, trialEnd := none, floor := max x.floor x.active.secVer }).modCont fun c =>
        { c with ceVan := .recoupling, ceFollowed := 0 })) := by
  subst hk
  simp [execImageConfirmed, hc, htrial, hping, hstruck, habort, hopen, hvan]
end

theorem execImageFallback_caused {s : State} {k : ImageKind} {fault : Bool} {cause : Nat} (hc : controlRuns s = true)
    (hcause : fallbackCause s k fault = some cause) (hmay : kindRefusal s k = none) :
    execImageFallback k fault s = .next (ntfFallback k cause (runProcedure k .recoupling (returnBank k s))) := by
  simp [execImageFallback, hc, hcause, hmay]

/-- Settles O37: a kind other than APP goes by its procedure's condition, APP by the brake van and by the format of its state. -/
theorem imagesActivated : Obligations.ImagesActivated := by
  unfold Obligations.ImagesActivated
  intro s
  refine ⟨fun h pl k m ha hkind hm hnew hfree hfits hk hmay => ?other,
    fun h pl m ha hcode hm hnew hfree hfits hfmt hvan => ?app,
    fun k m hc hact hrestart hm happ hother => execActivationComplete_trial hc hact hrestart hm happ hother,
    fun m hc hact hrestart hm hfmt hidle => execActivationComplete_restart hc hact hrestart hm rfl hfmt hidle,
    fun k hc htrial hping hstruck habort hopen hk => execImageConfirmed_other hc htrial hping hstruck habort hopen hk,
    fun hc htrial hping hstruck habort hopen hvan => execImageConfirmed_app hc htrial hping hstruck habort hopen rfl hvan,
    fun k fault cause hc hcause hmay => execImageFallback_caused hc hcause hmay⟩
  case other =>
    refine completes_of_accepted ha rfl ((updateActivate_other hkind (by simpa using hm) (by simpa using hnew)
      (by simpa using hfree) (by simpa using hfits) (by simpa using hmay) hk).trans ?_)
    rw [stagedOfKind_begun]
  case app =>
    have hkind : ImageKind.ofCode (fld pl 0 1) = some .app := by rw [hcode]; rfl
    have hmay : kindRefusal s .app = none := by simp [kindRefusal, hvan]
    refine completes_of_accepted ha rfl ((updateActivate_app hkind (by simpa using hm) (by simpa using hnew)
      (by simpa using hfree) (by simpa using hfits) (by simpa using hmay) rfl (by simpa using hfmt)).trans ?_)
    rw [stagedOfKind_begun]

/-! ### The update consist -/

theorem consistConfigure_sets {pl : Bytes} (hlow : 1 ≤ fld pl 0 1) (hhigh : fld pl 0 1 ≤ 64) (call : Call) (s : State) :
    cmdConsistConfigure.body call pl s = ok { s with images := { s.images with
      consist := (List.range (fld pl 0 1)).map fun k => fld pl (4 + 8 * k) 8 } } := by
  simp [cmdConsistConfigure, State.modImages, Nat.ne_of_gt hlow, Nat.not_lt.2 hhigh]

theorem updateForward_starts {call : Call} {pl : Bytes} {s : State} {k : ImageKind} {t : Nat}
    (hkind : ImageKind.ofCode (fld pl 0 1) = some k) (hnext : successor s = some t) (hstaged : stagedOfKind s k = true)
    (hnone : s.images.forward = none) : cmdUpdateForward.body call pl s = pending { s with images := { s.images with
      forward := some { kind := k, target := t, started := s.time.osc, lastTry := s.time.osc, cmd := some call.ref } } } := by
  simp [cmdUpdateForward, updateForwardBody, startForward, State.modImages, hkind, hnext, hstaged, hnone]

section
variable {s : State} {f : Forward} (hf : s.images.forward = some f)
include hf

theorem execForwardDelivered_first {serial : Nat} (hserial : s.images.consist[f.target]? = some serial)
    (hlink : siteCarries s = true) : execForwardDelivered serial s = .next (ntfUpdate f.kind 4 stOk (stagedRelease s) (le 8 serial)
      f.cmd (countSite 0x11 (siteLinks s) { s with images := { s.images with forward := none } })) := by
  simp only [execForwardDelivered, hf, hserial, hlink, bne_self_eq_false, Bool.not_true, Bool.or_self, Bool.false_eq_true, if_false]
  rfl

theorem execForwardRetry_again (hearly : s.time.osc < f.started + 120000000) (hdue : f.lastTry + 30000000 ≤ s.time.osc) :
    execForwardRetry s = .next { s with images := { s.images with forward := some { f with lastTry := s.time.osc } } } := by
  simp only [execForwardRetry, hf, Nat.not_le.2 hearly, hdue, if_false, if_true]
  rfl

theorem execForwardRetry_skips (hlate : f.started + 120000000 ≤ s.time.osc) (hmore : f.target + 1 < s.images.consist.length) :
    execForwardRetry s = .next (startForward f.kind (f.target + 1) f.cmd
      (ntfUpdate f.kind 4 errState (stagedRelease s) (le 8 (s.images.consist.getD f.target 0)) none s)) := by
  simp only [execForwardRetry, hf, hlate, hmore, if_true]
end

theorem execConsistImageReceived_taken {s : State} {k : ImageKind} {d : Bytes} (sender : Nat) (hc : controlRuns s = true)
    (hlink : siteCarries s = true) (hrole : siteRole s ≠ 0) (hkey : (siteKey s 3).isSome = true) (hnone : s.images.transfer = none)
    (hstaged : s.images.staged = none) (hsize : d.length ≤ imageRegion k) : execConsistImageReceived sender k d s =
      .next (countSite 0x10 (siteLinks s) { s with images := { s.images with
        transfer := some { port := none, world := 0, kind := k, size := d.length, data := d, deadline := s.time.osc + 600000000,
                           verifying := true, sender := some sender } } }) := by
  have hkey' : (siteKey s 3).isNone = false := by simpa [Option.isNone_eq_false_iff] using hkey
  simp [execConsistImageReceived, State.modImages, State.after, hc, hlink, hrole, hkey', hnone, hstaged, Nat.not_lt.2 hsize]

/-- Settles O38: the consist and the staged image that an image command's own rules see are those of the state in which it came; a
forward under way goes by its own two times. -/
theorem imagesForwarded : Obligations.ImagesForwarded := by
  unfold Obligations.ImagesForwarded
  intro s
  refine ⟨fun h pl ha hlow hhigh => ?consist, fun h pl k t ha hkind hnext hstaged hnone => ?forward,
    fun f serial hf hserial hlink => execForwardDelivered_first hf hserial hlink,
    fun f hf hearly hdue => execForwardRetry_again hf hearly hdue, fun f hf hlate hmore => execForwardRetry_skips hf hlate hmore,
    fun sender k d hc hlink hrole hkey hnone hstaged hsize =>
      execConsistImageReceived_taken sender hc hlink hrole hkey hnone hstaged hsize⟩
  case consist => exact completes_of_accepted ha rfl ((consistConfigure_sets hlow hhigh _ _).trans (by simp only [begun_images]))
  case forward =>
    refine completes_of_accepted ha rfl ((updateForward_starts hkind (by simpa using hnext) (by simpa using hstaged)
      (by simpa using hnone)).trans ?_)
    simp only [begun_images, begun_time]

end Sys2Proof.Machine
end

section
/-! SUPPORT. The family of recorder and counters: event records read and flushed, counters configured and read. -/

namespace Sys2Proof.Machine

open Sys2Proof

/-! ### Event records -/

section
variable (c : Command) (h : Hdr) (pl : Bytes) (s : State)

@[simp] theorem heldRecords_begun : heldRecords (begun c h pl s) = heldRecords s := by simp only [heldRecords, begun_recorder]
@[simp] theorem newestSeq_begun : newestSeq (begun c h pl s) = newestSeq s := by
  simp only [newestSeq, begun_recorder, heldRecords_begun]
@[simp] theorem oldestAge_begun : oldestAge (begun c h pl s) = oldestAge s := by
  simp only [oldestAge, newestSeq_begun, heldRecords_begun]
@[simp] theorem oldestSeq_begun : oldestSeq (begun c h pl s) = oldestSeq s := by
  simp only [oldestSeq, newestSeq_begun, heldRecords_begun]
end

theorem eventsRead_ok {pl : Bytes} {s : State} {head : Nat} (hhead : newestSeq s = head) (hroom : 0 < fld pl 4 2)
    (hnext : fld pl 0 4 ≠ nextSeq head) (hheld : heldRecords s ≠ []) (hfirst : fld pl 0 4 ≠ 0)
    (hage : seqAge head (fld pl 0 4) ≤ oldestAge s) {l : List EventRec} (hl : takeWhole (min (fld pl 4 2) 65334)
      (inSeqOrder head ((heldRecords s).filter fun r => seqAge head r.seq ≤ seqAge head (fld pl 0 4))) = l) (call : Call) :
    cmdEventsRead.body call pl s = okWith s (le 4 head ++ le 2 l.length ++ le 2 0 ++ l.flatMap recordBytes) := by
  have hroom' : min (fld pl 4 2) 65334 ≠ 0 := by omega
  simp [cmdEventsRead, eventsReadBody, hhead, hroom', hnext, hheld, hfirst, Nat.not_lt.2 hage, hl]

theorem eventsFilter_sets {pl : Bytes} {s : State} (hclasses : bits (num pl) 0 16 &&& 0x1D = 0x1D) (hlow : bits (num pl) 18 14 = 0)
    (hhigh : bits (num pl) 48 16 = 0) (hmin : 100 ≤ bits (num pl) 32 16) (hmax : bits (num pl) 32 16 ≤ 60000) (call : Call) :
    cmdEventsFilter.body call pl s = ok { s with recorder := { s.recorder with
      classMask := bits (num pl) 0 16, minSev := bits (num pl) 16 2, repeatMs := bits (num pl) 32 16 } } := by
  simp [cmdEventsFilter, eventsFilterBody, hclasses, hlow, hhigh, Nat.not_lt.2 hmin, Nat.not_lt.2 hmax]

theorem execRepeatWindowLapse_eq (seq : Nat) (s : State) : execRepeatWindowLapse seq s = .next { s with recorder := { s.recorder with
    buffer := s.recorder.buffer.map fun r =>
      if r.seq = seq ∧ r.lastAt + 1000 * s.recorder.repeatMs ≤ s.time.osc then { r with final := true } else r } } := by
  simp only [execRepeatWindowLapse, Bool.and_eq_true, beq_iff_eq, decide_eq_true_eq]

section
variable {s : State} (hd : outputsDriven s = true)
include hd

theorem execEventFlush_all (hall : s.recorder.flushAll = true) : execEventFlush s = .next (flushAllRecords s) := by
  simp [execEventFlush, hd, hall]

theorem execEventFlush_finals (hall : s.recorder.flushAll = false) (hroom : recBytes s.recorder.buffer < 196608)
    (hdue : s.recorder.lastFlush + 60000000 ≤ s.time.osc) : execEventFlush s =
      .next (flushRecords (·.final) { s with recorder := { s.recorder with lastFlush := s.time.osc } }) := by
  simp [execEventFlush, hd, hall, Nat.not_le.2 hroom, hdue]
end

/-- Settles O41: the records that a command's own rules see are those held when it came; a flush goes by what asks for it. -/
theorem eventRecordsAnswered : Obligations.EventRecordsAnswered := by
  unfold Obligations.EventRecordsAnswered
  intro h pl s
  refine ⟨fun head ha hhead hroom hnext hheld hfirst hage => ?read, fun ha => ?info,
    fun ha hclasses hlow hhigh hmin hmax => ?filter, fun seq => execRepeatWindowLapse_eq seq s,
    fun hd hall => execEventFlush_all hd hall, fun hd hall hroom hdue => execEventFlush_finals hd hall hroom hdue⟩
  case read =>
    exact completes_of_accepted ha rfl (eventsRead_ok (by simpa using hhead) hroom hnext (by simpa using hheld) hfirst
      (by simpa using hage) (by rw [heldRecords_begun]) _)
  case info =>
    exact completes_of_accepted ha rfl (by simp only [cmdEventsInfo, oldestSeq_begun, newestSeq_begun, begun_recorder])
  case filter =>
    exact completes_of_accepted ha rfl ((eventsFilter_sets hclasses hlow hhigh hmin hmax _).trans (by simp only [begun_recorder]))

/-! ### Counters -/

/-- Receiving a packet counts its bytes, and changes no more of the counters. -/
theorem begun_perf (c : Command) (h : Hdr) (pl : Bytes) (s : State) :
    (begun c h pl s).perf = (count 0x10 h.port.code (16 + pl.length) s).perf := by
  obtain ⟨port, world, tag, version, flags⟩ := h
  unfold begun touchWorld
  split <;> cases port <;> rfl

@[simp] theorem begun_hostRead (c : Command) (h : Hdr) (pl : Bytes) (s : State) :
    (begun c h pl s).perf.hostRead = s.perf.hostRead := by rw [begun_perf]; rfl

/-- Counting leaves every chain as it is set. -/
theorem count_chain (ev inst n k : Nat) (s : State) :
    ((count ev inst n s).perf.counters.getD k {}).chain = (s.perf.counters.getD k {}).chain := by
  simp only [count, modCounters, List.getD_eq_getElem?_getD, List.getElem?_mapIdx]
  cases s.perf.counters[k]? with
  | none => rfl
  | some x =>
    simp only [Option.map_some, Option.getD_some]
    split
    · split <;> rfl
    · rfl

@[simp] theorem chainHigh_begun (c : Command) (h : Hdr) (pl : Bytes) (s : State) (k : Nat) :
    chainHigh (begun c h pl s).perf.counters k = chainHigh s.perf.counters k := by
  simp only [chainHigh, begun_perf, count_chain]

theorem perfConfigure_sets {pl : Bytes} {s : State} {x : Counter} (hk : fld pl 0 1 ≤ 63)
    (hx : counterOf (fld pl 0 1) (pl.drop 2) s.time.osc = some x) (hlow : chainHigh s.perf.counters (fld pl 0 1) = false) (call : Call) :
    cmdPerfConfigure.body call pl s = ok { s with perf := { s.perf with counters := setAt s.perf.counters (fld pl 0 1) x } } := by
  simp [cmdPerfConfigure, perfConfigureBody, State.modPerf, Nat.not_lt.2 hk, hx, hlow]

theorem perfRead_ok {call : Call} {pl : Bytes} {s : State} (hrange : fld pl 0 1 + fld pl 1 1 ≤ 64)
    (hmay : call.world = 1 ∨ (s.perf.hostRead = true ∧ testRuns s = false ∧ recovering s = false)) :
    cmdPerfRead.body call pl s = okWith s ((List.range (fld pl 1 1)).flatMap fun k => counterBytes s (fld pl 0 1 + k)) := by
  have hserved : (call.world != 1 && (!s.perf.hostRead || testRuns s || recovering s)) = false := by
    rcases hmay with hworld | ⟨hread, htest, hrec⟩
    · simp [hworld]
    · simp [hread, htest, hrec]
  simp only [cmdPerfRead, perfReadBody, hserved, Bool.false_eq_true, if_false, if_neg (Nat.not_lt.2 hrange)]

theorem perfAccess_sets {pl : Bytes} (hv : fld pl 0 1 ≤ 1) (call : Call) (s : State) : cmdPerfAccess.body call pl s =
    ok { s with perf := { s.perf with hostRead := fld pl 0 1 == 1 } } :=
  if_neg (Nat.not_lt.2 hv)

theorem execPerfWindowEnd_due {s : State} {k : Nat} {c : Counter} (hk : k < 64) (hc : s.perf.counters.getD k {} = c)
    (he : c.enable = true) (hmode : 2 ≤ c.mode) (hdue : c.windowEnd ≤ s.time.osc) (hlow : chainHigh s.perf.counters k = false) :
    execPerfWindowEnd k s = .next { s with perf := { s.perf with counters := setAt s.perf.counters k { c with
      value := if c.mode = 2 then c.part % c.limit else max c.value (c.part % c.limit),
      part := 0, windowEnd := c.windowEnd + c.windowUs } } } := by
  simp only [execPerfWindowEnd, atUnit_of_lt hk, hc, he, hlow, State.due, hdue, Nat.not_lt.2 hmode, Bool.not_true, decide_true,
    decide_false, Bool.or_self, Bool.false_eq_true, if_false, beq_iff_eq, State.modPerf]

/-- Settles O42: a counter command's own rules see the chains and the host's access as they were when it came. -/
theorem countersRun : Obligations.CountersRun := by
  unfold Obligations.CountersRun
  intro s
  refine ⟨fun h pl c ha hk hc hlow => ?configure, fun h pl ha hrange hmay => ?read, fun h pl ha hv => ?access,
    fun k c hk hc he hmode hdue hlow => execPerfWindowEnd_due hk hc he hmode hdue hlow⟩
  case configure =>
    exact completes_of_accepted ha rfl (perfConfigure_sets hk (by simpa using hc) (by simpa using hlow) _)
  case read =>
    have htest : testRuns (begun cmdPerfRead h pl s) = testRuns s :=
      begun_reads (f := testRuns) (fun _ _ _ _ _ => rfl) _ _ _ _
    have hrec : recovering (begun cmdPerfRead h pl s) = recovering s :=
      begun_reads (f := recovering) (fun _ _ _ _ _ => rfl) _ _ _ _
    exact completes_of_accepted ha rfl (perfRead_ok hrange (by simpa only [callOf_world, begun_hostRead, htest, hrec] using hmay))
  case access => exact completes_of_accepted ha rfl (perfAccess_sets hv _ _)

end Sys2Proof.Machine
end

section
/-! SUPPORT. The family of load channels: switching on command and by group, protective offs and their restarts, and what an unlock
restores. -/

namespace Sys2Proof.Machine

open Sys2Proof

/-! ### What an accepted command on a load channel reads -/

section
variable (c : Command) (h : Hdr) (pl : Bytes) (s : State)

@[simp] theorem holder_begun (k : Nat) : (begun c h pl s).holder k = s.holder k :=
  begun_reads (f := (State.holder · k)) (fun _ _ _ _ _ => rfl) c h pl s
@[simp] theorem chanType_begun (k : Nat) : chanType (begun c h pl s) k = chanType s k :=
  begun_reads (f := (chanType · k)) (fun _ _ _ _ _ => rfl) c h pl s
@[simp] theorem chanRetries_begun (k : Nat) : chanRetries (begun c h pl s) k = chanRetries s k :=
  begun_reads (f := (chanRetries · k)) (fun _ _ _ _ _ => rfl) c h pl s
end

@[simp] theorem chans_length_modChan (s : State) (k : Nat) (f : Chan → Chan) : (s.modChan k f).chans.length = s.chans.length :=
  List.length_modify ..

theorem withChan_of_lt {pl : Bytes} {k : Nat} (hpl : fld pl 0 1 = k) (hk : k < 112) (s : State) (f : Nat → Ans) :
    withChan pl s f = f k := by
  simp only [withChan, hpl, hk, if_true]

/-! ### Commands -/

section
variable {call : Call} {pl : Bytes} {s : State} {k : Nat} (hpl : fld pl 0 1 = k) (hk : k < 112)
include hpl hk

theorem lswConfigure_stages : cmdLswConfigure.body call pl s = stageObject call (0x0200 + k) (pl.drop 4) s :=
  withChan_of_lt hpl hk s fun k => stageObject call (0x0200 + k) (pl.drop 4) s

section
variable {p : ExecPoint} (hp : execPoint (pl.drop 8) = some p) (hfree : s.holder k = none)
include hp hfree

theorem lswSet_off (hoff : fld pl 1 1 = 0) (hnow : p.at_ = false) : cmdLswSet.body call pl s = ok (commandOff k s) := by
  simp [cmdLswSet, lswSetBody, withChan_of_lt hpl hk, hp, hfree, hoff, hnow]

theorem lswSet_on (hon : fld pl 1 1 = 1) (hnow : p.at_ = false) (htype : chanType s k ≠ 0) (hclamp : (s.chan k).clampLock = false)
    (hlock : (s.chan k).lockedOut = false) : cmdLswSet.body call pl s = ok (hostOn k s) := by
  simp [cmdLswSet, lswSetBody, withChan_of_lt hpl hk, hp, hfree, hon, hnow, htype, hclamp, hlock]

theorem lswSet_offAt (hoff : fld pl 1 1 = 0) (hat : p.at_ = true) (hpoint : pointRefusal s k p.cycle p.cycle p.angle false = none) :
    cmdLswSet.body call pl s = pending (enqueue { chan := k, bay := none, kind := .lsw false, cycle := p.cycle, angle := p.angle,
                                                  cmd := some call.ref } s) := by
  simp [cmdLswSet, lswSetBody, withChan_of_lt hpl hk, hp, hfree, hoff, hat, hpoint]
end

theorem lswUnlock_eq : cmdLswUnlock.body call pl s = lswUnlockBody k s :=
  withChan_of_lt hpl hk s fun k => lswUnlockBody k s
end

/-- A channel with its locks cleared and fresh retries (R393). -/
def unlocked (k retries : Nat) (s : State) : State := s.modChan k fun c =>
  { c with clampLock := false, lockedOut := false, retries := retries, offs := 0, backoffTo := 0, retryWait := false }

theorem lswUnlockBody_locked {k : Nat} {s : State} (hlocked : (s.chan k).clampLock = true ∨ (s.chan k).lockedOut = true) :
    lswUnlockBody k s = ok (restartCommanded k (unlocked k (chanRetries s k) s)) := by
  have hlocked' : (!(s.chan k).clampLock && !(s.chan k).lockedOut) = false := by
    rcases hlocked with hlocked | hlocked <;> simp [hlocked]
  simp only [lswUnlockBody, hlocked', Bool.false_eq_true, if_false, unlocked]

theorem lswUnlockBody_free {k : Nat} {s : State} (hclamp : (s.chan k).clampLock = false) (hlock : (s.chan k).lockedOut = false) :
    lswUnlockBody k s = refuse s errState := by
  simp [lswUnlockBody, hclamp, hlock]

theorem lswGet_ok {pl : Bytes} (hrange : fld pl 0 1 + fld pl 1 1 ≤ 112) (call : Call) (s : State) : cmdLswGet.body call pl s =
    okWith { s with draws := s.draws + 1 } ((List.range (fld pl 1 1)).flatMap fun k => chanStatus s (fld pl 0 1 + k)) :=
  if_neg (Nat.not_lt.2 hrange)

/-! ### Groups -/

theorem atLiveGroup_driven {g : Nat} {s : State} (hg : g < 14) (hd : outputsDriven s = true) (f : State → State) :
    atLiveGroup g s f = .next (f s) := by
  simp [atLiveGroup, atUnit_of_lt hg, hd]

section
variable {s : State} {g : Nat} (hg : g < 14) (hd : outputsDriven s = true)
include hg hd

theorem execVloadUndervoltage_low {mv : Nat} (us : Nat) (hmv : mv < 7000) (hnew : (s.groups.getD g {}).undervolt = false) :
    execVloadUndervoltage { group := g, mv := mv, us := us } s = .next ((groupChans g).foldl (fun a k => loseSupply k a)
      (ntfLsw (8 * g) 12 (setUndervolt g true s))) := by
  simp only [execVloadUndervoltage, atLiveGroup_driven hg hd, Nat.not_le.2 hmv, hnew, decide_false, Bool.or_self,
    Bool.false_eq_true, if_false]

theorem execVloadRecovery_back {mv us : Nat} (hmv : 8000 < mv) (hus : 10000 ≤ us) (hlow : (s.groups.getD g {}).undervolt = true) :
    execVloadRecovery { group := g, mv := mv, us := us } s = .next ((groupChans g).foldl (fun a k => restartCommanded k a)
      (setUndervolt g false s)) := by
  simp only [execVloadRecovery, atLiveGroup_driven hg hd, Nat.not_le.2 hmv, Nat.not_lt.2 hus, hlow, decide_false, Bool.not_true,
    Bool.or_self, Bool.false_eq_true, if_false]

theorem execGroupOverload_over {l : List Nat} (hover : groupBudget s g < 2 * ((groupChans g).map (chanCurrent s l)).sum) :
    execGroupOverload g l s = .next (shedLoop g l 8 (ntfLsw (8 * g) 10 s)) := by
  simp only [execGroupOverload, atLiveGroup_driven hg hd, Nat.not_le.2 hover, if_false]
end

/-- Settles O43: the channel, its holder and the queue's room that a command's own rules see are those of the state in which it
came; a group's row goes by its supply and its budget. -/
theorem loadsSwitchOnCommand : Obligations.LoadsSwitchOnCommand := by
  unfold Obligations.LoadsSwitchOnCommand
  intro s
  refine ⟨?configure, fun h pl p k ha hpl hk hp hfree =>
      ⟨fun hoff hnow => ?off, fun hon hnow htype hclamp hlock => ?on, fun hoff hat hpoint => ?offAt⟩,
    fun h pl ha hrange => ?get, fun h pl k ha hpl hk hlocked => ?unlock,
    fun g hg hd => ⟨fun mv us hmv hnew => execVloadUndervoltage_low hg hd us hmv hnew,
      fun mv us hmv hus hlow => execVloadRecovery_back hg hd hmv hus hlow, fun l hover => execGroupOverload_over hg hd hover⟩⟩
  case configure =>
    rintro h pl l id ha hk rfl hl hw hsize hok hroom
    refine completes_of_accepted ha rfl ((lswConfigure_stages rfl hk).trans ?_)
    exact stageWrite_ok hl hw (by rw [stageBase_begun, callOf_port]) (by simpa using hsize) (by simpa using hok) (stage_begun_staged hroom)
  case off => exact completes_of_accepted ha rfl (lswSet_off hpl hk hp (by simpa using hfree) hoff hnow)
  case on =>
    exact completes_of_accepted ha rfl (lswSet_on hpl hk hp (by simpa using hfree) hon hnow (by simpa using htype)
      (by simpa using hclamp) (by simpa using hlock))
  case offAt =>
    exact completes_of_accepted ha rfl (lswSet_offAt hpl hk hp (by simpa using hfree) hoff hat (by simpa using hpoint))
  case get =>
    exact completes_of_accepted ha rfl ((lswGet_ok hrange _ _).trans (by simp only [begun_draws, chanStatus_begun]))
  case unlock =>
    refine completes_of_accepted ha rfl
      (((lswUnlock_eq hpl hk).trans (lswUnlockBody_locked (by simpa using hlocked))).trans ?_)
    rw [chanRetries_begun, unlocked]

/-! ### Protection -/

section
variable {s : State} {k : Nat} (hk : k < 112) (hd : outputsDriven s = true)
include hk hd

theorem atLiveChan_driven (f : State → State) : atLiveChan k s f = .next (f s) := by
  simp [atLiveChan, atChan, atUnit_of_lt hk, hd]

theorem execShort_shown {x : ShortSample} (hx : x.ch = k) (hon : (s.chan k).out = true) (hshort : shorted s x = true) :
    execShort x s = .next (protectiveOff k 1 (fun c => { c with short := true }) s) := by
  subst hx
  simp only [execShort, atLiveChan_driven hk hd, hon, hshort, Bool.and_self, if_true]

theorem execOverload_shown {charge : Nat} (hon : (s.chan k).out = true) (hbehind : (s.chan k).inrush = false)
    (hover : 11 * chanLimit s k * 1000000 < 10 * charge) :
    execOverload { ch := k, charge := charge } s = .next (protectiveOff k 2 (fun c => { c with overload := true }) s) := by
  simp only [execOverload, atLiveChan_driven hk hd, hon, hbehind, overloaded, hover, Bool.not_false, decide_true, Bool.and_self,
    if_true]

theorem execThermalLatchSet_hot {tj : Nat} (htj : 170 ≤ tj) (hnew : (s.chan k).thermal = false) : execThermalLatchSet k tj s =
    .next (if (s.chan k).out then protectiveOff k 5 (fun c => { c with thermal := true }) s
      else ntfLsw k 5 (s.modChan k fun c => { c with thermal := true })) := by
  simp only [execThermalLatchSet, atLiveChan_driven hk hd, Nat.not_lt.2 htj, hnew, decide_false, Bool.or_self, Bool.false_eq_true,
    if_false]

theorem execThermalLatchClear_cool {tj : Nat} (htj : tj ≤ 150) (hset : (s.chan k).thermal = true) : execThermalLatchClear k tj s =
    .next (restartCommanded k (ntfLsw k 11 (s.modChan k fun c => { c with thermal := false }))) := by
  simp only [execThermalLatchClear, atLiveChan_driven hk hd, Nat.not_lt.2 htj, hset, decide_false, Bool.not_true, Bool.or_self,
    Bool.false_eq_true, if_false]

theorem execOpenLoad_changes {w : LoadWindow} {set : Bool} (hshown : openLoadShown s k w = some set)
    (hnew : (s.chan k).openLoad = !set) : execOpenLoad k w s =
      .next (ntfLsw k (if set then 3 else 4) (s.modChan k fun c => { c with openLoad := set })) := by
  have hdiff : ((s.chan k).openLoad == set) = false := by rw [hnew]; cases set <;> rfl
  simp only [execOpenLoad, atLiveChan_driven hk hd, hshown, hdiff, Bool.false_eq_true, if_false]

theorem execRetry_restarts (hwait : (s.chan k).retryWait = true) (hcmd : (s.chan k).cmd = true) (hoff : (s.chan k).out = false)
    (hleft : 0 < retriesLeft s k) (hdue : (s.chan k).backoffTo ≤ s.time.osc) (hmay : mayConduct s k = true) :
    execRetry k s = .next (ntfLsw k 6 (switchOn k (s.modChan k fun c => { c with retries := c.retries - 1 }))) := by
  have hleft' : (retriesLeft s k == 0) = false := by simpa using Nat.ne_of_gt hleft
  simp only [execRetry, atLiveChan_driven hk hd, hwait, hcmd, hoff, hleft', State.due, hdue, hmay, Bool.not_true, decide_true,
    Bool.or_self, Bool.false_eq_true, if_false]

theorem execRetriesRefill_due (hon : (s.chan k).out = true) (hdue : (s.chan k).onAt + 60000000 ≤ s.time.osc) :
    execRetriesRefill k s = .next (s.modChan k fun c => { c with retries := chanRetries s k, offs := 0 }) := by
  simp only [execRetriesRefill, atLiveChan_driven hk hd, hon, hdue, decide_true, Bool.and_self, if_true]

theorem execInrushWindowEnd_due (hon : (s.chan k).out = true) (hin : (s.chan k).inrush = true)
    (hdue : (s.chan k).windowTo ≤ s.time.osc) : execInrushWindowEnd k s = .next (s.modChan k fun c => { c with
      inrush := false, hold := chanType s k == 4 || chanType s k == 5 }) := by
  simp only [execInrushWindowEnd, atLiveChan_driven hk hd, hon, hin, State.due, hdue, Bool.not_true, decide_true, Bool.or_self,
    Bool.false_eq_true, if_false]
end

/-- A sample shows a short by its current, on which side of the inrush window it lies, or by Vds (R388). -/
theorem shorted_of {s : State} {k ma vds : Nat}
    (hx : ((s.chan k).inrush = true ∧ inrushHalves (chanType s k) (chanLimit s k) < 2 * ma) ∨
      ((s.chan k).inrush = false ∧ 2 * chanLimit s k < ma) ∨ ((s.chan k).onAt + 10 ≤ s.time.osc ∧ 3000 < vds)) :
    shorted s { ch := k, ma := ma, vds := vds } = true := by
  rcases hx with ⟨hin, hma⟩ | ⟨hin, hma⟩ | ⟨hon, hvds⟩
  · simp [shorted, hin, hma]
  · simp [shorted, hin, hma]
  · simp [shorted, hon, hvds]

section
variable {s : State} {k vload : Nat} {l : List Nat} (htype : chanType s k ≠ 0) (hl : l ≠ [])
include htype hl

theorem openLoadShown_open (hopen : ((s.chan k).out = true ∧ ∀ v ∈ l, v < s.chanField k 32 16) ∨
    ((s.chan k).out = false ∧ s.chanField k 7 1 = 1 ∧ ∀ v ∈ l, vload < 2 * v)) :
    openLoadShown s k { values := l, vload := vload } = some true := by
  rcases hopen with ⟨hon, hall⟩ | ⟨hoff, hol, hall⟩
  · simpa [openLoadShown, htype, hl, hon] using hall
  · simpa [openLoadShown, htype, hl, hoff, hol] using hall

theorem openLoadShown_loaded (hon : (s.chan k).out = true) (hall : ∀ v ∈ l, s.chanField k 32 16 < v) :
    openLoadShown s k { values := l, vload := vload } = some false := by
  obtain ⟨v, hv⟩ := List.exists_mem_of_ne_nil l hl
  have hnot : ¬ ∀ v ∈ l, v < s.chanField k 32 16 := fun hlow => (hall v hv).not_gt (hlow v hv)
  simpa [openLoadShown, htype, hl, hon, if_neg hnot] using hall
end

/-- Settles O44: what each row's sample or time shows is what it acts on. -/
theorem loadsProtectThemselves : Obligations.LoadsProtectThemselves := by
  unfold Obligations.LoadsProtectThemselves
  intro s k hk hd
  exact ⟨fun ma vds hon hx => execShort_shown hk hd rfl hon (shorted_of hx),
    fun charge hon hbehind hover => execOverload_shown hk hd hon hbehind hover,
    fun tj htj hnew => execThermalLatchSet_hot hk hd htj hnew, fun tj htj hset => execThermalLatchClear_cool hk hd htj hset,
    fun l vload htype hl hnew hopen => execOpenLoad_changes hk hd (openLoadShown_open htype hl hopen) hnew,
    fun l vload htype hl hset hon hall => execOpenLoad_changes hk hd (openLoadShown_loaded htype hl hon hall) hset,
    fun hwait hcmd hoff hleft hdue hmay => execRetry_restarts hk hd hwait hcmd hoff hleft hdue hmay,
    fun hon hdue => execRetriesRefill_due hk hd hon hdue, fun hon hin hdue => execInrushWindowEnd_due hk hd hon hin hdue⟩

/-! ### An unlock restores its channel -/

/-- Whether a channel may conduct goes neither by host traffic nor by what the other channels do. -/
theorem mayConduct_congr {s t : State} {k : Nat}
    (ht : t = { s with spi := t.spi, uart := t.uart, uartRate := t.uartRate, perf := t.perf, recorder := t.recorder,
                       cont := t.cont, chans := t.chans })
    (hthermal : (t.chan k).thermal = (s.chan k).thermal) (hclamp : (t.chan k).clampLock = (s.chan k).clampLock)
    (hlock : (t.chan k).lockedOut = (s.chan k).lockedOut) : mayConduct t k = mayConduct s k := by
  simp only [mayConduct, hthermal, hclamp, hlock]
  rw [ht]
  rfl

theorem mayConduct_thermal {s : State} {k : Nat} (ht : (s.chan k).thermal = true) : mayConduct s k = false := by
  simp [mayConduct, ht]

theorem mayConduct_driven {s : State} {k : Nat} (hmay : mayConduct s k = true) : outputsDriven s = true := by
  simp only [mayConduct, Bool.and_eq_true] at hmay
  obtain ⟨⟨⟨⟨⟨⟨hd, -⟩, -⟩, -⟩, -⟩, -⟩, -⟩ := hmay
  exact hd

/-- A restart switches its channel on or changes nothing. -/
theorem restartCommanded_cases (k : Nat) (s : State) : restartCommanded k s = s ∨ restartCommanded k s = switchOn k s := by
  unfold restartCommanded
  dsimp only
  split
  · exact .inr rfl
  · exact .inl rfl

theorem restartCommanded_barred {s : State} {k : Nat} (hmay : mayConduct s k = false) : restartCommanded k s = s := by
  simp [restartCommanded, hmay]

/-- A restart switches on what is commanded on, not shed, and may conduct. -/
theorem restartCommanded_out {s : State} {k : Nat} (hk : k < s.chans.length) (hcmd : (s.chan k).cmd = true)
    (hwait : (s.chan k).retryWait = false) (hshed : (s.chan k).shed = false) (hmay : mayConduct s k = true) :
    ((restartCommanded k s).chan k).out = true := by
  cases hout : (s.chan k).out with
  | true => simp [restartCommanded, hout]
  | false => simp [restartCommanded, switchOn, hcmd, hwait, hshed, hmay, hout, hk]

/-- A restart leaves the latches and the retries of its channel alone. -/
theorem restartCommanded_latches {s : State} {k : Nat} (hk : k < s.chans.length) :
    ((restartCommanded k s).chan k).clampLock = (s.chan k).clampLock ∧
      ((restartCommanded k s).chan k).lockedOut = (s.chan k).lockedOut ∧
      ((restartCommanded k s).chan k).retries = (s.chan k).retries ∧
      ((restartCommanded k s).chan k).thermal = (s.chan k).thermal := by
  rcases restartCommanded_cases k s with e | e
  · simp [e]
  · simp [e, switchOn, hk]

theorem restartCommanded_ne {s : State} {j k : Nat} (hj : j ≠ k) : (restartCommanded k s).chan j = s.chan j := by
  rcases restartCommanded_cases k s with e | e
  · rw [e]
  · rw [e, switchOn, State.chan_modChan_ne _ _ (Ne.symm hj)]

/-- What an unlock leaves of its channel until the reply goes out. -/
theorem chan_unlocked {s : State} {k : Nat} (hk : k < s.chans.length) (r : Nat) : (unlocked k r s).chan k =
    { s.chan k with clampLock := false, lockedOut := false, retries := r, offs := 0, backoffTo := 0, retryWait := false } :=
  State.chan_modChan _ _ _ hk

/-- An unlocked channel may conduct where it may once no latch holds it, unless its thermal latch is set. -/
theorem mayConduct_unlocked {s : State} {k : Nat} (hk : k < s.chans.length) (r : Nat) (hthermal : (s.chan k).thermal = false) :
    mayConduct (unlocked k r s) k =
      mayConduct (s.modChan k fun c => { c with clampLock := false, lockedOut := false, thermal := false }) k :=
  mayConduct_congr rfl (by rw [chan_unlocked hk, State.chan_modChan _ _ _ hk, hthermal])
    (by rw [chan_unlocked hk, State.chan_modChan _ _ _ hk]) (by rw [chan_unlocked hk, State.chan_modChan _ _ _ hk])

theorem ntfLsw_reports (k event : Nat) (s : State) : ReportsOnly s (ntfLsw k event s) := by
  unfold ntfLsw ntfLswFull
  exact notifyFull_reports ..

/-- A cooled channel that nothing else holds off switches on (R393). -/
theorem execThermalLatchClear_out {s : State} {k tj : Nat} (hk : k < 112) (hlen : k < s.chans.length) (hd : outputsDriven s = true)
    (htj : tj ≤ 150) (hset : (s.chan k).thermal = true) (hcmd : (s.chan k).cmd = true) (hwait : (s.chan k).retryWait = false)
    (hshed : (s.chan k).shed = false) (hmay : mayConduct (s.modChan k fun c => { c with thermal := false }) k = true) :
    ∃ u, execThermalLatchClear k tj s = .next u ∧ (u.chan k).out = true := by
  refine ⟨_, execThermalLatchClear_cool hk hd htj hset, ?_⟩
  obtain ⟨x, hx⟩ : ∃ x, s.modChan k (fun c => { c with thermal := false }) = x := ⟨_, rfl⟩
  have hreports : ReportsOnly x (ntfLsw k 11 x) := ntfLsw_reports ..
  have hchan : (ntfLsw k 11 x).chan k = { s.chan k with thermal := false } := by
    rw [hreports, ← hx]
    exact State.chan_modChan _ _ _ hlen
  rw [hx]
  rw [hx] at hmay
  refine restartCommanded_out ?_ (by rw [hchan]; exact hcmd) (by rw [hchan]; exact hwait) (by rw [hchan]; exact hshed) ?_
  · rw [hreports, ← hx]
    simpa using hlen
  · rw [← hmay]
    exact mayConduct_congr (by rw [hreports]) (by rw [hreports]; rfl) (by rw [hreports]; rfl) (by rw [hreports]; rfl)

theorem chan_completed (c : Command) (h : Hdr) (pl : Bytes) (s : State) (a : Ans) (k : Nat) :
    (completed c h pl s a).chan k = a.state.chan k := by
  rw [completed_traffic c h pl s a]
  rfl

/-- The state that LSW_UNLOCK of a channel leaves before its reply. -/
def afterUnlock (k : Nat) (u : State) : State := restartCommanded k (unlocked k (chanRetries u k) u)

section
variable {u : State} {k : Nat} (hk : k < u.chans.length)
include hk

/-- With the latch clear an unlock switches on what is commanded on. -/
theorem afterUnlock_out (hcmd : (u.chan k).cmd = true) (hshed : (u.chan k).shed = false) (hthermal : (u.chan k).thermal = false)
    (hmay : mayConduct (u.modChan k fun c => { c with clampLock := false, lockedOut := false, thermal := false }) k = true) :
    ((afterUnlock k u).chan k).out = true := by
  refine restartCommanded_out (by simpa [unlocked] using hk) ?_ ?_ ?_ ((mayConduct_unlocked hk _ hthermal).trans hmay) <;>
    simp [chan_unlocked hk, hcmd, hshed]

/-- With the latch set an unlock clears the locks alone. -/
theorem afterUnlock_hot (hthermal : (u.chan k).thermal = true) : afterUnlock k u = unlocked k (chanRetries u k) u :=
  restartCommanded_barred (mayConduct_thermal (by rw [chan_unlocked hk]; exact hthermal))

theorem afterUnlock_latches : ((afterUnlock k u).chan k).clampLock = false ∧ ((afterUnlock k u).chan k).lockedOut = false ∧
    ((afterUnlock k u).chan k).retries = chanRetries u k ∧ ((afterUnlock k u).chan k).thermal = (u.chan k).thermal := by
  obtain ⟨hclamp, hlock, hretries, hthermal⟩ := restartCommanded_latches (s := unlocked k (chanRetries u k) u) (k := k)
    (by simpa [unlocked] using hk)
  rw [chan_unlocked hk] at hclamp hlock hretries hthermal
  exact ⟨hclamp, hlock, hretries, hthermal⟩
end

theorem afterUnlock_ne {u : State} {j k : Nat} (hj : j ≠ k) : (afterUnlock k u).chan j = u.chan j :=
  (restartCommanded_ne hj).trans (State.chan_modChan_ne _ _ hj.symm)

/-- Settles O60: an unlock clears the locks of its channel and restarts it, which a set thermal latch bars until it has cooled. -/
theorem unlockRestoresTheChannel : Obligations.UnlockRestoresTheChannel := by
  unfold Obligations.UnlockRestoresTheChannel
  intro s h pl k ha hpl hk hlen
  refine ⟨fun hlocked => ?restores, fun hclamp hlock => ?refused⟩
  case refused =>
    exact completes_of_accepted ha rfl
      ((lswUnlock_eq hpl hk).trans (lswUnlockBody_free (by simpa using hclamp) (by simpa using hlock)))
  case restores =>
    obtain ⟨u, hu⟩ : ∃ u, begun cmdLswUnlock h pl s = u := ⟨_, rfl⟩
    have hchan (j : Nat) : u.chan j = s.chan j := by rw [← hu, begun_chan]
    have hku : k < u.chans.length := by rw [← hu, begun_chans, hlen]; exact hk
    have hretries : chanRetries u k = chanRetries s k := by rw [← hu, chanRetries_begun]
    have hmayu (f : Chan → Chan) : mayConduct (u.modChan k f) k = mayConduct (s.modChan k f) k := by
      rw [← hu]
      exact begun_reads (f := fun s => mayConduct (s.modChan k f) k) (fun _ _ _ _ _ => rfl) _ _ _ _
    have hbody : cmdLswUnlock.body (callOf cmdLswUnlock h) pl u = ok (afterUnlock k u) :=
      (lswUnlock_eq hpl hk).trans (lswUnlockBody_locked (by simpa only [hchan] using hlocked))
    obtain ⟨t, ht⟩ : ∃ t, completed cmdLswUnlock h pl s (ok (afterUnlock k u)) = t := ⟨_, rfl⟩
    have hexec : exec (.lswUnlock h pl) s = .next t := by
      rw [← ht, ← hbody, ← hu]
      exact completes_of_accepted (a := fun u => cmdLswUnlock.body (callOf cmdLswUnlock h) pl u) ha rfl rfl
    have htraffic : TrafficOnly (afterUnlock k u) t := ht ▸ completed_traffic ..
    have htchan (j : Nat) : t.chan j = (afterUnlock k u).chan j := ht ▸ chan_completed ..
    obtain ⟨hclamp, hlock, hfull, hthermal⟩ := afterUnlock_latches hku
    refine ⟨t, hexec, by rw [htchan]; exact hclamp, by rw [htchan]; exact hlock, by rw [htchan, hfull, hretries],
      by rw [htchan, hthermal, hchan], fun hhot => ?same, fun hcmd hshed hmay => ⟨fun hcool => ?on, fun hhot tj htj => ?later⟩,
      fun j hj => by rw [htchan, afterUnlock_ne hj, hchan]⟩
    case same => rw [htchan, afterUnlock_hot hku (by rw [hchan]; exact hhot), chan_unlocked hku, hchan]
    case on =>
      rw [htchan]
      exact afterUnlock_out hku (by rw [hchan]; exact hcmd) (by rw [hchan]; exact hshed) (by rw [hchan]; exact hcool)
        ((hmayu _).trans hmay)
    case later =>
      have hafter : afterUnlock k u = unlocked k (chanRetries u k) u := afterUnlock_hot hku (by rw [hchan]; exact hhot)
      have htk : t.chan k = _ := (htchan k).trans ((congrArg (·.chan k) hafter).trans (chan_unlocked hku _))
      rw [hchan] at htk
      have htlen : k < t.chans.length := by
        rw [htraffic, hafter]
        simpa [unlocked] using hku
      have hmayt : mayConduct (t.modChan k fun c => { c with thermal := false }) k = true := by
        rw [← hmay, ← hmayu]
        refine mayConduct_congr ?_ ?_ ?_ ?_
        · rw [htraffic, hafter]; rfl
        all_goals rw [State.chan_modChan _ _ _ htlen, State.chan_modChan _ _ _ hku, htk]
      have hdriven : outputsDriven (t.modChan k _) = true := mayConduct_driven hmayt
      exact execThermalLatchClear_out hk htlen hdriven htj (by rw [htk]; exact hhot) (by rw [htk]; exact hcmd)
        (by rw [htk]) (by rw [htk]; exact hshed) hmayt

end Sys2Proof.Machine
end

section
/-! SUPPORT. The family of legal display and tag: what the display's commands and rows draw, what the host reads and writes of the
tag, and that both stores change only where they are written. -/

namespace Sys2Proof.Machine

open Sys2Proof

/-! ### Commands of the display -/

section
variable (c : Command) (h : Hdr) (pl : Bytes) (s : State)

@[simp] theorem bitsPerPixel_begun : bitsPerPixel (begun c h pl s) = bitsPerPixel s :=
  begun_reads (f := bitsPerPixel) (fun _ _ _ _ _ => rfl) c h pl s
@[simp] theorem panelWidth_begun : panelWidth (begun c h pl s) = panelWidth s :=
  begun_reads (f := panelWidth) (fun _ _ _ _ _ => rfl) c h pl s
@[simp] theorem legalTop_begun : legalTop (begun c h pl s) = legalTop s :=
  begun_reads (f := legalTop) (fun _ _ _ _ _ => rfl) c h pl s
@[simp] theorem drawRect_begun (x y w ht : Nat) (data : Bytes) (m : List Host.Cell) :
    drawRect (begun c h pl s) x y w ht data m = drawRect s x y w ht data m :=
  begun_reads (f := (drawRect · x y w ht data m)) (fun _ _ _ _ _ => rfl) c h pl s
@[simp] theorem blinkOf_begun (b : Bytes) : blinkOf (begun c h pl s) b = blinkOf s b :=
  begun_reads (f := (blinkOf · b)) (fun _ _ _ _ _ => rfl) c h pl s
@[simp] theorem expectedCrc_begun : expectedCrc (begun c h pl s) = expectedCrc s :=
  begun_reads (f := expectedCrc) (fun _ _ _ _ _ => rfl) c h pl s
end

theorem dispWrite_draws {pl : Bytes} {s : State}
    (hlen : (pl.drop 8).length = fld pl 6 2 * ((fld pl 4 2 * bitsPerPixel s + 7) / 8))
    (hwidth : fld pl 0 2 + fld pl 4 2 ≤ panelWidth s) (htop : fld pl 2 2 + fld pl 6 2 ≤ legalTop s)
    (himage : s.power.failedKinds.getD 4 false = false) (call : Call) :
    cmdDispWrite.body call pl s = ok { s with disp := { s.disp with
      frame := drawRect s (fld pl 0 2) (fld pl 2 2) (fld pl 4 2) (fld pl 6 2) (pl.drop 8) s.disp.frame } } := by
  have hheight : ¬ panelHeight s < fld pl 2 2 + fld pl 6 2 := by
    have : legalTop s ≤ panelHeight s := Nat.sub_le ..
    omega
  simp only [cmdDispWrite, dispWriteBody, hlen, bne_self_eq_false, Nat.not_lt.2 hwidth, hheight, Nat.not_lt.2 htop, himage,
    decide_false, Bool.or_self, Bool.false_eq_true, if_false, State.modDisp]

/-- The panel and its frame that DISP_WRITE's own rules see are those of the state in which it came. -/
theorem dispWrite_completes {h : Hdr} {pl : Bytes} {s : State} (ha : Accepted cmdDispWrite h pl s)
    (hlen : (pl.drop 8).length = fld pl 6 2 * ((fld pl 4 2 * bitsPerPixel s + 7) / 8))
    (hwidth : fld pl 0 2 + fld pl 4 2 ≤ panelWidth s) (htop : fld pl 2 2 + fld pl 6 2 ≤ legalTop s)
    (himage : s.power.failedKinds.getD 4 false = false) :
    Completes (.dispWrite h pl) cmdDispWrite h pl s fun u => ok { u with disp := { s.disp with
      frame := drawRect s (fld pl 0 2) (fld pl 2 2) (fld pl 4 2) (fld pl 6 2) (pl.drop 8) s.disp.frame } } := by
  refine completes_of_accepted ha rfl
    ((dispWrite_draws (by simpa using hlen) (by simpa using hwidth) (by simpa using htop) (by simpa using himage) _).trans ?_)
  simp only [begun_disp, drawRect_begun]

theorem dispBlink_sets {pl : Bytes} (hn : fld pl 0 1 ≤ 8)
    (hentries : ∀ k < fld pl 0 1, 5 ≤ fld (slice pl (4 + 12 * k) 12) 8 2 ∧ fld (slice pl (4 + 12 * k) 12) 8 2 ≤ 40 ∧
      zeroAt (slice pl (4 + 12 * k) 12) 10 2 = true) (call : Call) (s : State) :
    cmdDispBlink.body call pl s = ok { s with disp := { s.disp with
      blinks := (List.range (fld pl 0 1)).map fun k => blinkOf s (slice pl (4 + 12 * k) 12) } } := by
  have hgood : (((List.range (fld pl 0 1)).map fun k => slice pl (4 + 12 * k) 12).any fun b =>
      Decidable.decide (fld b 8 2 < 5) || Decidable.decide (40 < fld b 8 2) || !zeroAt b 10 2) = false := by
    simp only [List.any_map, List.any_eq_false, List.mem_range, Function.comp_apply, Bool.or_eq_true, decide_eq_true_eq,
      Bool.not_eq_true', not_or]
    intro k hk
    obtain ⟨hlow, hhigh, hzero⟩ := hentries k hk
    exact ⟨⟨Nat.not_lt.2 hlow, Nat.not_lt.2 hhigh⟩, by simp [hzero]⟩
  simp only [cmdDispBlink, dispBlinkBody, hgood, Nat.not_lt.2 hn, decide_false, Bool.or_self, Bool.false_eq_true, if_false,
    State.modDisp, List.map_map, Function.comp_def]

/-! ### Rows of the display -/

/-- A pass without a wrong bit finds what it should (R407). -/
theorem refreshPass_clean (s : State) : refreshPass 0 0 s = { s with disp := { s.disp with
    lastCrc := expectedCrc s, lastLegal := crc32c (legalBytes s), passes := (s.disp.passes + 1) % 2 ^ 32,
    lastPass := s.time.osc } } := by
  have hflip (bs : Bytes) : flipBit 0 bs = bs := rfl
  simp only [refreshPass, hflip, expectedCrc, bne_self_eq_false, Bool.false_eq_true, if_false, State.modDisp]

theorem execRefreshPass_due {s : State} (hruns : displayRuns s = true) (hon : panelOn s = true)
    (hdue : s.disp.lastPass + 1000000 / max 1 (s.dispField 48 8) ≤ s.time.osc) (a b : Nat) :
    execRefreshPass a b s = .next (refreshPass a b s) := by
  simp only [execRefreshPass, hruns, hon, Nat.not_lt.2 hdue, Bool.not_true, decide_false, Bool.or_self, Bool.false_eq_true, if_false]

theorem execLegalRegionRender_due {s : State} (hruns : displayRuns s = true) (hdue : s.disp.lastRender + 1000000 ≤ s.time.osc) :
    execLegalRegionRender s = .next (renderLegal s) := by
  simp only [execLegalRegionRender, hruns, hdue, decide_true, Bool.and_self, if_true]

theorem execErrorPatternEnd_due {s : State} (hdue : s.dueOpt s.disp.patternTo = true) :
    execErrorPatternEnd s = .next (renderLegal { s with disp := { s.disp with patternTo := none } }) := by
  simp only [execErrorPatternEnd, hdue, if_true, State.modDisp]

theorem execScDisplayEnd_due {s : State} (hdue : s.dueOpt s.disp.scUntil = true) :
    execScDisplayEnd s = .next { s with disp := { s.disp with scUntil := none } } := by
  simp only [execScDisplayEnd, hdue, if_true, State.modDisp]

theorem execVcomToggle_low {s : State} (hlow : panelOn s = false ∨ s.power.state = .off) :
    execVcomToggle s = .next { s with disp := { s.disp with vcom := false } } := by
  rcases hlow with hlow | hlow <;> simp [execVcomToggle, State.modDisp, hlow]

theorem execVcomToggle_due {s : State} (hon : panelOn s = true) (hpower : s.power.state ≠ .off)
    (hdue : s.disp.vcomAt + vcomPeriod s ≤ s.time.osc) :
    execVcomToggle s = .next { s with disp := { s.disp with vcom := !s.disp.vcom, vcomAt := s.time.osc } } := by
  simp [execVcomToggle, State.modDisp, hon, hpower, Nat.not_lt.2 hdue]

/-- Settles O45: the panel and its frame that a display command's own rules see are those of the state in which it came; each row
acts on its own time. -/
theorem displayDraws : Obligations.DisplayDraws := by
  unfold Obligations.DisplayDraws
  intro s
  refine ⟨fun h pl l ha hl hw hsize hok hroom => ?configure, ?write, fun h pl ha hn hentries => ?blink, fun h pl ha => ?check,
    fun hruns hon hdue => ⟨execRefreshPass_due hruns hon hdue,
      (execRefreshPass_due hruns hon hdue 0 0).trans (congrArg _ (refreshPass_clean s))⟩,
    fun hruns hdue => execLegalRegionRender_due hruns hdue, fun hdue => execErrorPatternEnd_due hdue,
    fun hdue => execScDisplayEnd_due hdue, fun hlow => execVcomToggle_low hlow,
    fun hon hpower hdue => execVcomToggle_due hon hpower hdue⟩
  case configure => exact completes_of_accepted ha rfl (stageObject_begun hl hw hsize hok hroom)
  case write =>
    rintro h pl _ _ _ _ ha rfl rfl rfl rfl hlen hwidth htop himage
    exact dispWrite_completes ha hlen hwidth htop himage
  case blink =>
    exact completes_of_accepted ha rfl ((dispBlink_sets hn hentries _ _).trans (by simp only [begun_disp, blinkOf_begun]))
  case check => exact completes_of_accepted ha rfl (by simp only [cmdDispGetCheck, begun_disp, expectedCrc_begun])

/-! ### The tag and the host -/

@[simp] theorem fieldHolds_begun (c : Command) (h : Hdr) (pl : Bytes) (s : State) (first n : Nat) :
    fieldHolds (begun c h pl s) first n = fieldHolds s first n := by simp only [fieldHolds, begun_tag]
@[simp] theorem tagReachable_begun (c : Command) (h : Hdr) (pl : Bytes) (s : State) :
    tagReachable (begun c h pl s) = tagReachable s := by simp only [tagReachable, begun_power]

theorem awaitBlocks_free {s : State} {first n : Nat} (hfree : fieldHolds s first n = false) : awaitBlocks first n s = (s, true) := by
  simp only [awaitBlocks, hfree, Bool.not_false, if_true]

/-- A wait for the field ends in time or is in vain, which is open (R425). -/
theorem awaitBlocks_held {s : State} {first n : Nat} (hheld : fieldHolds s first n = true) : awaitBlocks first n s =
    if Config.openChoice s.draws % 2 = 0 then ({ s with draws := s.draws + 1, tag := { s.tag with fieldLocks := [] } }, true)
    else ({ s with draws := s.draws + 1 }, false) := by
  simp only [awaitBlocks, hheld, Bool.not_true, Bool.false_eq_true, if_false, State.choice, State.modTag, beq_iff_eq]

section
variable {pl : Bytes} {s : State} (hn : fld pl 1 1 ≤ 15) (hrange : fld pl 0 1 + fld pl 1 1 ≤ 256) (hreach : tagReachable s = true)
include hn hrange hreach

theorem tagRead_awaits (call : Call) : cmdTagRead.body call pl s = if (awaitBlocks (fld pl 0 1) (fld pl 1 1) s).2
    then okWith (awaitBlocks (fld pl 0 1) (fld pl 1 1) s).1
      ((List.range (fld pl 1 1)).flatMap fun k => (awaitBlocks (fld pl 0 1) (fld pl 1 1) s).1.tag.block (fld pl 0 1 + k))
    else refuse (awaitBlocks (fld pl 0 1) (fld pl 1 1) s).1 errBusy := by
  simp only [cmdTagRead, tagReadBody, Nat.not_lt.2 hn, Nat.not_lt.2 hrange, hreach, Bool.not_true, decide_false, Bool.or_self,
    Bool.false_eq_true, if_false]

theorem tagRead_free (hfree : fieldHolds s (fld pl 0 1) (fld pl 1 1) = false) (call : Call) : cmdTagRead.body call pl s =
    okWith s ((List.range (fld pl 1 1)).flatMap fun k => s.tag.block (fld pl 0 1 + k)) := by
  simp only [tagRead_awaits hn hrange hreach, awaitBlocks_free hfree, if_true]

theorem tagRead_held (hheld : fieldHolds s (fld pl 0 1) (fld pl 1 1) = true) (call : Call) : cmdTagRead.body call pl s =
    if Config.openChoice s.draws % 2 = 0 then okWith { s with draws := s.draws + 1, tag := { s.tag with fieldLocks := [] } }
      ((List.range (fld pl 1 1)).flatMap fun k => s.tag.block (fld pl 0 1 + k))
    else refuse { s with draws := s.draws + 1 } errBusy := by
  rw [tagRead_awaits hn hrange hreach, awaitBlocks_held hheld]
  split <;> rfl
end

theorem tagWrite_commits {pl : Bytes} {s : State} (hlen : fld pl 1 1 + fld pl 2 2 ≤ 256) (hn : 0 < fld pl 0 1)
    (hreach : tagReachable s = true) (hfree : fieldHolds s (fld pl 0 1) 1 = false) (call : Call) : cmdTagWrite.body call pl s =
      ok { s with tag := s.tag.commit (s.tag.patched (256 * fld pl 0 1 + fld pl 1 1) (pl.drop 4)) } := by
  have hn' : (fld pl 0 1 == 0) = false := by simpa using Nat.ne_of_gt hn
  simp only [cmdTagWrite, tagWriteBody, Nat.not_lt.2 hlen, hn', hreach, awaitBlocks_free hfree, Bool.not_true, Bool.false_eq_true,
    if_false, if_true, State.modTag]

/-- The tag that TAG_WRITE's own rules see is that of the state in which it came. -/
theorem tagWrite_completes {h : Hdr} {pl : Bytes} {s : State} (ha : Accepted cmdTagWrite h pl s)
    (hlen : fld pl 1 1 + fld pl 2 2 ≤ 256) (hn : 0 < fld pl 0 1) (hreach : tagReachable s = true)
    (hfree : fieldHolds s (fld pl 0 1) 1 = false) : Completes (.tagWrite h pl) cmdTagWrite h pl s fun u =>
      ok { u with tag := s.tag.commit (s.tag.patched (256 * fld pl 0 1 + fld pl 1 1) (pl.drop 4)) } := by
  refine completes_of_accepted ha rfl ((tagWrite_commits hlen hn (by simpa using hreach) (by simpa using hfree) _).trans ?_)
  rw [begun_tag]

theorem execMirrorUpdate_due {s : State} (hd : outputsDriven s = true) (hreach : tagReachable s = true) (hon : s.tagField 5 1 = 1)
    (hneed : mirrorNeeded s = true) (hfree : fieldHolds s 0 1 = false) : execMirrorUpdate s =
      .next { s with tag := { s.tag.commit [(0, mirrorBlock s)] with mirrorDue := false } } := by
  have hallowed : mirrorAllowed s = true := by simp [mirrorAllowed, hreach, hon, hneed, hfree]
  simp only [execMirrorUpdate, hd, hallowed, Bool.not_true, Bool.or_self, Bool.false_eq_true, if_false, State.modTag]

/-- Settles O47: the blocks and the field's locks that a tag command's own rules see are those of the state in which it came; a
commit writes both pointer copies alike. -/
theorem tagServesTheHost : Obligations.TagServesTheHost := by
  unfold Obligations.TagServesTheHost
  intro h pl s
  refine ⟨fun ha hn hrange hreach hfree => ?free, fun ha hn hrange hreach hheld => ?held, fun ha hlen hn hreach hfree => ?write,
    fun l ha hl hw hsize hok hroom => ?configure, fun hd hreach hon hneed hfree => execMirrorUpdate_due hd hreach hon hneed hfree,
    rfl, fun l => ⟨rfl, rfl, rfl⟩⟩
  case free =>
    refine completes_of_accepted ha rfl ((tagRead_free hn hrange (by simpa using hreach) (by simpa using hfree) _).trans ?_)
    rw [begun_tag]
  case held =>
    refine completes_of_accepted ha rfl ((tagRead_held hn hrange (by simpa using hreach) (by simpa using hheld) _).trans ?_)
    simp only [begun_draws, begun_tag]
  case write => exact tagWrite_completes ha hlen hn hreach hfree
  case configure => exact completes_of_accepted ha rfl (stageObject_begun hl hw hsize hok hroom)

end Sys2Proof.Machine
end

section
/-! SUPPORT. The family of stores: what a run of writes leaves of the bytes it does not reach and makes of those it does, in the
frame memory and in the tag memory. -/

namespace Sys2Proof.Machine

open Sys2Proof

/-! ### Runs of writes -/

section
variable {α ι β : Type} {f : α → ι → α} {read : α → β}

/-- A reading that no step touches is as before. -/
theorem foldl_untouched {l : List ι} (hmiss : ∀ m, ∀ j ∈ l, read (f m j) = read m) (m : α) : read (l.foldl f m) = read m := by
  induction l generalizing m with
  | nil => rfl
  | cons j l ih => rw [List.foldl_cons, ih fun m i hi => hmiss m i (.tail _ hi), hmiss m j (.head _)]

/-- A reading that one step touches shows what that step makes of it. -/
theorem foldl_touched_once {wf : α → Prop} {g : β → β} {k : ι} {l : List ι} (hnodup : l.Nodup) (hk : k ∈ l)
    (hwf : ∀ m j, wf m → wf (f m j)) (hhit : ∀ m, wf m → read (f m k) = g (read m))
    (hmiss : ∀ m, ∀ j ∈ l, j ≠ k → read (f m j) = read m) {m : α} (hm : wf m) : read (l.foldl f m) = g (read m) := by
  induction l generalizing m with
  | nil => exact absurd hk List.not_mem_nil
  | cons j l ih =>
    obtain ⟨hj, hl⟩ := List.nodup_cons.1 hnodup
    rw [List.foldl_cons]
    by_cases h : j = k
    · subst h
      rw [foldl_untouched fun m i hi => hmiss m i (.tail _ hi) fun e => hj (e ▸ hi), hhit m hm]
    · rw [ih hl ((List.mem_cons.1 hk).resolve_left (Ne.symm h)) (fun m i hi => hmiss m i (.tail _ hi)) (hwf m j hm),
        hmiss m j (.head _) h]
end

theorem readMem_writeMemN_outside (m : List Host.Cell) {x a : Nat} {bs : Bytes} (h : a < x ∨ x + bs.length ≤ a) :
    readMem (writeMemN m x bs) a = readMem m a := by
  induction bs generalizing m x with
  | nil => rfl
  | cons b bs ih =>
    rw [List.length_cons] at h
    rw [writeMemN, ih _ (by omega), readMem_writeMem_ne _ _ (by omega)]

@[simp] theorem readMemN_length (m : List Host.Cell) (x n : Nat) : (readMemN m x n).length = n := by
  induction n generalizing x with
  | zero => rfl
  | succ n ih => rw [readMemN, List.length_cons, ih]

/-- A run of bytes written is read back. -/
theorem readMemN_writeMemN {m : List Host.Cell} (h : Memory.wf m = true) (x : Nat) (bs : Bytes) :
    readMemN (writeMemN m x bs) x bs.length = bs := by
  induction bs generalizing m x with
  | nil => rfl
  | cons b bs ih =>
    rw [List.length_cons, readMemN, writeMemN, ih (writeMem_wf h x b), readMem_writeMemN_outside _ (.inl (Nat.lt_succ_self x)),
      readMem_writeMem_self h]

theorem readMemN_congr {m m' : List Host.Cell} {x n : Nat} (h : ∀ a, x ≤ a → a < x + n → readMem m a = readMem m' a) :
    readMemN m x n = readMemN m' x n := by
  induction n generalizing x with
  | zero => rfl
  | succ n ih => rw [readMemN, readMemN, h x le_rfl (by omega), ih fun a hlow hhigh => h a (by omega) (by omega)]

/-! ### Rectangles -/

/-- One byte of a row that is drawn: the `j`th that the row reaches (R403). -/
def drawByte (s : State) (y from_ to_ : Nat) (data : Bytes) (m : List Host.Cell) (j : Nat) : List Host.Cell :=
  writeMem m (y * rowBytes s + (from_ / 8 + j))
    (blendByte (readMem m (y * rowBytes s + (from_ / 8 + j))) (from_ / 8 + j) from_ to_ data 0)

/-- One row of a rectangle that is drawn, with its share of the data (R403). -/
def drawRectRow (s : State) (x y w : Nat) (data : Bytes) (m : List Host.Cell) (r : Nat) : List Host.Cell :=
  drawRow s (y + r) (x * bitsPerPixel s) ((x + w) * bitsPerPixel s)
    ((data.drop (r * ((w * bitsPerPixel s + 7) / 8))).take ((w * bitsPerPixel s + 7) / 8)) m

section
variable (s : State) {m : List Host.Cell} {y from_ to_ : Nat} {data : Bytes}

theorem drawRow_eq_foldl : drawRow s y from_ to_ data m =
    (List.range ((to_ + 7) / 8 - from_ / 8)).foldl (drawByte s y from_ to_ data) m := rfl

theorem readMem_drawByte_ne {a j : Nat} (ha : a ≠ y * rowBytes s + (from_ / 8 + j)) :
    readMem (drawByte s y from_ to_ data m j) a = readMem m a := readMem_writeMem_ne _ _ ha

theorem drawRow_outside {a : Nat} (hout : ∀ k, from_ / 8 ≤ k → k < (to_ + 7) / 8 → a ≠ y * rowBytes s + k) :
    readMem (drawRow s y from_ to_ data m) a = readMem m a := by
  rw [drawRow_eq_foldl]
  refine foldl_untouched (read := (readMem · a)) (fun _ j hj => readMem_drawByte_ne s (hout _ (Nat.le_add_right ..) ?_)) m
  have := List.mem_range.1 hj
  omega

/-- In its own columns a row shows its data's bits between its first and its last (R403). -/
theorem drawRow_inside (hm : Memory.wf m = true) {k : Nat} (hlow : from_ / 8 ≤ k) (hhigh : k < (to_ + 7) / 8) :
    readMem (drawRow s y from_ to_ data m) (y * rowBytes s + k) =
      blendByte (readMem m (y * rowBytes s + k)) k from_ to_ data 0 := by
  obtain ⟨i, rfl⟩ := Nat.exists_eq_add_of_le hlow
  rw [drawRow_eq_foldl]
  exact foldl_touched_once (wf := fun m => Memory.wf m = true) (read := (readMem · (y * rowBytes s + (from_ / 8 + i))))
    (f := drawByte s y from_ to_ data) (g := (blendByte · (from_ / 8 + i) from_ to_ data 0)) (k := i) List.nodup_range
    (List.mem_range.2 (by omega)) (fun _ _ h => writeMem_wf h _ _) (fun _ h => readMem_writeMem_self h _ _)
    (fun _ _ _ hne => readMem_drawByte_ne s (by omega)) hm
end

/-- Rows of bytes do not overlap. -/
theorem row_eq_of_address_eq {a b k k' n : Nat} (hk : k < n) (hk' : k' < n) (h : a * n + k = b * n + k') : a = b := by
  have hrow {a k : Nat} (hk : k < n) : (a * n + k) / n = a := by
    rw [Nat.mul_comm, Nat.mul_add_div (Nat.zero_lt_of_lt hk), Nat.div_eq_of_lt hk, Nat.add_zero]
  rw [← hrow (a := a) hk, h, hrow hk']

section
variable (s : State) {m : List Host.Cell} {x y w n : Nat} {data : Bytes}

theorem drawRect_eq_foldl : drawRect s x y w n data m = (List.range n).foldl (drawRectRow s x y w data) m := rfl

theorem drawRect_outside {a : Nat} (hout : ∀ r k, r < n → x * bitsPerPixel s / 8 ≤ k → k < ((x + w) * bitsPerPixel s + 7) / 8 →
      a ≠ (y + r) * rowBytes s + k) :
    readMem (drawRect s x y w n data m) a = readMem m a := by
  rw [drawRect_eq_foldl]
  exact foldl_untouched (read := (readMem · a)) (fun _ r hr => drawRow_outside s fun k => hout r k (List.mem_range.1 hr)) m

/-- In each of its rows a rectangle that fits the width of the frame shows the row's data (R403). -/
theorem drawRect_inside (hm : Memory.wf m = true) (hfits : ((x + w) * bitsPerPixel s + 7) / 8 ≤ rowBytes s) {r k : Nat} (hr : r < n)
    (hlow : x * bitsPerPixel s / 8 ≤ k) (hhigh : k < ((x + w) * bitsPerPixel s + 7) / 8) :
    readMem (drawRect s x y w n data m) ((y + r) * rowBytes s + k) =
      blendByte (readMem m ((y + r) * rowBytes s + k)) k (x * bitsPerPixel s) ((x + w) * bitsPerPixel s)
        ((data.drop (r * ((w * bitsPerPixel s + 7) / 8))).take ((w * bitsPerPixel s + 7) / 8)) 0 := by
  have hother : ∀ m, ∀ j ∈ List.range n, j ≠ r →
      readMem (drawRectRow s x y w data m j) ((y + r) * rowBytes s + k) = readMem m ((y + r) * rowBytes s + k) := by
    refine fun m j _ hne => drawRow_outside s fun i _ hi heq => hne ?_
    have hrows : y + r = y + j := row_eq_of_address_eq (hhigh.trans_le hfits) (hi.trans_le hfits) heq
    omega
  rw [drawRect_eq_foldl]
  exact foldl_touched_once (wf := fun m => Memory.wf m = true) (read := (readMem · ((y + r) * rowBytes s + k)))
    (f := drawRectRow s x y w data)
    (g := (blendByte · k (x * bitsPerPixel s) ((x + w) * bitsPerPixel s)
      ((data.drop (r * ((w * bitsPerPixel s + 7) / 8))).take ((w * bitsPerPixel s + 7) / 8)) 0))
    (k := r) List.nodup_range (List.mem_range.2 hr) (fun _ _ h => drawRow_wf _ _ _ _ _ _ h)
    (fun _ h => drawRow_inside s h hlow hhigh) hother hm
end

/-- A rectangle within the panel's width has its columns within a row of whole bytes (R403). -/
theorem columns_le_rowBytes {s : State} {x w : Nat} (hwidth : x + w ≤ panelWidth s) (hwhole : panelWidth s * bitsPerPixel s % 8 = 0) :
    ((x + w) * bitsPerPixel s + 7) / 8 ≤ rowBytes s := by
  have hbits := Nat.mul_le_mul_right (bitsPerPixel s) hwidth
  unfold rowBytes
  omega

/-! ### Blocks of the tag -/

theorem overlay_length {data patch : Bytes} {off : Nat} (h : off + patch.length ≤ data.length) :
    (overlay data off patch).length = data.length := by
  simp only [overlay, List.length_append, List.length_take, List.length_drop]
  omega

@[simp] theorem Tag.block_length (t : Tag) (n : Nat) : (t.block n).length = 256 := readMemN_length ..

/-- Bytes written within one logical block are a write of that block (R426). -/
theorem Tag.patched_within (t : Tag) {n off : Nat} {data : Bytes} (hne : 0 < data.length) (hoff : off + data.length ≤ 256) :
    t.patched (256 * n + off) data = [(n, overlay (t.block n) off data)] := by
  have hfirst : (256 * n + off) / 256 = n := by omega
  have hlast : (256 * n + off + data.length - 1) / 256 = n := by omega
  have hmod : (256 * n + off) % 256 = off := by omega
  have hlen : (overlay (t.block n) off data).length = 256 := by rw [overlay_length (by simpa using hoff), Tag.block_length]
  simp [Tag.patched, hfirst, hlast, hmod, List.take_of_length_le hlen.le]

section
variable (t : Tag) {n : Nat} {bs : Bytes}

theorem Tag.commit_one_phys : (t.commit [(n, bs)]).phys = writeMemN t.phys (256 * t.freeBlock []) bs := rfl

/-- After the write of one logical block the mapping names the free physical block for it (R424). -/
theorem Tag.commit_one_map : (t.commit [(n, bs)]).pointer.map = t.pointer.map.modify n fun _ => t.freeBlock [] := by
  simp [Tag.commit, Tag.shadow, Tag.pointer, Tag.nextPointer, setAt]

theorem Tag.commit_one_block (hwf : Memory.wf t.phys = true) (hn : n < t.pointer.map.length) (hbs : bs.length = 256) :
    (t.commit [(n, bs)]).block n = bs := by
  have hmap : (t.commit [(n, bs)]).pointer.map.getD n 0 = t.freeBlock [] := by simp [Tag.commit_one_map, hn]
  rw [Tag.block, hmap, Tag.commit_one_phys]
  simpa only [hbs] using readMemN_writeMemN hwf (256 * t.freeBlock []) bs

theorem Tag.commit_one_other {k : Nat} (hk : k ≠ n) (hphys : t.pointer.map.getD k 0 ≠ t.freeBlock []) (hbs : bs.length = 256) :
    (t.commit [(n, bs)]).block k = t.block k := by
  have hmap : (t.commit [(n, bs)]).pointer.map.getD k 0 = t.pointer.map.getD k 0 := by
    simp [Tag.commit_one_map, List.getD_eq_getElem?_getD, hk.symm]
  rw [Tag.block, Tag.block, hmap, Tag.commit_one_phys]
  exact readMemN_congr fun a hlow hhigh => readMem_writeMemN_outside _ (by omega)
end

/-! ### The stores of the two commands -/

@[simp] theorem completed_disp (c : Command) (h : Hdr) (pl : Bytes) (s : State) (a : Ans) :
    (completed c h pl s a).disp = a.state.disp := by rw [completed_traffic c h pl s a]
@[simp] theorem completed_tag (c : Command) (h : Hdr) (pl : Bytes) (s : State) (a : Ans) :
    (completed c h pl s a).tag = a.state.tag := by rw [completed_traffic c h pl s a]

/-- The payload of an accepted TAG_WRITE has data, as many bytes as it says (R426). -/
theorem Accepted.tagWrite_data {h : Hdr} {pl : Bytes} {s : State} (ha : Accepted cmdTagWrite h pl s) :
    0 < (pl.drop 4).length ∧ (pl.drop 4).length = fld pl 2 2 := by
  obtain ⟨_, _, _, _, _, _, _, _, _, _, _, _, _, hlen, _⟩ := ha
  simp only [cmdTagWrite, Bool.and_eq_true, decide_eq_true_eq, beq_iff_eq] at hlen
  rw [List.length_drop]
  omega

/-- An accepted TAG_WRITE within one block that no field command holds is the write of that block (R424, R426). -/
theorem tagWrite_commits_one {h : Hdr} {pl : Bytes} {s : State} (ha : Accepted cmdTagWrite h pl s)
    (hlen : fld pl 1 1 + fld pl 2 2 ≤ 256) (hn : fld pl 0 1 ≠ 0) (hreach : tagReachable s = true)
    (hfree : fieldHolds s (fld pl 0 1) 1 = false) : ∃ t, exec (.tagWrite h pl) s = .next t ∧ t.disp = s.disp ∧
      t.tag = s.tag.commit [(fld pl 0 1, overlay (s.tag.block (fld pl 0 1)) (fld pl 1 1) (pl.drop 4))] := by
  obtain ⟨hne, hdata⟩ := ha.tagWrite_data
  refine ⟨_, tagWrite_completes ha hlen (Nat.pos_of_ne_zero hn) hreach hfree, ?_, ?_⟩
  · simp only [completed_disp, ok, begun_disp]
  · rw [completed_tag, ← Tag.patched_within _ hne (by omega)]
    rfl

/-- Settles O58: a rectangle's rows do not overlap, so that each of its bytes is written once; a block's write goes to one physical
block, which the mapping names for that logical block alone. -/
theorem storesStayInside : Obligations.StoresStayInside := by
  unfold Obligations.StoresStayInside
  rintro s ⟨_, hframe, hphys⟩
  refine ⟨fun h pl ha => ?display, fun h pl ha => ?tag⟩
  case display =>
    intro x y w n bpp per himage hlen hwidth _ htop hwhole
    refine ⟨_, dispWrite_completes ha (List.length_drop.trans hlen) hwidth htop himage, fun a hout => ?_,
      fun r k hr hlow hhigh => ?_, ?_⟩
    · rw [completed_disp]
      exact drawRect_outside s hout
    · rw [completed_disp]
      exact drawRect_inside s hframe (columns_le_rowBytes hwidth hwhole) hr hlow hhigh
    · simp only [completed_tag, ok, begun_tag]
  case tag =>
    intro n off k hlen hn hreach hfree hmap
    obtain ⟨_, hdata⟩ := ha.tagWrite_data
    obtain ⟨t, he, hdisp, htag⟩ := tagWrite_commits_one ha hlen hn hreach hfree
    have hbs : (overlay (s.tag.block n) off (pl.drop 4)).length = 256 := by
      rw [overlay_length (by rw [Tag.block_length]; omega), Tag.block_length]
    refine ⟨t, he, fun a ha => ?_, ?_, fun m hm hother => ?_, hdisp⟩
    · rw [htag, Tag.commit_one_phys, readMem_writeMemN_outside _ (by rw [hbs]; exact ha)]
    · rw [htag, Tag.commit_one_block _ hphys hmap hbs]
    · rw [htag, Tag.commit_one_other _ hm hother hbs]

end Sys2Proof.Machine
end

section
/-! SUPPORT. The family of power fail and starts: what each row of the power does to the module, and what the flush at the end of a
power fail leaves. -/

namespace Sys2Proof.Machine

open Sys2Proof

/-! ### The backup supply of the contactors -/

theorem execVholdReady_supplied {s : State} (hvsup : s.power.vsup = true) : execVholdReady s = .next { s with
    power := { s.power with vholdOk := true }
    queue := s.queue.map (reschedule { s with power := { s.power with vholdOk := true } }) } := by
  simp only [execVholdReady, State.modPower, hvsup, Bool.not_true, Bool.false_eq_true, if_false]

section
variable {s : State} {mv : Nat} (hlow : mv < 36000)
include hlow

theorem execVholdLow_silent (h : outputsDriven s = false ∨ s.anyEnergised = false) :
    execVholdLow mv s = .next { s with power := { s.power with vholdOk := false } } := by
  have hsilent : (outputsDriven s && s.anyEnergised) = false := by simpa only [Bool.and_eq_false_iff] using h
  simp only [execVholdLow, State.modPower, Nat.not_le.2 hlow, hsilent, Bool.false_eq_true, if_false]

theorem execVholdLow_reported (hd : outputsDriven s = true) (he : s.anyEnergised = true) :
    execVholdLow mv s = .next (ntfPower 4 (le 4 mv) { s with power := { s.power with vholdOk := false } }) := by
  simp only [execVholdLow, State.modPower, Nat.not_le.2 hlow, hd, he, Bool.and_self, if_false, if_true]
end

/-! ### Power fail -/

theorem execPfail_live {s : State} (hflush : s.power.flushing = false) (hvsup : s.power.vsup = true)
    (hbackup : s.power.state ≠ .backup) (hoff : s.power.state ≠ .off) : execPfail s = .next (powerFail s) := by
  simp [execPfail, hflush, hvsup, hbackup, hoff]

theorem flushRecords_reports (sel : EventRec → Bool) (s : State) : ReportsOnly s (flushRecords sel s) := by
  unfold flushRecords
  dsimp only
  split
  · rfl
  · refine ReportsOnly.trans ?_ (record_reports ..)
    rfl

theorem flushAtEnd_reports (n : Nat) (s : State) : ReportsOnly s (flushAtEnd n s) :=
  (flushRecords_reports _ s).trans rfl

@[simp] theorem flushAtEnd_buffer (n : Nat) (s : State) : (flushAtEnd n s).recorder.buffer = [] := rfl
@[simp] theorem flushAtEnd_power (n : Nat) (s : State) : (flushAtEnd n s).power = s.power := by rw [flushAtEnd_reports n s]
@[simp] theorem flushAtEnd_tag (n : Nat) (s : State) : (flushAtEnd n s).tag = s.tag := by rw [flushAtEnd_reports n s]

/-- Power that goes with VBACKUP absent may cut a write of the tag, and nothing else (R427). -/
theorem cutMirror_eq (s : State) : cutMirror s = { s with tag := (cutMirror s).tag, draws := (cutMirror s).draws } := by
  unfold cutMirror
  split <;> rfl

/-- The module's power at the end of its flush (R439). -/
def powerFlushed (back : Bool) (w : Power) : Power :=
  { w with flushing := false, state := if back then .backup else .off, mark := back, vholdOk := false, debugOpen := false,
           debugChallenge := none }

/-- A flush that ends with VSUP away leaves the module in BACKUP, or in OFF with a write of the tag perhaps cut (R427, R439). -/
theorem execFlushEnd_away {s : State} (hflush : s.power.flushing = true) (haway : s.power.vsupBack = false) (n : Nat) (back : Bool) :
    execFlushEnd n back s = .next ((if back then flushAtEnd n s else cutMirror (flushAtEnd n s)).modPower (powerFlushed back)) := by
  have hpower : (if back then flushAtEnd n s else cutMirror (flushAtEnd n s)).power = s.power := by
    cases back
    · exact (congrArg State.power (cutMirror_eq _)).trans (flushAtEnd_power n s)
    · exact flushAtEnd_power n s
  simp only [execFlushEnd, State.modPower, hflush, haway, hpower, powerFlushed, Bool.not_true, Bool.false_or, Bool.false_eq_true,
    if_false]

/-- What reports and then only touches power, tag and choices reports but for them. -/
theorem ReportsOnly.but_power_tag_draws {s t u : State} (h : ReportsOnly s t)
    (hu : u = { t with power := u.power, tag := u.tag, draws := u.draws }) :
    ReportsOnly { s with power := u.power, tag := u.tag, draws := u.draws } u := by
  obtain ⟨a, b, p, r, rfl⟩ : ∃ a b p r, t = { s with spi := a, uart := b, perf := p, recorder := r } := ⟨_, _, _, _, h⟩
  obtain ⟨w, x, d, rfl⟩ : ∃ w x d, u = { s with spi := a, uart := b, perf := p, recorder := r, power := w, tag := x, draws := d } :=
    ⟨_, _, _, hu⟩
  rfl

/-- The end of the flush touches power, tag and choices beside the records. -/
theorem flushEnd_eq (n : Nat) (back : Bool) (s : State) {u : State}
    (hu : u = (if back then flushAtEnd n s else cutMirror (flushAtEnd n s)).modPower (powerFlushed back)) :
    u = { flushAtEnd n s with power := u.power, tag := u.tag, draws := u.draws } := by
  cases back
  · rw [hu, if_neg Bool.false_ne_true, cutMirror_eq]
    rfl
  · rw [hu]
    rfl

/-! ### Losses and starts -/

theorem execVbackupLoss_backup {s : State} (hbackup : s.power.state = .backup) (hstart : s.power.starting = none) :
    execVbackupLoss s = .next { s with power := { s.power with state := .off, mark := false } } := by
  simp only [execVbackupLoss, State.modPower, hbackup, hstart, beq_self_eq_true, Option.isNone_none, Bool.and_self, if_true]

section
variable {s : State} {us : Nat}

theorem execResetN_short (hshort : us < 5) : execResetN us s = .next s := by
  simp only [execResetN, hshort, decide_true, Bool.or_true, if_true]

/-- RESET_N held low begins a W of a module that runs (R443). -/
theorem execResetN_long (hstate : s.power.state = .active ∨ s.power.state = .quiet ∨ s.power.state = .standby)
    (hstart : s.power.starting = none) (hflush : s.power.flushing = false) (hlong : 10 ≤ us) :
    execResetN us s = .next (beginReset false s) := by
  have hshort : ¬ us < 5 := by omega
  rcases hstate with hstate | hstate | hstate <;> simp [execResetN, hstate, hstart, hflush, hshort, hlong]
end

/-- Settles O50: the end of the flush writes records, may cut a write of the tag and sets the power, and nothing else. -/
theorem powerFailsAndStarts : Obligations.PowerFailsAndStarts := by
  unfold Obligations.PowerFailsAndStarts
  intro s
  refine ⟨fun hvsup => execVholdReady_supplied hvsup, fun mv hlow h => execVholdLow_silent hlow h,
    fun mv hlow hd he => execVholdLow_reported hlow hd he,
    fun hflush hvsup hbackup hoff => execPfail_live hflush hvsup hbackup hoff, fun n back hflush haway => ?flushEnd,
    fun hbackup hstart => execVbackupLoss_backup hbackup hstart, fun us hstate hstart hflush => ⟨fun hshort => execResetN_short hshort,
      fun hlong => execResetN_long hstate hstart hflush hlong⟩, fun m cls hstart => ?starting, fun m hstart => ?idle⟩
  case flushEnd =>
    refine ⟨_, execFlushEnd_away hflush haway n back, rfl, rfl, rfl, ?_, fun hback => ?_, ?_⟩
    · rw [flushEnd_eq n back s rfl, flushAtEnd_buffer]
    · subst hback
      exact flushAtEnd_tag n s
    · exact (flushAtEnd_reports n s).but_power_tag_draws (flushEnd_eq n back s rfl)
  case starting => simp only [exec, execStart, hstart]
  case idle => simp only [exec, execStart, hstart]

end Sys2Proof.Machine
end
